-- ==== Sys2Proof/Word.lean ====
section
/-! DEFINITION. The words of the HM4812 model: bytes, node times, counters, identifiers. -/

namespace Sys2Proof

/-- One byte of a cell, of a table entry or of a picture. -/
abbrev Byte := BitVec 8

/-- A 16-bit number: a tile sequence, a frame number, an age field. -/
abbrev Half := BitVec 16

/-- Node time: 32 bits, in 0.1 ms units, wrapping ("Node time", 00_scope.md). -/
abbrev NodeTime := BitVec 32

/-- A counter: 32 bits, saturating ("Counters", 00_scope.md). -/
abbrev Counter := BitVec 32

/-- A stream id, 0–4,095 (R108 takes it apart bit by bit). -/
abbrev StreamId := BitVec 12

/-- One 64-byte cell of a trunk link, byte 0 first (chapter 11). -/
abbrev Cell := List Byte

/-- A camera port of the node, 0–3. -/
abbrev CamPort := Fin 4

/-- A tile store slot, 0–63. -/
abbrev SlotNo := Fin 64

/-- A view index, camera id × 2 + rendition, 0–63. -/
abbrev ViewNo := Fin 64

/-- A camera id, (node − 1) × 4 + port, 0–31. -/
abbrev CameraId := Fin 32

/-- A zone of a camera frame, 0–47. -/
abbrev ZoneNo := Fin 48

/-- A tile plan entry, port × 2 + rendition, 0–7. -/
abbrev PlanNo := Fin 8

/-- A reassembly context, 0–15. -/
abbrev ContextNo := Fin 16

/-- A screen, 0 or 1. -/
abbrev Screen := Fin 2

/-- A layout number, 0–15. -/
abbrev LayoutNo := Fin 16

end Sys2Proof
end

