-- ==== Sys2Proof/Syntax.lean ====
section
/-! DEFINITION. The commands of the HM4812: one constructor for each row of spec/opcode_table.json, with the
data that arrives from outside with the step (a cell, a frame, a pin level, a probe result). A step of the
management agent carries no operand: the COMMAND it executes stands at the head of the agent's own queue. -/

namespace Sys2Proof

/-- A trunk port (chapter 5). -/
inductive TrunkPort where
  | a
  | b
deriving DecidableEq, Repr

/-- The other trunk port of the node. -/
def TrunkPort.other : TrunkPort → TrunkPort
  | .a => .b
  | .b => .a

/-- One thing for each trunk port. -/
structure Pair (α : Type) where
  /-- for port A -/
  a : α
  /-- for port B -/
  b : α
deriving DecidableEq, Repr

/-- The part of a pair that belongs to a trunk port. -/
def Pair.get {α : Type} (x : Pair α) : TrunkPort → α
  | .a => x.a
  | .b => x.b

/-- The pair with one part replaced. -/
def Pair.set {α : Type} (x : Pair α) (p : TrunkPort) (v : α) : Pair α :=
  match p with
  | .a => { x with a := v }
  | .b => { x with b := v }

/-- The levels of the strap pins NODE (3 pins), CAB_END and BYPASS_START (R180). -/
structure Straps where
  node : BitVec 3
  cabEnd : Bool
  bypassStart : Bool
deriving DecidableEq, Repr

/-- The frame record a camera sends with each frame (section 1.5). -/
structure FrameRecord where
  number : Half
  exposure : Nat
  gain : Nat
  heater : Bool
  sensorFault : Bool
deriving DecidableEq, Repr

/-- What a frame start brings: the record, whether its check value matches its contents, and the announced size (R4). -/
structure FrameHead where
  record : FrameRecord
  recordOk : Bool
  width : Nat
  height : Nat
deriving DecidableEq, Repr

/-- The picture of a frame as received, line by line: luma, and the two 4:2:2 chroma components (R26, R28). -/
structure Picture where
  luma : List (List Byte)
  cb : List (List Byte)
  cr : List (List Byte)
deriving DecidableEq, Repr

/-- The outcome of a cable check (R15). -/
inductive CableOutcome where
  | normal
  | openCable
  | short
  | impedanceFault
  | inconclusive
deriving DecidableEq, Repr

/-- What the probe of a cable check found: its outcome, and the distance it measured in metres (R15). -/
structure ProbeFinding where
  outcome : CableOutcome
  distance : Option Nat
deriving DecidableEq, Repr

/-- What the frame memory answers to the one read of a cell time at each trunk port: nothing wrong, or a check
failure, with the bytes of the data cell as they were read (R54, R55). -/
abbrev MemoryReads := Pair (Option (List Byte))

/-- The commands of the part, one constructor for each row of the table. -/
inductive Instr where
  | powerOnReset (straps : Straps)
  | resetLine (straps : Straps)
  | cabActiveRise
  | cabActiveFall
  | frameStart (port : CamPort) (head : FrameHead)
  | frameEnd (port : CamPort) (picture : Picture)
  | lockTimerExpiry (port : CamPort)
  | stallTimerExpiry (port : CamPort)
  | retryTimerExpiry (port : CamPort)
  | overcurrentTrip (port : CamPort)
  | probeEnd (port : CamPort) (finding : ProbeFinding)
  | sameFrameRunFull (port : CamPort) (picture : Picture)
  | darkRunFull (port : CamPort) (picture : Picture)
  | sample (port : CamPort) (picture : Picture)
  | unusableRunFull (port : CamPort) (picture : Picture)
  | learningComplete (port : CamPort) (picture : Picture)
  | learningDeadline (port : CamPort)
  | signalDetected (trunk : TrunkPort)
  | signalLoss (trunk : TrunkPort)
  | cellReceivedTraining (trunk : TrunkPort) (cell : Cell)
  | trainingComplete (trunk : TrunkPort) (cell : Cell)
  | headerFailure (trunk : TrunkPort) (cell : Cell)
  | failedHeaderRunFull (trunk : TrunkPort) (cell : Cell)
  | fill (trunk : TrunkPort) (cell : Cell)
  | beacon (trunk : TrunkPort) (cell : Cell)
  | state (trunk : TrunkPort) (cell : Cell)
  | command (trunk : TrunkPort) (cell : Cell)
  | passReplyNotice (trunk : TrunkPort) (cell : Cell)
  | badKind (trunk : TrunkPort) (cell : Cell)
  | tileHead (trunk : TrunkPort) (cell : Cell)
  | tileData (trunk : TrunkPort) (cell : Cell)
  | contextEnd (trunk : TrunkPort) (cell : Cell)
  | bypassPass (trunk : TrunkPort) (cell : Cell)
  | cellTime (reads : MemoryReads)
  | sendEntryEnd (trunk : TrunkPort) (reads : MemoryReads)
  | beaconPeriod
  | orientationExpiry
  | resumeTime
  | contextExpiry (context : ContextNo)
  | stalenessExpiry
  | holdExpiry (screen : Screen)
  | pulseEnd
  | screenFrameStart (screen : Screen)
  | surveyStart
  | surveySkipDone (port : CamPort) (picture : Picture)
  | surveyBurstDone (port : CamPort) (picture : Picture)
  | selectTable
  | writeNext
  | writeTilePlan
  | writeCameraConfig
  | writeLensParams
  | writeWeight
  | writeReference
  | writeDoor
  | writeRules
  | writeLayoutPending
  | writeOutputConfig
  | writeNodeParams
  | readNext
  | routeAdd
  | routeRemove
  | applyLayouts
  | copyLayouts
  | relearn
  | cableCheck
  | readCauses
  | readStatus
  | readCounters
  | clearCounters
  | setMode
  | releaseEvidence
  | fetchEvidence
  | restart
  | shortLine (port : CamPort)
  | drawCheckFailure (screen : Screen) (slot : SlotNo)
deriving DecidableEq, Repr

end Sys2Proof
end

