-- ==== Sys2Proof/Decode.lean ====
section
/-! DEFINITION. Which command a word of the table's bits spells. spec/opcode_table.json gives no row any bits
(every row's field list is empty), so no word spells a command. The cells of chapter 11 are read by
Machine/Operands.lean, where they arrive. -/

namespace Sys2Proof

/-- The command spelled by a word of `nbits` bits: none, for every word, since no row of the table has bits. -/
def decodeTableWord (_nbits _w : Nat) : Option Instr := none

end Sys2Proof
end

