-- ==== Sys2Proof/Config.lean ====
section
/-! DEFINITION. What the spec fixes for every part, and the free values: what the spec leaves without a value. -/

namespace Sys2Proof.Config

/-- The greatest number of cells in a port's control queue (section 5.2). -/
abbrev controlCapacity : Nat := 32
/-- The greatest number of cells in a port's pass-through queue (section 5.2). -/
abbrev passCapacity : Nat := 1024
/-- The greatest number of entries in a send list (section 5.2). -/
abbrev sendCapacity : Nat := 8
/-- The greatest number of commands in the agent's queue (R165). -/
abbrev commandCapacity : Nat := 4
/-- The greatest number of entries in the cause set (R174). -/
abbrev causeCapacity : Nat := 24
/-- The greatest number of slots with a pin mark (R49). -/
abbrev pinCapacity : Nat := 4
/-- The link allowance of the age correction, in cell times (R125). -/
abbrev linkAllowance : Nat := 20

/-- The lock timer, 2,000 ms, in 0.1 ms units (R3). -/
abbrev lockTime : Nat := 20000
/-- The stall timer, 200 ms (R6). -/
abbrev stallTime : Nat := 2000
/-- The retry timer, 1,000 ms (R7). -/
abbrev retryTime : Nat := 10000
/-- The longest a cable check's probe runs, 30 ms (R15). -/
abbrev probeTime : Nat := 300
/-- The learning time, 600 s (R80). -/
abbrev learnTime : Nat := 6000000
/-- The beacon period, 10 ms (R98). -/
abbrev beaconTime : Nat := 100
/-- The time a followed head may be silent, 50 ms (R100, R101). -/
abbrev headTime : Nat := 500
/-- The chime pulse, 250 ms (R163). -/
abbrev chimeTime : Nat := 2500

/-- FREE VALUE (notes/assumptions/3.md). The four bytes that stand for the pin time of an EMPTY evidence
position in part 3 of a READ_STATUS reply: R193 gives the none value of 1-byte and 2-byte fields only. -/
opaque absentPinTime : BitVec 32

/-- FREE VALUE (notes/assumptions/23.md). The age computed where the sum of R123 is above 4,294,967,295, the greatest
value the rule gives an age: R123 does not say whether the sum then wraps or is held. -/
opaque ageBeyond : Nat → BitVec 32

/-- FREE VALUE (notes/assumptions/31.md). The table code byte of a READ_NEXT's reply that returns no entry while no
table is selected: R193 puts the table code in that byte, and no table has a code then. -/
opaque absentTableCode : BitVec 8

end Sys2Proof.Config
end

