-- ==== Sys2Proof/Machine/State.lean ====
section
/-! DEFINITION. Everything the spec gives the machine to hold, as plain data, and the state after a power-on
reset. Each type names the rule of spec/ that gives it. -/

namespace Sys2Proof.Machine

/-! ### Names -/

/-- The node mode (R181). -/
inductive Mode where
  | run
  | standby
  | bypass
deriving DecidableEq, Repr

/-- The link state of a camera port (section 1.3). -/
inductive CameraLink where
  | off
  | waking
  | locked
  | lost
  | testing
  | powerFault
deriving DecidableEq, Repr

/-- The picture condition of a camera (section 4.3). -/
inductive PictureCondition where
  | live
  | noSignal
  | frozen
  | dark
deriving DecidableEq, Repr

/-- The lens condition of a camera (section 4.1). -/
inductive LensCondition where
  | noReference
  | learning
  | unrated
  | clean
  | smeared
  | blocked
deriving DecidableEq, Repr

/-- The state of a tile store slot (R39). -/
inductive SlotState where
  | free
  | filling
  | latest
  | retired
  | evidence
deriving DecidableEq, Repr

/-- The link state of a trunk port (R88). -/
inductive TrunkLink where
  | down
  | training
  | up
deriving DecidableEq, Repr

/-- The state of the orientation record (section 5.4). -/
inductive OrientState where
  | none
  | found
  | conflict
deriving DecidableEq, Repr

/-- The direction of a route entry (R108). -/
inductive Direction where
  | none
  | head
  | controller
  | both
deriving DecidableEq, Repr

/-- The direction of travel (section 7.1). -/
inductive Travel where
  | forward
  | reverse
deriving DecidableEq, Repr

/-- The sides on which the doors are released (section 7.1). -/
inductive Release where
  | none
  | side1
  | side2
  | both
deriving DecidableEq, Repr

/-- The state of a door (section 7.1). -/
inductive DoorState where
  | closedLocked
  | released
  | opening
  | opened
  | closing
  | obstructed
  | fault
  | unknown
deriving DecidableEq, Repr

/-- The physical side of a door (R130). -/
inductive DoorSide where
  | one
  | two
deriving DecidableEq, Repr

/-- The kinds of cause (section 9.5). -/
inductive CauseKind where
  | cameraLink
  | powerFault
  | cableDone
  | pictureChange
  | lensChange
  | learnDone
  | learnFailed
  | trunkLink
  | orientationChange
  | headConflict
  | memoryError
deriving DecidableEq, Repr

/-- The thirteen tables of the table window (section 9.2). -/
inductive Table where
  | tilePlan
  | cameraConfig
  | lensParams
  | reference
  | weight
  | route
  | door
  | rules0
  | rules1
  | layoutPending
  | layoutActive
  | outputConfig
  | nodeParams
deriving DecidableEq, Repr

/-- The phase of the lens survey (R185). -/
inductive SurveyPhase where
  | idle
  | waitLock
  | skip
  | burst
deriving DecidableEq, Repr

/-- The polarity of an alert line (R161). -/
inductive Polarity where
  | highTrue
  | lowTrue
deriving DecidableEq, Repr

/-- The source kind of a pane (R148). -/
inductive SourceKind where
  | fixed
  | doorFocus
  | none
deriving DecidableEq, Repr

/-- The label kind of a pane (R148). -/
inductive LabelKind where
  | none
  | fixed
  | boundDoor
deriving DecidableEq, Repr

/-- The text of a placeholder (R157). -/
inductive PlaceholderText where
  | noPicture
  | frozen
  | test
  | noCamera
deriving DecidableEq, Repr

/-! ### Counters -/

/-- The six counters of a camera port, in the order of R17. -/
inductive PortCounter where
  | framesIn
  | framesRepeated
  | frameErrors
  | lockRetries
  | powerTrips
  | sensorFaultFrames
deriving DecidableEq, Repr

/-- The six counters of the tile engine, in the order of R38. -/
inductive EngineCounter where
  | tilesMade
  | tileSkipped
  | slotShort
  | tileAborted
  | noHead
  | sendNoPort
deriving DecidableEq, Repr

/-- The two counters of the tile store, in the order of R57. -/
inductive StoreCounter where
  | memoryErrors
  | pinsDropped
deriving DecidableEq, Repr

/-- The nine counters of a trunk port, in the order of R106. -/
inductive TrunkCounter where
  | cellsIn
  | cellsOut
  | headerError
  | linkLosses
  | noLink
  | controlOverflow
  | passOverflow
  | sendSkipped
  | sendCancelled
deriving DecidableEq, Repr

/-- The thirteen counters of the router, in the order of R126. -/
inductive RouterCounter where
  | payloadError
  | badKind
  | misdirected
  | noConsumer
  | headUnknown
  | noControllerPort
  | badTileHead
  | contextFull
  | slotShort
  | orphanCell
  | tilesIn
  | tileBroken
  | tileTimeout
deriving DecidableEq, Repr

/-! ### Camera ports (chapter 1) -/

/-- The frame a port has open: what its frame start brought, and what was delivered with it (R4, R6). -/
structure OpenFrame where
  record : FrameRecord
  width : Nat
  height : Nat
  /-- the repeat flag of R11 -/
  isRepeat : Bool
  /-- the frame index delivered with the frame (R6) -/
  index : Nat
deriving DecidableEq, Repr

/-- The result record of a cable check (R15). -/
structure CableResult where
  outcome : CableOutcome
  distance : Option Nat
deriving DecidableEq, Repr

/-- What a camera port holds (section 1.1). The power state is read from the link state (R3). `probeLimit` is the node
time at which the 30 ms of a running probe are over (R15). -/
structure CameraPort where
  link : CameraLink
  lockTimer : Option NodeTime
  stallTimer : Option NodeTime
  retryTimer : Option NodeTime
  probeLimit : Option NodeTime
  openFrame : Option OpenFrame
  frameIndex : Nat
  prevNumber : Option Half
  lastRecord : Option FrameRecord
  cableResult : Option CableResult
  faultKept : Bool
  counters : Vector Counter 6
deriving DecidableEq, Repr

/-! ### Health monitor (chapter 4) -/

/-- What is kept for one zone of a camera: S_z, O_z and the learning scratch (section 4.1). -/
structure Zone where
  score : Nat
  obscured : Bool
  scratchSum : Nat
  scratchCount : Nat
deriving DecidableEq, Repr

/-- The camera health record (section 4.1), with the relearn hold of R184. -/
structure Health where
  picture : PictureCondition
  sameRun : Nat
  darkRun : Nat
  prevSignature : Option Nat
  sampleCount : Nat
  lens : LensCondition
  unusableRun : Nat
  zones : Vector Zone 48
  coverage : Nat
  progress : Nat
  deadline : Option NodeTime
  keptAside : Option LensCondition
  relearnHold : Bool
deriving DecidableEq, Repr

/-! ### Tables -/

/-- A TILE_PLAN entry (R19). -/
structure TilePlan where
  enabled : Bool
  cropX : Nat
  cropY : Nat
  cropW : Nat
  cropH : Nat
  outW : Nat
  outH : Nat
  mirror : Bool
  divisor : Nat
  stream : StreamId
  localUse : Bool
  send : Bool
deriving DecidableEq, Repr

/-- A CAMERA_CONFIG entry (R1). -/
structure CameraConfig where
  enabled : Bool
  surveyMember : Bool
  interval : Nat
  motion : Bool
  gainLimit : Nat
deriving DecidableEq, Repr

/-- A LENS_PARAMS entry (R58). -/
structure LensParams where
  dmin : Nat
  dmax : Nat
  darkLevel : Nat
  qLow : Nat
  qHigh : Nat
  sOn : Nat
  sOff : Nat
  tWarn : Nat
  tBlock : Nat
  h : Nat
  minTexture : Nat
deriving DecidableEq, Repr

/-- A DOOR entry (R130). -/
structure DoorEntry where
  camera : Option CameraId
  side : DoorSide
deriving DecidableEq, Repr

/-- A condition of a rule, as its five bytes carry it: the bytes its field does not read stand as sent (R131, R193). -/
structure Condition where
  field : Byte
  operand : Byte
  comparison : Byte
  value : Half
deriving DecidableEq, Repr

/-- A rule of RULES_0 or RULES_1 (R131). The join byte of a rule without condition B stands as sent (R193). -/
structure Rule where
  enabled : Bool
  condA : Condition
  hasB : Bool
  condB : Condition
  join : Byte
  layout : LayoutNo
  urgency : Nat
  hold : Nat
deriving DecidableEq, Repr

/-- A pane record (R148). The bytes that belong to another source or label kind stand as sent (R193). -/
structure Pane where
  x : Nat
  y : Nat
  source : SourceKind
  camera : Byte
  rendition : Byte
  side : Byte
  rank : Byte
  focus : Byte
  focusRendition : Byte
  hasFallback : Bool
  fallbackCamera : Byte
  fallbackRendition : Byte
  labelKind : LabelKind
  labelNumber : Byte
  staleAge : Nat
  blankAge : Nat
deriving DecidableEq, Repr

/-- A layout: its header's pane count and its nine pane records (R148). -/
structure Layout where
  count : Nat
  panes : Vector Pane 9
deriving DecidableEq, Repr

/-- An OUTPUT_CONFIG entry (R145). -/
structure OutputConfig where
  enabled : Bool
  mode : Nat
  defaultLayout : LayoutNo
  staleLayout : LayoutNo
  colour : Nat
deriving DecidableEq, Repr

/-- The NODE_PARAMS entry (R171). -/
structure NodeParams where
  share : Nat
  contextTimeout : Nat
  stateTimeout : Nat
  surveyInterval : Nat
  lensPolarity : Polarity
  chimePolarity : Polarity
deriving DecidableEq, Repr

/-- A route entry (R108). -/
structure RouteEntry where
  stream : StreamId
  consume : Bool
  direction : Direction
deriving DecidableEq, Repr

/-- The tables of the table window (section 9.2); the ROUTE table is way `bucket × 4 + way`, the two layout banks
are LAYOUT_PENDING and LAYOUT_ACTIVE. -/
structure Tables where
  tilePlan : Vector TilePlan 8
  cameraConfig : Vector CameraConfig 4
  lensParams : Vector LensParams 4
  reference : Vector (Option Nat) 192
  weight : Vector Nat 192
  route : Vector (Option RouteEntry) 128
  door : Vector DoorEntry 16
  rules : Vector (Vector Rule 16) 2
  pendingBank : Vector Layout 16
  activeBank : Vector Layout 16
  outputConfig : Vector OutputConfig 2
  nodeParams : NodeParams
deriving DecidableEq, Repr

/-! ### Tile store (chapter 3) -/

/-- Where a tile's age counts from, which is also its origin, LOCAL or TRUNK (R40). -/
inductive AgeBase where
  /-- LOCAL: the capture time -/
  | captured (at_ : NodeTime)
  /-- TRUNK: the age field as it arrived, and the arrival time of the TILE_HEAD -/
  | arrived (age : Nat) (at_ : NodeTime)
deriving DecidableEq, Repr

/-- The part of a tile record that a local tile gets at its completion (R30, R40). -/
structure Stamp where
  view : ViewNo
  base : AgeBase
  picture : PictureCondition
  lens : LensCondition
  coverage : Nat
deriving DecidableEq, Repr

/-- A tile record; it is partial while it has no stamp (R40). -/
structure TileRecord where
  stream : StreamId
  sequence : Half
  width : Nat
  height : Nat
  mirror : Bool
  captureFrame : Half
  stamp : Option Stamp
deriving DecidableEq, Repr

/-- The writer of a FILLING slot (R39). -/
inductive Owner where
  | none
  | production (plan : PlanNo)
  | context (context : ContextNo)
deriving DecidableEq, Repr

/-- A slot (R39), with the bytes of its tile in tile byte order (R192). -/
structure Slot where
  state : SlotState
  owner : Owner
  view : Option ViewNo
  holders : Nat
  pinned : Bool
  damaged : Bool
  record : Option TileRecord
  data : List Byte
deriving DecidableEq, Repr

/-- An entry of the evidence list (R50). -/
structure Evidence where
  slot : SlotNo
  camera : CameraId
  lens : LensCondition
  coverage : Nat
  pinTime : NodeTime
  fetching : Bool
deriving DecidableEq, Repr

/-- The tile store (chapter 3). -/
structure Store where
  slots : Vector Slot 64
  viewMap : Vector (Option SlotNo) 64
  evidence : Vector (Option Evidence) 4
  counters : Vector Counter 2
deriving DecidableEq, Repr

/-! ### Tile engine (chapter 2) -/

/-- A rectangle of a frame: a clipped crop (R24). -/
structure Crop where
  x : Nat
  y : Nat
  w : Nat
  h : Nat
deriving DecidableEq, Repr

/-- A tile in production: its slot, the entry copy and the clipped crop; its partial record stands in the slot (R25). -/
structure Production where
  slot : SlotNo
  plan : TilePlan
  crop : Crop
deriving DecidableEq, Repr

/-- The statistics accumulator of one zone (section 2.2). -/
structure ZoneSums where
  luma : Nat
  gradient : Nat
deriving DecidableEq, Repr

/-- The tile engine (section 2.2). -/
structure Engine where
  sequences : Vector Half 8
  productions : Vector (Option Production) 8
  sums : Vector (Vector ZoneSums 48) 4
  counters : Vector Counter 6
deriving DecidableEq, Repr

/-! ### Trunk links (chapter 5) -/

/-- The kind of a send entry; a FETCH entry names the evidence position it reads for, while that still holds its
entry (R53). -/
inductive SendKind where
  | tile
  | fetch (position : Option (Fin 4))
deriving DecidableEq, Repr

/-- A send entry (section 5.3). `next` is `none` for the TILE_HEAD. -/
structure SendEntry where
  kind : SendKind
  slot : SlotNo
  stream : StreamId
  started : Bool
  next : Option Nat
  cellCount : Nat
deriving DecidableEq, Repr

/-- A cell of the pass-through queue, with the count of cell times in which it finished arriving (R92). -/
structure PassCell where
  cell : Cell
  arrivedAt : Nat
deriving DecidableEq, Repr

/-- A trunk port (chapter 5). `line` is the cell it put on the line in the last cell time. -/
structure Trunk where
  link : TrunkLink
  farFault : Bool
  goodRun : Nat
  failedRun : Nat
  control : List Cell
  pass : List PassCell
  sendList : List SendEntry
  bypassPath : List Cell
  share : Nat
  counters : Vector Counter 9
  line : Cell
deriving DecidableEq, Repr

/-- The orientation record, the candidacy flag, the resume time and the next beacon time (section 5.4, R98). -/
structure Orientation where
  state : OrientState
  head : Option Nat
  headSide : Option TrunkPort
  hops : Option Nat
  lastBeacon : Option NodeTime
  candidate : Bool
  resume : Option NodeTime
  nextBeacon : Option NodeTime
deriving DecidableEq, Repr

/-! ### Router (chapter 6) -/

/-- An open reassembly context (section 6.3). -/
structure Context where
  stream : StreamId
  view : ViewNo
  sequence : Half
  width : Nat
  height : Nat
  cellCount : Nat
  next : Nat
  slot : SlotNo
  headArrival : NodeTime
  arrivedAge : Nat
  picture : PictureCondition
  lens : LensCondition
  coverage : Nat
  expiry : NodeTime
  damaged : Bool
deriving DecidableEq, Repr

/-- The reassembly contexts, each closed or open, and the router's counters (chapter 6). -/
structure Router where
  contexts : Vector (Option Context) 16
  counters : Vector Counter 13
deriving DecidableEq, Repr

/-! ### View selector (chapter 7) -/

/-- The vehicle state record and the staleness expiry (section 7.1, R128). Door d stands at index d − 1. -/
structure Vehicle where
  speed : Nat
  travel : Travel
  release : Release
  doors : Vector DoorState 16
  fresh : Bool
  lastState : Option NodeTime
  expiry : Option NodeTime
deriving DecidableEq, Repr

/-- The selection of a screen and its hold expiry (R136, R140). The hold counts steps of 100 ms. -/
structure Selection where
  layout : LayoutNo
  urgency : Nat
  switchTime : NodeTime
  hold : Nat
  holdExpiry : Option NodeTime
deriving DecidableEq, Repr

/-! ### Compositor (chapter 8) -/

/-- What a pane shows (R156, R157). -/
inductive Presentation where
  | blank
  | placeholder (text : PlaceholderText)
  | stale
  | live
deriving DecidableEq, Repr

/-- A rectangle of a screen. -/
structure Rect where
  x : Nat
  y : Nat
  w : Nat
  h : Nat
deriving DecidableEq, Repr

/-- The kinds of overlay (R158). -/
inductive OverlayKind where
  | amberLens
  | redLens
  | darkIcon
  | redFrame
  | amberFrame
deriving DecidableEq, Repr

/-- An overlay: an icon filling its rectangle, or a frame of 4 pixels along the inside of its rectangle (R158). -/
structure Overlay where
  kind : OverlayKind
  area : Rect
deriving DecidableEq, Repr

/-- A label: its number, and the left edge and bottom edge of its box (R159). -/
structure LabelBox where
  number : Nat
  left : Nat
  bottom : Nat
deriving DecidableEq, Repr

/-- A pane as a frame draws it: its presentation, the slot it was given, its whole rectangle and the part of it
that lies on the screen, its overlays and its label (R153 to R160). -/
structure DrawnPane where
  presentation : Presentation
  slot : Option SlotNo
  door : Option (Fin 16)
  area : Rect
  visible : Rect
  overlays : List Overlay
  label : Option LabelBox
deriving DecidableEq, Repr

/-- The frame a RUNNING output is drawing: composed or background only, the latched layout, the background
colour, the panes in drawing order and the slots it holds (R147, R151, R152). -/
structure ScreenFrame where
  composed : Bool
  layout : Option Layout
  background : Nat
  panes : List DrawnPane
  held : List SlotNo
deriving DecidableEq, Repr

/-- A screen output: OFF or RUNNING, and the frame it draws (R146). -/
structure Output where
  running : Bool
  frame : Option ScreenFrame
deriving DecidableEq, Repr

/-- The compositor: the outputs, the apply image while an apply waits, and the chime pulse end (R146, R150, R163). -/
structure Compositor where
  outputs : Vector Output 2
  applyImage : Option (Vector Layout 16)
  pulseEnd : Option NodeTime
deriving DecidableEq, Repr

/-! ### Management agent (chapters 9 and 10) -/

/-- An entry of the cause set (R174); the evidence flag is LENS_CHANGE's. -/
structure Cause where
  kind : CauseKind
  subject : Nat
  evidence : Bool
deriving DecidableEq, Repr

/-- A COMMAND of the agent's queue: its arrival port and its cell (R165). -/
structure AgentCommand where
  arrival : TrunkPort
  cell : Cell
deriving DecidableEq, Repr

/-- The management agent: command queue, table window, cause set with its overflow mark, and notice arming. -/
structure Agent where
  queue : List AgentCommand
  window : Option Table
  pointer : Nat
  causes : List Cause
  overflow : Bool
  armed : Bool
deriving DecidableEq, Repr

/-- The lens survey scheduler (R185). -/
structure Survey where
  phase : SurveyPhase
  due : Option NodeTime
  port : Option CamPort
  count : Nat
deriving DecidableEq, Repr

/-! ### The machine -/

/-- The state of one HM4812 node, and the queue of commands that wait. -/
structure State where
  /-- node time ("Node time", 00_scope.md) -/
  nodeTime : NodeTime
  /-- the node's count of cell times (R92, section 6.4) -/
  cellCount : Nat
  /-- the latched straps (R180) -/
  straps : Straps
  /-- the level of the CAB_ACTIVE line -/
  cabActive : Bool
  /-- the node mode (R181) -/
  mode : Mode
  /-- the camera ports (chapter 1) -/
  cams : Vector CameraPort 4
  /-- the camera health records (chapter 4) -/
  health : Vector Health 4
  /-- the tile engine (chapter 2) -/
  engine : Engine
  /-- the tile store (chapter 3) -/
  store : Store
  /-- the trunk ports (chapter 5) -/
  trunk : Pair Trunk
  /-- the orientation record (section 5.4) -/
  orient : Orientation
  /-- the controller-side port (R102) -/
  controllerSide : Option TrunkPort
  /-- the router (chapter 6) -/
  router : Router
  /-- the vehicle state record (section 7.1) -/
  vehicle : Vehicle
  /-- the selections (R136) -/
  selection : Vector Selection 2
  /-- the alarm count (R135) -/
  alarm : Nat
  /-- the compositor (chapter 8) -/
  comp : Compositor
  /-- the management agent (chapter 9) -/
  agent : Agent
  /-- the lens survey scheduler (R185) -/
  survey : Survey
  /-- the tables (section 9.2) -/
  tables : Tables
  /-- the MODEL's own field (notes/assumptions/4.md): which of two things that fall together is taken first -/
  swapTies : Bool
  /-- the MODEL's own field: the commands that wait, first in, first out -/
  pending : List Instr
deriving DecidableEq, Repr

/-- The reasons for a fault. There is none: the spec describes no event that stops the part, and every command
has an effect in every state. -/
inductive Fault where
deriving DecidableEq, Repr

/-- The reasons for a refusal. -/
inductive Refusal where
  /-- the command has no meaning in the model yet; raised by an arm of exec only, safe. No arm raises it now. -/
  | notModelled (mnemonic : String)
deriving DecidableEq, Repr

/-! ### The state after a power-on reset -/

/-- A camera port after reset (R18). -/
def CameraPort.reset : CameraPort where
  link := .off
  lockTimer := none
  stallTimer := none
  retryTimer := none
  probeLimit := none
  openFrame := none
  frameIndex := 0
  prevNumber := none
  lastRecord := none
  cableResult := none
  faultKept := false
  counters := Vector.replicate 6 0

/-- A zone after reset (R87). -/
def Zone.reset : Zone := ⟨0, false, 0, 0⟩

/-- A camera health record after reset, with its lens condition (R87). -/
def Health.reset (lens : LensCondition) : Health where
  picture := .noSignal
  sameRun := 0
  darkRun := 0
  prevSignature := none
  sampleCount := 0
  lens := lens
  unusableRun := 0
  zones := Vector.replicate 48 Zone.reset
  coverage := 0
  progress := 0
  deadline := none
  keptAside := none
  relearnHold := false

/-- The TILE_PLAN default (R19). -/
def TilePlan.reset : TilePlan := ⟨false, 0, 0, 1920, 1080, 640, 360, false, 1, 0, false, false⟩

/-- The CAMERA_CONFIG default (R1). -/
def CameraConfig.reset : CameraConfig := ⟨false, false, 25, false, 72⟩

/-- The LENS_PARAMS default (R58). -/
def LensParams.reset : LensParams := ⟨24, 232, 8, 100, 160, 12, 3, 8, 24, 3, 48⟩

/-- The condition of a default rule: field SPEED, no operand, empty comparison set, value 0 (R131). The operand byte
that stands for no operand is 0, the model's choice (notes/assumptions/29.md). -/
def Condition.reset : Condition := ⟨0, 0, 0, 0⟩

/-- The default rule (R131). -/
def Rule.reset : Rule := ⟨false, Condition.reset, false, Condition.reset, 0, 0, 0, 0⟩

/-- The default pane record (R148). The camera and rendition bytes of its absent fallback are 0, the model's choice
(notes/assumptions/29.md). -/
def Pane.reset : Pane where
  x := 0
  y := 0
  source := .none
  camera := 0
  rendition := 0
  side := 1
  rank := 1
  focus := 0
  focusRendition := 0
  hasFallback := false
  fallbackCamera := 0
  fallbackRendition := 0
  labelKind := .none
  labelNumber := 0
  staleAge := 200
  blankAge := 2000

/-- A layout after reset (R148). -/
def Layout.reset : Layout := ⟨0, Vector.replicate 9 Pane.reset⟩

/-- The OUTPUT_CONFIG default (R145). -/
def OutputConfig.reset : OutputConfig := ⟨false, 1, 0, 0, 0⟩

/-- The NODE_PARAMS default (R171). -/
def NodeParams.reset : NodeParams := ⟨3, 40, 500, 0, .highTrue, .highTrue⟩

/-- The DOOR defaults: no camera, side 1 for doors 1–8 and side 2 for doors 9–16 (R130). -/
def DoorEntry.defaults : Vector DoorEntry 16 :=
  Vector.ofFn fun d : Fin 16 => ⟨none, if d.val < 8 then .one else .two⟩

/-- The tables after a power-on reset or the reset line. -/
def Tables.reset : Tables where
  tilePlan := Vector.replicate 8 TilePlan.reset
  cameraConfig := Vector.replicate 4 CameraConfig.reset
  lensParams := Vector.replicate 4 LensParams.reset
  reference := Vector.replicate 192 none
  weight := Vector.replicate 192 1
  route := Vector.replicate 128 none
  door := DoorEntry.defaults
  rules := Vector.replicate 2 (Vector.replicate 16 Rule.reset)
  pendingBank := Vector.replicate 16 Layout.reset
  activeBank := Vector.replicate 16 Layout.reset
  outputConfig := Vector.replicate 2 OutputConfig.reset
  nodeParams := NodeParams.reset

/-- A FREE slot (R39, R57). -/
def Slot.reset : Slot := ⟨.free, .none, none, 0, false, false, none, []⟩

/-- The tile store after a reset (R57). -/
def Store.reset : Store where
  slots := Vector.replicate 64 Slot.reset
  viewMap := Vector.replicate 64 none
  evidence := Vector.replicate 4 none
  counters := Vector.replicate 2 0

/-- The tile engine after a reset (R22). -/
def Engine.reset : Engine where
  sequences := Vector.replicate 8 0
  productions := Vector.replicate 8 none
  sums := Vector.replicate 4 (Vector.replicate 48 ⟨0, 0⟩)
  counters := Vector.replicate 6 0

/-- The FILL cell with FAULT set, as it stands on the line: kind 0, bit 0 of byte 0 set, CRC-8 DFh, CRC-16 of a
zero payload 6647h (R90, R190; the two values are proved to be the CRCs in Laws/Cells.lean). -/
def faultFill : Cell := [1, 0, 0, 0, 0, 0, 0, 0xdf] ++ List.replicate 54 0 ++ [0x66, 0x47]

/-- A trunk port after a reset (R107). -/
def Trunk.reset : Trunk where
  link := .down
  farFault := false
  goodRun := 0
  failedRun := 0
  control := []
  pass := []
  sendList := []
  bypassPath := []
  share := 0
  counters := Vector.replicate 9 0
  line := faultFill

/-- The orientation record with nothing known, and no candidacy (R107). -/
def Orientation.reset : Orientation := ⟨.none, none, none, none, none, false, none, none⟩

/-- The vehicle state record after a reset (R129). -/
def Vehicle.reset : Vehicle where
  speed := 0
  travel := .forward
  release := .none
  doors := Vector.replicate 16 .unknown
  fresh := false
  lastState := none
  expiry := none

/-- A selection after a reset at node time `t`: the stale layout, urgency 3, hold 0 (R136). -/
def Selection.reset (stale : LayoutNo) (t : NodeTime) : Selection := ⟨stale, 3, t, 0, none⟩

/-- The compositor after a power-on reset or the reset line (R164). -/
def Compositor.reset : Compositor where
  outputs := Vector.replicate 2 ⟨false, none⟩
  applyImage := none
  pulseEnd := none

/-- The agent after a reset (R168, R177). -/
def Agent.reset : Agent := ⟨[], none, 0, [], false, true⟩

/-- The survey scheduler after a reset: phase, due time and port by R185. The rule gives a frame count in SKIP and
BURST only; that the count is 0 at reset, in IDLE and in WAIT_LOCK is the model's choice (notes/assumptions/25.md). -/
def Survey.reset : Survey := ⟨.idle, none, none, 0⟩

/-- The machine right after a power-on reset with all strap pins at level 0 and CAB_ACTIVE not asserted
(notes/assumptions/1.md): node 1, not cab-end, mode RUN. -/
def State.reset : State where
  nodeTime := 0
  cellCount := 0
  straps := ⟨0, false, false⟩
  cabActive := false
  mode := .run
  cams := Vector.replicate 4 CameraPort.reset
  health := Vector.replicate 4 (Health.reset .noReference)
  engine := Engine.reset
  store := Store.reset
  trunk := ⟨Trunk.reset, Trunk.reset⟩
  orient := Orientation.reset
  controllerSide := none
  router := ⟨Vector.replicate 16 none, Vector.replicate 13 0⟩
  vehicle := Vehicle.reset
  selection := Vector.replicate 2 (Selection.reset 0 0)
  alarm := 0
  comp := Compositor.reset
  agent := Agent.reset
  survey := Survey.reset
  tables := Tables.reset
  swapTies := false
  pending := []

end Sys2Proof.Machine
end

