-- ==== Sys2Proof/Machine/Ops.lean ====
section
/-! DEFINITION. The named updates of State, node time, counters and the control queue: the operations that every
block uses. -/

namespace Sys2Proof.Machine

/-! ### Named updates: every block changes State through these -/

def State.withNodeTime (t : NodeTime) (s : State) : State := { s with nodeTime := t }
def State.withCellCount (n : Nat) (s : State) : State := { s with cellCount := n }
def State.withCabActive (b : Bool) (s : State) : State := { s with cabActive := b }
def State.withMode (m : Mode) (s : State) : State := { s with mode := m }
def State.withCam (p : CamPort) (c : CameraPort) (s : State) : State := { s with cams := s.cams.set p c }
def State.withHealth (p : CamPort) (h : Health) (s : State) : State := { s with health := s.health.set p h }
def State.withEngine (e : Engine) (s : State) : State := { s with engine := e }
def State.withStore (st : Store) (s : State) : State := { s with store := st }
def State.withTrunk (p : TrunkPort) (t : Trunk) (s : State) : State := { s with trunk := s.trunk.set p t }
def State.withOrient (o : Orientation) (s : State) : State := { s with orient := o }
def State.withControllerSide (p : Option TrunkPort) (s : State) : State := { s with controllerSide := p }
def State.withRouter (r : Router) (s : State) : State := { s with router := r }
def State.withVehicle (v : Vehicle) (s : State) : State := { s with vehicle := v }
def State.withSelection (i : Screen) (x : Selection) (s : State) : State :=
  { s with selection := s.selection.set i x }
def State.withAlarm (n : Nat) (s : State) : State := { s with alarm := n }
def State.withComp (c : Compositor) (s : State) : State := { s with comp := c }
def State.withAgent (a : Agent) (s : State) : State := { s with agent := a }
def State.withSurvey (v : Survey) (s : State) : State := { s with survey := v }
def State.withTables (t : Tables) (s : State) : State := { s with tables := t }
def State.withPending (q : List Instr) (s : State) : State := { s with pending := q }

/-! ### Node time -/

/-- A span of milliseconds in node time units. -/
def millis (ms : Nat) : NodeTime := BitVec.ofNat 32 (10 * ms)

/-- Node time has reached an expiry time. Differences are taken modulo 2^32; a difference below 2^31 is read as
time passed, so that every span the part measures (60 min at most) is told from a time still to come. -/
def reached (now expiry : NodeTime) : Bool := decide ((now - expiry).toNat < 2147483648)

/-- A timer is running and its expiry time has been reached. -/
def due (now : NodeTime) : Option NodeTime → Bool
  | none => false
  | some e => reached now e

/-! ### Counters -/

/-- One more, held at the greatest value ("Counters", 00_scope.md). -/
def increment (c : Counter) : Counter := if c = BitVec.allOnes 32 then c else c + 1

/-- The place of a port counter in its group (R17). -/
def PortCounter.place : PortCounter → Fin 6
  | .framesIn => 0
  | .framesRepeated => 1
  | .frameErrors => 2
  | .lockRetries => 3
  | .powerTrips => 4
  | .sensorFaultFrames => 5

/-- The place of an engine counter in its group (R38). -/
def EngineCounter.place : EngineCounter → Fin 6
  | .tilesMade => 0
  | .tileSkipped => 1
  | .slotShort => 2
  | .tileAborted => 3
  | .noHead => 4
  | .sendNoPort => 5

/-- The place of a store counter in its group (R57). -/
def StoreCounter.place : StoreCounter → Fin 2
  | .memoryErrors => 0
  | .pinsDropped => 1

/-- The place of a trunk counter in its group (R106). -/
def TrunkCounter.place : TrunkCounter → Fin 9
  | .cellsIn => 0
  | .cellsOut => 1
  | .headerError => 2
  | .linkLosses => 3
  | .noLink => 4
  | .controlOverflow => 5
  | .passOverflow => 6
  | .sendSkipped => 7
  | .sendCancelled => 8

/-- The place of a router counter in its group (R126). -/
def RouterCounter.place : RouterCounter → Fin 13
  | .payloadError => 0
  | .badKind => 1
  | .misdirected => 2
  | .noConsumer => 3
  | .headUnknown => 4
  | .noControllerPort => 5
  | .badTileHead => 6
  | .contextFull => 7
  | .slotShort => 8
  | .orphanCell => 9
  | .tilesIn => 10
  | .tileBroken => 11
  | .tileTimeout => 12

/-- A counter block with the counter at place `i` incremented. -/
def bump {n : Nat} (i : Fin n) (v : Vector Counter n) : Vector Counter n := v.set i (increment v[i])

def countCam (p : CamPort) (k : PortCounter) (s : State) : State :=
  s.withCam p { s.cams[p] with counters := bump k.place s.cams[p].counters }

def countEngine (k : EngineCounter) (s : State) : State :=
  s.withEngine { s.engine with counters := bump k.place s.engine.counters }

def countStore (k : StoreCounter) (s : State) : State :=
  s.withStore { s.store with counters := bump k.place s.store.counters }

def countTrunk (p : TrunkPort) (k : TrunkCounter) (s : State) : State :=
  s.withTrunk p { s.trunk.get p with counters := bump k.place (s.trunk.get p).counters }

def countRouter (k : RouterCounter) (s : State) : State :=
  s.withRouter { s.router with counters := bump k.place s.router.counters }

/-! ### Who this node is -/

/-- The node number, the latched NODE value plus 1 (R180). -/
def State.nodeNumber (s : State) : Nat := s.straps.node.toNat + 1

/-- The camera id of one of the node's ports, (node − 1) × 4 + port (R30). -/
def State.cameraId (s : State) (p : CamPort) : CameraId := Fin.ofNat 32 (s.straps.node.toNat * 4 + p.val)

/-- The view index of a camera's rendition, camera id × 2 + rendition. -/
def viewOf (c : CameraId) (rendition : Nat) : ViewNo := Fin.ofNat 64 (c.val * 2 + rendition)

/-- The tile plan entry of a port's rendition, port × 2 + rendition (R19). -/
def planOf (p : CamPort) (rendition : Fin 2) : PlanNo := Fin.ofNat 8 (p.val * 2 + rendition.val)

/-- The entry of a zone in the REFERENCE and WEIGHT tables, port × 48 + zone (R59, R60). -/
def zoneEntry (p : CamPort) (z : ZoneNo) : Fin 192 := Fin.ofNat 192 (p.val * 48 + z.val)

/-- Camera power follows the link state (R3). -/
def CameraLink.powered : CameraLink → Bool
  | .waking | .locked | .lost => true
  | .off | .testing | .powerFault => false

/-- A port's power state (section 1.1): read from its link state. -/
def CameraPort.power (c : CameraPort) : Bool := c.link.powered

/-! ### The control queue -/

/-- Place a cell in a port's control queue, or drop it with CONTROL_OVERFLOW when the queue is full (R91). -/
def placeControl (p : TrunkPort) (c : Cell) (s : State) : State :=
  if (s.trunk.get p).control.length < Config.controlCapacity then
    s.withTrunk p { s.trunk.get p with control := (s.trunk.get p).control ++ [c] }
  else countTrunk p .controlOverflow s

/-- Place several cells one after another (R167, R175). -/
def placeAll (p : TrunkPort) (cs : List Cell) (s : State) : State :=
  cs.foldl (fun t c => placeControl p c t) s

end Sys2Proof.Machine
end

