-- ==== Sys2Proof/Machine/Operands.lean ====
section
/-! DEFINITION. Chapter 11 whole: bytes, the two CRCs, the fields of a cell, the codes of section 11.4, the table
entries of section 11.5 with their checks, and the cells a node forms. -/

namespace Sys2Proof.Machine

/-! ### Bytes -/

/-- Byte `i` of a run of bytes; past its end, 0. -/
def byteAt (l : List Byte) (i : Nat) : Byte := l.getD i 0

/-- The 16-bit number at byte `i`, most significant byte first (section 11.1). -/
def halfAt (l : List Byte) (i : Nat) : Half := byteAt l i ++ byteAt l (i + 1)

/-- A run of bytes cut or filled with 0s to `n` bytes. -/
def padTo (n : Nat) (l : List Byte) : List Byte := l.take n ++ List.replicate (n - l.length) 0

/-- A number in one byte. -/
def byte (n : Nat) : Byte := BitVec.ofNat 8 n

/-- A number in two bytes, most significant first. -/
def bytes2 (n : Nat) : List Byte := [byte (n / 256), byte n]

/-- A 32-bit number in four bytes, most significant first. -/
def bytes4 (v : BitVec 32) : List Byte :=
  [v.extractLsb' 24 8, v.extractLsb' 16 8, v.extractLsb' 8 8, v.extractLsb' 0 8]

/-- A flag byte (section 11.1). -/
def flag (b : Bool) : Byte := if b then 1 else 0

/-- What a flag byte says; no answer when it is above 1 (R193). -/
def readFlag (b : Byte) : Option Bool := if b = 0 then some false else if b = 1 then some true else none

/-! ### The CRCs (R190) -/

/-- One bit of the CRC-8, generator x^8 + x^2 + x + 1. -/
def crc8Bit (c : Byte) : Byte := if c.msb then (c <<< 1) ^^^ 0x07#8 else c <<< 1

/-- One byte of the CRC-8. -/
def crc8Byte (c b : Byte) : Byte := Nat.iterate crc8Bit 8 (c ^^^ b)

/-- The CRC-8, starting value 0. -/
def crc8 (l : List Byte) : Byte := l.foldl crc8Byte 0

/-- One bit of the CRC-16, generator x^16 + x^12 + x^5 + 1. -/
def crc16Bit (c : Half) : Half := if c.msb then (c <<< 1) ^^^ 0x1021#16 else c <<< 1

/-- One byte of the CRC-16. -/
def crc16Byte (c : Half) (b : Byte) : Half := Nat.iterate crc16Bit 8 (c ^^^ (b ++ 0#8))

/-- The CRC-16, starting value FFFFh. -/
def crc16 (l : List Byte) : Half := l.foldl crc16Byte 0xffff#16

/-! ### Cells -/

/-- The payload of a cell, bytes 8–61. -/
def payloadOf (c : Cell) : List Byte := (c.drop 8).take 54

/-- The header CRC-8 of a cell matches (R88). -/
def headerOk (c : Cell) : Bool := byteAt c 7 == crc8 (padTo 7 c)

/-- The payload CRC-16 of a cell matches (R112). -/
def payloadOk (c : Cell) : Bool := halfAt c 62 == crc16 (padTo 54 (payloadOf c))

/-- The kind code of a cell, bits 7–4 of byte 0. -/
def kindCode (c : Cell) : Nat := (byteAt c 0).toNat / 16

/-- The FAULT flag of a FILL cell and the damaged flag of a tile cell: bit 0 of byte 0. -/
def lowFlag (c : Cell) : Bool := (byteAt c 0).getLsbD 0

/-- The cell kinds and their codes (section 11.4). -/
inductive CellKind where
  | fill
  | beacon
  | state
  | command
  | reply
  | notice
  | tileHead
  | tileData
deriving DecidableEq, Repr

/-- The kind a cell's code names, if any: codes 8–15 name none (R191). -/
def kindOf (c : Cell) : Option CellKind :=
  match kindCode c with
  | 0 => some .fill
  | 1 => some .beacon
  | 2 => some .state
  | 3 => some .command
  | 4 => some .reply
  | 5 => some .notice
  | 6 => some .tileHead
  | 7 => some .tileData
  | _ => none

/-- The header stream id of a tile cell (section 11.2). -/
def streamOf (c : Cell) : StreamId := (byteAt c 1).extractLsb' 0 4 ++ byteAt c 2

/-- The cell index of a tile cell (section 11.2). -/
def indexOf (c : Cell) : Nat := (halfAt c 4).toNat

/-- A cell with both CRCs formed over its bytes as they stand (R190). -/
def sealCell (c : Cell) : Cell :=
  let head := padTo 7 c
  let body := padTo 54 (payloadOf c)
  let check := crc16 body
  head ++ [crc8 head] ++ body ++ [check.extractLsb' 8 8, check.extractLsb' 0 8]

/-- A cell with a new CRC-8 over its header, its payload and CRC-16 as they arrived (R115, R190). -/
def sealHeader (c : Cell) : Cell :=
  let head := padTo 7 c
  head ++ [crc8 head] ++ c.drop 8

/-- A cell before departure, from its header bytes 0–6 and its payload. Its CRCs are formed at departure (R190). -/
def mkCell (head payload : List Byte) : Cell := padTo 7 head ++ [0] ++ padTo 54 payload ++ [0, 0]

/-- A FILL cell (R90). -/
def fillCell (fault : Bool) : Cell := sealCell (mkCell [flag fault] [])

/-- A tile cell with its damaged flag set (R115). -/
def setDamaged (c : Cell) : Cell := (byteAt c 0 ||| 1) :: c.drop 1

/-- The age field of a TILE_HEAD, payload bytes 14–15. -/
def ageField (c : Cell) : Nat := (halfAt (payloadOf c) 14).toNat

/-- A TILE_HEAD with another age field. -/
def setAge (c : Cell) (age : Nat) : Cell := c.take 22 ++ bytes2 age ++ c.drop 24

/-- A BEACON cell (section 11.2). -/
def beaconCell (head hops : Nat) : Cell := mkCell [0x10] [byte head, byte hops]

/-- The head node a BEACON names: 1–8, or none (R191). -/
def beaconHead (c : Cell) : Option Nat :=
  let h := (byteAt c 8).toNat % 16
  if 1 ≤ h ∧ h ≤ 8 then some h else none

/-- The hop count of a BEACON. -/
def beaconHops (c : Cell) : Nat := (byteAt c 9).toNat % 16

/-- The destination of a COMMAND (section 11.2). -/
def commandDestination (c : Cell) : Nat := (byteAt c 1).toNat % 16

/-- The tag of a COMMAND. -/
def commandTag (c : Cell) : Byte := byteAt c 2

/-- The command code of a COMMAND. -/
def commandCode (c : Cell) : Nat := (byteAt c 3).toNat

/-! ### Codes (section 11.4) -/

/-- The statuses a reply may carry (section 9.1). -/
inductive Status where
  | ok
  | busy
  | badCommand
  | badTable
  | badIndex
  | badValue
  | tableFull
  | notFound
  | refusedMode
  | refusedState
  | noEvidence
  | overflow
deriving DecidableEq, Repr

def Status.code : Status → Byte
  | .ok => 0
  | .busy => 1
  | .badCommand => 2
  | .badTable => 3
  | .badIndex => 4
  | .badValue => 5
  | .tableFull => 6
  | .notFound => 7
  | .refusedMode => 8
  | .refusedState => 9
  | .noEvidence => 10
  | .overflow => 11

/-- The seventeen commands of the agent (section 9.1). -/
inductive CommandName where
  | selectTable
  | writeNext
  | readNext
  | routeAdd
  | routeRemove
  | applyLayouts
  | copyLayouts
  | relearn
  | cableCheck
  | readCauses
  | readStatus
  | readCounters
  | clearCounters
  | setMode
  | releaseEvidence
  | fetchEvidence
  | restart
deriving DecidableEq, Repr

/-- The command a code names; 0 and 18–255 name none. -/
def commandOf : Nat → Option CommandName
  | 1 => some .selectTable
  | 2 => some .writeNext
  | 3 => some .readNext
  | 4 => some .routeAdd
  | 5 => some .routeRemove
  | 6 => some .applyLayouts
  | 7 => some .copyLayouts
  | 8 => some .relearn
  | 9 => some .cableCheck
  | 10 => some .readCauses
  | 11 => some .readStatus
  | 12 => some .readCounters
  | 13 => some .clearCounters
  | 14 => some .setMode
  | 15 => some .releaseEvidence
  | 16 => some .fetchEvidence
  | 17 => some .restart
  | _ => none

def Table.code : Table → Byte
  | .tilePlan => 0
  | .cameraConfig => 1
  | .lensParams => 2
  | .reference => 3
  | .weight => 4
  | .route => 5
  | .door => 6
  | .rules0 => 7
  | .rules1 => 8
  | .layoutPending => 9
  | .layoutActive => 10
  | .outputConfig => 11
  | .nodeParams => 12

/-- The table a code names; 13–255 name none. -/
def tableOf : Nat → Option Table
  | 0 => some .tilePlan
  | 1 => some .cameraConfig
  | 2 => some .lensParams
  | 3 => some .reference
  | 4 => some .weight
  | 5 => some .route
  | 6 => some .door
  | 7 => some .rules0
  | 8 => some .rules1
  | 9 => some .layoutPending
  | 10 => some .layoutActive
  | 11 => some .outputConfig
  | 12 => some .nodeParams
  | _ => none

/-- The entry count of a table (section 9.2). -/
def Table.entries : Table → Nat
  | .tilePlan => 8
  | .cameraConfig => 4
  | .lensParams => 4
  | .reference => 192
  | .weight => 192
  | .route => 128
  | .door => 16
  | .rules0 => 16
  | .rules1 => 16
  | .layoutPending => 160
  | .layoutActive => 160
  | .outputConfig => 2
  | .nodeParams => 1

def CauseKind.code : CauseKind → Byte
  | .cameraLink => 1
  | .powerFault => 2
  | .cableDone => 3
  | .pictureChange => 4
  | .lensChange => 5
  | .learnDone => 6
  | .learnFailed => 7
  | .trunkLink => 8
  | .orientationChange => 9
  | .headConflict => 10
  | .memoryError => 11

def PictureCondition.code : PictureCondition → Byte
  | .live => 0
  | .noSignal => 1
  | .frozen => 2
  | .dark => 3

def pictureOf : Nat → Option PictureCondition
  | 0 => some .live
  | 1 => some .noSignal
  | 2 => some .frozen
  | 3 => some .dark
  | _ => none

def LensCondition.code : LensCondition → Byte
  | .noReference => 0
  | .learning => 1
  | .unrated => 2
  | .clean => 3
  | .smeared => 4
  | .blocked => 5

def lensOf : Nat → Option LensCondition
  | 0 => some .noReference
  | 1 => some .learning
  | 2 => some .unrated
  | 3 => some .clean
  | 4 => some .smeared
  | 5 => some .blocked
  | _ => none

def Direction.code : Direction → Byte
  | .none => 0
  | .head => 1
  | .controller => 2
  | .both => 3

def directionOf : Nat → Option Direction
  | 0 => some .none
  | 1 => some .head
  | 2 => some .controller
  | 3 => some .both
  | _ => none

def Mode.code : Mode → Byte
  | .run => 0
  | .standby => 1
  | .bypass => 2

def modeOf : Nat → Option Mode
  | 0 => some .run
  | 1 => some .standby
  | 2 => some .bypass
  | _ => none

def CameraLink.code : CameraLink → Byte
  | .off => 0
  | .waking => 1
  | .locked => 2
  | .lost => 3
  | .testing => 4
  | .powerFault => 5

def TrunkLink.code : TrunkLink → Byte
  | .down => 0
  | .training => 1
  | .up => 2

def OrientState.code : OrientState → Byte
  | .none => 0
  | .found => 1
  | .conflict => 2

def cableCode : CableOutcome → Byte
  | .normal => 0
  | .openCable => 1
  | .short => 2
  | .impedanceFault => 3
  | .inconclusive => 4

def SlotState.code : SlotState → Byte
  | .free => 0
  | .filling => 1
  | .latest => 2
  | .retired => 3
  | .evidence => 4

def Polarity.code : Polarity → Byte
  | .highTrue => 0
  | .lowTrue => 1

def polarityOf : Nat → Option Polarity
  | 0 => some .highTrue
  | 1 => some .lowTrue
  | _ => none

def SourceKind.code : SourceKind → Byte
  | .fixed => 0
  | .doorFocus => 1
  | .none => 2

def sourceOf : Nat → Option SourceKind
  | 0 => some .fixed
  | 1 => some .doorFocus
  | 2 => some .none
  | _ => none

def LabelKind.code : LabelKind → Byte
  | .none => 0
  | .fixed => 1
  | .boundDoor => 2

def labelOf : Nat → Option LabelKind
  | 0 => some .none
  | 1 => some .fixed
  | 2 => some .boundDoor
  | _ => none

def portCode : TrunkPort → Byte
  | .a => 0
  | .b => 1

def DoorSide.code : DoorSide → Byte
  | .one => 1
  | .two => 2

/-- The code of a door state (chapter 7). -/
def DoorState.code : DoorState → Nat
  | .closedLocked => 0
  | .released => 1
  | .opening => 2
  | .opened => 3
  | .closing => 4
  | .obstructed => 5
  | .fault => 6
  | .unknown => 7

/-- The door state of a code 0–15; 8–15 are taken as UNKNOWN (R127). -/
def doorStateOf : Nat → DoorState
  | 0 => .closedLocked
  | 1 => .released
  | 2 => .opening
  | 3 => .opened
  | 4 => .closing
  | 5 => .obstructed
  | 6 => .fault
  | _ => .unknown

def travelOf (reverse : Bool) : Travel := if reverse then .reverse else .forward

def Release.code : Release → Nat
  | .none => 0
  | .side1 => 1
  | .side2 => 2
  | .both => 3

def releaseOf : Nat → Release
  | 0 => .none
  | 1 => .side1
  | 2 => .side2
  | _ => .both

/-! ### STATE cells (R127, section 11.2) -/

/-- The speed a STATE cell gives, held at 1,000. -/
def stateSpeed (p : List Byte) : Nat := min 1000 (halfAt p 0).toNat

/-- The direction of travel: bit 0 of payload byte 2. -/
def stateTravel (p : List Byte) : Travel := travelOf ((byteAt p 2).getLsbD 0)

/-- The release side: bits 2–1 of payload byte 2. -/
def stateRelease (p : List Byte) : Release := releaseOf ((byteAt p 2).toNat / 2 % 4)

/-- The door states: door 1 in bits 7–4 of byte 3, door 2 in bits 3–0, and so on to door 16. -/
def stateDoors (p : List Byte) : Vector DoorState 16 :=
  Vector.ofFn fun d : Fin 16 =>
    let b := (byteAt p (3 + d.val / 2)).toNat
    doorStateOf (if d.val % 2 = 0 then b / 16 else b % 16)

/-! ### TILE_HEAD cells (section 11.2) -/

/-- The data cells of a tile, ceil(width × height × 2 / 54) (section 5.3). -/
def tileCells (width height : Nat) : Nat := (width * height * 2 + 53) / 54

/-- The fields of a TILE_HEAD's payload that a valid head carries (R116, R191). -/
structure TileHeadFields where
  view : ViewNo
  sequence : Half
  width : Nat
  height : Nat
  mirror : Bool
  cellCount : Nat
  captureFrame : Half
  age : Nat
  picture : PictureCondition
  lens : LensCondition
  coverage : Nat
deriving DecidableEq, Repr

/-- A tile's size is in range: width 64–1280 in steps of 16, height 48–720 in steps of 8 (R116). -/
def tileSizeOk (w h : Nat) : Bool :=
  64 ≤ w && w ≤ 1280 && w % 16 == 0 && 48 ≤ h && h ≤ 720 && h % 8 == 0

/-- The fields of a TILE_HEAD that is valid for reassembly; none when it is not valid (R116, R191). -/
def readTileHead (c : Cell) : Option TileHeadFields :=
  let p := payloadOf c
  let view := (byteAt p 2).toNat
  let seq := halfAt p 3
  let w := (halfAt p 5).toNat
  let h := (halfAt p 7).toNat
  let count := (halfAt p 10).toNat
  let cov := (byteAt p 18).toNat
  if payloadOk c && !lowFlag c && (halfAt p 0).toNat == (streamOf c).toNat
      && seq.extractLsb' 0 8 == byteAt c 3 && view < 64 && tileSizeOk w h && count == tileCells w h
      && cov ≤ 144 then
    match readFlag (byteAt p 9), pictureOf (byteAt p 16).toNat, lensOf (byteAt p 17).toNat with
    | some mirror, some pic, some lens =>
      some { view := Fin.ofNat 64 view, sequence := seq, width := w, height := h, mirror := mirror,
             cellCount := count, captureFrame := halfAt p 12, age := (halfAt p 14).toNat,
             picture := pic, lens := lens, coverage := cov }
    | _, _, _ => none
  else none

/-- The header bytes of a tile cell: kind, damaged flag, stream id, low 8 bits of the sequence, cell index. -/
def tileHeader (kind : Nat) (damaged : Bool) (stream : StreamId) (seq : Half) (index : Nat) : List Byte :=
  [byte (kind * 16) ||| flag damaged, stream.extractLsb' 8 4 |>.setWidth 8, stream.extractLsb' 0 8,
    seq.extractLsb' 0 8] ++ bytes2 index

/-- The TILE_HEAD of a tile sent as a tile of a stream, with an age (section 11.2, R124). -/
def tileHeadCell (stream : StreamId) (r : TileRecord) (st : Stamp) (age : Nat) : Cell :=
  mkCell (tileHeader 6 false stream r.sequence 0)
    (bytes2 stream.toNat ++ [byte st.view.val] ++ bytes2 r.sequence.toNat ++ bytes2 r.width ++ bytes2 r.height
      ++ [flag r.mirror] ++ bytes2 (tileCells r.width r.height) ++ bytes2 r.captureFrame.toNat ++ bytes2 age
      ++ [st.picture.code, st.lens.code, byte st.coverage])

/-- A TILE_DATA cell (section 11.2). -/
def tileDataCell (damaged : Bool) (stream : StreamId) (seq : Half) (index : Nat) (bytes : List Byte) : Cell :=
  mkCell (tileHeader 7 damaged stream seq index) bytes

/-- The tile bytes of a tile that its data cell of index `i` carries (R192). -/
def tileSlice (data : List Byte) (i : Nat) : List Byte := padTo 54 ((data.drop (54 * i)).take 54)

/-! ### Table entries (section 11.5): reading with the checks of the table's rule and of R193 -/

/-- A TILE_PLAN entry, checked whole (R20). -/
def readTilePlan (l : List Byte) : Option TilePlan :=
  let n (i : Nat) : Nat := (halfAt l i).toNat
  let cx := n 1
  let cy := n 3
  let cw := n 5
  let ch := n 7
  let ow := n 9
  let oh := n 11
  let dv := (byteAt l 14).toNat
  let sid := n 15
  if tileSizeOk ow oh && ow ≤ cw && oh ≤ ch && 1 ≤ dv && dv ≤ 4
      && cx % 2 == 0 && cx ≤ 1918 && cw % 2 == 0 && 64 ≤ cw && cw ≤ 1920
      && cy ≤ 1079 && 48 ≤ ch && ch ≤ 1080 && sid ≤ 4095 then
    match readFlag (byteAt l 0), readFlag (byteAt l 13), readFlag (byteAt l 17), readFlag (byteAt l 18) with
    | some en, some mi, some lu, some se =>
      some ⟨en, cx, cy, cw, ch, ow, oh, mi, dv, BitVec.ofNat 12 sid, lu, se⟩
    | _, _, _, _ => none
  else none

/-- A CAMERA_CONFIG entry, checked (R1). -/
def readCameraConfig (l : List Byte) : Option CameraConfig :=
  let iv := (byteAt l 2).toNat
  let g := (byteAt l 4).toNat
  if 1 ≤ iv && g ≤ 96 then
    match readFlag (byteAt l 0), readFlag (byteAt l 1), readFlag (byteAt l 3) with
    | some en, some sv, some mo => some ⟨en, sv, iv, mo, g⟩
    | _, _, _ => none
  else none

/-- The checks of a LENS_PARAMS entry (R58). -/
def LensParams.valid (e : LensParams) : Bool :=
  e.dmin < e.dmax && e.qLow < e.qHigh && e.sOff < e.sOn && 1 ≤ e.tWarn && e.tWarn < e.tBlock && e.tBlock ≤ 144
    && 1 ≤ e.h && e.h < e.tWarn && 1 ≤ e.minTexture && e.minTexture ≤ 4095

/-- A LENS_PARAMS entry, checked whole (R58). -/
def readLensParams (l : List Byte) : Option LensParams :=
  let n (i : Nat) : Nat := (byteAt l i).toNat
  let e : LensParams := ⟨n 0, n 1, n 2, n 3, n 4, n 5, n 6, n 7, n 8, n 9, (halfAt l 10).toNat⟩
  if e.valid then some e else none

/-- A REFERENCE entry: a value 0–4,095, or FFFFh for ABSENT (R60). -/
def readReference (l : List Byte) : Option (Option Nat) :=
  let v := (halfAt l 0).toNat
  if v ≤ 4095 then some (some v) else if v = 65535 then some none else none

/-- A WEIGHT entry, 0–3 (R59). -/
def readWeight (l : List Byte) : Option Nat :=
  let v := (byteAt l 0).toNat
  if v ≤ 3 then some v else none

/-- A DOOR entry: camera id 0–31 or 255 for NONE, side 1 or 2 (R130). -/
def readDoor (l : List Byte) : Option DoorEntry :=
  let c := (byteAt l 0).toNat
  let side : Option DoorSide := match (byteAt l 1).toNat with
    | 1 => some .one
    | 2 => some .two
    | _ => none
  let camera : Option (Option CameraId) :=
    if c ≤ 31 then some (some (Fin.ofNat 32 c)) else if c = 255 then some none else none
  match camera, side with
  | some cam, some sd => some ⟨cam, sd⟩
  | _, _ => none

/-- A condition, from its five bytes (section 11.5). -/
def readCondition (l : List Byte) (i : Nat) : Condition :=
  ⟨byteAt l i, byteAt l (i + 1), byteAt l (i + 2), halfAt l (i + 3)⟩

/-- The checks of a condition that is present (R132, R193): its field names a field, its comparison set has no
other bits, its operand is one of its field's where the field takes one, its value is in the field's range. -/
def Condition.valid (c : Condition) : Bool :=
  let o := c.operand.toNat
  let v := c.value.toNat
  c.comparison.toNat < 8 &&
    match c.field.toNat with
    | 0 => v ≤ 1000
    | 1 => v ≤ 1
    | 2 => 1 ≤ o && o ≤ 16 && v ≤ 7
    | 3 => 1 ≤ o && o ≤ 3 && v ≤ 16
    | 4 => 1 ≤ o && o ≤ 3 && v ≤ 16
    | 5 => 1 ≤ o && o ≤ 3 && v ≤ 16
    | 6 => v ≤ 3
    | 7 => v ≤ 32
    | _ => false

/-- A rule, checked whole (R132, R193). Condition B and the join are read only when B is present. -/
def readRule (l : List Byte) : Option Rule :=
  let a := readCondition l 1
  let b := readCondition l 7
  let lay := (byteAt l 13).toNat
  let urg := (byteAt l 14).toNat
  let hold := (byteAt l 15).toNat
  if a.valid && lay ≤ 15 && urg ≤ 3 && hold ≤ 100 then
    match readFlag (byteAt l 0), readFlag (byteAt l 6) with
    | some en, some hasB =>
      if !hasB || (b.valid && (byteAt l 12).toNat ≤ 1) then
        some ⟨en, a, hasB, b, byteAt l 12, Fin.ofNat 16 lay, urg, hold⟩
      else none
    | _, _ => none
  else none

/-- The fields of a pane's own source kind are in range (R149). -/
def Pane.sourceOk (p : Pane) : Bool :=
  match p.source with
  | .fixed => p.camera.toNat ≤ 31 && p.rendition.toNat ≤ 1
  | .doorFocus =>
    1 ≤ p.side.toNat && p.side.toNat ≤ 3 && 1 ≤ p.rank.toNat && p.rank.toNat ≤ 4 && p.focusRendition.toNat ≤ 1
  | .none => true

/-- The checks of a pane record (R149). -/
def Pane.valid (p : Pane) : Bool :=
  p.x ≤ 1919 && p.y ≤ 1079 && p.sourceOk
    && (!p.hasFallback || (p.fallbackCamera.toNat ≤ 31 && p.fallbackRendition.toNat ≤ 1))
    && (p.labelKind != .fixed || p.labelNumber.toNat ≤ 99)
    && 40 ≤ p.staleAge && p.staleAge ≤ 1000 && p.staleAge < p.blankAge && p.blankAge ≤ 10000

/-- A pane record, checked whole (R149, R193). -/
def readPane (l : List Byte) : Option Pane :=
  match sourceOf (byteAt l 4).toNat, readFlag (byteAt l 11), labelOf (byteAt l 14).toNat with
  | some src, some fb, some lab =>
    let p : Pane :=
      { x := (halfAt l 0).toNat, y := (halfAt l 2).toNat, source := src, camera := byteAt l 5,
        rendition := byteAt l 6, side := byteAt l 7, rank := byteAt l 8, focus := byteAt l 9,
        focusRendition := byteAt l 10, hasFallback := fb, fallbackCamera := byteAt l 12,
        fallbackRendition := byteAt l 13, labelKind := lab, labelNumber := byteAt l 15,
        staleAge := (halfAt l 16).toNat, blankAge := (halfAt l 18).toNat }
    if p.valid then some p else none
  | _, _, _ => none

/-- A layout header's pane count, 0–9 (R149). -/
def readLayoutHeader (l : List Byte) : Option Nat :=
  let n := (byteAt l 0).toNat
  if n ≤ 9 then some n else none

/-- An OUTPUT_CONFIG entry, checked (R145). -/
def readOutputConfig (l : List Byte) : Option OutputConfig :=
  let n (i : Nat) : Nat := (byteAt l i).toNat
  if n 1 ≤ 5 && n 2 ≤ 15 && n 3 ≤ 15 && n 4 ≤ 7 then
    (readFlag (byteAt l 0)).map fun en => ⟨en, n 1, Fin.ofNat 16 (n 2), Fin.ofNat 16 (n 3), n 4⟩
  else none

/-- A NODE_PARAMS entry, checked (R171). -/
def readNodeParams (l : List Byte) : Option NodeParams :=
  let k := (byteAt l 0).toNat
  let ct := (byteAt l 1).toNat
  let st := (halfAt l 2).toNat
  let sv := (byteAt l 4).toNat
  if 1 ≤ k && k ≤ 15 && 10 ≤ ct && ct ≤ 250 && 100 ≤ st && st ≤ 2000 && sv ≤ 60 then
    match polarityOf (byteAt l 5).toNat, polarityOf (byteAt l 6).toNat with
    | some lp, some cp => some ⟨k, ct, st, sv, lp, cp⟩
    | _, _ => none
  else none

/-! ### Table entries: writing them out for READ_NEXT -/

def TilePlan.bytes (e : TilePlan) : List Byte :=
  [flag e.enabled] ++ bytes2 e.cropX ++ bytes2 e.cropY ++ bytes2 e.cropW ++ bytes2 e.cropH ++ bytes2 e.outW
    ++ bytes2 e.outH ++ [flag e.mirror, byte e.divisor] ++ bytes2 e.stream.toNat ++ [flag e.localUse, flag e.send]

def CameraConfig.bytes (e : CameraConfig) : List Byte :=
  [flag e.enabled, flag e.surveyMember, byte e.interval, flag e.motion, byte e.gainLimit]

def LensParams.bytes (e : LensParams) : List Byte :=
  [byte e.dmin, byte e.dmax, byte e.darkLevel, byte e.qLow, byte e.qHigh, byte e.sOn, byte e.sOff, byte e.tWarn,
    byte e.tBlock, byte e.h] ++ bytes2 e.minTexture

def referenceBytes : Option Nat → List Byte
  | none => bytes2 65535
  | some v => bytes2 v

def routeBytes : Option RouteEntry → List Byte
  | none => [0, 0, 0, 0, 0]
  | some e => [1] ++ bytes2 e.stream.toNat ++ [flag e.consume, e.direction.code]

def DoorEntry.bytes (e : DoorEntry) : List Byte :=
  [match e.camera with
    | none => 255
    | some c => byte c.val, e.side.code]

def Condition.bytes (c : Condition) : List Byte := [c.field, c.operand, c.comparison] ++ bytes2 c.value.toNat

def Rule.bytes (r : Rule) : List Byte :=
  [flag r.enabled] ++ r.condA.bytes ++ [flag r.hasB] ++ r.condB.bytes
    ++ [r.join, byte r.layout.val, byte r.urgency, byte r.hold]

def Pane.bytes (p : Pane) : List Byte :=
  bytes2 p.x ++ bytes2 p.y ++ [p.source.code, p.camera, p.rendition, p.side, p.rank, p.focus, p.focusRendition,
    flag p.hasFallback, p.fallbackCamera, p.fallbackRendition, p.labelKind.code, p.labelNumber]
    ++ bytes2 p.staleAge ++ bytes2 p.blankAge

/-- The entry `layout × 10 + k` of a layout bank: the header for k = 0, pane record k for k = 1–9 (R148). -/
def layoutEntryBytes (bank : Vector Layout 16) (i : Nat) : List Byte :=
  let lay := bank[Fin.ofNat 16 (i / 10)]
  if i % 10 = 0 then [byte lay.count] else (lay.panes[Fin.ofNat 9 (i % 10 - 1)]).bytes

def OutputConfig.bytes (e : OutputConfig) : List Byte :=
  [flag e.enabled, byte e.mode, byte e.defaultLayout.val, byte e.staleLayout.val, byte e.colour]

def NodeParams.bytes (e : NodeParams) : List Byte :=
  [byte e.share, byte e.contextTimeout] ++ bytes2 e.stateTimeout
    ++ [byte e.surveyInterval, e.lensPolarity.code, e.chimePolarity.code]

/-- Entry `i` of a table in its layout (R170, section 11.5). -/
def entryBytes (t : Tables) (i : Nat) : Table → List Byte
  | .tilePlan => (t.tilePlan[Fin.ofNat 8 i]).bytes
  | .cameraConfig => (t.cameraConfig[Fin.ofNat 4 i]).bytes
  | .lensParams => (t.lensParams[Fin.ofNat 4 i]).bytes
  | .reference => referenceBytes t.reference[Fin.ofNat 192 i]
  | .weight => [byte t.weight[Fin.ofNat 192 i]]
  | .route => routeBytes t.route[Fin.ofNat 128 i]
  | .door => (t.door[Fin.ofNat 16 i]).bytes
  | .rules0 => ((t.rules[(0 : Fin 2)])[Fin.ofNat 16 i]).bytes
  | .rules1 => ((t.rules[(1 : Fin 2)])[Fin.ofNat 16 i]).bytes
  | .layoutPending => layoutEntryBytes t.pendingBank i
  | .layoutActive => layoutEntryBytes t.activeBank i
  | .outputConfig => (t.outputConfig[Fin.ofNat 2 i]).bytes
  | .nodeParams => t.nodeParams.bytes

/-! ### REPLY and NOTICE cells -/

/-- One cell of a reply (section 11.2, R167). -/
def replyCell (node : Nat) (tag : Byte) (st : Status) (part parts : Nat) (results : List Byte) : Cell :=
  mkCell [0x40, byte node, tag, st.code, byte part, byte parts] results

/-- The cells of a reply, part by part. -/
def replyCells (node : Nat) (tag : Byte) (st : Status) (parts : List (List Byte)) : List Cell :=
  parts.mapIdx fun i results => replyCell node tag st i parts.length results

/-- Two bytes of a cause entry: kind code, with the evidence flag in bit 7 for LENS_CHANGE, and subject (R193). -/
def causeBytes (c : Cause) : List Byte :=
  [c.kind.code ||| (if c.kind = .lensChange ∧ c.evidence then 0x80 else 0), byte c.subject]

/-- The payload of one cell of a READ_CAUSES reply or a NOTICE (R193). -/
def causePart (cs : List Cause) (overflow : Bool) : List Byte :=
  [byte cs.length, flag overflow] ++ cs.flatMap causeBytes

/-- The two payloads that list a cause set: entries 1–12 and 13–24 (R193). -/
def causeParts (cs : List Cause) (overflow : Bool) : List (List Byte) :=
  [causePart (cs.take 12) overflow, causePart ((cs.drop 12).take 12) overflow]

/-- One cell of a NOTICE (section 11.2). -/
def noticeCell (node part : Nat) (results : List Byte) : Cell :=
  mkCell [0x50, byte node, 0, 0, byte part, 2] results

end Sys2Proof.Machine
end

