-- ==== Sys2Proof/Machine/Flags.lean ====
section
/-! DEFINITION. What the blocks read off State without changing it: head role, alert lines, ages, the alarm count,
the conditions of rules, power demand, the clipping and scaling arithmetic, zone statistics, lens ratings. -/

namespace Sys2Proof.Machine

/-! ### Head role and alert lines -/

/-- The three conditions of head candidacy (R97). -/
def State.mayBeHead (s : State) : Bool := s.straps.cabEnd && s.cabActive && s.mode == .run

/-- A node is head while it is head-candidate and its orientation state is not CONFLICT (R97). -/
def State.isHead (s : State) : Bool := s.orient.candidate && s.orient.state != .conflict

/-- ALERT_LENS is asserted while the node is cab-end, is head, and its alarm count is above 0 (R162). -/
def State.alertLens (s : State) : Bool := s.straps.cabEnd && s.isHead && decide (0 < s.alarm)

/-- ALERT_CHIME is asserted while a pulse end stands (R163). -/
def State.alertChime (s : State) : Bool := s.straps.cabEnd && s.comp.pulseEnd.isSome

/-- The level of a line: high when asserted and high-true, or not asserted and low-true (R161). -/
def lineLevel (pol : Polarity) (asserted : Bool) : Bool :=
  match pol with
  | .highTrue => asserted
  | .lowTrue => !asserted

/-- The level of ALERT_LENS (R161). -/
def State.alertLensLevel (s : State) : Bool := lineLevel s.tables.nodeParams.lensPolarity s.alertLens

/-- The level of ALERT_CHIME (R161). -/
def State.alertChimeLevel (s : State) : Bool := lineLevel s.tables.nodeParams.chimePolarity s.alertChime

/-! ### Ages (R123) -/

/-- The sum that R123 gives for a tile at node time `t`, in 0.1 ms units. -/
def AgeBase.sumAt (b : AgeBase) (t : NodeTime) : Nat :=
  match b with
  | .captured c => (t - c).toNat + 1
  | .arrived age a => age + (t - a).toNat + 2

/-- An age of 0–4,294,967,295 from the sum of R123; above that range a free value (notes/assumptions/23.md). -/
def ageInRange (n : Nat) : Nat := if n < 4294967296 then n else (Config.ageBeyond n).toNat

/-- The age of a tile at node time `t`, in 0.1 ms units (R123). -/
def AgeBase.ageAt (b : AgeBase) (t : NodeTime) : Nat := ageInRange (b.sumAt t)

/-- The age of the tile in a slot at node time `t`; 0 when it has no complete record. -/
def Slot.ageAt (sl : Slot) (t : NodeTime) : Nat :=
  match sl.record.bind (·.stamp) with
  | none => 0
  | some st => st.base.ageAt t

/-- The correction of a passing TILE_HEAD's age field for `n` cell times of residence (R125). -/
def correctedAge (field n : Nat) : Nat :=
  min 65535 (field + ((max 1 n + Config.linkAllowance) * 9 + 15624) / 15625)

/-! ### The alarm count (R135) -/

/-- A stamp shows a condition that warns the driver. -/
def Stamp.warns (st : Stamp) : Bool :=
  st.lens == .smeared || st.lens == .blocked || st.picture == .frozen || st.picture == .dark

/-- The LATEST slot of a view shows a warning. -/
def Store.viewWarns (st : Store) (v : ViewNo) : Bool :=
  match st.viewMap[v] with
  | none => false
  | some i =>
    match (st.slots[i]).record.bind (·.stamp) with
    | none => false
    | some x => x.warns

/-- The number of camera ids with at least one view that warns (R135). -/
def Store.alarmCount (st : Store) : Nat :=
  ((List.finRange 32).filter fun c : CameraId => st.viewWarns (viewOf c 0) || st.viewWarns (viewOf c 1)).length

/-! ### Rules (R133, R134, R138) -/

/-- A door is on the side an operand names: 1, 2 or BOTH, 3 (R133). -/
def sideMatches (operand : Nat) (side : DoorSide) : Bool :=
  operand == 3 || (operand == 1 && side == .one) || (operand == 2 && side == .two)

/-- The number of doors on a side whose state is one of those wanted (R133). -/
def State.doorCount (s : State) (operand : Nat) (wanted : DoorState → Bool) : Nat :=
  ((List.finRange 16).filter fun d : Fin 16 =>
    sideMatches operand (s.tables.door[d]).side && wanted s.vehicle.doors[d]).length

/-- A door counts as not closed (R133). -/
def DoorState.counted (d : DoorState) : Bool := d != .closedLocked && d != .unknown

/-- The present value of a condition's field (R133). -/
def State.fieldValue (s : State) (c : Condition) : Nat :=
  match c.field.toNat with
  | 0 => s.vehicle.speed
  | 1 => match s.vehicle.travel with
    | .forward => 0
    | .reverse => 1
  | 2 => (s.vehicle.doors[Fin.ofNat 16 (c.operand.toNat - 1)]).code
  | 3 => s.doorCount c.operand.toNat DoorState.counted
  | 4 => s.doorCount c.operand.toNat fun d => d == .closing || d == .obstructed
  | 5 => s.doorCount c.operand.toNat fun d => d == .obstructed
  | 6 => s.vehicle.release.code
  | _ => s.alarm

/-- A condition is true when the relation of the field's value to its own is in its comparison set: bit 0 LT,
bit 1 EQ, bit 2 GT (R133). -/
def State.conditionHolds (s : State) (c : Condition) : Bool :=
  let v := s.fieldValue c
  let w := c.value.toNat
  if v < w then c.comparison.getLsbD 0 else if v = w then c.comparison.getLsbD 1 else c.comparison.getLsbD 2

/-- A rule holds (R134). -/
def State.ruleHolds (s : State) (r : Rule) : Bool :=
  r.enabled &&
    if r.hasB then
      if r.join = 0 then s.conditionHolds r.condA && s.conditionHolds r.condB
      else s.conditionHolds r.condA || s.conditionHolds r.condB
    else s.conditionHolds r.condA

/-- A layout wanted on a screen, with its urgency and hold (R138). -/
structure Wanted where
  layout : LayoutNo
  urgency : Nat
  hold : Nat
deriving DecidableEq, Repr

/-- The layout wanted on a screen (R138). -/
def State.wanted (s : State) (sc : Screen) : Wanted :=
  if s.vehicle.fresh then
    match (s.tables.rules[sc]).toList.find? s.ruleHolds with
    | some r => ⟨r.layout, r.urgency, r.hold⟩
    | none => ⟨(s.tables.outputConfig[sc]).defaultLayout, 0, 0⟩
  else ⟨(s.tables.outputConfig[sc]).staleLayout, 3, 0⟩

/-- A hold, in steps of 100 ms, in node time units. -/
def holdSpan (hold : Nat) : NodeTime := BitVec.ofNat 32 (1000 * hold)

/-- The hold of a selection has ended (R136). -/
def Selection.holdEnded (x : Selection) (t : NodeTime) : Bool := decide (1000 * x.hold ≤ (t - x.switchTime).toNat)

/-! ### Power demand (R2) -/

/-- A port has power demand (R2). -/
def State.demand (s : State) (p : CamPort) : Bool :=
  s.mode != .bypass &&
    ((s.mode == .run && (s.tables.cameraConfig[p]).enabled) || s.survey.port == some p || (s.health[p]).relearnHold)

/-! ### Frame starts (R4, R11) -/

/-- A frame passes its check at the frame start (R4). -/
def FrameHead.passes (h : FrameHead) : Bool :=
  h.recordOk && 1 ≤ h.record.exposure && h.record.exposure ≤ 40000 && h.record.gain ≤ 96
    && h.width % 2 == 0 && 64 ≤ h.width && h.width ≤ 1920 && 48 ≤ h.height && h.height ≤ 1080

/-- A frame is good at its end: it brought the announced number of lines, each of the announced width (R4). -/
def OpenFrame.goodWith (f : OpenFrame) (pic : Picture) : Bool :=
  pic.luma.length == f.height && pic.luma.all (fun l => l.length == f.width)

/-! ### Clipping and scaling (R24 to R29) -/

/-- One direction of the clipping: where the clipped crop starts, and its extent (R24). -/
def clipAxis (start extent out size : Nat) : Nat × Nat :=
  let e := min (start + extent) size
  if start + out ≤ e then (start, e - start) else (e - out, out)

/-- The crop of an entry copy clipped to a frame (R24). -/
def clipCrop (t : TilePlan) (width height : Nat) : Crop :=
  let hx := clipAxis t.cropX t.cropW t.outW width
  let vy := clipAxis t.cropY t.cropH t.outH height
  ⟨hx.1, vy.1, hx.2, vy.2⟩

/-- The rounded mean of `n` samples with sum `sum` (R27). -/
def roundedMean (sum n : Nat) : Nat := (sum + n / 2) / n

/-- The sum of a run of samples. -/
def sumBytes (l : List Byte) : Nat := l.foldl (fun t b => t + b.toNat) 0

/-- One output line: the rounded means of the rectangles of some source lines (R26, R28). `c` and `cw` give the crop
along the line, `ow` the output samples. -/
def scaleLine (rows : List (List Byte)) (c cw ow : Nat) : List Byte :=
  (List.range ow).map fun i =>
    let x0 := c + i * cw / ow
    let x1 := c + (i + 1) * cw / ow
    let sum := rows.foldl (fun t r => t + sumBytes ((r.drop x0).take (x1 - x0))) 0
    byte (roundedMean sum ((x1 - x0) * rows.length))

/-- A plane reduced by the box filter: the crop runs from column `c` over `cw` samples and from line `cy` over `ch`
lines, the output is `ow` × `oh` (R26, R28). -/
def scalePlane (plane : List (List Byte)) (c cw ow cy ch oh : Nat) : List (List Byte) :=
  (List.range oh).map fun j =>
    let y0 := cy + j * ch / oh
    let y1 := cy + (j + 1) * ch / oh
    scaleLine ((plane.drop y0).take (y1 - y0)) c cw ow

/-- A plane mirrored horizontally, when asked (R29). -/
def mirrorPlane (mirror : Bool) (plane : List (List Byte)) : List (List Byte) :=
  if mirror then plane.map List.reverse else plane

/-- The four bytes of each pixel pair of a line: luma, Cb, luma, Cr (R192). -/
def interleave : List Byte → List Byte → List Byte → List Byte
  | y0 :: y1 :: ys, u :: us, v :: vs => y0 :: u :: y1 :: v :: interleave ys us vs
  | _, _, _ => []

/-- The bytes of the tile made from a picture, in tile byte order (R26 to R29, R192). -/
def makeTile (pic : Picture) (t : TilePlan) (c : Crop) : List Byte :=
  let y := mirrorPlane t.mirror (scalePlane pic.luma c.x c.w t.outW c.y c.h t.outH)
  let u := mirrorPlane t.mirror (scalePlane pic.cb (c.x / 2) (c.w / 2) (t.outW / 2) c.y c.h t.outH)
  let v := mirrorPlane t.mirror (scalePlane pic.cr (c.x / 2) (c.w / 2) (t.outW / 2) c.y c.h t.outH)
  (y.zip (u.zip v)).flatMap fun l => interleave l.1 l.2.1 l.2.2

/-! ### Zone statistics and signature (R33 to R35) -/

/-- The lines of zone `z` of a frame `w` × `h`, cut to the zone (R33). -/
def zoneLines (luma : List (List Byte)) (w h : Nat) (z : ZoneNo) : List (List Byte) :=
  let col := z.val % 8
  let row := z.val / 8
  let zw := if col = 7 then w - 7 * (w / 8) else w / 8
  let zh := if row = 5 then h - 5 * (h / 6) else h / 6
  ((luma.drop (row * (h / 6))).take zh).map fun l => (l.drop (col * (w / 8))).take zw

/-- The number of pixels of zone `z` (R33, R34). -/
def zonePixels (w h : Nat) (z : ZoneNo) : Nat :=
  let zw := if z.val % 8 = 7 then w - 7 * (w / 8) else w / 8
  let zh := if z.val / 8 = 5 then h - 5 * (h / 6) else h / 6
  zw * zh

/-- |a − b| of two samples. -/
def distance (a b : Byte) : Nat := if a.toNat < b.toNat then b.toNat - a.toNat else a.toNat - b.toNat

/-- The sum of |Y(x + 1) − Y(x)| along a line. -/
def lineGradient (l : List Byte) : Nat := (List.zipWith distance l (l.drop 1)).foldl (· + ·) 0

/-- The sum of |Y(x, y + 1) − Y(x, y)| between neighbouring lines. -/
def columnGradient (ls : List (List Byte)) : Nat :=
  (List.zipWith (fun a b => (List.zipWith distance a b).foldl (· + ·) 0) ls (ls.drop 1)).foldl (· + ·) 0

/-- The sums of a zone: luma, and the gradient sum G (R34). -/
def zoneSums (ls : List (List Byte)) : ZoneSums :=
  ⟨ls.foldl (fun t l => t + sumBytes l) 0, ls.foldl (fun t l => t + lineGradient l) 0 + columnGradient ls⟩

/-- The sums of the 48 zones of a frame (R34). -/
def gather (luma : List (List Byte)) (w h : Nat) : Vector ZoneSums 48 :=
  Vector.ofFn fun z : ZoneNo => zoneSums (zoneLines luma w h z)

/-- What the tile engine hands to the health monitor at a good frame end (R35). -/
structure FrameStats where
  mean : Vector Nat 48
  texture : Vector Nat 48
  isRepeat : Bool
  gain : Nat
deriving DecidableEq, Repr

/-- The statistics of a frame from its zone sums (R34). -/
def frameStats (f : OpenFrame) (sums : Vector ZoneSums 48) : FrameStats where
  mean := Vector.ofFn fun z : ZoneNo => (sums[z]).luma / zonePixels f.width f.height z
  texture := Vector.ofFn fun z : ZoneNo => min 4095 (16 * (sums[z]).gradient / zonePixels f.width f.height z)
  isRepeat := f.isRepeat
  gain := f.record.gain

/-- The frame signature (R35). -/
def FrameStats.signature (st : FrameStats) : Nat :=
  (List.finRange 48).foldl (fun t z => t + (st.mean[z] * 4096 + st.texture[z])) 0

/-! ### Picture condition (R63 to R65) -/

/-- A taken frame is alike its predecessor (R63). -/
def Health.alike (h : Health) (st : FrameStats) : Bool := st.isRepeat || h.prevSignature == some st.signature

/-- A taken frame is dark: every zone mean is below the dark level (R64). -/
def FrameStats.dark (st : FrameStats) (level : Nat) : Bool := st.mean.toList.all fun m => decide (m < level)

/-- The picture condition of a LOCKED port from its two runs (R65). -/
def pictureFrom (sameRun darkRun : Nat) : PictureCondition :=
  if sameRun = 25 then .frozen else if darkRun = 10 then .dark else .live

/-- The two runs, the previous signature and the picture condition after a frame (R63, R64, R65). -/
def Health.runs (h : Health) (st : FrameStats) (darkLevel : Nat) : Health :=
  let same := if h.alike st then min 25 (h.sameRun + 1) else 0
  let dark := if st.dark darkLevel then min 10 (h.darkRun + 1) else 0
  { h with sameRun := same, darkRun := dark, prevSignature := some st.signature,
           picture := pictureFrom same dark }

/-! ### Samples (R66 to R74) -/

/-- The lens condition is rated (section 4.1). -/
def LensCondition.rated : LensCondition → Bool
  | .clean | .smeared | .blocked => true
  | .noReference | .learning | .unrated => false

/-- A zone of a sample is lit (R67). -/
def LensParams.lit (e : LensParams) (mean : Nat) : Bool := e.dmin ≤ mean && mean ≤ e.dmax

/-- The number of lit zones of a frame (R67). -/
def FrameStats.litCount (st : FrameStats) (e : LensParams) : Nat := (st.mean.toList.filter e.lit).length

/-- The motion test of R67: motion required clear, or fresh with a speed of at least 50, or a survey burst frame. -/
def motionOk (c : CameraConfig) (v : Vehicle) (burst : Bool) : Bool :=
  !c.motion || (v.fresh && 50 ≤ v.speed) || burst

/-- A sample is usable (R67). -/
def Health.usable (h : Health) (st : FrameStats) (e : LensParams) (c : CameraConfig) (v : Vehicle) (burst : Bool) :
    Bool :=
  h.picture == .live && st.gain ≤ c.gainLimit && motionOk c v burst && 12 ≤ st.litCount e

/-- The quality of a scored zone (R70). -/
def quality (texture reference : Nat) : Nat := min 255 (256 * texture / reference)

/-- A zone counter moved by a quality (R71). -/
def moveScore (e : LensParams) (q score : Nat) : Nat :=
  if q < e.qLow then min 15 (score + 1) else if q < e.qHigh then score else score - 1

/-- An obscured flag judged from its counter (R72). -/
def judgeFlag (e : LensParams) (score : Nat) (old : Bool) : Bool :=
  if e.sOn ≤ score then true else if score ≤ e.sOff then false else old

/-- A zone after a usable sample: scored when lit with a reference of at least the minimum texture (R70 to R72). -/
def scoreZone (e : LensParams) (mean texture : Nat) (reference : Option Nat) (z : Zone) : Zone :=
  match reference with
  | none => z
  | some r =>
    if e.lit mean && e.minTexture ≤ r then
      let score := moveScore e (quality texture r) z.score
      { z with score := score, obscured := judgeFlag e score z.obscured }
    else z

/-- The coverage C: the sum of the weights of the obscured zones of a port (R73). -/
def coverageOf (weights : Vector Nat 192) (p : CamPort) (zones : Vector Zone 48) : Nat :=
  (List.finRange 48).foldl (fun t z => t + if (zones[z]).obscured then weights[zoneEntry p z] else 0) 0

/-- The rating of a coverage as if from CLEAN (R69, and the CLEAN rows of R74). -/
def rateFromClean (e : LensParams) (c : Nat) : LensCondition :=
  if e.tBlock ≤ c then .blocked else if e.tWarn ≤ c then .smeared else .clean

/-- One move of the lens condition with hysteresis (R74). -/
def moveLens (e : LensParams) (c : Nat) : LensCondition → LensCondition
  | .clean => rateFromClean e c
  | .smeared => if e.tBlock ≤ c then .blocked else if c ≤ e.tWarn - e.h then .clean else .smeared
  | .blocked =>
    if c ≤ e.tBlock - e.h then (if c ≤ e.tWarn - e.h then .clean else .smeared) else .blocked
  | other => other

/-- A change of lens condition is a worsening, which makes a pin request (R78). -/
def worsens (before after : LensCondition) : Bool :=
  match after with
  | .blocked => before != .blocked
  | .smeared => before != .smeared && before != .blocked
  | _ => false

/-! ### Routing arithmetic (R108, R114) -/

/-- The primary bucket of a stream id: a XOR b XOR c (R108). -/
def primaryBucket (sid : StreamId) : BitVec 5 :=
  sid.extractLsb' 0 5 ^^^ sid.extractLsb' 5 5 ^^^ (sid.extractLsb' 10 2).setWidth 5

/-- The secondary bucket: the primary XOR 31 (R108). -/
def secondaryBucket (sid : StreamId) : BitVec 5 := primaryBucket sid ^^^ 31#5

/-- The table index of a bucket's way (R110). -/
def wayIndex (bucket : BitVec 5) (way : Nat) : Fin 128 := Fin.ofNat 128 (bucket.toNat * 4 + way)

/-- The eight ways a stream may lie in: the primary bucket's, then the secondary's (R108). -/
def waysOf (sid : StreamId) : List (Fin 128) :=
  ((List.range 4).map (wayIndex (primaryBucket sid))) ++ ((List.range 4).map (wayIndex (secondaryBucket sid)))

/-- The index of the route entry that holds a stream id (R108). -/
def Tables.findRoute (t : Tables) (sid : StreamId) : Option (Fin 128) :=
  (waysOf sid).find? fun i =>
    match t.route[i] with
    | none => false
    | some e => e.stream == sid

/-- The route entry of a stream id (R108). -/
def Tables.routeEntry (t : Tables) (sid : StreamId) : Option RouteEntry := (t.findRoute sid).bind fun i => t.route[i]

/-- The direction in force for a stream id: with no entry, HEAD (R113). -/
def Tables.routeDirection (t : Tables) (sid : StreamId) : Direction :=
  match t.routeEntry sid with
  | none => .head
  | some e => e.direction

/-- The consume value in force for a stream id: with no entry, no (R113). -/
def Tables.routeConsume (t : Tables) (sid : StreamId) : Bool :=
  match t.routeEntry sid with
  | none => false
  | some e => e.consume

/-- Where a local tile is sent (the table of R36). -/
inductive SendRoute where
  | one (port : TrunkPort)
  | both
  | noHead
  | selfHead
  | noController
  | nowhere
deriving DecidableEq, Repr

/-- The choice of R36 for a stream, from the route table and the orientation as they stand. -/
def State.sendRoute (s : State) (sid : StreamId) : SendRoute :=
  match s.tables.routeDirection sid with
  | .none => .nowhere
  | .both => .both
  | .controller =>
    match s.controllerSide with
    | none => .noController
    | some p => .one p
  | .head =>
    match s.orient.state with
    | .none => .noHead
    | .conflict => .noHead
    | .found =>
      if s.isHead then .selfHead
      else
        match s.orient.headSide with
        | none => .noHead
        | some p => .one p

/-- Where an arriving tile cell is forwarded, or which counter names why it is not (the table of R114). -/
inductive ForwardRoute where
  | to (port : TrunkPort)
  | stop (counter : Option RouterCounter)
deriving DecidableEq, Repr

/-- The forward part of R114 for a cell that arrived on a port. -/
def State.forwardRoute (s : State) (arrival : TrunkPort) (sid : StreamId) : ForwardRoute :=
  match s.tables.routeDirection sid with
  | .none => .stop none
  | .both => .to arrival.other
  | .controller =>
    match s.controllerSide with
    | none => .stop (some .noControllerPort)
    | some p => if p = arrival then .stop (some .misdirected) else .to p
  | .head =>
    if s.orient.state = .none then .stop (some .headUnknown)
    else if s.isHead then .stop (some .noConsumer)
    else
      match s.orient.headSide with
      | none => .stop (some .headUnknown)
      | some p => if p = arrival then .stop (some .misdirected) else .to p

end Sys2Proof.Machine
end

