-- ==== Sys2Proof/Machine/Causes.lean ====
section
/-! DEFINITION. The cause set, notices, the controller-side port, and replies (chapter 9). -/

namespace Sys2Proof.Machine

/-- Two causes are alike in kind and subject (R174). -/
def Cause.alike (c d : Cause) : Bool := c.kind == d.kind && c.subject == d.subject

/-- A cause set with its overflow mark, and whether an addition changed it. -/
structure Joined where
  causes : List Cause
  overflow : Bool
  changed : Bool
deriving DecidableEq, Repr

/-- Adding a cause to a set (the table of R174). -/
def joinCause (c : Cause) (cs : List Cause) (overflow : Bool) : Joined :=
  match cs.find? c.alike with
  | some old =>
    if c.kind = .lensChange ∧ c.evidence = true ∧ old.evidence = false then
      ⟨cs.map fun d => if c.alike d then { d with evidence := true } else d, overflow, true⟩
    else ⟨cs, overflow, false⟩
  | none =>
    if cs.length < Config.causeCapacity then ⟨cs ++ [c], overflow, true⟩ else ⟨cs, true, !overflow⟩

/-- The two cells of a NOTICE of the whole set (R175). -/
def State.noticeCells (s : State) : List Cell :=
  (causeParts s.agent.causes s.agent.overflow).mapIdx fun i results => noticeCell s.nodeNumber i results

/-- Send a NOTICE, and disarm, when notices are armed and the controller-side port is known (R175). -/
def sendNotice (s : State) : State :=
  match s.controllerSide with
  | none => s
  | some p =>
    if s.agent.armed then placeAll p s.noticeCells (s.withAgent { s.agent with armed := false }) else s

/-- Add a cause to the cause set (R174); a change of the set sends a NOTICE when R175 says so. -/
def addCause (kind : CauseKind) (subject : Nat) (evidence : Bool) (s : State) : State :=
  let j := joinCause ⟨kind, subject, evidence⟩ s.agent.causes s.agent.overflow
  let t := s.withAgent { s.agent with causes := j.causes, overflow := j.overflow }
  if j.changed then sendNotice t else t

/-- Add causes that fall together: in the order given, or in the other when ties are swapped (R174). -/
def addTogether (cs : List (CauseKind × Nat)) (s : State) : State :=
  (if s.swapTies then cs.reverse else cs).foldl (fun t c => addCause c.1 c.2 false t) s

/-- Set the controller-side port (R102). When it becomes known with causes waiting, a NOTICE goes out (R175). -/
def setControllerSide (p : TrunkPort) (s : State) : State :=
  let t := s.withControllerSide (some p)
  if s.controllerSide.isNone && (!s.agent.causes.isEmpty || s.agent.overflow) then sendNotice t else t

/-- Place a reply to a command in the control queue of its arrival port (R167). -/
def reply (c : AgentCommand) (st : Status) (parts : List (List Byte)) (s : State) : State :=
  placeAll c.arrival (replyCells s.nodeNumber (commandTag c.cell) st parts) s

/-- A reply of one cell without results. -/
def replyStatus (c : AgentCommand) (st : Status) (s : State) : State := reply c st [[]] s

end Sys2Proof.Machine
end

