-- ==== Sys2Proof/Machine/Store.lean ====
section
/-! DEFINITION. The tile store (chapter 3): allocation, abandonment, publishing, holds, pins, memory errors. Each
operation acts only on a slot in the state its rule names. -/

namespace Sys2Proof.Machine

/-- The store with one slot replaced. -/
def Store.setSlot (st : Store) (i : SlotNo) (x : Slot) : Store := { st with slots := st.slots.set i x }

/-- The lowest-numbered FREE slot (R42). -/
def Store.lowestFree (st : Store) : Option SlotNo := (List.finRange 64).find? fun i => (st.slots[i]).state == .free

/-- The slot as it becomes FILLING, with its owner and a partial record (R42). -/
def Slot.filling (owner : Owner) (r : TileRecord) : Slot := ⟨.filling, owner, none, 0, false, false, some r, []⟩

/-- Ask for a slot (R42): the lowest FREE one becomes FILLING, or nothing changes. -/
def Store.allocate (st : Store) (owner : Owner) (r : TileRecord) : Option (SlotNo × Store) :=
  st.lowestFree.map fun i => (i, st.setSlot i (Slot.filling owner r))

/-- Give a FILLING slot back FREE (R43). -/
def Store.giveBack (st : Store) (i : SlotNo) : Store :=
  if (st.slots[i]).state = .filling then st.setSlot i Slot.reset else st

/-- Where a slot goes when it has left LATEST or lost its last hold with no hold standing: EVIDENCE with a pin mark,
else FREE (R44, R46). -/
def Slot.rest (x : Slot) : Slot := if x.pinned then { x with state := .evidence } else Slot.reset

/-- A slot as it leaves LATEST (the first part of R44). -/
def Slot.leaveLatest (x : Slot) : Slot :=
  if 0 < x.holders then { x with state := .retired, view := none } else { x with view := none }.rest

/-- A FILLING slot as it becomes the LATEST tile of a view (the second part of R44). -/
def Slot.becomeLatest (x : Slot) (v : ViewNo) : Slot := { x with state := .latest, owner := .none, view := some v }

/-- Publish a FILLING slot as the LATEST tile of a view (R44). -/
def Store.publish (st : Store) (i : SlotNo) (v : ViewNo) : Store :=
  if (st.slots[i]).state = .filling then
    let st1 :=
      match st.viewMap[v] with
      | none => st
      | some p => st.setSlot p (st.slots[p]).leaveLatest
    { st1.setSlot i ((st1.slots[i]).becomeLatest v) with viewMap := st1.viewMap.set v (some i) }
  else st

/-- Take a hold on a slot that may be read (R45). -/
def Store.takeHold (st : Store) (i : SlotNo) : Store :=
  let x := st.slots[i]
  match x.state with
  | .free | .filling => st
  | .latest | .retired | .evidence => st.setSlot i { x with holders := x.holders + 1 }

/-- A slot after a hold on it has ended (R46). -/
def Slot.endHold (x : Slot) : Slot :=
  match x.holders with
  | 0 => x
  | n + 1 =>
    let y := { x with holders := n }
    if n = 0 ∧ x.state = .retired then y.rest else y

/-- End a hold on a slot (R46). -/
def Store.endHold (st : Store) (i : SlotNo) : Store := st.setSlot i (st.slots[i]).endHold

/-- End several holds, one after another. -/
def Store.endHolds (st : Store) (is : List SlotNo) : Store := is.foldl Store.endHold st

/-- Take a hold on each slot of a list. -/
def Store.takeHolds (st : Store) (is : List SlotNo) : Store := is.foldl Store.takeHold st

/-- The number of slots with a pin mark (R49). -/
def Store.pinCount (st : Store) : Nat := ((List.finRange 64).filter fun i => (st.slots[i]).pinned).length

/-- The lowest empty evidence position (R50). -/
def Store.emptyPosition (st : Store) : Option (Fin 4) := (List.finRange 4).find? fun k => (st.evidence[k]).isNone

/-- A slot as its pin mark is cleared by a release (the table of R51). -/
def Slot.unpin (x : Slot) : Slot :=
  if x.state = .evidence then
    if x.holders = 0 then Slot.reset else { x with state := .retired, pinned := false }
  else { x with pinned := false }

/-- Release an evidence position that holds an entry: clear the pin mark and empty the position (R51). -/
def Store.release (st : Store) (k : Fin 4) : Store :=
  match st.evidence[k] with
  | none => st
  | some e => { st.setSlot e.slot (st.slots[e.slot]).unpin with evidence := st.evidence.set k none }

/-- Write the bytes of a data cell behind those already written (R119, R192). -/
def Store.writeBytes (st : Store) (i : SlotNo) (bytes : List Byte) : Store :=
  st.setSlot i { st.slots[i] with data := (st.slots[i]).data ++ bytes }

/-- Complete the record of a FILLING slot: its stamp and its picture (R30). -/
def Store.complete (st : Store) (i : SlotNo) (x : Stamp) (data : List Byte) : Store :=
  let sl := st.slots[i]
  st.setSlot i { sl with record := sl.record.map (fun r => { r with stamp := some x }), data := data }

/-- Set or clear the fetch running field of a position (R52, R53). -/
def Store.setFetching (st : Store) (k : Fin 4) (b : Bool) : Store :=
  { st with evidence := st.evidence.set k ((st.evidence[k]).map fun e => { e with fetching := b }) }

/-! ### The same on State -/

def State.endHold (s : State) (i : SlotNo) : State := s.withStore (s.store.endHold i)
def State.takeHold (s : State) (i : SlotNo) : State := s.withStore (s.store.takeHold i)
def State.giveBack (s : State) (i : SlotNo) : State := s.withStore (s.store.giveBack i)

/-- A FETCH entry of a released position no longer names it (R51, R53). -/
def SendEntry.forget (k : Fin 4) (e : SendEntry) : SendEntry :=
  if e.kind = .fetch (some k) then { e with kind := .fetch none } else e

/-- Release an evidence position (R51). A fetch that reads its slot goes on, and no longer touches the position. -/
def releasePosition (k : Fin 4) (s : State) : State :=
  let forget (t : Trunk) : Trunk := { t with sendList := t.sendList.map (SendEntry.forget k) }
  ((s.withStore (s.store.release k)).withTrunk .a (forget s.trunk.a)).withTrunk .b (forget s.trunk.b)

/-- Release every position of a list. -/
def releaseAll (ks : List (Fin 4)) (s : State) : State := ks.foldl (fun t k => releasePosition k t) s

/-- The evidence positions whose entry names a camera (R51). -/
def Store.positionsOf (st : Store) (c : CameraId) : List (Fin 4) :=
  (List.finRange 4).filter fun k =>
    match st.evidence[k] with
    | none => false
    | some e => e.camera == c

/-- Take a pin request for a camera with its new lens condition and coverage; the answer is the evidence flag (R49). -/
def pinRequest (c : CameraId) (lens : LensCondition) (coverage : Nat) (s : State) : State × Bool :=
  match s.store.viewMap[viewOf c 0] with
  | none => (countStore .pinsDropped s, false)
  | some i =>
    if (s.store.slots[i]).pinned then (s, true)
    else if Config.pinCapacity ≤ s.store.pinCount then (countStore .pinsDropped s, false)
    else
      match s.store.emptyPosition with
      | none => (countStore .pinsDropped s, false)
      | some k =>
        let st := s.store.setSlot i { s.store.slots[i] with pinned := true }
        (s.withStore { st with evidence := st.evidence.set k (some ⟨i, c, lens, coverage, s.nodeTime, false⟩) }, true)

/-- A reader finds a check failure in a slot (R54). -/
def memoryError (i : SlotNo) (s : State) : State :=
  let t := s.withStore (s.store.setSlot i { s.store.slots[i] with damaged := true })
  addCause .memoryError i.val false (countStore .memoryErrors t)

end Sys2Proof.Machine
end

