-- ==== Sys2Proof/Machine/Selector.lean ====
section
/-! DEFINITION. The view selector (chapter 7) and what hangs on the alarm count: evaluations, the switching policy,
chime requests, publishing with its evaluation. -/

namespace Sys2Proof.Machine

/-- A chime request: the pulse end moves to 250 ms from now (R163). -/
def requestChime (s : State) : State :=
  s.withComp { s.comp with pulseEnd := some (s.nodeTime + BitVec.ofNat 32 Config.chimeTime) }

/-- The selection after a switch to a wanted layout at node time `t` (R139, R140). -/
def Selection.switchTo (w : Wanted) (t : NodeTime) : Selection :=
  ⟨w.layout, w.urgency, t, w.hold, if w.hold = 0 then none else some (t + holdSpan w.hold)⟩

/-- The switching policy takes a wanted layout that differs from the current one (R139). -/
def Selection.takes (x : Selection) (w : Wanted) (t : NodeTime) : Bool := x.holdEnded t || decide (x.urgency < w.urgency)

/-- One evaluation of a screen (R137 to R141). -/
def evaluate (sc : Screen) (s : State) : State :=
  let w := s.wanted sc
  let x := s.selection[sc]
  if w.layout = x.layout then s.withSelection sc { x with urgency := w.urgency }
  else if x.takes w s.nodeTime then
    let t := s.withSelection sc (Selection.switchTo w s.nodeTime)
    if w.urgency = 3 ∧ s.isHead = true ∧ (s.tables.outputConfig[sc]).enabled = true then requestChime t else t
  else s

/-- One evaluation of each screen (R137). The two are independent, and either order ends the same way. -/
def evaluateBoth (s : State) : State := evaluate 1 (evaluate 0 s)

/-- Publish a slot: the store's step (R44), then the alarm count with its evaluations (R135). -/
def publishTile (i : SlotNo) (v : ViewNo) (s : State) : State :=
  let t := s.withStore (s.store.publish i v)
  let n := t.store.alarmCount
  if n = s.alarm then t else evaluateBoth (t.withAlarm n)

/-- Fresh is cleared, and both screens are evaluated (R128). DESIGN CHOICE (notes/assumptions/30.md): the expiry that
was reached is removed with it; R128 does not say whether it stands while fresh is clear. -/
def clearFresh (s : State) : State :=
  evaluateBoth (s.withVehicle { s.vehicle with fresh := false, expiry := none })

/-- The staleness expiry of a STATE cell taken at `t` (R128). -/
def State.stalenessExpiry (s : State) (t : NodeTime) : NodeTime := t + millis s.tables.nodeParams.stateTimeout

/-- The vehicle state record that a STATE cell leaves (R127). -/
def State.vehicleFrom (s : State) (p : List Byte) : Vehicle where
  speed := stateSpeed p
  travel := stateTravel p
  release := stateRelease p
  doors := stateDoors p
  fresh := true
  lastState := some s.nodeTime
  expiry := some (s.stalenessExpiry s.nodeTime)

/-- A step leaves speed, direction, release side, door states or fresh different (R127). -/
def Vehicle.differs (v w : Vehicle) : Bool :=
  v.speed != w.speed || v.travel != w.travel || v.release != w.release || v.doors != w.doors || v.fresh != w.fresh

/-- The selector takes the payload of a STATE cell (R127). -/
def takeState (p : List Byte) (s : State) : State :=
  let v := s.vehicleFrom p
  let t := s.withVehicle v
  if s.vehicle.differs v then evaluateBoth t else t

end Sys2Proof.Machine
end

