-- ==== Sys2Proof/Machine/Compositor.lean ====
section
/-! DEFINITION. The compositor (chapter 8): what a pane shows, the frame start of an output, the end of composing,
and an output's answer to a write of its entry. -/

namespace Sys2Proof.Machine

/-- The screen width of a mode code (R145). -/
def screenWidth (mode : Nat) : Nat := if mode < 4 then 1280 else 1920

/-- The screen height of a mode code (R145). -/
def screenHeight (mode : Nat) : Nat := if mode < 2 then 800 else if mode < 4 then 1024 else 1080

/-! ### Resolving a pane (R153, R154) -/

/-- What a pane is resolved to (R153). -/
inductive Resolved where
  | view (v : ViewNo) (door : Option (Fin 16))
  | noCamera (door : Fin 16)
  | blank
deriving DecidableEq, Repr

/-- The view a pane's two bytes name. -/
def viewNamed (camera rendition : Byte) : ViewNo := viewOf (Fin.ofNat 32 camera.toNat) rendition.toNat

/-- The doors a DOOR_FOCUS pane may bind, in ascending number (R154). -/
def State.focusDoors (s : State) (p : Pane) : List (Fin 16) :=
  (List.finRange 16).filter fun d : Fin 16 =>
    sideMatches p.side.toNat (s.tables.door[d]).side && p.focus.getLsbD (s.vehicle.doors[d]).code

/-- A pane with its fallback, when its focus set gives it no door (R154). -/
def Pane.fallback (p : Pane) : Resolved :=
  if p.hasFallback then .view (viewNamed p.fallbackCamera p.fallbackRendition) none else .blank

/-- The resolution of a pane (R153, R154). -/
def State.resolve (s : State) (p : Pane) : Resolved :=
  match p.source with
  | .fixed => .view (viewNamed p.camera p.rendition) none
  | .none => .blank
  | .doorFocus =>
    match (s.focusDoors p)[p.rank.toNat - 1]? with
    | none => p.fallback
    | some d =>
      match (s.tables.door[d]).camera with
      | none => .noCamera d
      | some c => .view (viewOf c p.focusRendition.toNat) (some d)

/-! ### Presentation (R156) -/

/-- The view's camera is local and its port is TESTING (R156). -/
def State.underTest (s : State) (v : ViewNo) : Bool :=
  let camera := v.val / 2
  camera / 4 == s.straps.node.toNat && (s.cams[Fin.ofNat 4 (camera % 4)]).link == .testing

/-- NO PICTURE, or TEST for a local camera under its cable check. -/
def State.absence (s : State) (v : ViewNo) : Presentation :=
  .placeholder (if s.underTest v then .test else .noPicture)

/-- An age is above a limit in milliseconds: the two are compared in 0.1 ms units (R156). -/
def olderThan (age ms : Nat) : Bool := decide (10 * ms < age)

/-- The picture condition of a slot's complete record; NO_SIGNAL when it has none. -/
def Slot.picture (x : Slot) : PictureCondition :=
  match x.record.bind (·.stamp) with
  | none => .noSignal
  | some st => st.picture

/-- The lens condition of a slot's complete record; NO_REFERENCE when it has none. -/
def Slot.lens (x : Slot) : LensCondition :=
  match x.record.bind (·.stamp) with
  | none => .noReference
  | some st => st.lens

/-- The presentation of a pane that was given a view index (R156). -/
def State.present (s : State) (p : Pane) (v : ViewNo) : Presentation :=
  match s.store.viewMap[v] with
  | none => s.absence v
  | some i =>
    let x := s.store.slots[i]
    let age := x.ageAt s.nodeTime
    if x.damaged then .placeholder .noPicture
    else if x.picture = .frozen then .placeholder .frozen
    else if x.picture = .noSignal then .placeholder .noPicture
    else if olderThan age p.blankAge then s.absence v
    else if olderThan age p.staleAge then .stale
    else .live

/-! ### Drawing (R157 to R160) -/

/-- A pane shows its tile: it is LIVE or STALE. -/
def Presentation.showsTile : Presentation → Bool
  | .live | .stale => true
  | .blank | .placeholder _ => false

/-- The size of a pane: of its slot's tile when it has a slot, else of a bare placeholder, 320 × 180 (R157). -/
def paneSize (slot : Option Slot) : Nat × Nat :=
  match slot.bind (·.record) with
  | none => (320, 180)
  | some r => (r.width, r.height)

/-- The part of a rectangle that lies on a screen (R160). -/
def Rect.clip (r : Rect) (width height : Nat) : Rect := ⟨r.x, r.y, min r.w (width - r.x), min r.h (height - r.y)⟩

/-- The overlays of a pane that shows the tile of a slot in a rectangle (R158). -/
def overlaysOf (pr : Presentation) (x : Slot) (r : Rect) : List Overlay :=
  let topRight : Rect := ⟨r.x + r.w - 40, r.y + 8, 32, 32⟩
  let topLeft : Rect := ⟨r.x + 8, r.y + 8, 32, 32⟩
  let inner : Rect := ⟨r.x + 4, r.y + 4, r.w - 8, r.h - 8⟩
  (if x.lens = .smeared then [⟨.amberLens, topRight⟩] else [])
    ++ (if x.lens = .blocked then [⟨.redLens, topRight⟩, ⟨.redFrame, r⟩] else [])
    ++ (if x.picture = .dark then [⟨.darkIcon, topLeft⟩] else [])
    ++ (if pr = .stale then [⟨.amberFrame, if x.lens = .blocked then inner else r⟩] else [])

/-- The label of a pane that shows a tile in a rectangle (R159). -/
def labelOn (p : Pane) (door : Option (Fin 16)) (r : Rect) : Option LabelBox :=
  match p.labelKind with
  | .none => none
  | .fixed => some ⟨p.labelNumber.toNat, r.x + 8, r.y + r.h - 8⟩
  | .boundDoor => door.map fun d => ⟨d.val + 1, r.x + 8, r.y + r.h - 8⟩

/-- A pane as drawn on a screen of a mode, once resolved (R155 to R160). -/
def State.drawPane (s : State) (mode : Nat) (p : Pane) : DrawnPane :=
  match s.resolve p with
  | .blank => ⟨.blank, none, none, ⟨p.x, p.y, 0, 0⟩, ⟨p.x, p.y, 0, 0⟩, [], none⟩
  | .noCamera d =>
    let r : Rect := ⟨p.x, p.y, 320, 180⟩
    ⟨.placeholder .noCamera, none, some d, r, r.clip (screenWidth mode) (screenHeight mode), [], none⟩
  | .view v door =>
    let slot := s.store.viewMap[v]
    let size := paneSize (slot.map fun i => s.store.slots[i])
    let r : Rect := ⟨p.x, p.y, size.1, size.2⟩
    let pr := s.present p v
    match slot with
    | none => ⟨pr, none, door, r, r.clip (screenWidth mode) (screenHeight mode), [], none⟩
    | some i =>
      let shown := pr.showsTile
      ⟨pr, some i, door, r, r.clip (screenWidth mode) (screenHeight mode),
        if shown then overlaysOf pr s.store.slots[i] r else [], if shown then labelOn p door r else none⟩

/-- The panes a layout draws, pane records 1 up to its pane count (R148, R152). -/
def Layout.drawn (l : Layout) : List Pane := l.panes.toList.take l.count

/-- The frame that a composed frame start builds (R152). -/
def State.composedFrame (s : State) (sc : Screen) : ScreenFrame :=
  let entry := s.tables.outputConfig[sc]
  let layout := s.tables.activeBank[(s.selection[sc]).layout]
  let panes := layout.drawn.map (s.drawPane entry.mode)
  ⟨true, some layout, entry.colour, panes, (panes.filterMap (·.slot)).dedup⟩

/-- A frame of background only (R147). -/
def backgroundFrame (colour : Nat) : ScreenFrame := ⟨false, none, colour, [], []⟩

/-! ### Outputs -/

/-- The compositor with one output replaced. -/
def State.withOutput (sc : Screen) (o : Output) (s : State) : State :=
  s.withComp { s.comp with outputs := s.comp.outputs.set sc o }

/-- The slots that an output's frame holds. -/
def Output.held (o : Output) : List SlotNo :=
  match o.frame with
  | none => []
  | some f => f.held

/-- End the holds of an output's frame (R152). -/
def endFrameHolds (sc : Screen) (s : State) : State := s.withStore (s.store.endHolds (s.comp.outputs[sc]).held)

/-- The ACTIVE bank takes an apply image that waits (R150). -/
def takeApply (s : State) : State :=
  match s.comp.applyImage with
  | none => s
  | some image => (s.withTables { s.tables with activeBank := image }).withComp { s.comp with applyImage := none }

/-- A frame start of a RUNNING output: the previous holds end, a waiting apply is taken, and the new frame is
composed on a head or background elsewhere (R147, R150, R152). -/
def frameStart (sc : Screen) (s : State) : State :=
  let t := takeApply (endFrameHolds sc s)
  if t.isHead then
    let f := t.composedFrame sc
    (t.withStore (t.store.takeHolds f.held)).withOutput sc ⟨true, some f⟩
  else t.withOutput sc ⟨true, some (backgroundFrame (t.tables.outputConfig[sc]).colour)⟩

/-- An output goes OFF: its frame and its holds end (R146). -/
def stopOutput (sc : Screen) (s : State) : State := (endFrameHolds sc s).withOutput sc ⟨false, none⟩

/-- A composed frame of an output becomes background at once, and its holds end (R147). -/
def stopFrame (sc : Screen) (s : State) : State :=
  match (s.comp.outputs[sc]).frame with
  | none => s
  | some f =>
    (endFrameHolds sc s).withOutput sc ⟨(s.comp.outputs[sc]).running, some (backgroundFrame f.background)⟩

/-- The node stops being head: composing stops on both outputs (R147). -/
def stopComposing (s : State) : State := stopFrame 1 (stopFrame 0 s)

/-- An output takes a write of its entry (R146). `old` is the entry before. -/
def outputTakes (sc : Screen) (old new : OutputConfig) (s : State) : State :=
  if s.straps.cabEnd then
    if (s.comp.outputs[sc]).running then
      if new.enabled then (if new.mode = old.mode then s else frameStart sc s) else stopOutput sc s
    else if new.enabled then frameStart sc s else s
  else s

/-- Start every output of a cab-end node whose entry has enabled set, with a frame start at once (R146). -/
def startOutputs (s : State) : State :=
  let start (sc : Screen) (t : State) : State :=
    if t.straps.cabEnd && (t.tables.outputConfig[sc]).enabled then frameStart sc t else t
  start 1 (start 0 s)

/-! ### Meanings -/

/-- SCREEN_FRAME_START (R152, R146, R147): an output that is OFF gives itself no frame start. -/
def execScreenFrameStart (sc : Screen) (s : State) : Host.Outcome State Fault Refusal :=
  .next (if (s.comp.outputs[sc]).running then frameStart sc s else s)

/-- PULSE_END (R163). -/
def execPulseEnd (s : State) : Host.Outcome State Fault Refusal :=
  .next (if due s.nodeTime s.comp.pulseEnd then s.withComp { s.comp with pulseEnd := none } else s)

/-- DRAW_CHECK_FAILURE (R160, R54): a failure found in a slot that the screen's frame holds. -/
def execDrawCheckFailure (sc : Screen) (i : SlotNo) (s : State) : Host.Outcome State Fault Refusal :=
  .next (if i ∈ (s.comp.outputs[sc]).held then memoryError i s else s)

/-- STALENESS_EXPIRY (R128). -/
def execStalenessExpiry (s : State) : Host.Outcome State Fault Refusal :=
  .next (if s.vehicle.fresh && due s.nodeTime s.vehicle.expiry then clearFresh s else s)

/-- HOLD_EXPIRY (R140): the screen is evaluated, and the expiry it reached is gone unless a switch set a new one.
DESIGN CHOICE (notes/assumptions/30.md): R140 does not say whether it stands when no switch is taken. -/
def execHoldExpiry (sc : Screen) (s : State) : Host.Outcome State Fault Refusal :=
  .next (if due s.nodeTime (s.selection[sc]).holdExpiry then
      evaluate sc (s.withSelection sc { s.selection[sc] with holdExpiry := none })
    else s)

end Sys2Proof.Machine
end

