-- ==== Sys2Proof/Machine/Orientation.lean ====
section
/-! DEFINITION. Head role, beacons and the orientation record (section 5.4), and the meanings that are theirs alone. -/

namespace Sys2Proof.Machine

/-- Place a beacon on a port, when the port is UP (R98, R99). -/
def placeBeacon (p : TrunkPort) (head hops : Nat) (s : State) : State :=
  if (s.trunk.get p).link = .up then placeControl p (beaconCell head hops) s else s

/-- A head's beacons: its own number and hop count 0 on each port that is UP (R98). -/
def beaconBoth (s : State) : State := placeBeacon .b s.nodeNumber 0 (placeBeacon .a s.nodeNumber 0 s)

/-- State, head node or head-side port differ between two orientation records (R97, R99). -/
def Orientation.differs (o n : Orientation) : Bool := o.state != n.state || o.head != n.head || o.headSide != n.headSide

/-- Add ORIENTATION_CHANGE when the record differs from what it was (R97, R99). -/
def reportOrientation (before : Orientation) (s : State) : State :=
  if before.differs s.orient then addCause .orientationChange 0 false s else s

/-- The record of a head (R97). Its next periodic beacon is 10 ms from now (R98). R97 names every field but the time of
the last beacon, which is none here, DEDUCED (notes/assumptions/28.md). -/
def State.headRecord (s : State) : Orientation where
  state := .found
  head := some s.nodeNumber
  headSide := none
  hops := some 0
  lastBeacon := none
  candidate := true
  resume := none
  nextBeacon := some (s.nodeTime + BitVec.ofNat 32 Config.beaconTime)

/-- The node becomes head: its record, its first beacon at once, the cause (R97, R100). That the beacons join a control
queue before the NOTICE of that cause is the model's choice (notes/assumptions/4.md). -/
def becomeHead (s : State) : State := reportOrientation s.orient (beaconBoth (s.withOrient s.headRecord))

/-- The record follows a lower head already: its number (R97). -/
def State.lowerHead (s : State) : Option Nat :=
  match s.orient.state, s.orient.head with
  | .found, some h => if h < s.nodeNumber then some h else none
  | _, _ => none

/-- The time a followed head may be silent, from its last beacon. -/
def silenceEnd (t : NodeTime) : NodeTime := t + BitVec.ofNat 32 Config.headTime

/-- Candidacy begins (R97): the node becomes head, or yields at once to a lower head it follows. -/
def beginCandidacy (s : State) : State :=
  match s.lowerHead with
  | some h =>
    let o := { s.orient with
      state := .conflict, candidate := true, resume := s.orient.lastBeacon.map silenceEnd, nextBeacon := none }
    addTogether [(.headConflict, h), (.orientationChange, 0)] (s.withOrient o)
  | none => becomeHead s

/-- Candidacy ends (R97): a head knows no head any more and stops composing; a yielding node follows the head it
heard. -/
def endCandidacy (s : State) : State :=
  if s.orient.state = .conflict then
    reportOrientation s.orient
      (s.withOrient { s.orient with state := .found, candidate := false, resume := none, nextBeacon := none })
  else stopComposing (reportOrientation s.orient (s.withOrient Orientation.reset))

/-- Candidacy is re-evaluated (R97). -/
def reevaluateCandidacy (s : State) : State :=
  if s.mayBeHead = s.orient.candidate then s
  else if s.mayBeHead then beginCandidacy s else endCandidacy s

/-- The record goes to NONE on entering BYPASS (R103). -/
def forgetHead (s : State) : State :=
  reportOrientation s.orient (s.withOrient { Orientation.reset with candidate := s.orient.candidate })

/-- The hop count one link further from the head (R99). -/
def nextHop (n : Nat) : Nat := min 15 (n + 1)

/-- The record as it follows a head's beacon (R99); while yielding, the resume time moves on (R100). -/
def State.following (s : State) (p : TrunkPort) (h n : Nat) : Orientation where
  state := if s.orient.state = .conflict then .conflict else .found
  head := some h
  headSide := some p
  hops := some (nextHop n)
  lastBeacon := some s.nodeTime
  candidate := s.orient.candidate
  resume := if s.orient.state = .conflict then some (silenceEnd s.nodeTime) else none
  nextBeacon := none

/-- Follow a beacon and send it on (R99). That the beacon joins a control queue before the NOTICE of the step's
ORIENTATION_CHANGE is the model's choice (notes/assumptions/4.md). -/
def followBeacon (p : TrunkPort) (h n : Nat) (s : State) : State :=
  reportOrientation s.orient (placeBeacon p.other h (nextHop n) (s.withOrient (s.following p h n)))

/-- A head yields to a lower head (R100): its record, the beacon sent on, the causes, the end of composing. That the
beacon joins a control queue before the NOTICE of the step's causes is the model's choice (notes/assumptions/4.md). -/
def yieldTo (p : TrunkPort) (h n : Nat) (s : State) : State :=
  let o : Orientation :=
    { state := .conflict, head := some h, headSide := some p, hops := some (nextHop n),
      lastBeacon := some s.nodeTime, candidate := s.orient.candidate, resume := some (silenceEnd s.nodeTime),
      nextBeacon := none }
  stopComposing (addTogether [(.headConflict, h), (.orientationChange, 0)]
    (placeBeacon p.other h (nextHop n) (s.withOrient o)))

/-- A node that is not head follows a beacon of head `h`: it knows no head, or `h` is not above the one it follows
(R99). -/
def Orientation.follows (o : Orientation) (h : Nat) : Bool :=
  match o.state, o.head with
  | .none, _ => true
  | _, some g => decide (h ≤ g)
  | _, none => true

/-- The orientation logic takes a beacon that passed the router (R99, R100). -/
def takeBeacon (p : TrunkPort) (h n : Nat) (s : State) : State :=
  if s.isHead then (if h < s.nodeNumber then yieldTo p h n s else s)
  else if s.orient.follows h then followBeacon p h n s else s

/-! ### Meanings -/

/-- BEACON_PERIOD (R98). -/
def execBeaconPeriod (s : State) : Host.Outcome State Fault Refusal :=
  .next (if s.isHead && due s.nodeTime s.orient.nextBeacon then
      beaconBoth (s.withOrient { s.orient with
        nextBeacon := s.orient.nextBeacon.map fun t => t + BitVec.ofNat 32 Config.beaconTime })
    else s)

/-- ORIENTATION_EXPIRY (R101). -/
def execOrientationExpiry (s : State) : Host.Outcome State Fault Refusal :=
  .next (if s.orient.state = .found && !s.isHead && due s.nodeTime (s.orient.lastBeacon.map silenceEnd) then
      forgetHead s
    else s)

/-- RESUME_TIME (R100). -/
def execResumeTime (s : State) : Host.Outcome State Fault Refusal :=
  .next (if s.orient.state = .conflict && s.orient.candidate && due s.nodeTime s.orient.resume then becomeHead s else s)

end Sys2Proof.Machine
end

