-- ==== Sys2Proof/Machine/Trunk.lean ====
section
/-! DEFINITION. The trunk links (chapter 5): the receive side, the send lists, the arbiters and the cell time. -/

namespace Sys2Proof.Machine

/-! ### The receive side (R88, R89) -/

/-- A trunk port's link state changes, with its cause (R88). On leaving UP the far-end fault flag is cleared. -/
def moveTrunk (p : TrunkPort) (new : TrunkLink) (s : State) : State :=
  let t := s.trunk.get p
  let t1 : Trunk :=
    match new with
    | .down => { t with link := .down, farFault := false }
    | .training => { t with link := .training, farFault := false, goodRun := 0 }
    | .up => { t with link := .up, failedRun := 0 }
  addCause .trunkLink (portCode p).toNat false (s.withTrunk p t1)

/-- The far-end fault flag takes a value; a change adds TRUNK_LINK (R89). -/
def setFarFault (p : TrunkPort) (b : Bool) (s : State) : State :=
  if (s.trunk.get p).farFault = b then s
  else addCause .trunkLink (portCode p).toNat false (s.withTrunk p { s.trunk.get p with farFault := b })

/-- A cell whose header matches in UP sets the failed-header run to 0 (R88). -/
def clearFailedRun (p : TrunkPort) (s : State) : State := s.withTrunk p { s.trunk.get p with failedRun := 0 }

/-- A cell other than FILL is handed on (R89). -/
def handOn (p : TrunkPort) (s : State) : State := countTrunk p .cellsIn (setFarFault p false (clearFailedRun p s))

/-- A cell whose header fails in UP (R88). -/
def failHeader (p : TrunkPort) (s : State) : State :=
  let t := s.trunk.get p
  let s1 := countTrunk p .headerError (s.withTrunk p { t with failedRun := t.failedRun + 1 })
  if 4 ≤ t.failedRun + 1 then moveTrunk p .training (countTrunk p .linkLosses s1) else s1

/-- A cell in TRAINING (R88). -/
def trainCell (p : TrunkPort) (c : Cell) (s : State) : State :=
  let t := s.trunk.get p
  if headerOk c then
    let s1 := s.withTrunk p { t with goodRun := t.goodRun + 1 }
    if 8 ≤ t.goodRun + 1 then moveTrunk p .up s1 else s1
  else s.withTrunk p { t with goodRun := 0 }

/-- A cell arrives in UP with its header matching (R88). -/
def State.receives (s : State) (p : TrunkPort) (c : Cell) : Bool := (s.trunk.get p).link == .up && headerOk c

/-! ### Send lists (R94 to R96) -/

/-- The cell count of a slot's tile (section 5.3). -/
def Slot.cells (x : Slot) : Nat :=
  match x.record with
  | none => 0
  | some r => tileCells r.width r.height

/-- An entry waits for a stream (section 5.3). -/
def SendEntry.waitsFor (e : SendEntry) (sid : StreamId) : Bool := !e.started && e.stream == sid

/-- A new waiting entry (section 5.3). -/
def State.newEntry (s : State) (kind : SendKind) (i : SlotNo) (sid : StreamId) : SendEntry :=
  ⟨kind, i, sid, false, none, (s.store.slots[i]).cells⟩

/-- A port with another send list. -/
def State.withSendList (p : TrunkPort) (l : List SendEntry) (s : State) : State :=
  s.withTrunk p { s.trunk.get p with sendList := l }

/-- An entry joins the tail of a send list, and holds its slot (R94, R52). -/
def joinList (p : TrunkPort) (kind : SendKind) (i : SlotNo) (sid : StreamId) (s : State) : State :=
  (s.withSendList p ((s.trunk.get p).sendList ++ [s.newEntry kind i sid])).takeHold i

/-- The entry that waits for a stream, with an entry put in its place. -/
def putWaiting (sid : StreamId) (e : SendEntry) (l : List SendEntry) : List SendEntry :=
  l.map fun x => if x.waitsFor sid then e else x

/-- The send list takes a TILE request (R94). -/
def requestSend (p : TrunkPort) (i : SlotNo) (sid : StreamId) (s : State) : State :=
  let l := (s.trunk.get p).sendList
  match l.find? (·.waitsFor sid) with
  | some old =>
    if old.kind = .tile then ((s.withSendList p (putWaiting sid (s.newEntry .tile i sid) l)).takeHold i).endHold old.slot
    else countTrunk p .sendSkipped s
  | none =>
    if l.length < Config.sendCapacity then joinList p .tile i sid s else countTrunk p .sendSkipped s

/-- The requests for a published tile whose entry copy has send set (R36). -/
def placeRequests (i : SlotNo) (sid : StreamId) (s : State) : State :=
  match s.sendRoute sid with
  | .one p => requestSend p i sid s
  | .both => requestSend .b i sid (requestSend .a i sid s)
  | .noHead => countEngine .noHead s
  | .noController => countEngine .sendNoPort s
  | .selfHead => s
  | .nowhere => s

/-- The age of the tile an entry sends, now (R123). -/
def State.entryAge (s : State) (e : SendEntry) : Nat := (s.store.slots[e.slot]).ageAt s.nodeTime

/-- A waiting TILE entry, already taken off the other list, is taken by this port's list with its hold (R95). -/
def takeHanded (p : TrunkPort) (e : SendEntry) (s : State) : State :=
  let l := (s.trunk.get p).sendList
  match l.find? (·.waitsFor e.stream) with
  | some w =>
    if w.kind = .tile then
      if s.entryAge e ≤ s.entryAge w then (s.withSendList p (putWaiting e.stream e l)).endHold w.slot
      else s.endHold e.slot
    else countTrunk p .sendSkipped (s.endHold e.slot)
  | none =>
    if l.length < Config.sendCapacity then s.withSendList p (l ++ [e])
    else countTrunk p .sendSkipped (s.endHold e.slot)

/-- The waiting entries at the front of a list that do not start here leave it, one after another, until an entry
that starts or has started stands at the front, or the list is empty (R95). `n` bounds the entries looked at. -/
def settleFront (p : TrunkPort) : Nat → State → State
  | 0, s => s
  | n + 1, s =>
    match (s.trunk.get p).sendList with
    | [] => s
    | e :: rest =>
      if e.started ∨ e.kind ≠ .tile then s
      else
        match s.sendRoute e.stream with
        | .both => s
        | .one q => if q = p then s else settleFront p n (takeHanded q e (s.withSendList p rest))
        | .noHead | .selfHead | .noController | .nowhere =>
          settleFront p n (countTrunk p .sendCancelled ((s.withSendList p rest).endHold e.slot))

/-- A fetch's end clears fetch running in its position, if the position still holds its entry (R53, R96). -/
def endFetch (k : SendKind) (s : State) : State :=
  match k with
  | .tile => s
  | .fetch none => s
  | .fetch (some i) => s.withStore (s.store.setFetching i false)

/-- An entry that has left its list ends its hold, and its fetch (R96, R105). -/
def releaseEntry (e : SendEntry) (s : State) : State := endFetch e.kind (s.endHold e.slot)

/-- Remove the entries of a list that meet a test; their holds end (R105, R53). -/
def removeEntries (p : TrunkPort) (gone : SendEntry → Bool) (s : State) : State :=
  let l := (s.trunk.get p).sendList
  (l.filter gone).foldl (fun t e => releaseEntry e t) (s.withSendList p (l.filter fun e => !gone e))

/-- The TILE_HEAD of a slot's tile, with its age now held at 65,535 (R124). -/
def State.headCell (s : State) (e : SendEntry) : Cell :=
  let x := s.store.slots[e.slot]
  match x.record with
  | none => mkCell (tileHeader 6 false e.stream 0 0) []
  | some r =>
    match r.stamp with
    | none => mkCell (tileHeader 6 false e.stream r.sequence 0) []
    | some st => tileHeadCell e.stream r st (min 65535 (s.entryAge e))

/-- The tile sequence of a slot's record. -/
def Slot.sequence (x : Slot) : Half :=
  match x.record with
  | none => 0
  | some r => r.sequence

/-- The number of tile bytes that data cell `i` of a slot's tile carries, 54 but in the last cell (R192). -/
def Slot.bytesIn (x : Slot) (i : Nat) : Nat :=
  match x.record with
  | none => 0
  | some r => min 54 (2 * r.width * r.height - 54 * i)

/-- The front entry, at its next cell: what goes on the line, and the state after it. `read` is what the frame
memory answers for a data cell; of a failing read the tile's bytes go out as found, with the 0s of R192 behind them
(R54, R55, R95, R96). -/
def sendFront (p : TrunkPort) (read : Option (List Byte)) (e : SendEntry) (rest : List SendEntry) (s : State) :
    State × Cell :=
  match e.next with
  | none => (s.withSendList p ({ e with started := true, next := some 0 } :: rest), s.headCell e)
  | some i =>
    let t := match read with
      | none => s
      | some _ => memoryError e.slot s
    let x := t.store.slots[e.slot]
    let bytes := match read with
      | none => tileSlice x.data i
      | some found => padTo 54 (found.take (x.bytesIn i))
    let c := tileDataCell x.damaged e.stream x.sequence i bytes
    if e.cellCount ≤ i + 1 then (releaseEntry e (t.withSendList p rest), c)
    else (t.withSendList p ({ e with next := some (i + 1) } :: rest), c)

/-! ### The arbiter (R93, R104) -/

/-- A cell of the pass-through queue as it leaves: a bad one with its payload as it arrived, a good TILE_HEAD with
its age corrected outside BYPASS, every other unchanged (R115, R125, R190). -/
def State.passLeaves (s : State) (x : PassCell) : Cell :=
  if lowFlag x.cell then sealHeader x.cell
  else if kindOf x.cell = some .tileHead ∧ s.mode ≠ .bypass then
    sealCell (setAge x.cell (correctedAge (ageField x.cell) (s.cellCount - x.arrivedAt)))
  else sealCell x.cell

/-- The share counter of a port, with a value. -/
def State.withShare (p : TrunkPort) (n : Nat) (s : State) : State := s.withTrunk p { s.trunk.get p with share := n }

/-- Take the head cell of the pass-through queue, or none when it is empty. -/
def takePass (p : TrunkPort) (s : State) : State × Option Cell :=
  match (s.trunk.get p).pass with
  | [] => (s, none)
  | x :: rest => (s.withTrunk p { s.trunk.get p with pass := rest }, some (s.passLeaves x))

/-- Give the cell time to the send list (R95): its next cell, with the share counter set to 0; when no entry of it
starts, the cell time goes to the pass-through queue, and the share counter stands. -/
def takeSend (p : TrunkPort) (read : Option (List Byte)) (s : State) : State × Option Cell :=
  let t := settleFront p (s.trunk.get p).sendList.length s
  match (t.trunk.get p).sendList with
  | [] => takePass p t
  | e :: rest =>
    let r := sendFront p read e rest t
    (r.1.withShare p 0, some (sealCell r.2))

/-- The cases of R93 that follow the control queue. -/
def takeShared (p : TrunkPort) (read : Option (List Byte)) (s : State) : State × Option Cell :=
  let t := s.trunk.get p
  if t.sendList.isEmpty then takePass p s
  else if s.tables.nodeParams.share ≤ t.share ∨ t.pass = [] then takeSend p read s
  else takePass p (s.withShare p (t.share + 1))

/-- What a port's transmit side takes in one cell time (R93; R104 in BYPASS). Cells left on the bypass path go first
in every mode (notes/assumptions/10.md). -/
def arbitrate (p : TrunkPort) (read : Option (List Byte)) (s : State) : State × Option Cell :=
  let t := s.trunk.get p
  match t.bypassPath, t.control with
  | c :: rest, _ => (s.withTrunk p { t with bypassPath := rest }, some c)
  | [], c :: rest => (s.withTrunk p { t with control := rest }, some (sealCell c))
  | [], [] => if s.mode = .bypass then takePass p s else takeShared p read s

/-- Put a port's cell on the line, or a FILL; a port that is not UP sends FILL with FAULT and drops the cell (R90). -/
def putOnLine (p : TrunkPort) (c : Option Cell) (s : State) : State :=
  let t := s.trunk.get p
  if t.link = .up then
    match c with
    | none => s.withTrunk p { t with line := fillCell false }
    | some x => countTrunk p .cellsOut (s.withTrunk p { t with line := x })
  else
    let s1 := s.withTrunk p { t with line := fillCell true }
    match c with
    | none => s1
    | some _ => countTrunk p .noLink s1

/-- One cell time at one port (R90, R93, R104). -/
def servePort (p : TrunkPort) (reads : MemoryReads) (s : State) : State :=
  let r := arbitrate p (reads.get p) s
  putOnLine p r.2 r.1

/-- One cell time of the node: the count of cell times rises, and each port is served. Which port is served first
matters only where one hands an entry to the other, and is taken from the tie field. -/
def cellTime (reads : MemoryReads) (s : State) : State :=
  let t := s.withCellCount (s.cellCount + 1)
  if s.swapTies then servePort .a reads (servePort .b reads t) else servePort .b reads (servePort .a reads t)

/-- The next cell time of a port is given to its send list, and its front entry sends its last data cell (R96). -/
def State.entryEnds (s : State) (p : TrunkPort) : Bool :=
  let t := s.trunk.get p
  s.mode != .bypass && t.bypassPath.isEmpty && t.control.isEmpty
    && (t.pass.isEmpty || s.tables.nodeParams.share ≤ t.share) &&
    match t.sendList with
    | [] => false
    | e :: _ => e.started && e.next.any fun i => decide (e.cellCount ≤ i + 1)

/-! ### Meanings -/

/-- SIGNAL_DETECTED (R88). -/
def execSignalDetected (p : TrunkPort) (s : State) : Host.Outcome State Fault Refusal :=
  .next (if (s.trunk.get p).link = .down then moveTrunk p .training s else s)

/-- SIGNAL_LOSS (R88): LINK_LOSSES counts a port that was UP. -/
def execSignalLoss (p : TrunkPort) (s : State) : Host.Outcome State Fault Refusal :=
  .next (match (s.trunk.get p).link with
    | .down => s
    | .training => moveTrunk p .down s
    | .up => moveTrunk p .down (countTrunk p .linkLosses s))

/-- CELL_RECEIVED_TRAINING (R88). -/
def execCellReceivedTraining (p : TrunkPort) (c : Cell) (s : State) : Host.Outcome State Fault Refusal :=
  .next (if (s.trunk.get p).link = .training then trainCell p c s else s)

/-- TRAINING_COMPLETE (R88): the cell in TRAINING with which the good-header run reaches 8. -/
def execTrainingComplete (p : TrunkPort) (c : Cell) (s : State) : Host.Outcome State Fault Refusal :=
  .next (if (s.trunk.get p).link = .training ∧ headerOk c = true ∧ 8 ≤ (s.trunk.get p).goodRun + 1 then trainCell p c s
    else s)

/-- HEADER_FAILURE (R88). -/
def execHeaderFailure (p : TrunkPort) (c : Cell) (s : State) : Host.Outcome State Fault Refusal :=
  .next (if (s.trunk.get p).link = .up ∧ headerOk c = false then failHeader p s else s)

/-- FAILED_HEADER_RUN_FULL (R88): the failing cell with which the failed-header run reaches 4. -/
def execFailedHeaderRunFull (p : TrunkPort) (c : Cell) (s : State) : Host.Outcome State Fault Refusal :=
  .next (if (s.trunk.get p).link = .up ∧ headerOk c = false ∧ 4 ≤ (s.trunk.get p).failedRun + 1 then failHeader p s
    else s)

/-- FILL (R89). -/
def execFill (p : TrunkPort) (c : Cell) (s : State) : Host.Outcome State Fault Refusal :=
  .next (if s.receives p c && kindOf c == some .fill then setFarFault p (lowFlag c) (clearFailedRun p s) else s)

/-- CELL_TIME (R93). -/
def execCellTime (reads : MemoryReads) (s : State) : Host.Outcome State Fault Refusal := .next (cellTime reads s)

/-- SEND_ENTRY_END (R96): the cell time in which the port's front entry sends its last data cell. -/
def execSendEntryEnd (p : TrunkPort) (reads : MemoryReads) (s : State) : Host.Outcome State Fault Refusal :=
  .next (if s.entryEnds p then cellTime reads s else s)

end Sys2Proof.Machine
end

