-- ==== Sys2Proof/Machine/Health.lean ====
section
/-! DEFINITION. The health monitor (chapter 4): the take of a frame, samples, scoring, learning, re-evaluation. -/

namespace Sys2Proof.Machine

/-! ### The record's pieces -/

/-- Every S_z 0, every O_z clear, C 0, unusable-sample run 0 (R60, R82). -/
def Health.wiped (h : Health) : Health :=
  { h with
    zones := Vector.ofFn fun z : ZoneNo => { h.zones[z] with score := 0, obscured := false }
    coverage := 0
    unusableRun := 0 }

/-- The coverage recomputed from the flags and a weight table (R73). -/
def Health.recovered (h : Health) (weights : Vector Nat 192) (p : CamPort) : Health :=
  { h with coverage := coverageOf weights p h.zones }

/-- A rated condition moves once by the table of R74. -/
def Health.moved (h : Health) (e : LensParams) : Health :=
  if h.lens.rated then { h with lens := moveLens e h.coverage h.lens } else h

/-- Every obscured flag judged from its counter (R76, step 1). -/
def Health.rejudged (h : Health) (e : LensParams) : Health :=
  { h with zones := Vector.ofFn fun z : ZoneNo =>
      { h.zones[z] with obscured := judgeFlag e (h.zones[z]).score (h.zones[z]).obscured } }

/-! ### Samples -/

/-- A usable sample, scored (R69 to R74). -/
def Health.scored (h : Health) (e : LensParams) (st : FrameStats) (references : Vector (Option Nat) 192)
    (weights : Vector Nat 192) (p : CamPort) : Health :=
  let lens0 := if h.lens = .unrated then rateFromClean e h.coverage else h.lens
  let zones := Vector.ofFn fun z : ZoneNo =>
    scoreZone e st.mean[z] st.texture[z] references[zoneEntry p z] h.zones[z]
  let c := coverageOf weights p zones
  { h with unusableRun := 0, zones := zones, coverage := c, lens := moveLens e c lens0 }

/-- An unusable sample in a rated condition or UNRATED (R68). -/
def Health.unusable (h : Health) : Health :=
  let run := min 300 (h.unusableRun + 1)
  { h with unusableRun := run, lens := if run = 300 ∧ h.lens.rated = true then .unrated else h.lens }

/-- A usable sample while learning: the scratch and the progress (R81). -/
def Health.learned (h : Health) (e : LensParams) (st : FrameStats) : Health :=
  { h with
    zones := Vector.ofFn fun z : ZoneNo =>
      let x := h.zones[z]
      if e.lit st.mean[z] then
        { x with scratchSum := x.scratchSum + st.texture[z], scratchCount := x.scratchCount + 1 }
      else x
    progress := h.progress + 1 }

/-- The reference a zone has learned (R82). -/
def Zone.reference (x : Zone) : Option Nat :=
  if x.scratchCount = 0 then none else some (x.scratchSum / x.scratchCount)

/-- The REFERENCE table with the 48 entries of a port replaced by what it learned (R82). -/
def learnedTable (references : Vector (Option Nat) 192) (p : CamPort) (zones : Vector Zone 48) :
    Vector (Option Nat) 192 :=
  (List.finRange 48).foldl (fun t z => t.set (zoneEntry p z) (zones[z]).reference) references

/-- Learning completes (R82): the references, the record, LEARN_DONE. -/
def completeLearning (p : CamPort) (s : State) : State :=
  let h := s.health[p]
  let t := s.withTables { s.tables with reference := learnedTable s.tables.reference p h.zones }
  addCause .learnDone p.val false
    (t.withHealth p { h.wiped with lens := .clean, keptAside := none, deadline := none, relearnHold := false })

/-- The lens survey's phase for a port (R186). -/
def State.surveyPhaseOf (s : State) (p : CamPort) : SurveyPhase :=
  if s.survey.port = some p then s.survey.phase else .idle

/-- The sample count after a taken frame, and whether the frame is a sample (R66, R186). -/
def State.sampleCountAfter (s : State) (p : CamPort) : Nat × Bool :=
  let n := (s.health[p]).sampleCount
  match s.surveyPhaseOf p with
  | .skip => (n, false)
  | .burst => (0, true)
  | .idle | .waitLock => if (s.tables.cameraConfig[p]).interval ≤ n + 1 then (0, true) else (n + 1, false)

/-- A frame is usable as a sample of a port (R67). -/
def State.usable (s : State) (p : CamPort) (st : FrameStats) : Bool :=
  (s.health[p]).usable st s.tables.lensParams[p] s.tables.cameraConfig[p] s.vehicle (s.surveyPhaseOf p == .burst)

/-- The health monitor takes a sample, by the lens condition (R66). -/
def takeSample (p : CamPort) (st : FrameStats) (s : State) : State :=
  let h := s.health[p]
  let e := s.tables.lensParams[p]
  match h.lens with
  | .noReference => s
  | .learning =>
    if s.usable p st then
      let t := s.withHealth p (h.learned e st)
      if 32 ≤ h.progress + 1 then completeLearning p t else t
    else s
  | .unrated | .clean | .smeared | .blocked =>
    if s.usable p st then s.withHealth p (h.scored e st s.tables.reference s.tables.weight p)
    else s.withHealth p h.unusable

/-- The health monitor takes a frame (R62): the runs, the picture condition, the sample count and the sample. -/
def takeFrame (p : CamPort) (st : FrameStats) (s : State) : State :=
  let h := s.health[p]
  let t := s.withHealth p (h.runs st (s.tables.lensParams[p]).darkLevel)
  let t := if (t.health[p]).picture = h.picture then t else addCause .pictureChange p.val false t
  let k := t.sampleCountAfter p
  let u := t.withHealth p { t.health[p] with sampleCount := k.1 }
  if k.2 then takeSample p st u else u

/-! ### Lens events (R77, R78) -/

/-- What follows an event that may have left another lens condition than `before`: the pin request of a worsening,
and LENS_CHANGE with its evidence flag (R77, R78). -/
def lensEvent (p : CamPort) (before : LensCondition) (s : State) : State :=
  let h := s.health[p]
  if h.lens = before then s
  else if worsens before h.lens then
    let r := pinRequest (s.cameraId p) h.lens h.coverage s
    addCause .lensChange p.val r.2 r.1
  else addCause .lensChange p.val false s

/-- The re-evaluation after a LENS_PARAMS or WEIGHT write (R76). -/
def reevaluateLens (p : CamPort) (s : State) : State :=
  let e := s.tables.lensParams[p]
  let h := s.health[p]
  lensEvent p h.lens (s.withHealth p (((h.rejudged e).recovered s.tables.weight p).moved e))

/-- The record after a REFERENCE write of a zone, brought into line (R60). -/
def Health.afterReference (h : Health) (z : ZoneNo) (allAbsent : Bool) (e : LensParams) (weights : Vector Nat 192)
    (p : CamPort) : Health :=
  let h1 := { h with zones := h.zones.set z { h.zones[z] with score := 0, obscured := false } }
  if allAbsent then { h1.wiped with lens := .noReference }
  else if h.lens = .noReference then { h1.wiped with lens := .unrated }
  else (h1.recovered weights p).moved e

/-- Every one of a port's 48 references is ABSENT (R60). -/
def Tables.allAbsent (t : Tables) (p : CamPort) : Bool := (List.finRange 48).all fun z => (t.reference[zoneEntry p z]).isNone

/-- Learning starts on a port (R80), with its hold in STANDBY (R184). -/
def startLearning (p : CamPort) (s : State) : State :=
  let h := s.health[p]
  let s1 := s.withHealth p { h with
    lens := .learning
    keptAside := some h.lens
    zones := Vector.ofFn fun z : ZoneNo => { h.zones[z] with scratchSum := 0, scratchCount := 0 }
    progress := 0
    unusableRun := 0
    deadline := some (s.nodeTime + BitVec.ofNat 32 Config.learnTime)
    relearnHold := s.mode == .standby }
  lensEvent p h.lens (releaseAll (s1.store.positionsOf (s.cameraId p)) s1)

/-- The condition kept aside, restored (R83). -/
def Health.restored (h : Health) : LensCondition :=
  match h.keptAside with
  | none => .noReference
  | some c => c

/-- Learning fails at its deadline (R83): the condition kept aside, one move when it is rated, LEARN_FAILED, and the
lens event from LEARNING. -/
def failLearning (p : CamPort) (s : State) : State :=
  let h := s.health[p]
  let h1 : Health := { h with lens := h.restored, keptAside := none, deadline := none, relearnHold := false }
  lensEvent p .learning
    (addCause .learnFailed p.val false (s.withHealth p (h1.moved s.tables.lensParams[p])))

end Sys2Proof.Machine
end

