-- ==== Sys2Proof/Machine/Cameras.lean ====
section
/-! DEFINITION. Camera ports (chapter 1), the tile engine's work at their frames (chapter 2), and the lens survey
that takes them in STANDBY (section 10.3). -/

namespace Sys2Proof.Machine

/-! ### Productions -/

/-- The engine with one production replaced. -/
def State.withProduction (k : PlanNo) (x : Option Production) (s : State) : State :=
  s.withEngine { s.engine with productions := s.engine.productions.set k x }

/-- Abandon a production: its slot goes back, TILE_ABORTED counts it (R32). -/
def abandonProduction (k : PlanNo) (s : State) : State :=
  match s.engine.productions[k] with
  | none => s
  | some pr => countEngine .tileAborted ((s.withProduction k none).giveBack pr.slot)

/-- The accumulators of a port, with values (section 2.2). -/
def State.withSums (p : CamPort) (x : Vector ZoneSums 48) (s : State) : State :=
  s.withEngine { s.engine with sums := s.engine.sums.set p x }

/-- Empty accumulators. -/
def noSums : Vector ZoneSums 48 := Vector.replicate 48 ⟨0, 0⟩

/-- A port's frame ends badly at the engine (R9, R32, R35). -/
def endBadly (p : CamPort) (s : State) : State :=
  (abandonProduction (planOf p 1) (abandonProduction (planOf p 0) s)).withSums p noSums

/-! ### Link states (R3 to R10) -/

/-- A span in 0.1 ms units, added to node time. -/
def State.after (s : State) (units : Nat) : NodeTime := s.nodeTime + BitVec.ofNat 32 units

/-- The port after a change of link state: its one timer, in TESTING the end of the probe's 30 ms (R15), no open frame,
index and previous number cleared (R3 to R10, R14). R5 does not say what becomes of a frame open in WAKING when the lock
timer expires: it is dropped, uncounted, the model's choice (notes/assumptions/26.md). -/
def CameraPort.entering (c : CameraPort) (new : CameraLink) (s : State) : CameraPort :=
  { c with
    link := new
    lockTimer := if new = .waking then some (s.after Config.lockTime) else none
    stallTimer := if new = .locked then some (s.after Config.stallTime) else none
    retryTimer := if new = .lost then some (s.after Config.retryTime) else none
    probeLimit := if new = .testing then some (s.after Config.probeTime) else none
    openFrame := none
    frameIndex := 0
    prevNumber := none }

/-- The health record after its port's change of link state (R61). -/
def Health.afterLink (h : Health) (old new : CameraLink) : Health :=
  if new = .locked then
    { h with picture := .live, sameRun := 0, darkRun := 0, prevSignature := none, sampleCount := 0 }
  else if old = .locked then { h with picture := .noSignal, sameRun := 0, darkRun := 0, prevSignature := none }
  else h

/-- A change of a port's link state: an open frame delivered to the engine ends badly, the health monitor is told,
and the causes are added; `extra` are causes that fall together with them (R9, R10, R61). With no frame open the
accumulators of a port that leaves LOCKED are emptied too, the model's choice (R35, notes/assumptions/27.md). -/
def moveLink (p : CamPort) (new : CameraLink) (extra : List (CauseKind × Nat)) (s : State) : State :=
  let old := (s.cams[p]).link
  let s1 := if old = .locked then endBadly p s else s
  let h := s.health[p]
  let h1 := h.afterLink old new
  let s2 := (s1.withCam p ((s1.cams[p]).entering new s)).withHealth p h1
  addTogether (extra ++ [(.cameraLink, p.val)] ++ if h1.picture = h.picture then [] else [(.pictureChange, p.val)]) s2

/-- Power demand is re-evaluated (R2, R3): a rise takes OFF to WAKING, a fall takes a powered port to OFF. -/
def reevaluateDemand (p : CamPort) (s : State) : State :=
  match (s.cams[p]).link with
  | .off => if s.demand p then moveLink p .waking [] s else s
  | .waking | .locked | .lost => if s.demand p then s else moveLink p .off [] s
  | .testing | .powerFault => s

/-! ### The lens survey (R185 to R188) -/

/-- The survey takes the first member port of a list that is neither in POWER_FAULT nor TESTING; with none it is
over (R186). -/
def surveyTake : List CamPort → State → State
  | [], s => s.withSurvey { s.survey with phase := .idle, port := none, count := 0 }
  | p :: ps, s =>
    if (s.tables.cameraConfig[p]).surveyMember then
      match (s.cams[p]).link with
      | .powerFault | .testing => surveyTake ps s
      | .locked => reevaluateDemand p (s.withSurvey { s.survey with phase := .skip, port := some p, count := 0 })
      | .off | .waking | .lost =>
        reevaluateDemand p (s.withSurvey { s.survey with phase := .waitLock, port := some p, count := 0 })
    else surveyTake ps s

/-- The ports above one. -/
def portsAbove (p : CamPort) : List CamPort := (List.finRange 4).filter fun q => decide (p < q)

/-- The survey leaves its port, and takes the next (R186). -/
def surveyLeave (p : CamPort) (s : State) : State :=
  surveyTake (portsAbove p) (reevaluateDemand p (s.withSurvey { s.survey with port := none }))

/-- The survey learns of its port's new link state (R186, R187). -/
def surveyReacts (p : CamPort) (s : State) : State :=
  if s.survey.port = some p then
    match (s.cams[p]).link with
    | .locked =>
      if s.survey.phase = .waitLock then s.withSurvey { s.survey with phase := .skip, count := 0 } else s
    | .waking => s
    | .off | .lost | .testing | .powerFault => surveyLeave p s
  else s

/-- A change of link state, with the survey's answer to it. -/
def changeLink (p : CamPort) (new : CameraLink) (extra : List (CauseKind × Nat)) (s : State) : State :=
  surveyReacts p (moveLink p new extra s)

/-- The survey counts a frame taken from its port (R186). -/
def surveyCount (p : CamPort) (s : State) : State :=
  match s.surveyPhaseOf p with
  | .idle | .waitLock => s
  | .skip =>
    if 8 ≤ s.survey.count + 1 then s.withSurvey { s.survey with phase := .burst, count := 0 }
    else s.withSurvey { s.survey with count := s.survey.count + 1 }
  | .burst =>
    if 16 ≤ s.survey.count + 1 then surveyLeave p s
    else s.withSurvey { s.survey with count := s.survey.count + 1 }

/-- The survey interval as a span from a node time; none when it is 0 (R185). -/
def State.surveyDue (s : State) (t : NodeTime) : Option NodeTime :=
  if s.tables.nodeParams.surveyInterval = 0 then none
  else some (t + millis (60000 * s.tables.nodeParams.surveyInterval))

/-- A survey starts (R185). -/
def startSurvey (s : State) : State :=
  surveyTake (List.finRange 4) (s.withSurvey { s.survey with due := s.surveyDue s.nodeTime })

/-! ### Frame starts (R4, R6, R11, R12, R23 to R25) -/

/-- The partial record of a tile being begun (R25, R40). -/
def partialRecord (plan : TilePlan) (seq : Half) (frame : Half) : TileRecord :=
  ⟨plan.stream, seq, plan.outW, plan.outH, plan.mirror, frame, none⟩

/-- Tests 1 to 5 of R23 on an entry copy. -/
def State.wantsTile (s : State) (plan : TilePlan) (f : OpenFrame) : Bool :=
  s.mode == .run && plan.enabled && (plan.localUse || plan.send) && !f.isRepeat && f.index % plan.divisor == 0

/-- Test 6 of R23. -/
def TilePlan.fits (plan : TilePlan) (f : OpenFrame) : Bool := plan.outW ≤ f.width && plan.outH ≤ f.height

/-- A rendition decides at a delivered frame start (R23 to R25). -/
def beginTile (p : CamPort) (rendition : Fin 2) (f : OpenFrame) (s : State) : State :=
  let k := planOf p rendition
  let plan := s.tables.tilePlan[k]
  if s.wantsTile plan f then
    if plan.fits f then
      let seq := s.engine.sequences[k]
      match s.store.allocate (.production k) (partialRecord plan seq f.record.number) with
      | none => countEngine .slotShort s
      | some (i, st) =>
        (s.withStore st).withEngine { s.engine with
          sequences := s.engine.sequences.set k (seq + 1)
          productions := s.engine.productions.set k (some ⟨i, plan, clipCrop plan f.width f.height⟩) }
    else countEngine .tileSkipped s
  else s

/-- The frame a port opens in LOCKED, with what is delivered with it (R6, R11). -/
def CameraPort.deliver (c : CameraPort) (h : FrameHead) : OpenFrame :=
  ⟨h.record, h.width, h.height, c.prevNumber == some h.record.number, c.frameIndex⟩

/-- A frame that passes its check starts in LOCKED (R4, R6, R12, R35, R23). -/
def deliverStart (p : CamPort) (h : FrameHead) (s : State) : State :=
  let f := (s.cams[p]).deliver h
  let s1 := s.withCam p { s.cams[p] with lastRecord := some h.record, openFrame := some f }
  let s2 := if h.record.sensorFault then countCam p .sensorFaultFrames s1 else s1
  beginTile p 1 f (beginTile p 0 f (s2.withSums p noSums))

/-- A frame that passes its check starts in WAKING: it is kept, and not delivered (R4, R5). -/
def openWaking (p : CamPort) (h : FrameHead) (s : State) : State :=
  s.withCam p { s.cams[p] with
    lastRecord := some h.record, openFrame := some ⟨h.record, h.width, h.height, false, 0⟩ }

/-- A frame fails its check or is truncated: FRAME_ERRORS, and in LOCKED the port goes to LOST (R4, R5, R6). -/
def failFrame (p : CamPort) (s : State) : State :=
  let s1 := countCam p .frameErrors s
  if (s.cams[p]).link = .locked then changeLink p .lost [] s1
  else s1.withCam p { s1.cams[p] with openFrame := none }

/-- Frames are received in WAKING and LOCKED only (section 1.3). -/
def CameraPort.listens (c : CameraPort) : Bool := c.link == .waking || c.link == .locked

/-- A frame start is taken in the port's state as it stands (R4 to R7). -/
def takeFrameStart (p : CamPort) (h : FrameHead) (s : State) : State :=
  match (s.cams[p]).link with
  | .locked => if FrameHead.passes h then deliverStart p h s else failFrame p s
  | .waking => if FrameHead.passes h then openWaking p h s else failFrame p s
  | .off | .lost | .testing | .powerFault => s

/-! ### Frame ends (R5, R6, R11, R30, R31, R62) -/

/-- The port after a good frame end in LOCKED (R6, R11). -/
def CameraPort.ended (c : CameraPort) (f : OpenFrame) (s : State) : CameraPort :=
  { c with
    stallTimer := some (s.after Config.stallTime)
    openFrame := none
    frameIndex := if f.isRepeat then c.frameIndex else (c.frameIndex + 1) % 12
    prevNumber := some f.record.number }

/-- The port's part of a good frame end in LOCKED, with its counters (R6, R11). -/
def endGood (p : CamPort) (f : OpenFrame) (s : State) : State :=
  let s1 := countCam p .framesIn (s.withCam p ((s.cams[p]).ended f s))
  if f.isRepeat then countCam p .framesRepeated s1 else s1

/-- What a completed local tile's record gets (R30). -/
def State.stampFor (s : State) (p : CamPort) (rendition : Fin 2) : Stamp where
  view := viewOf (s.cameraId p) rendition.val
  base := .captured s.nodeTime
  picture := (s.health[p]).picture
  lens := (s.health[p]).lens
  coverage := (s.health[p]).coverage

/-- Complete and publish the tile of a rendition, and place its send requests (R30, R31, R36). -/
def completeTile (p : CamPort) (rendition : Fin 2) (pic : Picture) (s : State) : State :=
  let k := planOf p rendition
  match s.engine.productions[k] with
  | none => s
  | some pr =>
    let x := s.stampFor p rendition
    let s1 := s.withStore (s.store.complete pr.slot x (makeTile pic pr.plan pr.crop))
    let s2 := countEngine .tilesMade (publishTile pr.slot x.view (s1.withProduction k none))
    if pr.plan.send then placeRequests pr.slot pr.plan.stream s2 else s2

/-- A good frame end in LOCKED, whole (R6, R30, R62): the port, the statistics, the take, the tiles, the pin request
with LENS_CHANGE, the survey's count, and the power demand when a relearn hold ended. -/
def goodEnd (p : CamPort) (f : OpenFrame) (pic : Picture) (s : State) : State :=
  let before := s.health[p]
  let sums := gather pic.luma f.width f.height
  let s1 := (endGood p f s).withSums p sums
  let s2 := takeFrame p (frameStats f sums) s1
  let s3 := completeTile p 1 pic (completeTile p 0 pic s2)
  let s4 := lensEvent p before.lens s3
  let s5 := surveyCount p s4
  if before.relearnHold && !(s5.health[p]).relearnHold then reevaluateDemand p s5 else s5

/-- The first good frame end in WAKING: the port goes to LOCKED, and the frame is not delivered (R5). -/
def lockPort (p : CamPort) (f : OpenFrame) (s : State) : State :=
  let s1 := moveLink p .locked [] s
  surveyReacts p (s1.withCam p { s1.cams[p] with prevNumber := some f.record.number })

/-- A frame end arrives (R4 to R7): with no open frame it is ignored. -/
def frameEnd (p : CamPort) (pic : Picture) (s : State) : State :=
  match (s.cams[p]).openFrame with
  | none => s
  | some f =>
    if (s.cams[p]).listens then
      if f.goodWith pic then (if (s.cams[p]).link = .locked then goodEnd p f pic s else lockPort p f s)
      else failFrame p s
    else s

/-! ### What a frame end will bring: the triggers of the rows that name a threshold -/

/-- A frame end is taken by the health monitor with these statistics (R62). -/
def State.taken (s : State) (p : CamPort) (pic : Picture) : Option FrameStats :=
  match (s.cams[p]).openFrame with
  | none => none
  | some f =>
    if (s.cams[p]).link = .locked ∧ f.goodWith pic = true then some (frameStats f (gather pic.luma f.width f.height))
    else none

/-- The record after the runs of a taken frame (R63 to R65). -/
def State.runsAfter (s : State) (p : CamPort) (st : FrameStats) : Health :=
  (s.health[p]).runs st (s.tables.lensParams[p]).darkLevel

/-- A taken frame is a sample (R66). -/
def State.samples (s : State) (p : CamPort) : Bool := (s.sampleCountAfter p).2

/-- A taken frame is usable, judged with the picture condition it sets itself (R67). -/
def State.usableAfter (s : State) (p : CamPort) (st : FrameStats) : Bool :=
  (s.runsAfter p st).usable st s.tables.lensParams[p] s.tables.cameraConfig[p] s.vehicle (s.surveyPhaseOf p == .burst)

/-- A frame end at which something comes about: the whole frame end when the test holds, else nothing. -/
def frameEndIf (p : CamPort) (pic : Picture) (test : FrameStats → Bool) (s : State) : State :=
  match s.taken p pic with
  | none => s
  | some st => if test st then frameEnd p pic s else s

/-! ### Timers, the switch and the probe -/

/-- A port goes back from LOST to WAKING (R7). -/
def retryPort (p : CamPort) (s : State) : State := changeLink p .waking [] (countCam p .lockRetries s)

/-- The switch trips (R10). -/
def trip (p : CamPort) (s : State) : State :=
  changeLink p .powerFault [(.powerFault, p.val)] (countCam p .powerTrips s)

/-- A cable check starts (R14). -/
def startCheck (p : CamPort) (s : State) : State :=
  let fault := decide ((s.cams[p]).link = .powerFault)
  changeLink p .testing [] (s.withCam p { s.cams[p] with faultKept := fault })

/-- The result record of a probe: a distance only for the outcomes that have one, held at 120 m (R15). -/
def ProbeFinding.result (f : ProbeFinding) : CableResult :=
  match f.outcome with
  | .normal | .inconclusive => ⟨f.outcome, none⟩
  | .openCable | .short | .impedanceFault => ⟨f.outcome, f.distance.map (min 120)⟩

/-- The 30 ms of a port's probe are past: node time is behind the last moment at which the probe can find anything
(R15). -/
def State.probeLate (s : State) (p : CamPort) : Bool := due s.nodeTime ((s.cams[p]).probeLimit.map (· + 1))

/-- What a probe that ends now has found: within its 30 ms what the line showed, behind them INCONCLUSIVE (R15,
notes/assumptions/22.md). -/
def State.found (s : State) (p : CamPort) (f : ProbeFinding) : ProbeFinding :=
  if s.probeLate p then ⟨.inconclusive, none⟩ else f

/-- The link state a port goes to when its probe ends (R16). -/
def State.afterCheck (s : State) (p : CamPort) : CameraLink :=
  if (s.cams[p]).faultKept then .powerFault else if s.demand p then .waking else .off

/-- The probe ends (R16). -/
def endCheck (p : CamPort) (f : ProbeFinding) (s : State) : State :=
  let new := s.afterCheck p
  let s1 := addCause .cableDone p.val false
    (s.withCam p { s.cams[p] with cableResult := some (ProbeFinding.result (s.found p f)), faultKept := false })
  changeLink p new [] s1

/-- A port takes a write of its CAMERA_CONFIG entry (R8). -/
def cameraTakes (p : CamPort) (s : State) : State :=
  match (s.cams[p]).link with
  | .off | .waking | .locked | .lost => reevaluateDemand p s
  | .testing => s.withCam p { s.cams[p] with faultKept := false }
  | .powerFault => changeLink p (if s.demand p then .waking else .off) [] s

/-! ### Meanings -/

/-- FRAME_START (R4 to R7): a frame still open is truncated first, and the start is taken in the port's new state. -/
def execFrameStart (p : CamPort) (h : FrameHead) (s : State) : Host.Outcome State Fault Refusal :=
  .next (takeFrameStart p h
    (if (s.cams[p]).openFrame.isSome && (s.cams[p]).listens then failFrame p s else s))

/-- FRAME_END (R4 to R7, R30, R62). -/
def execFrameEnd (p : CamPort) (pic : Picture) (s : State) : Host.Outcome State Fault Refusal := .next (frameEnd p pic s)

/-- SHORT_LINE (R4): the open frame is truncated at this line. -/
def execShortLine (p : CamPort) (s : State) : Host.Outcome State Fault Refusal :=
  .next (if (s.cams[p]).openFrame.isSome && (s.cams[p]).listens then failFrame p s else s)

/-- LOCK_TIMER_EXPIRY (R5). -/
def execLockTimerExpiry (p : CamPort) (s : State) : Host.Outcome State Fault Refusal :=
  .next (if (s.cams[p]).link = .waking ∧ due s.nodeTime (s.cams[p]).lockTimer = true then changeLink p .lost [] s else s)

/-- STALL_TIMER_EXPIRY (R6). -/
def execStallTimerExpiry (p : CamPort) (s : State) : Host.Outcome State Fault Refusal :=
  .next (if (s.cams[p]).link = .locked ∧ due s.nodeTime (s.cams[p]).stallTimer = true then changeLink p .lost [] s else s)

/-- RETRY_TIMER_EXPIRY (R7). -/
def execRetryTimerExpiry (p : CamPort) (s : State) : Host.Outcome State Fault Refusal :=
  .next (if (s.cams[p]).link = .lost ∧ due s.nodeTime (s.cams[p]).retryTimer = true then retryPort p s else s)

/-- OVERCURRENT_TRIP (R10): only while power is ON. -/
def execOvercurrentTrip (p : CamPort) (s : State) : Host.Outcome State Fault Refusal :=
  .next (if (s.cams[p]).power then trip p s else s)

/-- PROBE_END (R15, R16): only while a check runs. -/
def execProbeEnd (p : CamPort) (f : ProbeFinding) (s : State) : Host.Outcome State Fault Refusal :=
  .next (if (s.cams[p]).link = .testing then endCheck p f s else s)

/-- SAME_FRAME_RUN_FULL (R65): the frame end with which the same-frame run reaches 25. -/
def execSameFrameRunFull (p : CamPort) (pic : Picture) (s : State) : Host.Outcome State Fault Refusal :=
  .next (frameEndIf p pic (fun st => decide ((s.health[p]).sameRun < 25 ∧ (s.runsAfter p st).sameRun = 25)) s)

/-- DARK_RUN_FULL (R64, R65): the frame end with which the dark run reaches 10. -/
def execDarkRunFull (p : CamPort) (pic : Picture) (s : State) : Host.Outcome State Fault Refusal :=
  .next (frameEndIf p pic (fun st => decide ((s.health[p]).darkRun < 10 ∧ (s.runsAfter p st).darkRun = 10)) s)

/-- SAMPLE (R66): the frame end whose frame is a sample. -/
def execSample (p : CamPort) (pic : Picture) (s : State) : Host.Outcome State Fault Refusal :=
  .next (frameEndIf p pic (fun _ => s.samples p) s)

/-- UNUSABLE_RUN_FULL (R68): the frame end whose sample brings the unusable-sample run to 300. -/
def execUnusableRunFull (p : CamPort) (pic : Picture) (s : State) : Host.Outcome State Fault Refusal :=
  .next (frameEndIf p pic (fun st => s.samples p && (s.health[p]).unusableRun == 299 && !s.usableAfter p st
    && ((s.health[p]).lens.rated || (s.health[p]).lens == .unrated)) s)

/-- LEARNING_COMPLETE (R82): the frame end whose usable sample brings the learning progress to 32. -/
def execLearningComplete (p : CamPort) (pic : Picture) (s : State) : Host.Outcome State Fault Refusal :=
  .next (frameEndIf p pic (fun st => s.samples p && (s.health[p]).lens == .learning && s.usableAfter p st
    && 32 ≤ (s.health[p]).progress + 1) s)

/-- LEARNING_DEADLINE (R83); a relearn hold ends with the learning (R184). -/
def execLearningDeadline (p : CamPort) (s : State) : Host.Outcome State Fault Refusal :=
  .next (if (s.health[p]).lens = .learning ∧ due s.nodeTime (s.health[p]).deadline = true then
      (if (s.health[p]).relearnHold then reevaluateDemand p (failLearning p s) else failLearning p s)
    else s)

/-- SURVEY_START (R185). -/
def execSurveyStart (s : State) : Host.Outcome State Fault Refusal :=
  .next (if s.mode = .standby ∧ s.survey.phase = .idle ∧ due s.nodeTime s.survey.due = true then startSurvey s else s)

/-- SURVEY_SKIP_DONE (R186): the frame end with which the SKIP count reaches 8. -/
def execSurveySkipDone (p : CamPort) (pic : Picture) (s : State) : Host.Outcome State Fault Refusal :=
  .next (frameEndIf p pic (fun _ => s.surveyPhaseOf p == .skip && 8 ≤ s.survey.count + 1) s)

/-- SURVEY_BURST_DONE (R186): the frame end with which the BURST count reaches 16. -/
def execSurveyBurstDone (p : CamPort) (pic : Picture) (s : State) : Host.Outcome State Fault Refusal :=
  .next (frameEndIf p pic (fun _ => s.surveyPhaseOf p == .burst && 16 ≤ s.survey.count + 1) s)

end Sys2Proof.Machine
end

