-- ==== Sys2Proof/Machine/Router.lean ====
section
/-! DEFINITION. The router and the reassembly contexts (chapter 6), and the arrival of every kind of cell. -/

namespace Sys2Proof.Machine

/-! ### Control cells (R112) -/

/-- Place an arriving cell in the control queue of the port opposite its arrival port (R112). -/
def passOn (p : TrunkPort) (c : Cell) (s : State) : State := placeControl p.other c s

/-- A cell whose payload fails is counted (R112, R115). -/
def countPayload (c : Cell) (s : State) : State := if payloadOk c then s else countRouter .payloadError s

/-- A COMMAND handed to the management agent joins its queue, or is answered OVERFLOW at once (R165). -/
def queueCommand (p : TrunkPort) (c : Cell) (s : State) : State :=
  if s.agent.queue.length < Config.commandCapacity then
    s.withAgent { s.agent with queue := s.agent.queue ++ [⟨p, c⟩] }
  else replyStatus ⟨p, c⟩ .overflow s

/-- A COMMAND is for this node: addressed to it, or to all nodes (R112). -/
def State.addressed (s : State) (c : Cell) : Bool := commandDestination c == s.nodeNumber || commandDestination c == 15

/-- A BEACON that passed its payload check; one whose head is no node is taken by no orientation logic (R191). -/
def routeBeacon (p : TrunkPort) (c : Cell) (s : State) : State :=
  match beaconHead c with
  | none => s
  | some h => takeBeacon p h (beaconHops c) s

/-- A STATE that passed its payload check (R102, R112, R127). -/
def routeState (p : TrunkPort) (c : Cell) (s : State) : State :=
  passOn p c (takeState (payloadOf c) (setControllerSide p s))

/-- A COMMAND that passed its payload check (R102, R112, R165): passed on unless it is for this node alone, and queued
when it is for this node. -/
def routeCommand (p : TrunkPort) (c : Cell) (s : State) : State :=
  let t := setControllerSide p s
  let u := if commandDestination c = s.nodeNumber then t else passOn p c t
  if s.addressed c then queueCommand p c u else u

/-- A cell of a kind arrives for the router: the port is UP, the header matches, and the mode is not BYPASS (R89, R112). -/
def State.routes (s : State) (p : TrunkPort) (c : Cell) (k : Option CellKind) : Bool :=
  s.receives p c && s.mode != .bypass && kindOf c == k

/-- A control cell is handed on; its payload is tested first (R89, R112). -/
def takeControl (p : TrunkPort) (c : Cell) (act : State → State) (s : State) : State :=
  let t := handOn p s
  if payloadOk c then act t else countRouter .payloadError t

/-! ### Tile cells: the forward part (R113 to R115) -/

/-- A tile cell is bad: its payload fails, or it arrived damaged (R115). -/
def badTile (c : Cell) : Bool := !payloadOk c || lowFlag c

/-- A tile cell joins a pass-through queue, or is dropped there (R92). A bad one carries its damaged flag (R115). -/
def joinPass (p : TrunkPort) (c : Cell) (s : State) : State :=
  let t := s.trunk.get p
  if t.pass.length < Config.passCapacity then
    s.withTrunk p { t with pass := t.pass ++ [⟨if badTile c then setDamaged c else c, s.cellCount⟩] }
  else countTrunk p .passOverflow s

/-- A tile cell is consumed (R113). -/
def State.consumes (s : State) (c : Cell) : Bool := s.mode == .run && s.tables.routeConsume (streamOf c)

/-- The forward part of a tile cell's action (R113, R114). -/
def forwardTile (p : TrunkPort) (c : Cell) (s : State) : State :=
  match s.forwardRoute p (streamOf c) with
  | .to q => joinPass q c s
  | .stop none => s
  | .stop (some k) => if s.consumes c then s else countRouter k s

/-! ### Reassembly (R116 to R121) -/

/-- The router with one context replaced. -/
def State.withContext (k : ContextNo) (x : Option Context) (s : State) : State :=
  s.withRouter { s.router with contexts := s.router.contexts.set k x }

/-- The context open for a stream. -/
def Router.contextOf (r : Router) (sid : StreamId) : Option ContextNo :=
  (List.finRange 16).find? fun k =>
    match r.contexts[k] with
    | none => false
    | some x => x.stream == sid

/-- The lowest-numbered closed context. -/
def Router.closedContext (r : Router) : Option ContextNo := (List.finRange 16).find? fun k => (r.contexts[k]).isNone

/-- Abandon an open context: its slot goes back, it closes, and a counter counts it (R117, R120 to R122). -/
def abandonContext (k : ContextNo) (counter : RouterCounter) (s : State) : State :=
  match s.router.contexts[k] with
  | none => s
  | some x => countRouter counter ((s.withContext k none).giveBack x.slot)

/-- The context of a stream, abandoned as a new head of the stream is taken (R117, R118). -/
def breakStream (sid : StreamId) (s : State) : State :=
  match s.router.contextOf sid with
  | none => s
  | some k => abandonContext k .tileBroken s

/-- The partial record of a tile being rebuilt (R40). -/
def TileHeadFields.record (f : TileHeadFields) (sid : StreamId) (t : NodeTime) : TileRecord :=
  ⟨sid, f.sequence, f.width, f.height, f.mirror, f.captureFrame,
    some ⟨f.view, .arrived f.age t, f.picture, f.lens, f.coverage⟩⟩

/-- The context a TILE_HEAD opens (R117). -/
def State.contextFrom (s : State) (f : TileHeadFields) (sid : StreamId) (slot : SlotNo) : Context where
  stream := sid
  view := f.view
  sequence := f.sequence
  width := f.width
  height := f.height
  cellCount := f.cellCount
  next := 0
  slot := slot
  headArrival := s.nodeTime
  arrivedAge := f.age
  picture := f.picture
  lens := f.lens
  coverage := f.coverage
  expiry := s.nodeTime + millis s.tables.nodeParams.contextTimeout
  damaged := false

/-- A valid consumed TILE_HEAD (R117). -/
def openContext (f : TileHeadFields) (sid : StreamId) (s : State) : State :=
  let t := breakStream sid s
  match t.router.closedContext with
  | none => countRouter .contextFull t
  | some k =>
    match t.store.allocate (.context k) (f.record sid t.nodeTime) with
    | none => countRouter .slotShort t
    | some (i, st) => (t.withStore st).withContext k (some (t.contextFrom f sid i))

/-- A consumed TILE_HEAD (R117, R118). -/
def consumeHead (c : Cell) (s : State) : State :=
  match readTileHead c with
  | some f => openContext f (streamOf c) s
  | none => breakStream (streamOf c) (countRouter .badTileHead s)

/-- A context ends (R120): undamaged it publishes its slot, damaged it gives it back. -/
def endContext (k : ContextNo) (x : Context) (damaged : Bool) (s : State) : State :=
  if damaged then abandonContext k .tileBroken s
  else countRouter .tilesIn (publishTile x.slot x.view (s.withContext k none))

/-- A data cell is the next of its context (R119). -/
def Context.matches (x : Context) (c : Cell) : Bool := byteAt c 3 == x.sequence.extractLsb' 0 8 && indexOf c == x.next

/-- The tile bytes of a data cell, without the padding of the last (R119, R192). -/
def Context.bytesOf (x : Context) (c : Cell) : List Byte :=
  (payloadOf c).take (2 * x.width * x.height - 54 * x.next)

/-- The context after a data cell (R119). -/
def Context.taking (x : Context) (c : Cell) : Context :=
  if x.matches c then { x with next := x.next + 1, damaged := x.damaged || badTile c } else { x with damaged := true }

/-- A data cell ends its context (R119, R120). -/
def Context.endsWith (x : Context) (c : Cell) : Bool :=
  if x.matches c then decide (x.cellCount ≤ x.next + 1) else decide (x.cellCount ≤ indexOf c + 1)

/-- A data cell taken by an open context (R119, R120). -/
def takeData (k : ContextNo) (x : Context) (c : Cell) (s : State) : State :=
  let y := x.taking c
  let t := if x.matches c then s.withStore (s.store.writeBytes x.slot (x.bytesOf c)) else s
  let u := t.withContext k (some y)
  if x.endsWith c then endContext k y y.damaged u else u

/-- A consumed TILE_DATA (R119). -/
def consumeData (c : Cell) (s : State) : State :=
  match s.router.contextOf (streamOf c) with
  | none => countRouter .orphanCell s
  | some k =>
    match s.router.contexts[k] with
    | none => s
    | some x => takeData k x c s

/-- A tile cell, whole: handed on, its payload counted, its forward part and its consume part (R89, R113, R115). -/
def takeTile (p : TrunkPort) (c : Cell) (consume : State → State) (s : State) : State :=
  let t := forwardTile p c (countPayload c (handOn p s))
  if s.consumes c then consume t else t

/-- A TILE_DATA ends the open context of its stream (R120). -/
def State.endsContext (s : State) (c : Cell) : Bool :=
  s.consumes c &&
    match s.router.contextOf (streamOf c) with
    | none => false
    | some k => (s.router.contexts[k]).any fun x => x.endsWith c

/-! ### BYPASS (R104) -/

/-- A cell takes the bypass path of the other port, unchanged (R104). -/
def joinBypass (p : TrunkPort) (c : Cell) (s : State) : State :=
  let t := s.trunk.get p.other
  s.withTrunk p.other { t with bypassPath := t.bypassPath ++ [c] }

/-- What BYPASS does with a cell of a kind beside passing it (R104). -/
def bypassActs (p : TrunkPort) (c : Cell) (s : State) : State :=
  match kindOf c with
  | some .state => if payloadOk c then setControllerSide p s else countRouter .payloadError s
  | some .command =>
    if payloadOk c then
      let t := setControllerSide p s
      if s.addressed c then queueCommand p c t else t
    else countRouter .payloadError s
  | _ => s

/-! ### Meanings -/

/-- BEACON (R99, R100). -/
def execBeacon (p : TrunkPort) (c : Cell) (s : State) : Host.Outcome State Fault Refusal :=
  .next (if s.routes p c (some .beacon) then takeControl p c (routeBeacon p c) s else s)

/-- STATE (R127). -/
def execState (p : TrunkPort) (c : Cell) (s : State) : Host.Outcome State Fault Refusal :=
  .next (if s.routes p c (some .state) then takeControl p c (routeState p c) s else s)

/-- COMMAND (R165). -/
def execCommand (p : TrunkPort) (c : Cell) (s : State) : Host.Outcome State Fault Refusal :=
  .next (if s.routes p c (some .command) then takeControl p c (routeCommand p c) s else s)

/-- PASS_REPLY_NOTICE (R112). -/
def execPassReplyNotice (p : TrunkPort) (c : Cell) (s : State) : Host.Outcome State Fault Refusal :=
  .next (if s.routes p c (some .reply) || s.routes p c (some .notice) then takeControl p c (passOn p c) s else s)

/-- BAD_KIND (R112): discarded; a failing payload is counted as well. -/
def execBadKind (p : TrunkPort) (c : Cell) (s : State) : Host.Outcome State Fault Refusal :=
  .next (if s.routes p c none then countPayload c (countRouter .badKind (handOn p s)) else s)

/-- TILE_HEAD (R113 to R118). -/
def execTileHead (p : TrunkPort) (c : Cell) (s : State) : Host.Outcome State Fault Refusal :=
  .next (if s.routes p c (some .tileHead) then takeTile p c (consumeHead c) s else s)

/-- TILE_DATA (R113 to R115, R119). -/
def execTileData (p : TrunkPort) (c : Cell) (s : State) : Host.Outcome State Fault Refusal :=
  .next (if s.routes p c (some .tileData) then takeTile p c (consumeData c) s else s)

/-- CONTEXT_END (R120): the TILE_DATA with which the open context of its stream ends. -/
def execContextEnd (p : TrunkPort) (c : Cell) (s : State) : Host.Outcome State Fault Refusal :=
  .next (if s.routes p c (some .tileData) && s.endsContext c then takeTile p c (consumeData c) s else s)

/-- CONTEXT_EXPIRY (R121). -/
def execContextExpiry (k : ContextNo) (s : State) : Host.Outcome State Fault Refusal :=
  .next (if due s.nodeTime ((s.router.contexts[k]).map (·.expiry)) then abandonContext k .tileTimeout s else s)

/-- BYPASS_PASS (R104): any cell but FILL that arrives in UP with its header matching, in BYPASS. -/
def execBypassPass (p : TrunkPort) (c : Cell) (s : State) : Host.Outcome State Fault Refusal :=
  .next (if s.receives p c && s.mode == .bypass && kindOf c != some .fill then
      bypassActs p c (joinBypass p c (handOn p s))
    else s)

end Sys2Proof.Machine
end

