-- ==== Sys2Proof/Machine/Modes.lean ====
section
/-! DEFINITION. The node mode and its changes, the CAB_ACTIVE line, the resets (chapter 10), and the state RESTART
leaves. -/

namespace Sys2Proof.Machine

/-! ### Leaving RUN (R56, R182) -/

/-- Every production is abandoned (R32). -/
def abandonProductions (s : State) : State := (List.finRange 8).foldl (fun t k => abandonProduction k t) s

/-- Every open context is abandoned (R122). -/
def abandonContexts (s : State) : State := (List.finRange 16).foldl (fun t k => abandonContext k .tileBroken t) s

/-- Every send entry of both ports is removed, and the share counters are 0 (R105). -/
def clearSends (s : State) : State :=
  ((removeEntries .b (fun _ => true) (removeEntries .a (fun _ => true) s)).withShare .a 0).withShare .b 0

/-- The work of RUN stops; composing stops with the candidacy (R56, R147). -/
def stopRun (s : State) : State := clearSends (abandonContexts (abandonProductions s))

/-! ### Entering and leaving (R182, R184, R188) -/

/-- A running survey ends, and its schedule with it (R188). -/
def endSurvey (s : State) : State := s.withSurvey Survey.reset

/-- A relearn hold ends without ending its learning (R184). -/
def dropHold (p : CamPort) (s : State) : State := s.withHealth p { s.health[p] with relearnHold := false }

/-- Something for each camera port, in ascending order: where the four ports add their causes in one step, neither R174
nor R182 fixes which joins first, and the ascending order is the model's choice (notes/assumptions/4.md). -/
def eachPort (f : CamPort → State → State) (s : State) : State := (List.finRange 4).foldl (fun t p => f p t) s

/-- An entry is a fetch. -/
def SendEntry.isFetch (e : SendEntry) : Bool := e.kind != .tile

/-- BYPASS is entered: fetch entries are removed, relearn holds end (R53, R105, R184). -/
def enterBypass (s : State) : State :=
  eachPort dropHold (removeEntries .b SendEntry.isFetch (removeEntries .a SendEntry.isFetch s))

/-- What a mode does as it is entered, beside orientation and power demand. -/
def enterMode (m : Mode) (s : State) : State :=
  match m with
  | .run => s
  | .standby => s.withSurvey { s.survey with due := s.surveyDue s.nodeTime }
  | .bypass => enterBypass s

/-- What a mode does as it is left, beside orientation and power demand. -/
def leaveMode (m : Mode) (s : State) : State :=
  match m with
  | .run => stopRun s
  | .standby => endSurvey s
  | .bypass => s

/-- Orientation takes a change of mode (R97, R103). -/
def orientMode (s : State) : State :=
  let t := reevaluateCandidacy s
  if s.mode = .bypass then forgetHead t else t

/-- A change of the node mode (R182). The blocks take it in either order; which of orientation and the camera ports
comes first shows only in the order of the causes, and is taken from the tie field. The four ports go in ascending order,
the model's choice (notes/assumptions/4.md). -/
def changeMode (m : Mode) (s : State) : State :=
  let t := enterMode m (leaveMode s.mode (s.withMode m))
  if s.swapTies then orientMode (eachPort reevaluateDemand t) else eachPort reevaluateDemand (orientMode t)

/-! ### Resets (R18, R22, R57, R87, R107, R129, R136, R164, R168, R177, R180, R181, R185) -/

/-- The start-up mode (R181). -/
def startMode (straps : Straps) : Mode := if straps.bypassStart then .bypass else .run

/-- Every block in its reset state with straps latched, at a node time and a count of cell times. The level of
CAB_ACTIVE and the model's own fields are no part of a reset. -/
def State.afterReset (s : State) (straps : Straps) (t : NodeTime) (cells : Nat) : State :=
  { State.reset with
    nodeTime := t
    cellCount := cells
    straps := straps
    cabActive := s.cabActive
    mode := startMode straps
    selection := Vector.replicate 2 (Selection.reset 0 t)
    swapTies := s.swapTies
    pending := s.pending }

/-- The health record RESTART leaves: UNRATED with any reference present (R87). -/
def State.restartHealth (s : State) (p : CamPort) : Health :=
  Health.reset (if s.tables.allAbsent p then .noReference else .unrated)

/-- What RESTART keeps of a trunk port: its link state, its far-end fault flag, its runs and the cell on its line (R107). -/
def Trunk.afterRestart (t : Trunk) : Trunk :=
  { Trunk.reset with
    link := t.link, farFault := t.farFault, goodRun := t.goodRun, failedRun := t.failedRun, line := t.line }

/-- The ACTIVE bank after an apply that waits is completed (R150). -/
def State.appliedBank (s : State) : Vector Layout 16 :=
  match s.comp.applyImage with
  | none => s.tables.activeBank
  | some image => image

/-- Every block at its RESTART value, the mode RUN, before anything follows (R173). -/
def State.afterRestart (s : State) : State :=
  { State.reset with
    nodeTime := s.nodeTime
    cellCount := s.cellCount
    straps := s.straps
    cabActive := s.cabActive
    health := Vector.ofFn fun p : CamPort => s.restartHealth p
    trunk := ⟨s.trunk.a.afterRestart, s.trunk.b.afterRestart⟩
    selection := Vector.ofFn fun sc : Screen => Selection.reset (s.tables.outputConfig[sc]).staleLayout s.nodeTime
    tables := { s.tables with activeBank := s.appliedBank }
    swapTies := s.swapTies
    pending := s.pending }

/-! ### Meanings -/

/-- POWER_ON_RESET (R180, R181): node time 0, the straps latched, every block reset, and candidacy evaluated (R107). -/
def execPowerOnReset (straps : Straps) (s : State) : Host.Outcome State Fault Refusal :=
  .next (reevaluateCandidacy (s.afterReset straps 0 0))

/-- RESET_LINE (R180, R181): as a power-on reset, but node time runs on. -/
def execResetLine (straps : Straps) (s : State) : Host.Outcome State Fault Refusal :=
  .next (reevaluateCandidacy (s.afterReset straps s.nodeTime s.cellCount))

/-- CAB_ACTIVE_RISE (R183): a cab-end node in STANDBY wakes; elsewhere candidacy is re-evaluated. -/
def execCabActiveRise (s : State) : Host.Outcome State Fault Refusal :=
  .next (if s.cabActive then s
    else
      let t := s.withCabActive true
      if s.straps.cabEnd = true ∧ s.mode = .standby then changeMode .run t else reevaluateCandidacy t)

/-- CAB_ACTIVE_FALL (R97, R183). -/
def execCabActiveFall (s : State) : Host.Outcome State Fault Refusal :=
  .next (if s.cabActive then reevaluateCandidacy (s.withCabActive false) else s)

end Sys2Proof.Machine
end

