-- ==== Sys2Proof/Machine/Window.lean ====
section
/-! DEFINITION. The command queue's execution (R166), the table window (section 9.2), and the writes of every table. -/

namespace Sys2Proof.Machine

/-! ### Executing the command at the head of the queue (R166, R167) -/

/-- The arguments of a COMMAND: its payload (section 11.2). -/
def AgentCommand.args (c : AgentCommand) : List Byte := payloadOf c.cell

/-- The command a queued COMMAND names. -/
def AgentCommand.name (c : AgentCommand) : Option CommandName := commandOf (commandCode c.cell)

/-- Commands at the head of the queue whose code names no command are answered BAD_COMMAND and removed (R166, test 1).
-/
def disposeUnknown : List AgentCommand → State → State
  | [], s => s.withAgent { s.agent with queue := [] }
  | c :: cs, s =>
    match c.name with
    | none => disposeUnknown cs (replyStatus c .badCommand s)
    | some _ => s.withAgent { s.agent with queue := c :: cs }

/-- The command at the head of the queue is removed (R166). -/
def popCommand (s : State) : State := s.withAgent { s.agent with queue := s.agent.queue.drop 1 }

/-- The mode allows a command (the table of R167). -/
def allowedIn (m : Mode) (n : CommandName) : Bool :=
  match m with
  | .run | .standby => true
  | .bypass =>
    match n with
    | .setMode | .readStatus | .readCauses | .restart => true
    | _ => false

/-- The results of a READ_NEXT's reply that returns no entry: the code of the selected table and the pointer as the
index, with 0s behind them (R193). -/
def State.noEntry (s : State) : List Byte :=
  (match s.agent.window with
    | none => Config.absentTableCode
    | some t => t.code) :: bytes2 s.agent.pointer

/-- The results of a command's reply when the mode does not allow the command: none, but in a READ_NEXT's (R193). -/
def State.refusedResults (s : State) (n : CommandName) : List Byte := if n = .readNext then s.noEntry else []

/-- One execution step of a command (R166): when it stands at the head of the queue and `applies` holds, the mode is
tested, the command is carried out or refused, and removed. -/
def runCommand (n : CommandName) (applies : State → Bool) (act : AgentCommand → State → State) (s : State) : State :=
  let t := disposeUnknown s.agent.queue s
  match t.agent.queue with
  | [] => s
  | c :: _ =>
    if c.name = some n ∧ applies t = true then
      popCommand (if allowedIn t.mode n then act c t else reply c .refusedMode [t.refusedResults n] t)
    else s

/-- A command that always applies when it stands at the head. -/
def always (_ : State) : Bool := true

/-! ### The table window -/

/-- The window's pointer, set. -/
def State.withPointer (n : Nat) (s : State) : State := s.withAgent { s.agent with pointer := n }

/-- The window selects a table. -/
def selects (t : Table) (s : State) : Bool := s.agent.window == some t

/-- The window selects no table, or one that is not written (R169). -/
def selectsNone (s : State) : Bool :=
  match s.agent.window with
  | none => true
  | some t => t == .route || t == .layoutActive

/-- SELECT_TABLE's work (R168). -/
def selectTable (c : AgentCommand) (s : State) : State :=
  match tableOf (byteAt c.args 0).toNat with
  | none => replyStatus c .badTable s
  | some t =>
    let i := (halfAt c.args 1).toNat
    if i < t.entries then replyStatus c .ok (s.withAgent { s.agent with window := some t, pointer := i })
    else replyStatus c .badIndex s

/-- WRITE_NEXT's work on a table of its own kind (R169): the index, the entry's checks, the state of the block, then
the write, the pointer and the reply. -/
def writeEntry {α : Type} (entries : Nat) (read : List Byte → Option α) (busy : State → Bool)
    (take : α → State → State) (c : AgentCommand) (s : State) : State :=
  if entries ≤ s.agent.pointer then replyStatus c .badIndex s
  else
    match read c.args with
    | none => replyStatus c .badValue s
    | some v =>
      if busy s then replyStatus c .busy s
      else replyStatus c .ok ((take v s).withPointer (s.agent.pointer + 1))

/-- A table's rule that refuses no write for the state of its block. -/
def neverBusy (_ : State) : Bool := false

/-! ### What each block does with a written entry -/

/-- TILE_PLAN (R21). -/
def takeTilePlan (e : TilePlan) (s : State) : State :=
  s.withTables { s.tables with tilePlan := s.tables.tilePlan.set (Fin.ofNat 8 s.agent.pointer) e }

/-- CAMERA_CONFIG (R1, R8). -/
def takeCameraConfig (e : CameraConfig) (s : State) : State :=
  let p : CamPort := Fin.ofNat 4 s.agent.pointer
  cameraTakes p (s.withTables { s.tables with cameraConfig := s.tables.cameraConfig.set p e })

/-- LENS_PARAMS (R58, R76). -/
def takeLensParams (e : LensParams) (s : State) : State :=
  let p : CamPort := Fin.ofNat 4 s.agent.pointer
  reevaluateLens p (s.withTables { s.tables with lensParams := s.tables.lensParams.set p e })

/-- The port of the REFERENCE or WEIGHT entry at the pointer (R59, R60). -/
def State.pointedPort (s : State) : CamPort := Fin.ofNat 4 (s.agent.pointer / 48)

/-- WEIGHT (R59, R76). -/
def takeWeight (w : Nat) (s : State) : State :=
  reevaluateLens s.pointedPort
    (s.withTables { s.tables with weight := s.tables.weight.set (Fin.ofNat 192 s.agent.pointer) w })

/-- REFERENCE (R60). -/
def takeReference (v : Option Nat) (s : State) : State :=
  let p := s.pointedPort
  let z : ZoneNo := Fin.ofNat 48 (s.agent.pointer % 48)
  let t := s.withTables { s.tables with reference := s.tables.reference.set (Fin.ofNat 192 s.agent.pointer) v }
  let h := t.health[p]
  lensEvent p h.lens
    (t.withHealth p (h.afterReference z (t.tables.allAbsent p) t.tables.lensParams[p] t.tables.weight p))

/-- A REFERENCE write is refused while the port is LEARNING (R60). -/
def learningAtPointer (s : State) : Bool := (s.health[s.pointedPort]).lens == .learning

/-- DOOR (R130). -/
def takeDoor (e : DoorEntry) (s : State) : State :=
  evaluateBoth (s.withTables { s.tables with door := s.tables.door.set (Fin.ofNat 16 s.agent.pointer) e })

/-- RULES_0 or RULES_1 (R132). -/
def takeRule (sc : Screen) (r : Rule) (s : State) : State :=
  evaluate sc (s.withTables { s.tables with
    rules := s.tables.rules.set sc ((s.tables.rules[sc]).set (Fin.ofNat 16 s.agent.pointer) r) })

/-- An entry of LAYOUT_PENDING: a pane count, or a pane record (R148). -/
inductive LayoutEntry where
  | header (count : Nat)
  | pane (p : Pane)
deriving DecidableEq, Repr

/-- Read the entry of LAYOUT_PENDING at an index: the header at `layout × 10`, a pane record elsewhere (R148, R149). -/
def readLayoutEntry (i : Nat) (l : List Byte) : Option LayoutEntry :=
  if i % 10 = 0 then (readLayoutHeader l).map .header else (readPane l).map .pane

/-- A layout with an entry written. -/
def Layout.write (l : Layout) (i : Nat) : LayoutEntry → Layout
  | .header n => { l with count := n }
  | .pane p => { l with panes := l.panes.set (Fin.ofNat 9 (i % 10 - 1)) p }

/-- LAYOUT_PENDING (R149). -/
def takeLayoutEntry (e : LayoutEntry) (s : State) : State :=
  let i := s.agent.pointer
  let k : Fin 16 := Fin.ofNat 16 (i / 10)
  s.withTables { s.tables with pendingBank := s.tables.pendingBank.set k ((s.tables.pendingBank[k]).write i e) }

/-- OUTPUT_CONFIG (R143, R146). The output and the selector take the write together; which comes first is taken from
the tie field. -/
def takeOutputConfig (e : OutputConfig) (s : State) : State :=
  let sc : Screen := Fin.ofNat 2 s.agent.pointer
  let old := s.tables.outputConfig[sc]
  let t := s.withTables { s.tables with outputConfig := s.tables.outputConfig.set sc e }
  if s.swapTies then outputTakes sc old e (evaluate sc t) else evaluate sc (outputTakes sc old e t)

/-- The staleness expiry after a write of the state timeout (R128). -/
def retime (s : State) : State :=
  if s.vehicle.fresh then
    match s.vehicle.lastState with
    | none => s
    | some t =>
      let e := s.stalenessExpiry t
      if reached s.nodeTime e then clearFresh s else s.withVehicle { s.vehicle with expiry := some e }
  else s

/-- NODE_PARAMS (R171, R128, R185). The share and the polarities are read where they are used. -/
def takeNodeParams (e : NodeParams) (s : State) : State :=
  let t := s.withTables { s.tables with nodeParams := e }
  let u := if t.mode = .standby then t.withSurvey { t.survey with due := t.surveyDue t.nodeTime } else t
  retime u

/-! ### READ_NEXT (R170, R193) -/

/-- The results of one cell of a READ_NEXT: table code, index, entry. -/
def State.readPart (s : State) (t : Table) (i : Nat) : List Byte := [t.code] ++ bytes2 i ++ entryBytes s.tables i t

/-- READ_NEXT's work (R170). A refusal returns no entry, so its one cell carries the code and the pointer alone
(R193). -/
def readNext (c : AgentCommand) (s : State) : State :=
  let n := (byteAt c.args 0).toNat
  let refuse (st : Status) : State := reply c st [s.noEntry] s
  if n < 1 ∨ 4 < n then refuse .badValue
  else
    match s.agent.window with
    | none => refuse .badTable
    | some t =>
      let i := s.agent.pointer
      if t.entries ≤ i then refuse .badIndex
      else
        let k := min n (t.entries - i)
        reply c (if k = n then .ok else .badIndex) ((List.range k).map fun j => s.readPart t (i + j))
          (s.withPointer (i + k))

/-! ### Meanings -/

/-- SELECT_TABLE (R168). -/
def execSelectTable (s : State) : Host.Outcome State Fault Refusal := .next (runCommand .selectTable always selectTable s)

/-- WRITE_NEXT with no table selected, or ROUTE or LAYOUT_ACTIVE selected: BAD_TABLE (R169). -/
def execWriteNext (s : State) : Host.Outcome State Fault Refusal :=
  .next (runCommand .writeNext selectsNone (fun c t => replyStatus c .badTable t) s)

/-- WRITE_TILE_PLAN (R20, R21). -/
def execWriteTilePlan (s : State) : Host.Outcome State Fault Refusal :=
  .next (runCommand .writeNext (selects .tilePlan) (writeEntry 8 readTilePlan neverBusy takeTilePlan) s)

/-- WRITE_CAMERA_CONFIG (R1, R8). -/
def execWriteCameraConfig (s : State) : Host.Outcome State Fault Refusal :=
  .next (runCommand .writeNext (selects .cameraConfig) (writeEntry 4 readCameraConfig neverBusy takeCameraConfig) s)

/-- WRITE_LENS_PARAMS (R58, R76). -/
def execWriteLensParams (s : State) : Host.Outcome State Fault Refusal :=
  .next (runCommand .writeNext (selects .lensParams) (writeEntry 4 readLensParams neverBusy takeLensParams) s)

/-- WRITE_WEIGHT (R59, R76). -/
def execWriteWeight (s : State) : Host.Outcome State Fault Refusal :=
  .next (runCommand .writeNext (selects .weight) (writeEntry 192 readWeight neverBusy takeWeight) s)

/-- WRITE_REFERENCE (R60). -/
def execWriteReference (s : State) : Host.Outcome State Fault Refusal :=
  .next (runCommand .writeNext (selects .reference) (writeEntry 192 readReference learningAtPointer takeReference) s)

/-- WRITE_DOOR (R130). -/
def execWriteDoor (s : State) : Host.Outcome State Fault Refusal :=
  .next (runCommand .writeNext (selects .door) (writeEntry 16 readDoor neverBusy takeDoor) s)

/-- WRITE_RULES (R132): a RULES_0 write is screen 0's, a RULES_1 write screen 1's. -/
def execWriteRules (s : State) : Host.Outcome State Fault Refusal :=
  .next (runCommand .writeNext (fun t => selects .rules0 t || selects .rules1 t)
    (fun c t => writeEntry 16 readRule neverBusy (takeRule (if selects .rules0 t then 0 else 1)) c t) s)

/-- WRITE_LAYOUT_PENDING (R149). -/
def execWriteLayoutPending (s : State) : Host.Outcome State Fault Refusal :=
  .next (runCommand .writeNext (selects .layoutPending)
    (fun c t => writeEntry 160 (readLayoutEntry t.agent.pointer) neverBusy takeLayoutEntry c t) s)

/-- WRITE_OUTPUT_CONFIG (R143, R145, R146). -/
def execWriteOutputConfig (s : State) : Host.Outcome State Fault Refusal :=
  .next (runCommand .writeNext (selects .outputConfig) (writeEntry 2 readOutputConfig neverBusy takeOutputConfig) s)

/-- WRITE_NODE_PARAMS (R171). -/
def execWriteNodeParams (s : State) : Host.Outcome State Fault Refusal :=
  .next (runCommand .writeNext (selects .nodeParams) (writeEntry 1 readNodeParams neverBusy takeNodeParams) s)

/-- READ_NEXT (R170). -/
def execReadNext (s : State) : Host.Outcome State Fault Refusal := .next (runCommand .readNext always readNext s)

end Sys2Proof.Machine
end

