-- ==== Sys2Proof/Machine/Commands.lean ====
section
/-! DEFINITION. The commands of the management agent that are not table writes or reads (chapters 1, 3, 4, 6, 8, 9, 10). -/

namespace Sys2Proof.Machine

/-- A byte as a camera port; none above 3. -/
def portOf (b : Byte) : Option CamPort := if b.toNat < 4 then some (Fin.ofNat 4 b.toNat) else none

/-! ### The route table (R109, R110) -/

/-- The lowest-numbered empty way among some. -/
def Tables.emptyWay (t : Tables) (ways : List (Fin 128)) : Option (Fin 128) := ways.find? fun i => (t.route[i]).isNone

/-- Where ROUTE_ADD places a stream: its own way, else the first empty way of its primary and then its secondary
bucket (R109). -/
def Tables.placeFor (t : Tables) (sid : StreamId) : Option (Fin 128) :=
  match t.findRoute sid with
  | some i => some i
  | none => t.emptyWay (waysOf sid)

/-- The route table with one way changed. -/
def State.withRoute (i : Fin 128) (e : Option RouteEntry) (s : State) : State :=
  s.withTables { s.tables with route := s.tables.route.set i e }

/-- ROUTE_ADD's work (R109, R191). -/
def routeAdd (c : AgentCommand) (s : State) : State :=
  let n := (halfAt c.args 0).toNat
  match readFlag (byteAt c.args 2), directionOf (byteAt c.args 3).toNat with
  | some consume, some dir =>
    if n ≤ 4095 then
      let sid : StreamId := BitVec.ofNat 12 n
      match s.tables.placeFor sid with
      | some i => reply c .ok [[byte i.val]] (s.withRoute i (some ⟨sid, consume, dir⟩))
      | none => replyStatus c .tableFull s
    else replyStatus c .badValue s
  | _, _ => replyStatus c .badValue s

/-- ROUTE_REMOVE's work (R110). -/
def routeRemove (c : AgentCommand) (s : State) : State :=
  let n := (halfAt c.args 0).toNat
  if n ≤ 4095 then
    match s.tables.findRoute (BitVec.ofNat 12 n) with
    | some i => reply c .ok [[byte i.val]] (s.withRoute i none)
    | none => replyStatus c .notFound s
  else replyStatus c .badValue s

/-! ### Layout banks (R150, R151) -/

/-- An output of the node is RUNNING. -/
def State.anyRunning (s : State) : Bool :=
  (s.comp.outputs[(0 : Screen)]).running || (s.comp.outputs[(1 : Screen)]).running

/-- APPLY_LAYOUTS (R150). The image waits for a frame start of a RUNNING output; with none it is taken at once. DESIGN
CHOICE (notes/assumptions/32.md): with none RUNNING that is so while an earlier apply waits too, and ends its wait. -/
def applyLayouts (s : State) : State :=
  if s.anyRunning then s.withComp { s.comp with applyImage := some s.tables.pendingBank }
  else (s.withTables { s.tables with activeBank := s.tables.pendingBank }).withComp { s.comp with applyImage := none }

/-- COPY_LAYOUTS (R151). -/
def copyLayouts (s : State) : State := s.withTables { s.tables with pendingBank := s.tables.activeBank }

/-! ### Cameras (R13, R79) -/

/-- RELEARN's work (R79, R80, R184). -/
def relearn (c : AgentCommand) (s : State) : State :=
  match portOf (byteAt c.args 0) with
  | none => replyStatus c .badValue s
  | some p =>
    let link := (s.cams[p]).link
    if (s.health[p]).lens = .learning then replyStatus c .busy s
    else if s.mode = .run ∧ link.powered = false then replyStatus c .refusedState s
    else if s.mode = .standby ∧ (link = .testing ∨ link = .powerFault) then replyStatus c .refusedState s
    else
      let t := startLearning p s
      replyStatus c .ok (if s.mode = .standby then reevaluateDemand p t else t)

/-- CABLE_CHECK's work (R13, R14). -/
def cableCheck (c : AgentCommand) (s : State) : State :=
  match portOf (byteAt c.args 0) with
  | none => replyStatus c .badValue s
  | some p =>
    if (s.cams[p]).link = .testing then replyStatus c .busy s else replyStatus c .ok (startCheck p s)

/-! ### Causes (R176) -/

/-- READ_CAUSES's work (R176): the reply with the whole set, the set and its mark cleared, notices armed. -/
def readCauses (c : AgentCommand) (s : State) : State :=
  reply c .ok (causeParts s.agent.causes s.agent.overflow)
    (s.withAgent { s.agent with causes := [], overflow := false, armed := true })

/-! ### Status (R178, R193) -/

/-- A one-byte value, 255 when there is none (R193). -/
def orNone {α : Type} (f : α → Byte) : Option α → Byte
  | none => 255
  | some x => f x

/-- A time with its present byte (R193). -/
def presentTime : Option NodeTime → List Byte
  | none => [0, 0, 0, 0, 0]
  | some t => [1] ++ bytes4 t

/-- Part 0 of READ_STATUS: the node (R178). Section 11.4 gives an output state no codes: OFF as 0 and RUNNING as 1 is
the model's choice (notes/assumptions/24.md). -/
def State.statusNode (s : State) : List Byte :=
  let screen (sc : Screen) : List Byte := [byte (s.selection[sc]).layout.val, flag (s.comp.outputs[sc]).running]
  [s.mode.code, byte s.straps.node.toNat, flag s.straps.cabEnd, flag s.straps.bypassStart, flag s.cabActive,
    flag s.orient.candidate, s.orient.state.code, orNone byte s.orient.head, orNone portCode s.orient.headSide,
    orNone byte s.orient.hops]
  ++ presentTime s.orient.lastBeacon
  ++ [orNone portCode s.controllerSide, s.trunk.a.link.code, s.trunk.b.link.code, flag s.trunk.a.farFault,
    flag s.trunk.b.farFault, byte s.alarm, flag s.vehicle.fresh]
  ++ screen 0 ++ screen 1 ++ [flag s.comp.applyImage.isSome]

/-- The last frame record, with its present byte (R193). -/
def recordBytes : Option FrameRecord → List Byte
  | none => List.replicate 8 0
  | some r => [1] ++ bytes2 r.number.toNat ++ bytes2 r.exposure ++ [byte r.gain, flag r.heater, flag r.sensorFault]

/-- The last cable check result, with its present byte (R193). -/
def cableBytes : Option CableResult → List Byte
  | none => [0, 0, 0]
  | some r => [1, cableCode r.outcome, orNone byte r.distance]

/-- The time left to the learning deadline in seconds, rounded up; FFFFh when the port is not LEARNING (R178, R193). -/
def State.timeLeft (s : State) (p : CamPort) : List Byte :=
  match (s.health[p]).lens, (s.health[p]).deadline with
  | .learning, some d => bytes2 (((d - s.nodeTime).toNat + 9999) / 10000)
  | _, _ => bytes2 65535

/-- What parts 1 and 2 of READ_STATUS say of a camera port (R178). Section 11.4 gives a power state no codes: OFF as 0
and ON as 1 is the model's choice (notes/assumptions/24.md). -/
def State.statusPort (s : State) (p : CamPort) : List Byte :=
  let c := s.cams[p]
  let h := s.health[p]
  [c.link.code, flag c.power] ++ recordBytes c.lastRecord ++ cableBytes c.cableResult
    ++ [h.picture.code, h.lens.code, byte h.coverage, byte h.progress] ++ s.timeLeft p

/-- What part 3 of READ_STATUS says of an evidence position (R50, R178). The pin time of an empty position is a free
value (notes/assumptions/3.md). -/
def State.statusEvidence (s : State) (k : Fin 4) : List Byte :=
  match s.store.evidence[k] with
  | none => [255, 255, 255, 255] ++ bytes4 Config.absentPinTime ++ [255, 255]
  | some e =>
    [byte e.slot.val, byte e.camera.val, e.lens.code, byte e.coverage] ++ bytes4 e.pinTime
      ++ [flag e.fetching, (s.store.slots[e.slot]).state.code]

/-- The four parts of READ_STATUS (R178). -/
def State.statusParts (s : State) : List (List Byte) :=
  [s.statusNode, s.statusPort 0 ++ s.statusPort 1, s.statusPort 2 ++ s.statusPort 3,
    s.statusEvidence 0 ++ s.statusEvidence 1 ++ s.statusEvidence 2 ++ s.statusEvidence 3]

/-! ### Counters (R179, R193) -/

/-- A counter group (R179). -/
inductive CounterGroup where
  | trunk (p : TrunkPort)
  | router
  | engine
deriving DecidableEq, Repr

/-- The group a code names; none above 3. -/
def groupOf : Nat → Option CounterGroup
  | 0 => some (.trunk .a)
  | 1 => some (.trunk .b)
  | 2 => some .router
  | 3 => some .engine
  | _ => none

def CounterGroup.code : CounterGroup → Byte
  | .trunk .a => 0
  | .trunk .b => 1
  | .router => 2
  | .engine => 3

/-- The counters of a group, in the order they are returned (R179). -/
def State.counters (s : State) : CounterGroup → List Counter
  | .trunk p => (s.trunk.get p).counters.toList
  | .router => s.router.counters.toList
  | .engine =>
    (List.finRange 4).flatMap (fun p => (s.cams[p]).counters.toList) ++ s.engine.counters.toList
      ++ s.store.counters.toList

/-- The cells a group's counters fill (R167). -/
def CounterGroup.cells : CounterGroup → Nat
  | .trunk _ => 1
  | .router => 2
  | .engine => 3

/-- The results of one cell of READ_COUNTERS: the group, the ordinal of its first counter, up to twelve counters (R193). -/
def counterPart (g : CounterGroup) (cs : List Counter) (i : Nat) : List Byte :=
  [g.code, byte (12 * i)] ++ ((cs.drop (12 * i)).take 12).flatMap bytes4

/-- The parts of a READ_COUNTERS reply (R193). -/
def State.counterParts (s : State) (g : CounterGroup) : List (List Byte) :=
  (List.range g.cells).map (counterPart g (s.counters g))

/-- The six counters of a camera port, 0. -/
def clearPort (p : CamPort) (s : State) : State := s.withCam p { s.cams[p] with counters := Vector.replicate 6 0 }

/-- Every counter of a group, 0 (R179). -/
def clearGroup (g : CounterGroup) (s : State) : State :=
  match g with
  | .trunk p => s.withTrunk p { s.trunk.get p with counters := Vector.replicate 9 0 }
  | .router => s.withRouter { s.router with counters := Vector.replicate 13 0 }
  | .engine =>
    ((eachPort clearPort s).withEngine { s.engine with counters := Vector.replicate 6 0 }).withStore
      { s.store with counters := Vector.replicate 2 0 }

/-- READ_COUNTERS's work (R179, R191). -/
def readCounters (c : AgentCommand) (s : State) : State :=
  match groupOf (byteAt c.args 0).toNat, readFlag (byteAt c.args 1) with
  | some g, some clear => reply c .ok (s.counterParts g) (if clear then clearGroup g s else s)
  | _, _ => replyStatus c .badValue s

/-- CLEAR_COUNTERS's work (R179). -/
def clearCounters (c : AgentCommand) (s : State) : State :=
  match groupOf (byteAt c.args 0).toNat with
  | some g => replyStatus c .ok (clearGroup g s)
  | none => replyStatus c .badValue s

/-! ### Mode (R172) -/

/-- SET_MODE's work (R172). -/
def setMode (c : AgentCommand) (s : State) : State :=
  match modeOf (byteAt c.args 0).toNat with
  | none => replyStatus c .badValue s
  | some m => replyStatus c .ok (if m = s.mode then s else changeMode m s)

/-! ### Evidence (R51, R52) -/

/-- RELEASE_EVIDENCE's work (R51, R191). -/
def releaseEvidence (c : AgentCommand) (s : State) : State :=
  let n := (byteAt c.args 0).toNat
  if n = 255 then replyStatus c .ok (releaseAll (List.finRange 4) s)
  else if n < 4 then
    let k : Fin 4 := Fin.ofNat 4 n
    if (s.store.evidence[k]).isNone then replyStatus c .noEvidence s
    else replyStatus c .ok (releasePosition k s)
  else replyStatus c .badValue s

/-- A send list takes no fetch of a stream: it holds 8 entries, or one that waits for the stream (R52). -/
def Trunk.refusesFetch (t : Trunk) (sid : StreamId) : Bool :=
  Config.sendCapacity ≤ t.sendList.length || t.sendList.any (·.waitsFor sid)

/-- A fetch starts (R52). -/
def startFetch (p : TrunkPort) (k : Fin 4) (i : SlotNo) (sid : StreamId) (s : State) : State :=
  let t := joinList p (.fetch (some k)) i sid s
  t.withStore (t.store.setFetching k true)

/-- FETCH_EVIDENCE's work (R52). -/
def fetchEvidence (c : AgentCommand) (s : State) : State :=
  let n := (byteAt c.args 0).toNat
  let m := (halfAt c.args 1).toNat
  if n < 4 ∧ m ≤ 4095 then
    let k : Fin 4 := Fin.ofNat 4 n
    let sid : StreamId := BitVec.ofNat 12 m
    match s.store.evidence[k] with
    | none => replyStatus c .noEvidence s
    | some e =>
      if e.fetching then replyStatus c .busy s
      else
        match s.controllerSide with
        | none => replyStatus c .refusedState s
        | some p =>
          if (s.trunk.get p).refusesFetch sid then replyStatus c .refusedState s
          else replyStatus c .ok (startFetch p k e.slot sid s)
  else replyStatus c .badValue s

/-! ### RESTART (R173) -/

/-- A cell is the copy of a RESTART addressed to 15 that this command is (R173). -/
def AgentCommand.isCopy (c : AgentCommand) (x : Cell) : Bool :=
  commandDestination c.cell == 15 && x == c.cell

/-- The copy of a RESTART addressed to 15 that the node has passed on, where it still stands: in the control queue or
on the bypass path of the port opposite the arrival port (R107, R173). -/
def keepCopy (c : AgentCommand) (before : State) (s : State) : State :=
  let q := c.arrival.other
  let old := before.trunk.get q
  let t := s.trunk.get q
  s.withTrunk q { t with
    control := (old.control.filter c.isCopy).take 1
    bypassPath := if (old.control.filter c.isCopy).isEmpty then (old.bypassPath.filter c.isCopy).take 1 else [] }

/-- RESTART's work (R173): every block at its RESTART value with the copy kept, the reply, and then what follows at
once: candidacy, the enabled camera ports, the enabled outputs (R18, R97, R107, R146). The camera ports take it in
ascending order, the model's choice (notes/assumptions/4.md). -/
def restart (c : AgentCommand) (s : State) : State :=
  let t := replyStatus c .ok (keepCopy c s s.afterRestart)
  startOutputs (if t.swapTies then reevaluateCandidacy (eachPort reevaluateDemand t)
    else eachPort reevaluateDemand (reevaluateCandidacy t))

/-! ### Meanings -/

/-- ROUTE_ADD (R109). -/
def execRouteAdd (s : State) : Host.Outcome State Fault Refusal := .next (runCommand .routeAdd always routeAdd s)

/-- ROUTE_REMOVE (R110). -/
def execRouteRemove (s : State) : Host.Outcome State Fault Refusal :=
  .next (runCommand .routeRemove always routeRemove s)

/-- APPLY_LAYOUTS (R150). -/
def execApplyLayouts (s : State) : Host.Outcome State Fault Refusal :=
  .next (runCommand .applyLayouts always (fun c t => replyStatus c .ok (applyLayouts t)) s)

/-- COPY_LAYOUTS (R151). -/
def execCopyLayouts (s : State) : Host.Outcome State Fault Refusal :=
  .next (runCommand .copyLayouts always (fun c t => replyStatus c .ok (copyLayouts t)) s)

/-- RELEARN (R79). -/
def execRelearn (s : State) : Host.Outcome State Fault Refusal := .next (runCommand .relearn always relearn s)

/-- CABLE_CHECK (R13). -/
def execCableCheck (s : State) : Host.Outcome State Fault Refusal := .next (runCommand .cableCheck always cableCheck s)

/-- READ_CAUSES (R176). -/
def execReadCauses (s : State) : Host.Outcome State Fault Refusal := .next (runCommand .readCauses always readCauses s)

/-- READ_STATUS (R178). -/
def execReadStatus (s : State) : Host.Outcome State Fault Refusal :=
  .next (runCommand .readStatus always (fun c t => reply c .ok t.statusParts t) s)

/-- READ_COUNTERS (R179). -/
def execReadCounters (s : State) : Host.Outcome State Fault Refusal :=
  .next (runCommand .readCounters always readCounters s)

/-- CLEAR_COUNTERS (R179). -/
def execClearCounters (s : State) : Host.Outcome State Fault Refusal :=
  .next (runCommand .clearCounters always clearCounters s)

/-- SET_MODE (R172). -/
def execSetMode (s : State) : Host.Outcome State Fault Refusal := .next (runCommand .setMode always setMode s)

/-- RELEASE_EVIDENCE (R51). -/
def execReleaseEvidence (s : State) : Host.Outcome State Fault Refusal :=
  .next (runCommand .releaseEvidence always releaseEvidence s)

/-- FETCH_EVIDENCE (R52). -/
def execFetchEvidence (s : State) : Host.Outcome State Fault Refusal :=
  .next (runCommand .fetchEvidence always fetchEvidence s)

/-- RESTART (R173). -/
def execRestart (s : State) : Host.Outcome State Fault Refusal := .next (runCommand .restart always restart s)

end Sys2Proof.Machine
end

