-- ==== Sys2Proof/Machine/Clock.lean ====
section
/-! DEFINITION. What the node does of itself when no command waits (notes/assumptions/5.md): node time moves on by one
unit, and the steps that then fall due are put in the queue, with the step of the command at the head of the agent's
queue. -/

namespace Sys2Proof.Machine

/-- A command, when its time has come. -/
def dueIf (b : Bool) (c : Instr) : List Instr := if b then [c] else []

/-- The timers of a camera port and its learning deadline that have expired (R5, R6, R7, R83), and the end of a probe
whose 30 ms are over with nothing found: INCONCLUSIVE (R15). -/
def State.duePort (s : State) (p : CamPort) : List Instr :=
  dueIf (due s.nodeTime (s.cams[p]).lockTimer) (.lockTimerExpiry p)
    ++ dueIf (due s.nodeTime (s.cams[p]).stallTimer) (.stallTimerExpiry p)
    ++ dueIf (due s.nodeTime (s.cams[p]).retryTimer) (.retryTimerExpiry p)
    ++ dueIf (due s.nodeTime (s.cams[p]).probeLimit) (.probeEnd p ⟨.inconclusive, none⟩)
    ++ dueIf (due s.nodeTime (s.health[p]).deadline) (.learningDeadline p)

/-- The steps whose time has come, in ascending order of their rows (R5 to R7, R15, R83, R98, R100, R101, R121, R128, R140,
R163, R185). -/
def State.dueSteps (s : State) : List Instr :=
  (List.finRange 4).flatMap s.duePort
    ++ dueIf (s.isHead && due s.nodeTime s.orient.nextBeacon) .beaconPeriod
    ++ dueIf (s.orient.state == .found && !s.isHead && due s.nodeTime (s.orient.lastBeacon.map silenceEnd))
      .orientationExpiry
    ++ dueIf (due s.nodeTime s.orient.resume) .resumeTime
    ++ (List.finRange 16).flatMap (fun k =>
      dueIf (due s.nodeTime ((s.router.contexts[k]).map (·.expiry))) (.contextExpiry k))
    ++ dueIf (s.vehicle.fresh && due s.nodeTime s.vehicle.expiry) .stalenessExpiry
    ++ (List.finRange 2).flatMap (fun sc =>
      dueIf (due s.nodeTime (s.selection[sc]).holdExpiry) (.holdExpiry sc))
    ++ dueIf (due s.nodeTime s.comp.pulseEnd) .pulseEnd
    ++ dueIf (s.mode == .standby && due s.nodeTime s.survey.due) .surveyStart

/-- The row of a WRITE_NEXT, by the table the window selects. -/
def writeRow : Option Table → Instr
  | none => .writeNext
  | some .tilePlan => .writeTilePlan
  | some .cameraConfig => .writeCameraConfig
  | some .lensParams => .writeLensParams
  | some .reference => .writeReference
  | some .weight => .writeWeight
  | some .route => .writeNext
  | some .door => .writeDoor
  | some .rules0 => .writeRules
  | some .rules1 => .writeRules
  | some .layoutPending => .writeLayoutPending
  | some .layoutActive => .writeNext
  | some .outputConfig => .writeOutputConfig
  | some .nodeParams => .writeNodeParams

/-- The row of a command of the agent. -/
def commandRow (window : Option Table) : CommandName → Instr
  | .selectTable => .selectTable
  | .writeNext => writeRow window
  | .readNext => .readNext
  | .routeAdd => .routeAdd
  | .routeRemove => .routeRemove
  | .applyLayouts => .applyLayouts
  | .copyLayouts => .copyLayouts
  | .relearn => .relearn
  | .cableCheck => .cableCheck
  | .readCauses => .readCauses
  | .readStatus => .readStatus
  | .readCounters => .readCounters
  | .clearCounters => .clearCounters
  | .setMode => .setMode
  | .releaseEvidence => .releaseEvidence
  | .fetchEvidence => .fetchEvidence
  | .restart => .restart

/-- The step that executes the command at the head of the agent's queue (R166). -/
def State.agentStep (s : State) : List Instr :=
  match s.agent.queue with
  | [] => []
  | c :: _ =>
    match c.name with
    | none => []
    | some n => [commandRow s.agent.window n]

/-- The node with no command waiting: one unit of node time passes; unknown commands at the head of the agent's queue
are answered; what is due is put in the queue, in the order the tie field gives. -/
def idle (s : State) : State :=
  let t := s.withNodeTime (s.nodeTime + 1)
  let u := disposeUnknown t.agent.queue t
  let steps := u.dueSteps ++ u.agentStep
  u.withPending (if s.swapTies then steps.reverse else steps)

end Sys2Proof.Machine
end

