-- ==== Sys2Proof/Machine/Dispatch.lean ====
section
/-! DEFINITION. One arm for each command: the call of its meaning. -/

namespace Sys2Proof.Machine

def exec (i : Instr) (s : State) : Host.Outcome State Fault Refusal :=
  match i with
  | .powerOnReset x => Sys2Proof.Machine.execPowerOnReset x s
  | .resetLine x => Sys2Proof.Machine.execResetLine x s
  | .cabActiveRise => Sys2Proof.Machine.execCabActiveRise s
  | .cabActiveFall => Sys2Proof.Machine.execCabActiveFall s
  | .frameStart p h => Sys2Proof.Machine.execFrameStart p h s
  | .frameEnd p pic => Sys2Proof.Machine.execFrameEnd p pic s
  | .lockTimerExpiry p => Sys2Proof.Machine.execLockTimerExpiry p s
  | .stallTimerExpiry p => Sys2Proof.Machine.execStallTimerExpiry p s
  | .retryTimerExpiry p => Sys2Proof.Machine.execRetryTimerExpiry p s
  | .overcurrentTrip p => Sys2Proof.Machine.execOvercurrentTrip p s
  | .probeEnd p f => Sys2Proof.Machine.execProbeEnd p f s
  | .sameFrameRunFull p pic => Sys2Proof.Machine.execSameFrameRunFull p pic s
  | .darkRunFull p pic => Sys2Proof.Machine.execDarkRunFull p pic s
  | .sample p pic => Sys2Proof.Machine.execSample p pic s
  | .unusableRunFull p pic => Sys2Proof.Machine.execUnusableRunFull p pic s
  | .learningComplete p pic => Sys2Proof.Machine.execLearningComplete p pic s
  | .learningDeadline p => Sys2Proof.Machine.execLearningDeadline p s
  | .signalDetected p => Sys2Proof.Machine.execSignalDetected p s
  | .signalLoss p => Sys2Proof.Machine.execSignalLoss p s
  | .cellReceivedTraining p c => Sys2Proof.Machine.execCellReceivedTraining p c s
  | .trainingComplete p c => Sys2Proof.Machine.execTrainingComplete p c s
  | .headerFailure p c => Sys2Proof.Machine.execHeaderFailure p c s
  | .failedHeaderRunFull p c => Sys2Proof.Machine.execFailedHeaderRunFull p c s
  | .fill p c => Sys2Proof.Machine.execFill p c s
  | .beacon p c => Sys2Proof.Machine.execBeacon p c s
  | .state p c => Sys2Proof.Machine.execState p c s
  | .command p c => Sys2Proof.Machine.execCommand p c s
  | .passReplyNotice p c => Sys2Proof.Machine.execPassReplyNotice p c s
  | .badKind p c => Sys2Proof.Machine.execBadKind p c s
  | .tileHead p c => Sys2Proof.Machine.execTileHead p c s
  | .tileData p c => Sys2Proof.Machine.execTileData p c s
  | .contextEnd p c => Sys2Proof.Machine.execContextEnd p c s
  | .bypassPass p c => Sys2Proof.Machine.execBypassPass p c s
  | .cellTime r => Sys2Proof.Machine.execCellTime r s
  | .sendEntryEnd p r => Sys2Proof.Machine.execSendEntryEnd p r s
  | .beaconPeriod => Sys2Proof.Machine.execBeaconPeriod s
  | .orientationExpiry => Sys2Proof.Machine.execOrientationExpiry s
  | .resumeTime => Sys2Proof.Machine.execResumeTime s
  | .contextExpiry k => Sys2Proof.Machine.execContextExpiry k s
  | .stalenessExpiry => Sys2Proof.Machine.execStalenessExpiry s
  | .holdExpiry sc => Sys2Proof.Machine.execHoldExpiry sc s
  | .pulseEnd => Sys2Proof.Machine.execPulseEnd s
  | .screenFrameStart sc => Sys2Proof.Machine.execScreenFrameStart sc s
  | .surveyStart => Sys2Proof.Machine.execSurveyStart s
  | .surveySkipDone p pic => Sys2Proof.Machine.execSurveySkipDone p pic s
  | .surveyBurstDone p pic => Sys2Proof.Machine.execSurveyBurstDone p pic s
  | .selectTable => Sys2Proof.Machine.execSelectTable s
  | .writeNext => Sys2Proof.Machine.execWriteNext s
  | .writeTilePlan => Sys2Proof.Machine.execWriteTilePlan s
  | .writeCameraConfig => Sys2Proof.Machine.execWriteCameraConfig s
  | .writeLensParams => Sys2Proof.Machine.execWriteLensParams s
  | .writeWeight => Sys2Proof.Machine.execWriteWeight s
  | .writeReference => Sys2Proof.Machine.execWriteReference s
  | .writeDoor => Sys2Proof.Machine.execWriteDoor s
  | .writeRules => Sys2Proof.Machine.execWriteRules s
  | .writeLayoutPending => Sys2Proof.Machine.execWriteLayoutPending s
  | .writeOutputConfig => Sys2Proof.Machine.execWriteOutputConfig s
  | .writeNodeParams => Sys2Proof.Machine.execWriteNodeParams s
  | .readNext => Sys2Proof.Machine.execReadNext s
  | .routeAdd => Sys2Proof.Machine.execRouteAdd s
  | .routeRemove => Sys2Proof.Machine.execRouteRemove s
  | .applyLayouts => Sys2Proof.Machine.execApplyLayouts s
  | .copyLayouts => Sys2Proof.Machine.execCopyLayouts s
  | .relearn => Sys2Proof.Machine.execRelearn s
  | .cableCheck => Sys2Proof.Machine.execCableCheck s
  | .readCauses => Sys2Proof.Machine.execReadCauses s
  | .readStatus => Sys2Proof.Machine.execReadStatus s
  | .readCounters => Sys2Proof.Machine.execReadCounters s
  | .clearCounters => Sys2Proof.Machine.execClearCounters s
  | .setMode => Sys2Proof.Machine.execSetMode s
  | .releaseEvidence => Sys2Proof.Machine.execReleaseEvidence s
  | .fetchEvidence => Sys2Proof.Machine.execFetchEvidence s
  | .restart => Sys2Proof.Machine.execRestart s
  | .shortLine p => Sys2Proof.Machine.execShortLine p s
  | .drawCheckFailure sc slot => Sys2Proof.Machine.execDrawCheckFailure sc slot s

end Sys2Proof.Machine
end

