-- ==== Sys2Proof/Safety.lean ====
section
/-! DEFINITION. The terms claims are stated in: the parts of State and what leaves them alone, and the laws that a
run of the machine keeps. -/

namespace Sys2Proof.Machine

/-! ### Parts of State -/

/-- The parts of State, one for each field. -/
inductive Part where
  | nodeTime
  | cellCount
  | straps
  | cabActive
  | mode
  | cams
  | health
  | engine
  | store
  | trunk
  | orient
  | controllerSide
  | router
  | vehicle
  | selection
  | alarm
  | comp
  | agent
  | survey
  | tables
  | swapTies
  | pending
deriving DecidableEq, Repr

/-- Two states agree on a part. -/
def Part.same (x : Part) (s t : State) : Prop :=
  match x with
  | .nodeTime => s.nodeTime = t.nodeTime
  | .cellCount => s.cellCount = t.cellCount
  | .straps => s.straps = t.straps
  | .cabActive => s.cabActive = t.cabActive
  | .mode => s.mode = t.mode
  | .cams => s.cams = t.cams
  | .health => s.health = t.health
  | .engine => s.engine = t.engine
  | .store => s.store = t.store
  | .trunk => s.trunk = t.trunk
  | .orient => s.orient = t.orient
  | .controllerSide => s.controllerSide = t.controllerSide
  | .router => s.router = t.router
  | .vehicle => s.vehicle = t.vehicle
  | .selection => s.selection = t.selection
  | .alarm => s.alarm = t.alarm
  | .comp => s.comp = t.comp
  | .agent => s.agent = t.agent
  | .survey => s.survey = t.survey
  | .tables => s.tables = t.tables
  | .swapTies => s.swapTies = t.swapTies
  | .pending => s.pending = t.pending

/-- Two states agree on every part but those listed: the frame of a command that may change these. -/
def SameBut (l : List Part) (s t : State) : Prop := ∀ x : Part, x ∉ l → x.same s t

/-- What adding a cause, and the NOTICE it may bring, may change: the agent's cause set and arming, and the control
queues and counters of the trunk ports. -/
abbrev noticeParts : List Part := [.agent, .trunk]

/-! ### Laws that every step keeps -/

/-- R174: at most 24 entries, no two alike in kind and subject. -/
def State.causesOk (s : State) : Prop :=
  s.agent.causes.length ≤ 24 ∧ s.agent.causes.Pairwise fun c d => ¬ (c.kind = d.kind ∧ c.subject = d.subject)

/-- R168: the pointer of the table window runs from 0 up to the selected table's entry count. -/
def State.windowOk (s : State) : Prop := ∀ t : Table, s.agent.window = some t → s.agent.pointer ≤ t.entries

/-- R97: the candidacy flag says whether the three conditions of candidacy hold. -/
def State.candidacyOk (s : State) : Prop := s.orient.candidate = s.mayBeHead

/-- R97: the record of a head reads FOUND, head node its own number, head-side port none and hops 0. -/
def State.headOk (s : State) : Prop :=
  s.isHead = true → s.orient.state = .found ∧ s.orient.head = some s.nodeNumber ∧ s.orient.headSide = none
    ∧ s.orient.hops = some 0

/-- R91, R92, R94, R165: the queues of the trunk ports and of the agent hold no more than their capacities. -/
def State.queuesOk (s : State) : Prop :=
  (∀ p : TrunkPort, (s.trunk.get p).control.length ≤ 32 ∧ (s.trunk.get p).pass.length ≤ 1024
    ∧ (s.trunk.get p).sendList.length ≤ 8) ∧ s.agent.queue.length ≤ 4

/-- Section 5.3, R94: behind the front of a send list every entry waits, and no two waiting entries have one stream. -/
def Trunk.sendsOk (t : Trunk) : Prop :=
  (∀ e ∈ t.sendList.tail, e.started = false)
    ∧ t.sendList.Pairwise fun d e => ¬ (d.started = false ∧ e.started = false ∧ d.stream = e.stream)

/-- R94, for both ports. -/
def State.sendsOk (s : State) : Prop := ∀ p : TrunkPort, (s.trunk.get p).sendsOk

/-- R108: every entry lies in its stream's primary or secondary bucket, and no stream has two. -/
def State.routesOk (s : State) : Prop :=
  ∀ i : Fin 128, ∀ e : RouteEntry, s.tables.route[i] = some e →
    i ∈ waysOf e.stream ∧ ∀ j : Fin 128, ∀ d : RouteEntry, s.tables.route[j] = some d → d.stream = e.stream → j = i

/-- Section 6.3: at most one context is open for a stream. -/
def State.contextsOk (s : State) : Prop :=
  ∀ j k : ContextNo, ∀ x y : Context, s.router.contexts[j] = some x → s.router.contexts[k] = some y →
    x.stream = y.stream → j = k

/-- R73, R59: a camera's coverage is the sum of the weights of its obscured zones, and a weight is 3 at most. -/
def State.coverageOk (s : State) : Prop :=
  (∀ p : CamPort, (s.health[p]).coverage = coverageOf s.tables.weight p (s.health[p]).zones)
    ∧ ∀ i : Fin 192, s.tables.weight[i] ≤ 3

/-- R58, R72, R74: the entry of LENS_PARAMS stands as its checks let it, an obscured flag agrees with its counter,
and a rated condition with the coverage. -/
def State.lensOk (s : State) (p : CamPort) : Prop :=
  let e := s.tables.lensParams[p]
  let h := s.health[p]
  e.valid = true
    ∧ (∀ z : ZoneNo, if (h.zones[z]).obscured then e.sOff < (h.zones[z]).score else (h.zones[z]).score < e.sOn)
    ∧ (h.lens = .clean → h.coverage < e.tWarn)
    ∧ (h.lens = .smeared → e.tWarn - e.h < h.coverage ∧ h.coverage < e.tBlock)
    ∧ (h.lens = .blocked → e.tBlock - e.h < h.coverage)

/-- R41: a slot is LATEST exactly when some view map entry names it, and its owning view is that entry's index. -/
def Store.mapOk (st : Store) : Prop :=
  ∀ i : SlotNo, (∀ v : ViewNo, st.viewMap[v] = some i ↔ (st.slots[i]).state = .latest ∧ (st.slots[i]).view = some v)
    ∧ ((st.slots[i]).state = .latest ↔ (st.slots[i]).view ≠ none)

/-- R41, R135: the view map stands by its law, and the alarm count is the number of cameras that its LATEST tiles
warn of. -/
def State.alarmOk (s : State) : Prop := s.store.mapOk ∧ s.alarm = s.store.alarmCount

/-- Sections 1.3 and 1.6: each link state of a camera port runs its own timer and no other, the limit of a probe stands
in TESTING only, and a frame is open only where frames are received. -/
def CameraPort.timersOk (c : CameraPort) : Prop :=
  (c.lockTimer ≠ none ↔ c.link = .waking) ∧ (c.stallTimer ≠ none ↔ c.link = .locked)
    ∧ (c.retryTimer ≠ none ↔ c.link = .lost) ∧ (c.probeLimit ≠ none ↔ c.link = .testing)
    ∧ (c.openFrame ≠ none → c.listens = true)

/-- Section 1.3, for every camera port. -/
def State.timersOk (s : State) : Prop := ∀ p : CamPort, (s.cams[p]).timersOk

/-- R9, R61: the picture condition is NO_SIGNAL exactly while the port is not LOCKED. -/
def State.pictureOk (s : State) : Prop :=
  ∀ p : CamPort, (s.health[p]).picture = .noSignal ↔ (s.cams[p]).link ≠ .locked

/-- R2, R3, R184 to R188: a port is powered only with power demand and OFF only without it; a relearn hold stands only
while its port is LEARNING; the survey takes a port exactly while it is not IDLE, a powered port, and in STANDBY only.
-/
def State.powerOk (s : State) : Prop :=
  (∀ p : CamPort, ((s.cams[p]).power = true → s.demand p = true) ∧ ((s.cams[p]).link = .off → s.demand p = false)
    ∧ ((s.health[p]).relearnHold = true → (s.health[p]).lens = .learning)
    ∧ (s.survey.port = some p → (s.cams[p]).power = true))
    ∧ (s.survey.phase = .idle ↔ s.survey.port = none) ∧ (s.survey.port ≠ none → s.mode = .standby)

/-- R56, R103, R105, R122: outside RUN nothing is in production, no context is open and no TILE entry stands on a send
list; in BYPASS the send lists are empty and no head is known. -/
def State.modeOk (s : State) : Prop :=
  (s.mode ≠ .run → (∀ k : PlanNo, s.engine.productions[k] = none) ∧ (∀ k : ContextNo, s.router.contexts[k] = none)
    ∧ ∀ p : TrunkPort, ∀ e ∈ (s.trunk.get p).sendList, e.kind ≠ .tile)
    ∧ (s.mode = .bypass → s.orient.state = .none ∧ ∀ p : TrunkPort, (s.trunk.get p).sendList = [])

/-- R146, R147: an output runs only on a cab-end node and has a frame exactly while it runs; a frame is composed only
while the node is head, and a frame that is not composed binds no pane and holds no slot. -/
def State.outputsOk (s : State) : Prop :=
  ∀ sc : Screen, ((s.comp.outputs[sc]).running = true → s.straps.cabEnd = true)
    ∧ ((s.comp.outputs[sc]).running = true ↔ (s.comp.outputs[sc]).frame ≠ none)
    ∧ ∀ f : ScreenFrame, (s.comp.outputs[sc]).frame = some f →
      (f.composed = true → s.isHead = true) ∧ (f.composed = false → f.panes = [] ∧ f.held = [])

/-! ### The tile store's account (R39, R42, R45, R50) -/

/-- The holds that a list of slots and the entries of the two send lists place on a slot. -/
def State.holdsOn (s : State) (i : SlotNo) : Nat :=
  (s.comp.outputs[(0 : Screen)]).held.count i + (s.comp.outputs[(1 : Screen)]).held.count i
    + (s.trunk.a.sendList.map (·.slot)).count i + (s.trunk.b.sendList.map (·.slot)).count i

/-- What R39 says of a slot by its state, with the writers of FILLING slots and the entries of the evidence list. -/
def State.slotOk (s : State) (i : SlotNo) : Prop :=
  let x := s.store.slots[i]
  match x.state with
  | .free => x = Slot.reset
  | .filling =>
    x.holders = 0 ∧ x.pinned = false ∧ x.damaged = false ∧ x.view = none ∧
      match x.owner with
      | .none => False
      | .production k => ∃ pr : Production, s.engine.productions[k] = some pr ∧ pr.slot = i
      | .context k => ∃ c : Context, s.router.contexts[k] = some c ∧ c.slot = i
  | .latest => x.owner = .none
  | .retired => x.owner = .none ∧ 0 < x.holders
  | .evidence => x.owner = .none ∧ x.pinned = true

/-- Each production owns a FILLING slot, and its port has the frame open in LOCKED (R25, R32). -/
def State.productionsOk (s : State) : Prop :=
  ∀ p : CamPort, ∀ r : Fin 2, ∀ pr : Production, s.engine.productions[planOf p r] = some pr →
    (s.store.slots[pr.slot]).state = .filling ∧ (s.store.slots[pr.slot]).owner = .production (planOf p r)
      ∧ (s.cams[p]).link = .locked ∧ (s.cams[p]).openFrame ≠ none

/-- R39 to R50: the account of the tile store. Every slot is as its state says; each production and each context owns
the FILLING slot it names; a slot's holder count is the number of holds on it; the evidence list names exactly the
pinned slots, each once; and the view map stands by its law. -/
def State.storeOk (s : State) : Prop :=
  (∀ i : SlotNo, s.slotOk i ∧ (s.store.slots[i]).holders = s.holdsOn i
      ∧ ((s.store.slots[i]).pinned = true ↔ ∃ k : Fin 4, ∃ e : Evidence, s.store.evidence[k] = some e ∧ e.slot = i))
    ∧ s.productionsOk
    ∧ (∀ k : ContextNo, ∀ c : Context, s.router.contexts[k] = some c →
      (s.store.slots[c.slot]).state = .filling ∧ (s.store.slots[c.slot]).owner = .context k)
    ∧ (∀ j k : Fin 4, ∀ d e : Evidence, s.store.evidence[j] = some d → s.store.evidence[k] = some e →
      d.slot = e.slot → j = k)
    ∧ s.store.mapOk ∧ s.timersOk

/-! ### What commands leave -/

/-- The parts of State that a command may change. -/
def Instr.touched : Instr → List Part
  | .powerOnReset _ =>
    [.nodeTime, .cellCount, .straps, .mode, .cams, .health, .engine, .store, .trunk, .orient, .controllerSide, .router,
      .vehicle, .selection, .alarm, .comp, .agent, .survey, .tables]
  | .resetLine _ =>
    [.straps, .mode, .cams, .health, .engine, .store, .trunk, .orient, .controllerSide, .router, .vehicle, .selection,
      .alarm, .comp, .agent, .survey, .tables]
  | .cabActiveRise =>
    [.cabActive, .mode, .cams, .health, .engine, .store, .trunk, .orient, .router, .comp, .agent, .survey]
  | .cabActiveFall => [.cabActive, .store, .trunk, .orient, .comp, .agent]
  | .frameStart _ _ => [.cams, .health, .engine, .store, .trunk, .agent, .survey]
  | .frameEnd _ _ | .sameFrameRunFull _ _ | .darkRunFull _ _ | .sample _ _ | .unusableRunFull _ _
  | .learningComplete _ _ | .surveySkipDone _ _ | .surveyBurstDone _ _ =>
    [.cams, .health, .engine, .store, .trunk, .selection, .alarm, .comp, .agent, .survey, .tables]
  | .lockTimerExpiry _ | .stallTimerExpiry _ | .retryTimerExpiry _ | .overcurrentTrip _ | .probeEnd _ _ | .shortLine _ =>
    [.cams, .health, .engine, .store, .trunk, .agent, .survey]
  | .learningDeadline _ => [.cams, .health, .engine, .store, .trunk, .agent]
  | .signalDetected _ | .signalLoss _ | .cellReceivedTraining _ _ | .trainingComplete _ _ | .headerFailure _ _
  | .failedHeaderRunFull _ _ | .fill _ _ => [.trunk, .agent]
  | .beacon _ _ => [.store, .trunk, .orient, .router, .comp, .agent]
  | .state _ _ => [.trunk, .controllerSide, .router, .vehicle, .selection, .comp, .agent]
  | .command _ _ => [.trunk, .controllerSide, .router, .agent]
  | .passReplyNotice _ _ | .badKind _ _ => [.trunk, .router, .agent]
  | .tileHead _ _ => [.store, .trunk, .router, .agent]
  | .tileData _ _ | .contextEnd _ _ => [.store, .trunk, .router, .selection, .alarm, .comp, .agent]
  | .bypassPass _ _ => [.trunk, .controllerSide, .router, .agent]
  | .cellTime _ | .sendEntryEnd _ _ => [.cellCount, .store, .trunk, .agent]
  | .beaconPeriod => [.trunk, .orient]
  | .orientationExpiry | .resumeTime => [.trunk, .orient, .agent]
  | .contextExpiry _ => [.store, .router]
  | .stalenessExpiry => [.vehicle, .selection, .comp]
  | .holdExpiry _ => [.selection, .comp]
  | .pulseEnd => [.comp]
  | .screenFrameStart _ => [.store, .comp, .tables]
  | .surveyStart => [.cams, .health, .engine, .store, .trunk, .agent, .survey]
  | .selectTable | .writeNext | .readNext | .readCauses | .readStatus => [.trunk, .agent]
  | .writeTilePlan | .writeLayoutPending => [.trunk, .agent, .tables]
  | .writeCameraConfig => [.cams, .health, .engine, .store, .trunk, .agent, .survey, .tables]
  | .writeLensParams | .writeWeight | .writeReference => [.health, .store, .trunk, .agent, .tables]
  | .writeDoor | .writeRules => [.trunk, .selection, .comp, .agent, .tables]
  | .writeOutputConfig => [.store, .trunk, .selection, .comp, .agent, .tables]
  | .writeNodeParams => [.trunk, .vehicle, .selection, .comp, .agent, .survey, .tables]
  | .routeAdd | .routeRemove | .copyLayouts => [.trunk, .agent, .tables]
  | .applyLayouts => [.trunk, .comp, .agent, .tables]
  | .relearn => [.cams, .health, .engine, .store, .trunk, .agent]
  | .cableCheck => [.cams, .health, .engine, .store, .trunk, .agent, .survey]
  | .readCounters | .clearCounters => [.cams, .engine, .store, .trunk, .router, .agent]
  | .setMode => [.mode, .cams, .health, .engine, .store, .trunk, .orient, .router, .comp, .agent, .survey]
  | .releaseEvidence | .fetchEvidence => [.store, .trunk, .agent]
  | .restart =>
    [.mode, .cams, .health, .engine, .store, .trunk, .orient, .controllerSide, .router, .vehicle, .selection, .alarm,
      .comp, .agent, .survey, .tables]
  | .drawCheckFailure _ _ => [.store, .trunk, .agent]

/-- The agent and the trunk ports are as adding causes to `s`, with the NOTICE that may follow, leaves them (R174,
R175). -/
def Adds (cs : List (CauseKind × Nat)) (s t : State) : Prop :=
  t.agent = (addTogether cs s).agent ∧ t.trunk = (addTogether cs s).trunk

/-- A command stands at the head of the agent's queue, and the mode allows it (R166, R167). -/
def State.runs (s : State) (n : CommandName) (c : AgentCommand) : Prop :=
  s.agent.queue.head? = some c ∧ c.name = some n
    ∧ (s.mode = .bypass → n = .setMode ∨ n = .readStatus ∨ n = .readCauses ∨ n = .restart)

/-- The command at the head of the queue is answered and removed: the reply's cells joined the control queue of its
arrival port, and nothing else of the agent and the trunk ports changed (R166, R167). -/
def Answers (c : AgentCommand) (st : Status) (parts : List (List Byte)) (s t : State) : Prop :=
  t.agent = { s.agent with queue := s.agent.queue.drop 1 } ∧ t.trunk = (reply c st parts s).trunk

/-- A trunk port after a cell other than FILL was handed on, where no far-end fault stood (R88, R89). -/
def State.handed (s : State) (p : TrunkPort) : Trunk :=
  { s.trunk.get p with
    failedRun := 0
    counters := (s.trunk.get p).counters.set 0 (increment (s.trunk.get p).counters[(0 : Fin 9)]) }

/-- A trunk port after a cell was placed in its control queue, or dropped there when that holds 32 (R91). -/
def Trunk.queued (t : Trunk) (c : Cell) : Trunk :=
  if t.control.length < 32 then { t with control := t.control ++ [c] }
  else { t with counters := t.counters.set 5 (increment t.counters[(5 : Fin 9)]) }

/-- A STATE or COMMAND cell has set the controller-side port (R102): when it becomes known with causes or the overflow
mark waiting and notices armed, the two cells of a NOTICE are placed there, one after the other, and notices are
disarmed (R91, R175). -/
def State.sided (s : State) (p : TrunkPort) : State :=
  let u : State := { s with controllerSide := some p }
  if s.controllerSide = none ∧ s.agent.armed = true ∧ (s.agent.causes ≠ [] ∨ s.agent.overflow = true) then
    { u with
      trunk := s.trunk.set p (s.noticeCells.foldl Trunk.queued (s.trunk.get p))
      agent := { s.agent with armed := false } }
  else u

/-- A trunk port `y` as its cell time ends with a cell taken: the cell is on the line and counted, or, while the port
is not UP, dropped and counted NO_LINK, with a FILL with FAULT on the line (R90). -/
def Trunk.sends (y : Trunk) (c : Cell) : Trunk :=
  if y.link = .up then { y with line := c, counters := y.counters.set 1 (increment y.counters[(1 : Fin 9)]) }
  else { y with line := fillCell true, counters := y.counters.set 4 (increment y.counters[(4 : Fin 9)]) }

/-- The sum of the samples of a plane in the columns from `x0` up to but not including `x1` and the lines from `y0` up
to but not including `y1`. -/
def boxSum (plane : List (List Byte)) (x0 x1 y0 y1 : Nat) : Nat :=
  ((List.range' y0 (y1 - y0)).map fun y =>
    ((List.range' x0 (x1 - x0)).map fun x => (byteAt (plane.getD y []) x).toNat).sum).sum

/-- The rounded mean of the rectangle of output sample (i, j) (R26, R27, R28). -/
def boxMean (plane : List (List Byte)) (c cw ow cy ch oh i j : Nat) : Nat :=
  let x0 := c + i * cw / ow
  let x1 := c + (i + 1) * cw / ow
  let y0 := cy + j * ch / oh
  let y1 := cy + (j + 1) * ch / oh
  let n := (x1 - x0) * (y1 - y0)
  (boxSum plane x0 x1 y0 y1 + n / 2) / n

/-- A camera port takes a good frame end in LOCKED, and neither the survey nor a relearn hold has to do with it. -/
def State.takesFrame (s : State) (p : CamPort) (f : OpenFrame) (pic : Picture) : Prop :=
  (s.cams[p]).link = .locked ∧ (s.cams[p]).openFrame = some f ∧ f.goodWith pic = true ∧ s.survey.port ≠ some p
    ∧ (s.health[p]).relearnHold = false

/-- The statistics of a frame with its picture (R34). -/
def OpenFrame.statsOf (f : OpenFrame) (pic : Picture) : FrameStats := frameStats f (gather pic.luma f.width f.height)

/-- A camera port as a change to a link state at node time `t` leaves it: that state's one timer or the probe's limit,
no open frame, frame index 0, no previous frame number (R3, R5 to R7, R9, R10, R14, R15). -/
def CameraPort.newly (c : CameraPort) (new : CameraLink) (t : NodeTime) : CameraPort :=
  { c with
    link := new
    lockTimer := if new = .waking then some (t + 20000) else none
    stallTimer := if new = .locked then some (t + 2000) else none
    retryTimer := if new = .lost then some (t + 10000) else none
    probeLimit := if new = .testing then some (t + 300) else none
    openFrame := none
    frameIndex := 0
    prevNumber := none }

/-- A camera port as a good frame end in LOCKED at node time `t` leaves it (R6, R11). -/
def CameraPort.took (c : CameraPort) (f : OpenFrame) (t : NodeTime) : CameraPort :=
  let counted := c.counters.set 0 (increment c.counters[(0 : Fin 6)])
  { c with
    stallTimer := some (t + 2000)
    openFrame := none
    frameIndex := if f.isRepeat then c.frameIndex else (c.frameIndex + 1) % 12
    prevNumber := some f.record.number
    counters := if f.isRepeat then counted.set 1 (increment c.counters[(1 : Fin 6)]) else counted }

/-- A health record as its port's leaving of LOCKED leaves it (R61). -/
def Health.noSignal (h : Health) : Health :=
  { h with picture := .noSignal, sameRun := 0, darkRun := 0, prevSignature := none }

/-- The causes of a camera port's leaving of LOCKED: CAMERA_LINK, and PICTURE_CHANGE for a picture that was not
NO_SIGNAL (R9, R65). -/
def State.lossCauses (s : State) (p : CamPort) : List (CauseKind × Nat) :=
  [(.cameraLink, p.val)] ++ if (s.health[p]).picture = .noSignal then [] else [(.pictureChange, p.val)]

/-- The survey passes over a port (R186). -/
def State.surveyPasses (s : State) (p : CamPort) : Prop :=
  (s.tables.cameraConfig[p]).surveyMember = false ∨ (s.cams[p]).link = .testing ∨ (s.cams[p]).link = .powerFault

/-- The port the survey takes as it leaves port `p`: the lowest above it that it does not pass over (R186). -/
def State.surveyTakesNext (s : State) (p q : CamPort) : Prop :=
  p < q ∧ ¬ s.surveyPasses q ∧ ∀ r : CamPort, p < r → r < q → s.surveyPasses r

/-- The survey has left port `p` (R186): it is over when no port above is taken; else it takes the next, which it powers
and waits for when it is OFF, waits for when it is WAKING or LOST, and surveys at once when it is LOCKED. No port but
those two is touched. -/
def SurveyMovesOn (p : CamPort) (s t : State) : Prop :=
  ((∀ q : CamPort, p < q → s.surveyPasses q) → t.survey = { s.survey with phase := .idle, port := none, count := 0 })
    ∧ (∀ q : CamPort, s.surveyTakesNext p q → t.survey =
      { s.survey with phase := if (s.cams[q]).link = .locked then .skip else .waitLock, port := some q, count := 0 })
    ∧ ∀ q : CamPort, q ≠ p →
      (s.surveyTakesNext p q → (s.cams[q]).link = .off → t.cams[q] = (s.cams[q]).newly .waking s.nodeTime)
      ∧ (¬ s.surveyTakesNext p q ∨ (s.cams[q]).link ≠ .off → t.cams[q] = s.cams[q])

/-- The agent and the trunk ports are as in `told`, with the CAMERA_LINK of the port that the survey, leaving port `p`,
takes out of OFF (R3, R186). -/
def SurveyTells (p : CamPort) (told s t : State) : Prop :=
  ((∀ q : CamPort, s.surveyTakesNext p q → (s.cams[q]).link ≠ .off) → t.agent = told.agent ∧ t.trunk = told.trunk)
    ∧ ∀ q : CamPort, s.surveyTakesNext p q → (s.cams[q]).link = .off →
      t.agent = (addCause .cameraLink q.val false told).agent ∧ t.trunk = (addCause .cameraLink q.val false told).trunk

/-- The table of R36 gives a stream this port: alone, or with the other. -/
def State.namesPort (s : State) (sid : StreamId) (p : TrunkPort) : Prop :=
  s.tables.routeDirection sid = .both
    ∨ (s.tables.routeDirection sid = .controller ∧ s.controllerSide = some p)
    ∨ (s.tables.routeDirection sid = .head ∧ s.orient.state = .found ∧ s.orient.candidate = false
      ∧ s.orient.headSide = some p)

/-- The four tests of R67 on a sample whose frame has set the picture condition to `picture`. -/
def State.usableSample (s : State) (p : CamPort) (picture : PictureCondition) (st : FrameStats) : Prop :=
  let e := s.tables.lensParams[p]
  picture = .live ∧ st.gain ≤ (s.tables.cameraConfig[p]).gainLimit
    ∧ ((s.tables.cameraConfig[p]).motion = false ∨ (s.vehicle.fresh = true ∧ 50 ≤ s.vehicle.speed)
      ∨ (s.survey.port = some p ∧ s.survey.phase = .burst))
    ∧ 12 ≤ ((List.finRange 48).filter fun z => decide (e.dmin ≤ st.mean[z] ∧ st.mean[z] ≤ e.dmax)).length

/-- A tile cell arrives for the router: in UP, its header matching, outside BYPASS, with no far-end fault standing. -/
def State.tileArrives (s : State) (p : TrunkPort) (c : Cell) (k : CellKind) : Prop :=
  (s.trunk.get p).link = .up ∧ headerOk c = true ∧ s.mode ≠ .bypass ∧ kindOf c = some k
    ∧ (s.trunk.get p).farFault = false

/-- A tile cell arrives that this node consumes, wherever its route entry sends it as well (R113). -/
def State.tileConsumed (s : State) (p : TrunkPort) (c : Cell) (k : CellKind) : Prop :=
  s.tileArrives p c k ∧ s.mode = .run ∧ s.tables.routeConsume (streamOf c) = true

/-- The forward part of a tile cell that arrived on `p` chooses the other port (R114). -/
abbrev State.forwardsOn (s : State) (p : TrunkPort) (sid : StreamId) : Prop :=
  s.tables.routeDirection sid = .both
    ∨ (s.tables.routeDirection sid = .controller ∧ s.controllerSide = some p.other)
    ∨ (s.tables.routeDirection sid = .head ∧ s.orient.state ≠ .none ∧ s.isHead = false
      ∧ s.orient.headSide = some p.other)

/-- A trunk port that a forwarded tile cell leaves by: the cell joins its pass-through queue, marked damaged when it
is bad, or is dropped there when that holds 1,024 (R92, R115). -/
def Trunk.joinedBy (t : Trunk) (c : Cell) (cellCount : Nat) : Trunk :=
  if t.pass.length < 1024 then
    { t with pass := t.pass ++
      [⟨if payloadOk c = false ∨ lowFlag c = true then (byteAt c 0 ||| 1) :: c.drop 1 else c, cellCount⟩] }
  else { t with counters := t.counters.set 6 (increment t.counters[(6 : Fin 9)]) }

/-- A tile cell that this node consumes, but for its consume part: it is handed on, a failing payload is counted once,
and its forward part is carried out, which counts nothing in the router (R89, R92, R113 to R115). -/
def State.tilePassed (s : State) (p : TrunkPort) (c : Cell) : State :=
  let handed := s.trunk.set p (s.handed p)
  { s with
    trunk := if s.forwardsOn p (streamOf c) then
        handed.set p.other ((s.trunk.get p.other).joinedBy c s.cellCount)
      else handed
    router := { s.router with counters := if payloadOk c then s.router.counters
      else s.router.counters.set 0 (increment s.router.counters[(0 : Fin 13)]) } }

/-- An entry of a table passes the checks of its write, given the pointer (R169, R193). -/
def entryPasses (t : Table) (pointer : Nat) (l : List Byte) : Bool :=
  match t with
  | .tilePlan => (readTilePlan l).isSome
  | .cameraConfig => (readCameraConfig l).isSome
  | .lensParams => (readLensParams l).isSome
  | .reference => (readReference l).isSome
  | .weight => (readWeight l).isSome
  | .door => (readDoor l).isSome
  | .rules0 | .rules1 => (readRule l).isSome
  | .layoutPending => if pointer % 10 = 0 then (readLayoutHeader l).isSome else (readPane l).isSome
  | .outputConfig => (readOutputConfig l).isSome
  | .nodeParams => (readNodeParams l).isSome
  | .route | .layoutActive => false

/-- A write at the head of the queue that found its table selected, its index in range and its mode right (R166,
R169). -/
def State.writes (s : State) (c : AgentCommand) (t : Table) : Prop :=
  s.runs .writeNext c ∧ s.agent.window = some t ∧ s.agent.pointer < t.entries

/-- A write is done: what it adds to the cause set joins it, the pointer moves on, the reply is OK (R167, R169). -/
def Writes (c : AgentCommand) (cs : List (CauseKind × Nat)) (s t : State) : Prop :=
  t.agent = { (addTogether cs s).agent with pointer := s.agent.pointer + 1, queue := s.agent.queue.drop 1 }
    ∧ t.trunk = (reply c .ok [[]] (addTogether cs s)).trunk

/-- A port wants power once the mode is `m`, as the survey and the relearn holds stand then (R2, R184, R188). -/
def State.wantsPowerIn (s : State) (m : Mode) (p : CamPort) : Bool :=
  match m with
  | .run => (s.tables.cameraConfig[p]).enabled || (s.health[p]).relearnHold
  | .standby => s.survey.port == some p || (s.health[p]).relearnHold
  | .bypass => false

/-- What a change of the node mode to `m` leaves (R56, R97, R103, R105, R122, R182, R184, R185, R188). -/
def ModeChanged (m : Mode) (s t : State) : Prop :=
  t.mode = m
    ∧ (s.mode = .run → (∀ k : PlanNo, t.engine.productions[k] = none) ∧ (∀ k : ContextNo, t.router.contexts[k] = none)
      ∧ ∀ p : TrunkPort, (t.trunk.get p).sendList = [] ∧ (t.trunk.get p).share = 0)
    ∧ (m = .bypass → t.orient = Orientation.reset ∧ (∀ p : CamPort, (t.health[p]).relearnHold = false)
      ∧ ∀ p : TrunkPort, ∀ e ∈ (t.trunk.get p).sendList, e.kind = .tile)
    ∧ t.orient.candidate = t.mayBeHead
    ∧ t.survey = (match m with
      | .standby => { s.survey with due := s.surveyDue s.nodeTime }
      | .run | .bypass => if s.mode = .standby then ⟨.idle, none, none, 0⟩ else s.survey)
    ∧ (∀ p : CamPort, ((t.cams[p]).power = true → t.demand p = true) ∧ ((t.cams[p]).link = .off → t.demand p = false)
      ∧ ((s.cams[p]).link = .testing ∨ (s.cams[p]).link = .powerFault → t.cams[p] = s.cams[p]))
    ∧ SameBut [.mode, .cams, .health, .engine, .store, .trunk, .orient, .router, .comp, .agent, .survey] s t

end Sys2Proof.Machine
end

