-- ==== Sys2Proof/Certificates/Slice0/Obligations.lean ====
section
/-! DEFINITION. The statements for the provers. -/

open Sys2Proof Sys2Proof.Machine

/-! ### The machine -/

/-- A step takes the command at the front of the queue and runs it with the rest of the queue. -/
def Obligations.StepRunsTheCommandInFront : Prop :=
  ∀ (c : Instr) (rest : List Instr) (s : State), s.pending = c :: rest → step s = exec c { s with pending := rest }

/-- Every command has a next state in every state, and changes no part of the state but those listed for it. The queue
of waiting commands and the tie field are listed for none. In part this rests on the choices of
notes/assumptions/2.md. -/
def Obligations.EveryCommandKeepsToItsParts : Prop :=
  ∀ (c : Instr) (s : State), ∃ t : State, exec c s = .next t ∧ SameBut (Instr.touched c) s t

/-- With no command waiting, one unit of node time passes, and of the steps that time brings exactly those that are
due wait next: the timers of R5, R6 and R7, the end of a probe's 30 ms (R15), the learning deadline (R83), the beacon
period (R98), the expiry of R101, the resume time (R100), the context expiries (R121), the staleness expiry (R128), the
hold expiries (R140), the pulse end (R163) and the survey's due time (R185). The model's choice
(notes/assumptions/5.md, notes/assumptions/17.md and notes/assumptions/22.md). -/
def Obligations.TheClockBringsWhatIsDue : Prop :=
  ∀ s : State, s.pending = [] → ∃ t : State, step s = .next t ∧ t.nodeTime = s.nodeTime + 1
    ∧ SameBut [.nodeTime, .trunk, .agent, .pending] s t
    ∧ (∀ p : CamPort,
      (.lockTimerExpiry p ∈ t.pending ↔ due (s.nodeTime + 1) (s.cams[p]).lockTimer = true)
        ∧ (.stallTimerExpiry p ∈ t.pending ↔ due (s.nodeTime + 1) (s.cams[p]).stallTimer = true)
        ∧ (.retryTimerExpiry p ∈ t.pending ↔ due (s.nodeTime + 1) (s.cams[p]).retryTimer = true)
        ∧ (.learningDeadline p ∈ t.pending ↔ due (s.nodeTime + 1) (s.health[p]).deadline = true)
        ∧ ∀ f : ProbeFinding, .probeEnd p f ∈ t.pending ↔
          f = ⟨.inconclusive, none⟩ ∧ due (s.nodeTime + 1) (s.cams[p]).probeLimit = true)
    ∧ (.beaconPeriod ∈ t.pending ↔ s.isHead = true ∧ due (s.nodeTime + 1) s.orient.nextBeacon = true)
    ∧ (.orientationExpiry ∈ t.pending ↔ s.orient.state = .found ∧ s.isHead = false
      ∧ due (s.nodeTime + 1) (s.orient.lastBeacon.map fun b => b + 500) = true)
    ∧ (.resumeTime ∈ t.pending ↔ due (s.nodeTime + 1) s.orient.resume = true)
    ∧ (∀ k : ContextNo, .contextExpiry k ∈ t.pending ↔
      due (s.nodeTime + 1) ((s.router.contexts[k]).map fun x => x.expiry) = true)
    ∧ (.stalenessExpiry ∈ t.pending ↔ s.vehicle.fresh = true ∧ due (s.nodeTime + 1) s.vehicle.expiry = true)
    ∧ (∀ sc : Screen, .holdExpiry sc ∈ t.pending ↔ due (s.nodeTime + 1) (s.selection[sc]).holdExpiry = true)
    ∧ (.pulseEnd ∈ t.pending ↔ due (s.nodeTime + 1) s.comp.pulseEnd = true)
    ∧ (.surveyStart ∈ t.pending ↔ s.mode = .standby ∧ due (s.nodeTime + 1) s.survey.due = true)

/-- The reset state meets every law that a step keeps. In part this rests on the choices of notes/assumptions/1.md. -/
def Obligations.ResetMeetsTheLaws : Prop :=
  State.reset.causesOk ∧ State.reset.windowOk ∧ State.reset.queuesOk ∧ State.reset.candidacyOk ∧ State.reset.headOk
    ∧ State.reset.sendsOk ∧ State.reset.routesOk ∧ State.reset.contextsOk ∧ State.reset.coverageOk
    ∧ (∀ p : CamPort, State.reset.lensOk p) ∧ State.reset.alarmOk ∧ State.reset.timersOk ∧ State.reset.pictureOk
    ∧ State.reset.powerOk ∧ State.reset.modeOk ∧ State.reset.outputsOk ∧ State.reset.storeOk

/-! ### What every step keeps -/

/-- R91, R92, R94, R165, R168, R174: the queues, the cause set and the window's pointer keep to their ranges. -/
def Claim.StepKeepsCapacities : Prop :=
  ∀ s t : State, s.causesOk → s.windowOk → s.queuesOk → step s = .next t → t.causesOk ∧ t.windowOk ∧ t.queuesOk

/-- R94: behind the front of a send list entries wait, no two of them for one stream. -/
def Claim.StepKeepsSendLists : Prop :=
  ∀ s t : State, s.sendsOk → step s = .next t → t.sendsOk

/-- R108, R117: a stream has one route entry at most, in one of its two buckets, and one open context at most. -/
def Claim.StepKeepsStreams : Prop :=
  ∀ s t : State, s.routesOk → s.contextsOk → step s = .next t → t.routesOk ∧ t.contextsOk

/-- R91, R92, R94, R108, R117, R165, R168, R174: every step keeps the queues, the cause set, the window, the send
lists, the route table and the contexts to their rules. -/
def Obligations.StepKeepsTheQueuesAndTheStreams : Prop :=
  Claim.StepKeepsCapacities ∧ Claim.StepKeepsSendLists ∧ Claim.StepKeepsStreams

/-- R73: a camera's coverage is the sum of the weights of its obscured zones, and lies within 0–144. -/
def Obligations.StepKeepsCoverage : Prop :=
  ∀ s t : State, s.coverageOk → step s = .next t → t.coverageOk ∧ ∀ p : CamPort, (t.health[p]).coverage ≤ 144

/-- R58, R72, R74: flags agree with their counters, and a rated lens condition with its coverage. -/
def Obligations.StepKeepsLensRatings : Prop :=
  ∀ s t : State, (∀ p : CamPort, s.lensOk p) → step s = .next t → ∀ p : CamPort, t.lensOk p

/-- R41, R135: the view map names exactly the LATEST slots, and the alarm count is the number of cameras they warn of.
-/
def Obligations.StepKeepsTheAlarmCount : Prop :=
  ∀ s t : State, s.alarmOk → step s = .next t → t.alarmOk

/-- R9, R61: each link state runs its own timer, and the picture is NO_SIGNAL exactly outside LOCKED. -/
def Claim.StepKeepsCameraPorts : Prop :=
  ∀ s t : State, s.timersOk → s.pictureOk → step s = .next t → t.timersOk ∧ t.pictureOk

/-- R2, R184, R186: power follows demand, a relearn hold or a survey gives demand only while it lasts, and the survey's
port is powered. -/
def Claim.StepKeepsPower : Prop :=
  ∀ s t : State, s.powerOk → step s = .next t → t.powerOk

/-- R2, R9, R61, R184, R186: every step keeps the timers of the camera ports, their picture and their power to their
rules. -/
def Obligations.StepKeepsPortsAndPower : Prop :=
  Claim.StepKeepsCameraPorts ∧ Claim.StepKeepsPower

/-- R97: the candidacy flag agrees with its three conditions, and a head's record is a head's. -/
def Claim.StepKeepsHeadRole : Prop :=
  ∀ s t : State, s.candidacyOk → s.headOk → step s = .next t → t.candidacyOk ∧ t.headOk

/-- R56, R103, R105, R122: what a mode has stopped stays stopped. -/
def Claim.StepKeepsTheModesRules : Prop :=
  ∀ s t : State, s.modeOk → step s = .next t → t.modeOk

/-- R146, R147: outputs run on cab-end nodes only, and compose only while the node is head. -/
def Claim.StepKeepsOutputs : Prop :=
  ∀ s t : State, s.outputsOk → step s = .next t → t.outputsOk

/-- R56, R97, R103, R105, R122, R146, R147: every step keeps the head role, what a mode has stopped, and the outputs
to their rules. -/
def Obligations.StepKeepsTheHeadRoleAndTheModes : Prop :=
  Claim.StepKeepsHeadRole ∧ Claim.StepKeepsTheModesRules ∧ Claim.StepKeepsOutputs

/-- R39 to R50: while the send lists stand by R94, the tile store's account stands: owners, holds, pins, evidence and
the view map. -/
def Obligations.StepKeepsTheStore : Prop :=
  ∀ s t : State, s.storeOk → s.sendsOk → step s = .next t → t.storeOk

/-! ### Encodings -/

/-- R169, R170, R193: the entry that READ_NEXT writes out is, byte for byte, the entry that WRITE_NEXT read: every
table entry that passes its checks carries every byte of its layout. -/
def Obligations.AnEntryReadsBackAsItWasWritten : Prop :=
  ∀ l : List Byte, l.length = 54 →
    (∀ e : TilePlan, readTilePlan l = some e → e.bytes = l.take 19)
    ∧ (∀ e : CameraConfig, readCameraConfig l = some e → e.bytes = l.take 5)
    ∧ (∀ e : LensParams, readLensParams l = some e → e.bytes = l.take 12)
    ∧ (∀ e : Option Nat, readReference l = some e → referenceBytes e = l.take 2)
    ∧ (∀ w : Nat, readWeight l = some w → [byte w] = l.take 1)
    ∧ (∀ e : DoorEntry, readDoor l = some e → e.bytes = l.take 2)
    ∧ (∀ e : Rule, readRule l = some e → e.bytes = l.take 16)
    ∧ (∀ n : Nat, readLayoutHeader l = some n → [byte n] = l.take 1)
    ∧ (∀ e : Pane, readPane l = some e → e.bytes = l.take 20)
    ∧ (∀ e : OutputConfig, readOutputConfig l = some e → e.bytes = l.take 5)
    ∧ (∀ e : NodeParams, readNodeParams l = some e → e.bytes = l.take 7)

/-- Section 11.2, R116, R189, R190: the TILE_HEAD that a node forms of a complete record, once it has departed, passes
both tests and is a valid head with that record's own fields, at every value they can take. -/
def Obligations.ATileHeadIsReadAsItWasFormed : Prop :=
  ∀ (sid : StreamId) (r : TileRecord) (st : Stamp) (age : Nat), tileSizeOk r.width r.height = true → st.coverage ≤ 144 →
    age ≤ 65535 →
    let c := sealCell (tileHeadCell sid r st age)
    c.length = 64 ∧ headerOk c = true ∧ payloadOk c = true ∧ kindOf c = some .tileHead ∧ lowFlag c = false
      ∧ streamOf c = sid
      ∧ readTileHead c = some ⟨st.view, r.sequence, r.width, r.height, r.mirror, tileCells r.width r.height,
          r.captureFrame, age, st.picture, st.lens, st.coverage⟩

/-! ### Arithmetic of the tile engine and the health monitor -/

/-- R27: the mean, its half-way case, its range, and its use for every luma and chroma sample of a tile. -/
def Obligations.MeansRoundHalfUp : Prop :=
  (∀ sum n : Nat, 0 < n → roundedMean sum n = (sum + n / 2) / n)
  ∧ (∀ sum n k : Nat, 0 < n → 2 * sum = n * (2 * k + 1) → roundedMean sum n = k + 1)
  ∧ (∀ l : List Byte, l ≠ [] → roundedMean (sumBytes l) l.length ≤ 255)
  ∧ ∀ (pic : Picture) (plan : TilePlan) (c : Crop) (j m : Nat),
      0 < plan.outW → plan.outW % 2 = 0 → plan.outW ≤ c.w → plan.outH ≤ c.h → c.x % 2 = 0 → c.w % 2 = 0 →
      c.y + c.h ≤ pic.luma.length → c.y + c.h ≤ pic.cb.length → c.y + c.h ≤ pic.cr.length →
      (∀ l ∈ pic.luma, c.x + c.w ≤ l.length) → (∀ l ∈ pic.cb, (c.x + c.w) / 2 ≤ l.length) →
      (∀ l ∈ pic.cr, (c.x + c.w) / 2 ≤ l.length) → j < plan.outH → m < plan.outW / 2 →
      let luma (i : Nat) : Byte := byte (boxMean pic.luma c.x c.w plan.outW c.y c.h plan.outH i j)
      let chroma (plane : List (List Byte)) (u : Nat) : Byte :=
        byte (boxMean plane (c.x / 2) (c.w / 2) (plan.outW / 2) c.y c.h plan.outH u j)
      ((makeTile pic plan c).drop (2 * plan.outW * j + 4 * m)).take 4 =
        if plan.mirror then
          [luma (plan.outW - 1 - 2 * m), chroma pic.cb (plan.outW / 2 - 1 - m), luma (plan.outW - 2 - 2 * m),
            chroma pic.cr (plan.outW / 2 - 1 - m)]
        else [luma (2 * m), chroma pic.cb m, luma (2 * m + 1), chroma pic.cr m]

/-! ### Operations of the tile store, the cause set and the selector -/

/-- R44: a publish is one step: the view's previous slot leaves LATEST for RETIRED, EVIDENCE or FREE, the new slot is
LATEST of the view, and every other slot and view stands. -/
def Claim.APublishIsOneStep : Prop :=
  ∀ (st : Store) (i : SlotNo) (v : ViewNo), (st.slots[i]).state = .filling → st.mapOk →
    let u := st.publish i v
    u.viewMap = st.viewMap.set v (some i)
      ∧ u.slots[i] = { st.slots[i] with state := .latest, owner := .none, view := some v }
      ∧ (∀ p : SlotNo, st.viewMap[v] = some p →
        u.slots[p] =
          if 0 < (st.slots[p]).holders then { st.slots[p] with state := .retired, view := none }
          else if (st.slots[p]).pinned then { st.slots[p] with state := .evidence, view := none }
          else ⟨.free, .none, none, 0, false, false, none, []⟩)
      ∧ (∀ j : SlotNo, j ≠ i → st.viewMap[v] ≠ some j → u.slots[j] = st.slots[j])
      ∧ u.evidence = st.evidence ∧ u.counters = st.counters ∧ u.mapOk

/-- R45, R46: a hold is taken on LATEST, RETIRED and EVIDENCE slots only; the last hold's end takes a RETIRED slot to
EVIDENCE with its pin mark set and to FREE without, and leaves a slot in any other state where it is. -/
def Claim.HoldsComeAndGoByTheSlotsState : Prop :=
  ∀ (st : Store) (i : SlotNo),
    let x := st.slots[i]
    let readable : Bool := x.state == .latest || x.state == .retired || x.state == .evidence
    st.takeHold i = (if readable then { st with slots := st.slots.set i { x with holders := x.holders + 1 } } else st)
      ∧ (x.holders = 0 → st.endHold i = st)
      ∧ (∀ n : Nat, x.holders = n + 1 →
        st.endHold i = st.setSlot i
          (if n = 0 ∧ x.state = .retired then
            if x.pinned then { x with holders := 0, state := .evidence }
            else ⟨.free, .none, none, 0, false, false, none, []⟩
          else { x with holders := n }))
      ∧ (readable = true → x.holders = 0 → x.state ≠ .retired → (st.takeHold i).endHold i = st)

/-- R44 to R46: publishing, and holds. -/
def Obligations.TheStorePublishesAndHolds : Prop :=
  Claim.APublishIsOneStep ∧ Claim.HoldsComeAndGoByTheSlotsState

/-- R174: a cause alike in kind and subject makes no new entry, and passes on its evidence flag for LENS_CHANGE; a
cause unlike all joins the end of a set of fewer than 24; at 24 the overflow mark is set. The set stays one of 24
entries at most, no two alike. -/
def Claim.ACauseJoinsTheSet : Prop :=
  ∀ (c : Cause) (cs : List Cause) (overflow : Bool),
    let j := joinCause c cs overflow
    (j.changed = true ↔ j.causes ≠ cs ∨ j.overflow ≠ overflow)
      ∧ ((∀ d ∈ cs, ¬ (d.kind = c.kind ∧ d.subject = c.subject)) →
        j = if cs.length < 24 then ⟨cs ++ [c], overflow, true⟩ else ⟨cs, true, !overflow⟩)
      ∧ ((∃ d ∈ cs, d.kind = c.kind ∧ d.subject = c.subject) →
        (cs.Pairwise fun d e => ¬ (d.kind = e.kind ∧ d.subject = e.subject)) →
        j.overflow = overflow ∧ j.causes = cs.map fun d =>
          if d.kind = c.kind ∧ d.subject = c.subject ∧ c.kind = .lensChange ∧ c.evidence = true then
            { d with evidence := true } else d)
      ∧ (cs.length ≤ 24 → (cs.Pairwise fun d e => ¬ (d.kind = e.kind ∧ d.subject = e.subject)) →
        j.causes.length ≤ 24 ∧ j.causes.Pairwise fun d e => ¬ (d.kind = e.kind ∧ d.subject = e.subject))

/-- R91, R174, R175: an addition that changes the set, with notices armed and the controller-side port known, places
the two cells of a NOTICE of the whole set there and disarms; any other addition only joins the set. -/
def Claim.ANoticeFollowsAChangeOfTheSet : Prop :=
  ∀ (kind : CauseKind) (subject : Nat) (evidence : Bool) (s : State),
    let j := joinCause ⟨kind, subject, evidence⟩ s.agent.causes s.agent.overflow
    let t := addCause kind subject evidence s
    let cell (k : Nat) (l : List Cause) : Cell :=
      mkCell [0x50, byte (s.straps.node.toNat + 1), 0, 0, byte k, 2]
        ([byte l.length, flag j.overflow] ++ l.flatMap causeBytes)
    t.agent.causes = j.causes ∧ t.agent.overflow = j.overflow
      ∧ SameBut [.agent, .trunk] s t
      ∧ (j.changed = false ∨ s.agent.armed = false ∨ s.controllerSide = none →
        t.trunk = s.trunk ∧ t.agent.armed = s.agent.armed)
      ∧ ∀ p : TrunkPort, j.changed = true → s.agent.armed = true → s.controllerSide = some p →
        t.agent.armed = false ∧ t.trunk.get p.other = s.trunk.get p.other
          ∧ ((s.trunk.get p).control.length + 2 ≤ 32 →
            t.trunk.get p = { s.trunk.get p with
              control := (s.trunk.get p).control ++ [cell 0 (j.causes.take 12), cell 1 ((j.causes.drop 12).take 12)] })

/-- R91, R174, R175: what adding a cause does. -/
def Obligations.CausesJoinTheSetAndSendNotices : Prop :=
  Claim.ACauseJoinsTheSet ∧ Claim.ANoticeFollowsAChangeOfTheSet

/-- R138 to R141: an evaluation updates the urgency of the layout already current, switches to a wanted layout when the
hold has ended or its urgency is greater, and else changes nothing; a switch of urgency 3 on a head's enabled screen
asks for a chime pulse of 250 ms. -/
def Claim.AnEvaluationSwitchesOrHolds : Prop :=
  ∀ (sc : Screen) (s : State),
    let x := s.selection[sc]
    let w := s.wanted sc
    let t := evaluate sc s
    SameBut [.selection, .comp] s t
      ∧ (w.layout = x.layout → t.selection = s.selection.set sc { x with urgency := w.urgency } ∧ t.comp = s.comp)
      ∧ (w.layout ≠ x.layout → (s.nodeTime - x.switchTime).toNat < 1000 * x.hold → w.urgency ≤ x.urgency → t = s)
      ∧ (w.layout ≠ x.layout → 1000 * x.hold ≤ (s.nodeTime - x.switchTime).toNat ∨ x.urgency < w.urgency →
        t.selection = s.selection.set sc ⟨w.layout, w.urgency, s.nodeTime, w.hold,
            if w.hold = 0 then none else some (s.nodeTime + BitVec.ofNat 32 (1000 * w.hold))⟩
          ∧ t.comp = if w.urgency = 3 ∧ s.isHead = true ∧ (s.tables.outputConfig[sc]).enabled = true then
              { s.comp with pulseEnd := some (s.nodeTime + 2500) } else s.comp)
      ∧ (s.vehicle.fresh = false → w = ⟨(s.tables.outputConfig[sc]).staleLayout, 3, 0⟩)
      ∧ (s.vehicle.fresh = true → (∀ i : Fin 16, s.ruleHolds (s.tables.rules[sc])[i] = false) →
        w = ⟨(s.tables.outputConfig[sc]).defaultLayout, 0, 0⟩)
      ∧ (s.vehicle.fresh = true → ∀ i : Fin 16, s.ruleHolds (s.tables.rules[sc])[i] = true →
        (∀ j : Fin 16, j < i → s.ruleHolds (s.tables.rules[sc])[j] = false) →
        w = ⟨((s.tables.rules[sc])[i]).layout, ((s.tables.rules[sc])[i]).urgency, ((s.tables.rules[sc])[i]).hold⟩)

/-- R133, R134: a condition holds when the relation of its field's present value to its own is in its comparison set,
for each of the eight fields; a rule holds when it is enabled and its conditions hold as joined. -/
def Claim.RulesHoldByTheirConditions : Prop :=
  ∀ s : State,
    let doorCodes : List DoorState :=
      [.closedLocked, .released, .opening, .opened, .closing, .obstructed, .fault, .unknown]
    let sideCodes : List Release := [.none, .side1, .side2, .both]
    let onSide (o : Byte) (d : Fin 16) : Bool :=
      o = 3 || (o = 1 && (s.tables.door[d]).side = .one) || (o = 2 && (s.tables.door[d]).side = .two)
    let number (o : Byte) (wanted : List DoorState) : Nat :=
      ((List.finRange 16).filter fun d => onSide o d && wanted.contains s.vehicle.doors[d]).length
    let judges (c : Condition) (v : Nat) : Prop := s.conditionHolds c = true ↔
      (v < c.value.toNat ∧ c.comparison.getLsbD 0 = true) ∨ (v = c.value.toNat ∧ c.comparison.getLsbD 1 = true)
        ∨ (c.value.toNat < v ∧ c.comparison.getLsbD 2 = true)
    (∀ c : Condition,
        (c.field = 0 → judges c s.vehicle.speed)
        ∧ (c.field = 1 → judges c (if s.vehicle.travel = .reverse then 1 else 0))
        ∧ (∀ d : Fin 16, ∀ v : Nat, c.field = 2 → c.operand.toNat = d.val + 1 →
          doorCodes[v]? = some s.vehicle.doors[d] → judges c v)
        ∧ (c.field = 3 → judges c (number c.operand [.released, .opening, .opened, .closing, .obstructed, .fault]))
        ∧ (c.field = 4 → judges c (number c.operand [.closing, .obstructed]))
        ∧ (c.field = 5 → judges c (number c.operand [.obstructed]))
        ∧ (∀ v : Nat, c.field = 6 → sideCodes[v]? = some s.vehicle.release → judges c v)
        ∧ (c.field = 7 → judges c s.alarm))
      ∧ ∀ r : Rule,
        (r.enabled = false → s.ruleHolds r = false)
        ∧ (r.enabled = true → r.hasB = false → s.ruleHolds r = s.conditionHolds r.condA)
        ∧ (r.enabled = true → r.hasB = true → r.join = 0 →
          s.ruleHolds r = (s.conditionHolds r.condA && s.conditionHolds r.condB))
        ∧ (r.enabled = true → r.hasB = true → r.join = 1 →
          s.ruleHolds r = (s.conditionHolds r.condA || s.conditionHolds r.condB))

/-- R133, R134, R138 to R141: what an evaluation does, and when a rule holds. -/
def Obligations.AnEvaluationFollowsThePolicy : Prop :=
  Claim.AnEvaluationSwitchesOrHolds ∧ Claim.RulesHoldByTheirConditions

/-- R24: the clipped crop lies in the frame, is at least as wide and as high as the output, keeps an even left edge
and width, and is the crop itself, cut at the frame's edge, where that leaves enough. -/
def Claim.CropsAreClippedToTheFrame : Prop :=
  ∀ (plan : TilePlan) (w h : Nat), plan.outW ≤ plan.cropW → plan.outH ≤ plan.cropH → plan.outW ≤ w → plan.outH ≤ h →
    let c := clipCrop plan w h
    c.x + c.w = min (plan.cropX + plan.cropW) w ∧ c.y + c.h = min (plan.cropY + plan.cropH) h
      ∧ plan.outW ≤ c.w ∧ plan.outH ≤ c.h
      ∧ (plan.cropX + plan.outW ≤ min (plan.cropX + plan.cropW) w → c.x = plan.cropX)
      ∧ (min (plan.cropX + plan.cropW) w < plan.cropX + plan.outW → c.w = plan.outW)
      ∧ (plan.cropY + plan.outH ≤ min (plan.cropY + plan.cropH) h → c.y = plan.cropY)
      ∧ (min (plan.cropY + plan.cropH) h < plan.cropY + plan.outH → c.h = plan.outH)
      ∧ (plan.cropX % 2 = 0 → plan.cropW % 2 = 0 → plan.outW % 2 = 0 → w % 2 = 0 → c.x % 2 = 0 ∧ c.w % 2 = 0)

/-- R23, R25, R42: what a rendition does at a delivered frame start: nothing when tests 1 to 5 fail, TILE_SKIPPED when
the frame is smaller than the output, SLOT_SHORT with no slot FREE, and else a production in the lowest FREE slot. -/
def Claim.ATileIsBegunInTheLowestFreeSlot : Prop :=
  ∀ (p : CamPort) (r : Fin 2) (f : OpenFrame) (s : State),
    let k : PlanNo := planOf p r
    let plan := s.tables.tilePlan[k]
    let t := beginTile p r f s
    let wanted : Prop := s.mode = .run ∧ plan.enabled = true ∧ (plan.localUse = true ∨ plan.send = true)
      ∧ f.isRepeat = false ∧ f.index % plan.divisor = 0
    let fits : Prop := plan.outW ≤ f.width ∧ plan.outH ≤ f.height
    (¬ wanted → t = s)
      ∧ (wanted → ¬ fits → t = { s with engine := { s.engine with
        counters := s.engine.counters.set 1 (increment s.engine.counters[(1 : Fin 6)]) } })
      ∧ (wanted → fits → (∀ i : SlotNo, (s.store.slots[i]).state ≠ .free) → t = { s with engine := { s.engine with
        counters := s.engine.counters.set 2 (increment s.engine.counters[(2 : Fin 6)]) } })
      ∧ (wanted → fits → ∀ i : SlotNo, (s.store.slots[i]).state = .free →
        (∀ j : SlotNo, j < i → (s.store.slots[j]).state ≠ .free) →
        t = { s with
          store := { s.store with slots := s.store.slots.set i ⟨.filling, .production k, none, 0, false, false,
            some ⟨plan.stream, s.engine.sequences[k], plan.outW, plan.outH, plan.mirror, f.record.number, none⟩, []⟩ }
          engine := { s.engine with
            sequences := s.engine.sequences.set k (s.engine.sequences[k] + 1)
            productions := s.engine.productions.set k (some ⟨i, plan, clipCrop plan f.width f.height⟩) } })

/-- R23 to R25, R42: a tile is begun in the lowest FREE slot, with its clipped crop. -/
def Obligations.ATileIsBegunWithItsClippedCrop : Prop :=
  Claim.CropsAreClippedToTheFrame ∧ Claim.ATileIsBegunInTheLowestFreeSlot

/-! ### Camera ports -/

/-- R4, R6, R11, R12, R35: a frame start that passes the check of R4 in LOCKED, with no frame open, is delivered with
its repeat flag and frame index, and each rendition decides in turn on a tile. -/
def Claim.AFrameStartIsDelivered : Prop :=
  ∀ (p : CamPort) (h : FrameHead) (s : State), (s.cams[p]).link = .locked → (s.cams[p]).openFrame = none →
    h.recordOk = true → 1 ≤ h.record.exposure → h.record.exposure ≤ 40000 → h.record.gain ≤ 96 → h.width % 2 = 0 →
    64 ≤ h.width → h.width ≤ 1920 → 48 ≤ h.height → h.height ≤ 1080 →
    let c := s.cams[p]
    let f : OpenFrame := ⟨h.record, h.width, h.height, c.prevNumber == some h.record.number, c.frameIndex⟩
    let u : State := { s with
      cams := s.cams.set p { c with
        lastRecord := some h.record, openFrame := some f,
        counters := if h.record.sensorFault then c.counters.set 5 (increment c.counters[(5 : Fin 6)]) else c.counters }
      engine := { s.engine with sums := s.engine.sums.set p (Vector.replicate 48 ⟨0, 0⟩) } }
    exec (.frameStart p h) s = .next (beginTile p 1 f (beginTile p 0 f u))

/-- R4, R5, R7, R8, R10: in WAKING a frame start is checked and kept, and a frame still open is truncated by it; in the
other states but LOCKED a frame start, a short line and a frame end change nothing. -/
def Claim.FramesOutsideLockedAreNotDelivered : Prop :=
  ∀ (p : CamPort) (h : FrameHead) (pic : Picture) (s : State),
    let c := s.cams[p]
    let errors (n : Counter) : Counter := if c.openFrame.isSome then increment n else n
    let withErrors (n : Counter) : Vector Counter 6 := c.counters.set 2 n
    (c.link = .waking → FrameHead.passes h = true →
      exec (.frameStart p h) s = .next { s with cams := s.cams.set p { c with
        lastRecord := some h.record, openFrame := some ⟨h.record, h.width, h.height, false, 0⟩,
        counters := withErrors (errors c.counters[(2 : Fin 6)]) } })
      ∧ (c.link = .waking → FrameHead.passes h = false →
        exec (.frameStart p h) s = .next { s with cams := s.cams.set p { c with
          openFrame := none, counters := withErrors (increment (errors c.counters[(2 : Fin 6)])) } })
      ∧ (c.link = .waking → c.openFrame ≠ none →
        exec (.shortLine p) s = .next { s with cams := s.cams.set p { c with
          openFrame := none, counters := withErrors (increment c.counters[(2 : Fin 6)]) } })
      ∧ (∀ f : OpenFrame, c.link = .waking → c.openFrame = some f → f.goodWith pic = false →
        exec (.frameEnd p pic) s = .next { s with cams := s.cams.set p { c with
          openFrame := none, counters := withErrors (increment c.counters[(2 : Fin 6)]) } })
      ∧ (c.openFrame = none → exec (.shortLine p) s = .next s ∧ exec (.frameEnd p pic) s = .next s)
      ∧ (c.link = .off ∨ c.link = .lost ∨ c.link = .testing ∨ c.link = .powerFault →
        exec (.frameStart p h) s = .next s ∧ exec (.shortLine p) s = .next s ∧ exec (.frameEnd p pic) s = .next s)

/-- R4 to R12, R35: what a frame start does in LOCKED and outside it. In part this rests on the choices of
notes/assumptions/2.md and notes/assumptions/11.md. -/
def Obligations.FrameStartsAreTakenByTheLinkState : Prop :=
  Claim.AFrameStartIsDelivered ∧ Claim.FramesOutsideLockedAreNotDelivered

/-- R32, R43: a bad frame end abandons the port's productions: their slots go FREE, TILE_ABORTED counts each, and the
port's accumulators are empty. -/
def Claim.ABadFrameEndAbandonsItsTiles : Prop :=
  ∀ (p : CamPort) (s : State), s.productionsOk →
    let t := endBadly p s
    let mine (r : Fin 2) : Option SlotNo := (s.engine.productions[planOf p r]).map fun pr => pr.slot
    SameBut [.engine, .store] s t
      ∧ t.engine.sums = s.engine.sums.set p (Vector.replicate 48 ⟨0, 0⟩) ∧ t.engine.sequences = s.engine.sequences
      ∧ (∀ k : PlanNo, t.engine.productions[k] =
        if k = planOf p 0 ∨ k = planOf p 1 then none else s.engine.productions[k])
      ∧ (∀ i : SlotNo, t.store.slots[i] =
        if mine 0 = some i ∨ mine 1 = some i then ⟨.free, .none, none, 0, false, false, none, []⟩ else s.store.slots[i])
      ∧ t.store.viewMap = s.store.viewMap ∧ t.store.evidence = s.store.evidence
      ∧ (∀ i : Fin 6, t.engine.counters[i] =
        if i = 3 then
          (if (mine 0).isSome && (mine 1).isSome then increment (increment s.engine.counters[i])
            else if (mine 0).isSome || (mine 1).isSome then increment s.engine.counters[i] else s.engine.counters[i])
        else s.engine.counters[i])

/-- R4, R6, R9, R32, R61: in LOCKED the stall timer's expiry, a frame that fails its check and a truncated frame take
the port to LOST: its retry timer starts, its tiles are abandoned, the picture is NO_SIGNAL. (The port that the survey
takes is Claim.TheSurveyLeavesItsPort's.) -/
def Claim.ALockedPortIsLost : Prop :=
  ∀ (p : CamPort) (h : FrameHead) (pic : Picture) (s : State), (s.cams[p]).link = .locked → s.survey.port ≠ some p →
    let c := s.cams[p]
    let errors := c.counters.set 2 (increment c.counters[(2 : Fin 6)])
    let lost (counters : Vector Counter 6) (t : State) : Prop :=
      t.cams = s.cams.set p { c with
        link := .lost, lockTimer := none, stallTimer := none, retryTimer := some (s.nodeTime + 10000), probeLimit := none,
        openFrame := none, frameIndex := 0, prevNumber := none, counters := counters }
      ∧ t.health = s.health.set p { s.health[p] with
        picture := .noSignal, sameRun := 0, darkRun := 0, prevSignature := none }
      ∧ t.engine = (endBadly p s).engine ∧ t.store = (endBadly p s).store
      ∧ Adds ([(.cameraLink, p.val)] ++ if (s.health[p]).picture = .noSignal then [] else [(.pictureChange, p.val)]) s t
      ∧ SameBut [.cams, .health, .engine, .store, .agent, .trunk] s t
    (due s.nodeTime c.stallTimer = true → ∃ t : State, exec (.stallTimerExpiry p) s = .next t ∧ lost c.counters t)
      ∧ (c.openFrame ≠ none → ∃ t : State, exec (.shortLine p) s = .next t ∧ lost errors t)
      ∧ (c.openFrame ≠ none ∨ FrameHead.passes h = false →
        ∃ t : State, exec (.frameStart p h) s = .next t ∧ lost errors t)
      ∧ (∀ f : OpenFrame, c.openFrame = some f → f.goodWith pic = false →
        ∃ t : State, exec (.frameEnd p pic) s = .next t ∧ lost errors t)

/-- R4, R6, R9, R32, R43, R61: what a bad frame end does, and what brings a LOCKED port to LOST. In part this rests on
the choices of notes/assumptions/11.md, notes/assumptions/17.md and notes/assumptions/27.md. -/
def Obligations.ALostPortAbandonsItsTiles : Prop :=
  Claim.ABadFrameEndAbandonsItsTiles ∧ Claim.ALockedPortIsLost

/-- R10, R9, R61: the switch trips a powered port into POWER_FAULT, counts it, and adds POWER_FAULT with CAMERA_LINK;
without power it does not trip. (The port that the survey takes is Claim.TheSurveyLeavesItsPort's.) -/
def Claim.TheSwitchTrips : Prop :=
  ∀ (p : CamPort) (s : State),
    let c := s.cams[p]
    (c.link = .off ∨ c.link = .testing ∨ c.link = .powerFault → exec (.overcurrentTrip p) s = .next s)
      ∧ (c.link = .waking ∨ c.link = .locked ∨ c.link = .lost → s.survey.port ≠ some p →
        let h1 : Health := if c.link = .locked then
          { s.health[p] with picture := .noSignal, sameRun := 0, darkRun := 0, prevSignature := none } else s.health[p]
        let ended := if c.link = .locked then endBadly p s else s
        ∃ t : State, exec (.overcurrentTrip p) s = .next t
          ∧ t.cams = s.cams.set p { c with
            link := .powerFault, lockTimer := none, stallTimer := none, retryTimer := none, probeLimit := none,
            openFrame := none, frameIndex := 0, prevNumber := none,
            counters := c.counters.set 4 (increment c.counters[(4 : Fin 6)]) }
          ∧ t.health = s.health.set p h1 ∧ t.engine = ended.engine ∧ t.store = ended.store
          ∧ Adds ([(.powerFault, p.val), (.cameraLink, p.val)]
            ++ if h1.picture = (s.health[p]).picture then [] else [(.pictureChange, p.val)]) s t
          ∧ SameBut [.cams, .health, .engine, .store, .agent, .trunk] s t)

/-- R15, R16: the probe's result is stored, with a distance for OPEN, SHORT and IMPEDANCE_FAULT only, held at 120 m,
or INCONCLUSIVE when its 30 ms are past; CABLE_DONE is added, and the port leaves TESTING for POWER_FAULT, WAKING or
OFF. -/
def Claim.TheProbeEndsTheCableCheck : Prop :=
  ∀ (p : CamPort) (f : ProbeFinding) (s : State),
    let c := s.cams[p]
    let new : CameraLink := if c.faultKept then .powerFault else if s.demand p then .waking else .off
    let late : Bool := due s.nodeTime (c.probeLimit.map fun b => b + 1)
    (c.link ≠ .testing → exec (.probeEnd p f) s = .next s)
      ∧ (c.link = .testing → s.survey.port ≠ some p →
        ∃ t : State, exec (.probeEnd p f) s = .next t
          ∧ t.cams = s.cams.set p { c with
            link := new, lockTimer := if new = .waking then some (s.nodeTime + 20000) else none, stallTimer := none,
            retryTimer := none, probeLimit := none, openFrame := none, frameIndex := 0, prevNumber := none,
            faultKept := false,
            cableResult := some (if late then ⟨.inconclusive, none⟩ else ⟨f.outcome,
              if f.outcome = .normal ∨ f.outcome = .inconclusive then none else f.distance.map fun d => min 120 d⟩) }
          ∧ t.agent = (addCause .cameraLink p.val false (addCause .cableDone p.val false s)).agent
          ∧ t.trunk = (addCause .cameraLink p.val false (addCause .cableDone p.val false s)).trunk
          ∧ SameBut [.cams, .agent, .trunk] s t)

/-- R9, R10, R15, R16, R61: the overcurrent trip and the end of a cable check. In part this rests on the choices of
notes/assumptions/2.md, notes/assumptions/4.md, notes/assumptions/17.md, notes/assumptions/22.md and
notes/assumptions/27.md. -/
def Obligations.TheSwitchAndTheProbeMoveThePort : Prop :=
  Claim.TheSwitchTrips ∧ Claim.TheProbeEndsTheCableCheck

/-- R5, R7: the lock timer takes a port from WAKING to LOST, the retry timer from LOST back to WAKING with
LOCK_RETRIES counted; a port timer that is not reached, or belongs to another link state, changes nothing. (The lock
timer of the port that the survey takes is Claim.TheSurveyLeavesItsPort's.) -/
def Claim.PortTimersMoveTheLink : Prop :=
  ∀ (p : CamPort) (s : State),
    let c := s.cams[p]
    (c.link = .waking → due s.nodeTime c.lockTimer = true → s.survey.port ≠ some p →
      ∃ t : State, exec (.lockTimerExpiry p) s = .next t
        ∧ t.cams = s.cams.set p { c with
          link := .lost, lockTimer := none, stallTimer := none, retryTimer := some (s.nodeTime + 10000),
          probeLimit := none, openFrame := none, frameIndex := 0, prevNumber := none }
        ∧ Adds [(.cameraLink, p.val)] s t ∧ SameBut [.cams, .agent, .trunk] s t)
      ∧ (c.link = .lost → due s.nodeTime c.retryTimer = true →
        ∃ t : State, exec (.retryTimerExpiry p) s = .next t
          ∧ t.cams = s.cams.set p { c with
            link := .waking, lockTimer := some (s.nodeTime + 20000), stallTimer := none, retryTimer := none,
            probeLimit := none, openFrame := none, frameIndex := 0, prevNumber := none,
            counters := c.counters.set 3 (increment c.counters[(3 : Fin 6)]) }
          ∧ Adds [(.cameraLink, p.val)] s t ∧ SameBut [.cams, .agent, .trunk] s t)
      ∧ (c.link ≠ .waking ∨ due s.nodeTime c.lockTimer = false → exec (.lockTimerExpiry p) s = .next s)
      ∧ (c.link ≠ .locked ∨ due s.nodeTime c.stallTimer = false → exec (.stallTimerExpiry p) s = .next s)
      ∧ (c.link ≠ .lost ∨ due s.nodeTime c.retryTimer = false → exec (.retryTimerExpiry p) s = .next s)

/-- R5, R61, R186: the end of the first good frame takes the port from WAKING to LOCKED, with its stall timer started
and the health record of a new lock; a survey that waited for this port's lock goes to SKIP with count 0. -/
def Claim.TheFirstGoodFrameLocks : Prop :=
  ∀ (p : CamPort) (f : OpenFrame) (pic : Picture) (s : State), (s.cams[p]).link = .waking →
    (s.cams[p]).openFrame = some f → pic.luma.length = f.height → (∀ l ∈ pic.luma, l.length = f.width) →
    ∃ t : State, exec (.frameEnd p pic) s = .next t
      ∧ t.cams = s.cams.set p { s.cams[p] with
        link := .locked, lockTimer := none, stallTimer := some (s.nodeTime + 2000), retryTimer := none,
        probeLimit := none, openFrame := none, frameIndex := 0, prevNumber := some f.record.number }
      ∧ t.survey = (if s.survey.port = some p ∧ s.survey.phase = .waitLock then
          { s.survey with phase := .skip, count := 0 } else s.survey)
      ∧ t.health = s.health.set p { s.health[p] with
        picture := .live, sameRun := 0, darkRun := 0, prevSignature := none, sampleCount := 0 }
      ∧ Adds ([(.cameraLink, p.val)] ++ if (s.health[p]).picture = .live then [] else [(.pictureChange, p.val)]) s t
      ∧ SameBut [.cams, .health, .survey, .agent, .trunk] s t

/-- R5, R7, R61, R186: the first good frame, the lock timer and the retry timer. In part this rests on the choices of
notes/assumptions/2.md, notes/assumptions/17.md and notes/assumptions/26.md. -/
def Obligations.APortLocksAndTimesOut : Prop :=
  Claim.PortTimersMoveTheLink ∧ Claim.TheFirstGoodFrameLocks

/-! ### Frames taken in LOCKED: health, tiles and learning -/

/-- R6, R11, R62 to R66: a good frame end in LOCKED with no tile in production, whose frame is no sample or finds
NO_REFERENCE: the port, its counters, the two runs, the picture condition and the sample count. -/
def Claim.AGoodFrameIsTaken : Prop :=
  ∀ (p : CamPort) (f : OpenFrame) (pic : Picture) (s : State), s.takesFrame p f pic →
    s.engine.productions[planOf p 0] = none → s.engine.productions[planOf p 1] = none →
    ((s.health[p]).sampleCount + 1 < (s.tables.cameraConfig[p]).interval ∨ (s.health[p]).lens = .noReference) →
    let c := s.cams[p]
    let h := s.health[p]
    let st := f.statsOf pic
    let counted := c.counters.set 0 (increment c.counters[(0 : Fin 6)])
    let same := if f.isRepeat = true ∨ h.prevSignature = some st.signature then min 25 (h.sameRun + 1) else 0
    let dark := if ∀ z : ZoneNo, st.mean[z] < (s.tables.lensParams[p]).darkLevel then min 10 (h.darkRun + 1) else 0
    let picture : PictureCondition := if same = 25 then .frozen else if dark = 10 then .dark else .live
    ∃ t : State, exec (.frameEnd p pic) s = .next t
      ∧ t.cams = s.cams.set p { c with
        stallTimer := some (s.nodeTime + 2000), openFrame := none,
        frameIndex := if f.isRepeat then c.frameIndex else (c.frameIndex + 1) % 12,
        prevNumber := some f.record.number,
        counters := if f.isRepeat then counted.set 1 (increment c.counters[(1 : Fin 6)]) else counted }
      ∧ t.health = s.health.set p { h with
        sameRun := same, darkRun := dark, prevSignature := some st.signature, picture := picture,
        sampleCount := if (s.tables.cameraConfig[p]).interval ≤ h.sampleCount + 1 then 0 else h.sampleCount + 1 }
      ∧ t.engine = { s.engine with sums := s.engine.sums.set p (gather pic.luma f.width f.height) }
      ∧ Adds (if picture = h.picture then [] else [(.pictureChange, p.val)]) s t
      ∧ SameBut [.cams, .health, .engine, .agent, .trunk] s t

/-- R63 to R65: the frame end with which a run becomes full leaves the picture FROZEN or DARK: SAME_FRAME_RUN_FULL and
DARK_RUN_FULL are that frame end, and change nothing at any other. -/
def Claim.AFullRunFreezesOrDarkensThePicture : Prop :=
  ∀ (p : CamPort) (f : OpenFrame) (pic : Picture) (s : State), s.takesFrame p f pic →
    let h := s.health[p]
    let st := f.statsOf pic
    let alike : Prop := f.isRepeat = true ∨ h.prevSignature = some st.signature
    let isDark : Prop := ∀ z : ZoneNo, st.mean[z] < (s.tables.lensParams[p]).darkLevel
    (alike → h.sameRun = 24 → ∃ t : State, exec (.sameFrameRunFull p pic) s = .next t
        ∧ exec (.frameEnd p pic) s = .next t ∧ (t.health[p]).sameRun = 25 ∧ (t.health[p]).picture = .frozen)
      ∧ (isDark → h.darkRun = 9 → ∃ t : State, exec (.darkRunFull p pic) s = .next t
        ∧ exec (.frameEnd p pic) s = .next t ∧ (t.health[p]).darkRun = 10
        ∧ (t.health[p]).picture = if alike ∧ 24 ≤ h.sameRun then .frozen else .dark)
      ∧ (¬ alike ∨ h.sameRun < 24 → exec (.sameFrameRunFull p pic) s = .next s)
      ∧ (¬ isDark ∨ h.darkRun < 9 → exec (.darkRunFull p pic) s = .next s)

/-- R33 to R35: a frame is cut in 48 zones; a zone's mean luma is rounded down, its texture is 16 times the gradient
sum over the pairs of neighbours within the zone, per pixel, held at 4,095; the signature is the sum of both over the
zones. -/
def Claim.ZonesAreMeasured : Prop :=
  ∀ (f : OpenFrame) (pic : Picture), f.goodWith pic = true →
    let st := f.statsOf pic
    let y (i j : Nat) : Nat := (byteAt (pic.luma.getD j []) i).toNat
    let apart (a b : Nat) : Nat := (a - b) + (b - a)
    let sumOver (w h : Nat) (g : Nat → Nat → Nat) : Nat :=
      ((List.range h).map fun j => ((List.range w).map fun i => g i j).sum).sum
    (∀ z : ZoneNo,
        let w := if z.val % 8 = 7 then f.width - 7 * (f.width / 8) else f.width / 8
        let h := if z.val / 8 = 5 then f.height - 5 * (f.height / 6) else f.height / 6
        let at_ (i j : Nat) : Nat := y (z.val % 8 * (f.width / 8) + i) (z.val / 8 * (f.height / 6) + j)
        let gradient := sumOver (w - 1) h (fun i j => apart (at_ (i + 1) j) (at_ i j))
          + sumOver w (h - 1) (fun i j => apart (at_ i (j + 1)) (at_ i j))
        st.mean[z] = sumOver w h at_ / (w * h) ∧ st.texture[z] = min 4095 (16 * gradient / (w * h)))
      ∧ st.signature = ((List.finRange 48).map fun z => st.mean[z] * 4096 + st.texture[z]).sum
      ∧ st.signature ≤ 50331600 ∧ st.isRepeat = f.isRepeat ∧ st.gain = f.record.gain

/-- R6, R11, R33 to R35, R62 to R66: a good frame end in LOCKED, its zone statistics, and the runs of frames alike and
dark. In part this rests on the choices of notes/assumptions/6.md and notes/assumptions/11.md. -/
def Obligations.AGoodFrameFeedsTheRuns : Prop :=
  Claim.AGoodFrameIsTaken ∧ Claim.ZonesAreMeasured ∧ Claim.AFullRunFreezesOrDarkensThePicture

/-- R6, R11, R30, R31, R36, R40, R44, R62 to R66, R77, R78, R82, R135, R137: at a good frame end the port takes the
frame, and each rendition in production, 0 before 1, has its tile completed with the conditions the frame itself has
set and the picture of its clipped crop, and published as the LATEST tile of its view; a publish that changes the
alarm count evaluates both screens; then the tile is requested on its ports when its entry copy has send set. A frame
that is no sample, or finds NO_REFERENCE, moves the runs, the picture and the sample count alone. A change of the
picture, and a completed learning, is reported before the tiles, a change of the lens condition behind them, with a
pin request for a worsening that finds the tile just published. In part this rests on the choices of
notes/assumptions/4.md. -/
def Obligations.TheTileOfAGoodFrameIsPublished : Prop :=
  ∀ (p : CamPort) (f : OpenFrame) (pic : Picture) (s : State), s.takesFrame p f pic → s.storeOk →
    let h := s.health[p]
    let interval := (s.tables.cameraConfig[p]).interval
    ∃ t : State, exec (.frameEnd p pic) s = .next t
      ∧ t.cams = s.cams.set p ((s.cams[p]).took f s.nodeTime)
      ∧ (h.sampleCount + 1 < interval ∨ h.lens = .noReference →
        t.health = s.health.set p { s.runsAfter p (f.statsOf pic) with
          sampleCount := if interval ≤ h.sampleCount + 1 then 0 else h.sampleCount + 1 })
      ∧ (let g := t.health[p]
        let shown := if g.picture = h.picture then s else addCause .pictureChange p.val false s
        let told := if h.lens = .learning ∧ g.lens ≠ .learning then addCause .learnDone p.val false shown else shown
        let start : State := { told with
          engine := { s.engine with sums := s.engine.sums.set p (gather pic.luma f.width f.height) } }
        let done (r : Fin 2) (u : State) : State :=
          match s.engine.productions[planOf p r] with
          | none => u
          | some pr =>
            let x := u.store.slots[pr.slot]
            let view := viewOf (s.cameraId p) r.val
            let stamp : Stamp := ⟨view, .captured s.nodeTime, g.picture, g.lens, g.coverage⟩
            let v : State := { u with
              store := (u.store.setSlot pr.slot { x with
                record := x.record.map fun y => { y with stamp := some stamp }
                data := makeTile pic pr.plan pr.crop }).publish pr.slot view
              engine := { u.engine with
                productions := u.engine.productions.set (planOf p r) none
                counters := u.engine.counters.set 0 (increment u.engine.counters[(0 : Fin 6)]) } }
            let n := v.store.alarmCount
            let seen := if n = u.alarm then v else evaluateBoth { v with alarm := n }
            if pr.plan.send then placeRequests pr.slot pr.plan.stream seen else seen
        let made := done 1 (done 0 start)
        let worse : Prop := (g.lens = .blocked ∧ h.lens ≠ .blocked)
          ∨ (g.lens = .smeared ∧ h.lens ≠ .smeared ∧ h.lens ≠ .blocked)
        let asked := if worse then pinRequest (s.cameraId p) g.lens g.coverage made else (made, false)
        let last := if g.lens = h.lens then made else addCause .lensChange p.val asked.2 asked.1
        t.store = asked.1.store ∧ t.engine = made.engine ∧ t.agent = last.agent ∧ t.trunk = last.trunk
          ∧ t.alarm = made.alarm ∧ t.selection = made.selection ∧ t.comp = made.comp)
      ∧ ((∃ r : Fin 2, s.engine.productions[planOf p r] ≠ none) → t.alarm = t.store.alarmCount)
      ∧ (h.lens ≠ .learning ∨ h.progress < 31 → t.tables = s.tables)
      ∧ SameBut [.cams, .health, .engine, .store, .agent, .trunk, .alarm, .selection, .comp, .tables] s t

/-- R66 to R74, R77, R78: a usable sample, rated or UNRATED: every scored zone's counter and flag, the coverage, and the
one move of the lens condition, from the rating of the held coverage when it was UNRATED; where no tile is in
production, the LENS_CHANGE of a move, with the pin request of a worsening. SAMPLE is that frame end. -/
def Claim.AUsableSampleIsScored : Prop :=
  ∀ (p : CamPort) (f : OpenFrame) (pic : Picture) (s : State), s.takesFrame p f pic →
    let h := s.health[p]
    let e := s.tables.lensParams[p]
    let st := f.statsOf pic
    let runs := s.runsAfter p st
    (s.tables.cameraConfig[p]).interval ≤ h.sampleCount + 1 → s.usableSample p runs.picture st →
    h.lens = .unrated ∨ h.lens = .clean ∨ h.lens = .smeared ∨ h.lens = .blocked →
    let zones : Vector Zone 48 := Vector.ofFn fun z : ZoneNo =>
      match s.tables.reference[zoneEntry p z] with
      | none => h.zones[z]
      | some r =>
        if e.dmin ≤ st.mean[z] ∧ st.mean[z] ≤ e.dmax ∧ e.minTexture ≤ r then
          let q := min 255 (256 * st.texture[z] / r)
          let score := if q < e.qLow then min 15 ((h.zones[z]).score + 1)
            else if q < e.qHigh then (h.zones[z]).score else (h.zones[z]).score - 1
          { h.zones[z] with
            score := score,
            obscured := if e.sOn ≤ score then true else if score ≤ e.sOff then false else (h.zones[z]).obscured }
        else h.zones[z]
    let c := ((List.finRange 48).map fun z : ZoneNo =>
      if (zones[z]).obscured then s.tables.weight[zoneEntry p z] else 0).sum
    let fromClean (n : Nat) : LensCondition := if e.tBlock ≤ n then .blocked else if e.tWarn ≤ n then .smeared else .clean
    let start : LensCondition := if h.lens = .unrated then fromClean h.coverage else h.lens
    let lens : LensCondition :=
      if start = .clean then fromClean c
      else if start = .smeared then (if e.tBlock ≤ c then .blocked else if c ≤ e.tWarn - e.h then .clean else .smeared)
      else if c ≤ e.tBlock - e.h then (if c ≤ e.tWarn - e.h then .clean else .smeared) else .blocked
    let worse : Prop := (lens = .blocked ∧ h.lens ≠ .blocked)
      ∨ (lens = .smeared ∧ h.lens ≠ .smeared ∧ h.lens ≠ .blocked)
    let shown := if h.picture = .live then s else addCause .pictureChange p.val false s
    let asked := if worse then pinRequest (s.cameraId p) lens c s else (s, false)
    let told := if lens = h.lens then shown else addCause .lensChange p.val asked.2 shown
    ∃ t : State, exec (.sample p pic) s = .next t ∧ exec (.frameEnd p pic) s = .next t
      ∧ t.health = s.health.set p { runs with
        sampleCount := 0, unusableRun := 0, zones := zones, coverage := c, lens := lens }
      ∧ ((∀ r : Fin 2, s.engine.productions[planOf p r] = none) →
        t.store = asked.1.store ∧ t.agent = told.agent ∧ t.trunk = told.trunk
          ∧ SameBut [.cams, .health, .engine, .store, .agent, .trunk] s t)

/-- R66, R68, R75, R81: an unusable sample adds to the unusable-sample run, and at 300 takes a rated condition to
UNRATED, which is UNUSABLE_RUN_FULL; counters, flags and coverage are held. In LEARNING it changes nothing, and in
NO_REFERENCE no sample changes anything. -/
def Claim.AnUnusableSampleIsCounted : Prop :=
  ∀ (p : CamPort) (f : OpenFrame) (pic : Picture) (s : State), s.takesFrame p f pic →
    let h := s.health[p]
    let runs := s.runsAfter p (f.statsOf pic)
    let rated : Prop := h.lens = .clean ∨ h.lens = .smeared ∨ h.lens = .blocked
    (s.tables.cameraConfig[p]).interval ≤ h.sampleCount + 1 →
    (rated ∨ h.lens = .unrated → ¬ s.usableSample p runs.picture (f.statsOf pic) → h.unusableRun ≤ 300 →
      ∃ t : State, exec (.sample p pic) s = .next t ∧ exec (.frameEnd p pic) s = .next t
        ∧ t.health = s.health.set p { runs with
          sampleCount := 0, unusableRun := min 300 (h.unusableRun + 1),
          lens := if rated ∧ 299 ≤ h.unusableRun then .unrated else h.lens }
        ∧ (h.unusableRun = 299 → exec (.unusableRunFull p pic) s = .next t)
        ∧ (h.unusableRun ≠ 299 → exec (.unusableRunFull p pic) s = .next s))
      ∧ (h.lens = .noReference ∨ (h.lens = .learning ∧ ¬ s.usableSample p runs.picture (f.statsOf pic)) →
        ∃ t : State, exec (.sample p pic) s = .next t ∧ exec (.frameEnd p pic) s = .next t
          ∧ t.health = s.health.set p { runs with sampleCount := 0 })

/-- R66 to R75, R77, R78, R81: what a sample does, usable or not. In part this rests on the choices of
notes/assumptions/6.md. -/
def Obligations.SamplesAreScoredOrCounted : Prop :=
  Claim.AUsableSampleIsScored ∧ Claim.AnUnusableSampleIsCounted

/-- R81, R82: a usable sample while LEARNING adds the textures of its lit zones to the scratch; with the 32nd, which
is LEARNING_COMPLETE, every reference of the port becomes the mean learned, or ABSENT, and the lens is CLEAN; LEARN_DONE
and LENS_CHANGE are added. -/
def Claim.UsableSamplesAreLearned : Prop :=
  ∀ (p : CamPort) (f : OpenFrame) (pic : Picture) (s : State), s.takesFrame p f pic →
    let h := s.health[p]
    let e := s.tables.lensParams[p]
    let st := f.statsOf pic
    let runs := s.runsAfter p st
    h.lens = .learning → (s.tables.cameraConfig[p]).interval ≤ h.sampleCount + 1 → s.usableSample p runs.picture st →
    let taught (z : ZoneNo) : Zone :=
      if e.dmin ≤ st.mean[z] ∧ st.mean[z] ≤ e.dmax then
        { h.zones[z] with
          scratchSum := (h.zones[z]).scratchSum + st.texture[z], scratchCount := (h.zones[z]).scratchCount + 1 }
      else h.zones[z]
    let shown := if h.picture = .live then s else addCause .pictureChange p.val false s
    let told := addCause .lensChange p.val false (addCause .learnDone p.val false shown)
    let still : Prop := ∀ r : Fin 2, s.engine.productions[planOf p r] = none
    ∃ t : State, exec (.sample p pic) s = .next t ∧ exec (.frameEnd p pic) s = .next t
      ∧ (h.progress < 31 → t.tables = s.tables ∧ exec (.learningComplete p pic) s = .next s
        ∧ t.health = s.health.set p { runs with
          sampleCount := 0, zones := Vector.ofFn taught, progress := h.progress + 1 }
        ∧ (still → t.agent = shown.agent ∧ t.trunk = shown.trunk
          ∧ SameBut [.cams, .health, .engine, .agent, .trunk] s t))
      ∧ (31 ≤ h.progress → exec (.learningComplete p pic) s = .next t
        ∧ t.health = s.health.set p { runs with
          sampleCount := 0, zones := Vector.ofFn fun z => { taught z with score := 0, obscured := false },
          progress := h.progress + 1, coverage := 0, unusableRun := 0, lens := .clean, keptAside := none,
          deadline := none }
        ∧ (∀ q : CamPort, ∀ z : ZoneNo, t.tables.reference[zoneEntry q z] =
          if q = p then
            (if (taught z).scratchCount = 0 then none else some ((taught z).scratchSum / (taught z).scratchCount))
          else s.tables.reference[zoneEntry q z])
        ∧ t.tables = { s.tables with reference := t.tables.reference }
        ∧ (still → t.agent = told.agent ∧ t.trunk = told.trunk
          ∧ SameBut [.cams, .health, .engine, .agent, .trunk, .tables] s t))

/-- R82, R184: a relearn hold leaves what a good frame end does as it is without one, but that it ends with the
learning: then a port with no other power demand goes OFF in the same step, behind all else, with CAMERA_LINK and
PICTURE_CHANGE. -/
def Claim.ARelearnHoldEndsWithItsLearning : Prop :=
  ∀ (p : CamPort) (f : OpenFrame) (pic : Picture) (s : State),
    let h := s.health[p]
    (s.cams[p]).link = .locked → (s.cams[p]).openFrame = some f → f.goodWith pic = true → s.survey.port ≠ some p →
    h.relearnHold = true →
    let without : State := { s with health := s.health.set p { h with relearnHold := false } }
    let st := f.statsOf pic
    let completes : Prop := h.lens = .learning ∧ (s.tables.cameraConfig[p]).interval ≤ h.sampleCount + 1
      ∧ s.usableSample p (s.runsAfter p st).picture st ∧ 31 ≤ h.progress
    let stays : Prop := s.mode = .run ∧ (s.tables.cameraConfig[p]).enabled = true
    ∃ t u : State, exec (.frameEnd p pic) s = .next t ∧ exec (.frameEnd p pic) without = .next u
      ∧ (¬ completes → t = { u with health := u.health.set p { u.health[p] with relearnHold := true } })
      ∧ (completes → stays → t = u)
      ∧ (completes → ¬ stays → t.cams = u.cams.set p ((u.cams[p]).newly .off s.nodeTime)
        ∧ t.health = u.health.set p (u.health[p]).noSignal
        ∧ t.engine = { u.engine with sums := u.engine.sums.set p (Vector.replicate 48 ⟨0, 0⟩) }
        ∧ Adds [(.cameraLink, p.val), (.pictureChange, p.val)] u t
        ∧ SameBut [.cams, .health, .engine, .agent, .trunk] u t)

/-- R81, R82, R184: what learning takes, what its completion leaves, and the relearn hold that ends with it. In part
this rests on the choices of notes/assumptions/4.md, notes/assumptions/6.md and notes/assumptions/27.md. -/
def Obligations.LearningTakesThirtyTwoUsableSamples : Prop :=
  Claim.UsableSamplesAreLearned ∧ Claim.ARelearnHoldEndsWithItsLearning

/-- R49, R50, R77, R78: a pin request is dropped and counted with no LATEST tile in the camera's rendition-0 view or
with 4 pins standing, finds a pinned slot pinned, and else pins the slot and fills the lowest empty position. -/
def Obligations.APinRequestIsTaken : Prop :=
  ∀ (c : CameraId) (lens : LensCondition) (coverage : Nat) (s : State), s.storeOk →
    let dropped : State := { s with store := { s.store with
      counters := s.store.counters.set 1 (increment s.store.counters[(1 : Fin 2)]) } }
    (s.store.viewMap[viewOf c 0] = none → pinRequest c lens coverage s = (dropped, false))
      ∧ (∀ i : SlotNo, s.store.viewMap[viewOf c 0] = some i → (s.store.slots[i]).pinned = true →
        pinRequest c lens coverage s = (s, true))
      ∧ (∀ i : SlotNo, s.store.viewMap[viewOf c 0] = some i → (s.store.slots[i]).pinned = false →
        (∀ k : Fin 4, s.store.evidence[k] ≠ none) → pinRequest c lens coverage s = (dropped, false))
      ∧ (∀ i : SlotNo, ∀ k : Fin 4, s.store.viewMap[viewOf c 0] = some i → (s.store.slots[i]).pinned = false →
        s.store.evidence[k] = none → (∀ j : Fin 4, j < k → s.store.evidence[j] ≠ none) →
        pinRequest c lens coverage s = ({ s with store := { s.store with
          slots := s.store.slots.set i { s.store.slots[i] with pinned := true }
          evidence := s.store.evidence.set k (some ⟨i, c, lens, coverage, s.nodeTime, false⟩) } }, true))

/-- R77, R78, R83, R184: at the learning deadline the condition kept aside returns, moves once when it is rated, and
LEARN_FAILED and LENS_CHANGE are added, with a pin request for a worsening. A relearn hold ends with it, in every
mode: behind that work a port that only the hold powered goes OFF, its frame ending badly and its picture NO_SIGNAL,
with their causes; one with other demand, enabled in RUN or the survey's, is left. In part this rests on the choices
of notes/assumptions/4.md, notes/assumptions/17.md and notes/assumptions/27.md. -/
def Obligations.LearningFailsAtItsDeadline : Prop :=
  ∀ (p : CamPort) (kept : LensCondition) (s : State),
    let h := s.health[p]
    let e := s.tables.lensParams[p]
    let c := h.coverage
    h.lens = .learning → due s.nodeTime h.deadline = true → h.keptAside = some kept → kept ≠ .learning →
    let lens : LensCondition :=
      if kept = .clean then (if e.tBlock ≤ c then .blocked else if e.tWarn ≤ c then .smeared else .clean)
      else if kept = .smeared then (if e.tBlock ≤ c then .blocked else if c ≤ e.tWarn - e.h then .clean else .smeared)
      else if kept = .blocked then
        (if c ≤ e.tBlock - e.h then (if c ≤ e.tWarn - e.h then .clean else .smeared) else .blocked)
      else kept
    let asked := if lens = .smeared ∨ lens = .blocked then pinRequest (s.cameraId p) lens c s else (s, false)
    let told := addCause .lensChange p.val asked.2 (addCause .learnFailed p.val false s)
    ∃ t : State, exec (.learningDeadline p) s = .next t
      ∧ (t.health[p]).lens = lens ∧ (t.health[p]).keptAside = none ∧ (t.health[p]).deadline = none
      ∧ (t.health[p]).relearnHold = false
      ∧ (h.relearnHold = false → t.store = asked.1.store ∧ t.agent = told.agent ∧ t.trunk = told.trunk
        ∧ t.health = s.health.set p { h with lens := lens, keptAside := none, deadline := none }
        ∧ SameBut [.health, .store, .agent, .trunk] s t)
      ∧ (h.relearnHold = true → s.mode = .standby → s.survey.port ≠ some p → (s.cams[p]).power = true →
        (t.cams[p]).link = .off)
      ∧ (h.relearnHold = true → s.mode = .standby → s.survey.port = some p → (s.cams[p]).power = true →
        t.store = asked.1.store ∧ t.agent = told.agent ∧ t.trunk = told.trunk
          ∧ SameBut [.health, .store, .agent, .trunk] s t)
      ∧ (h.relearnHold = true →
        let link := (s.cams[p]).link
        let wants : Prop := (s.mode = .run ∧ (s.tables.cameraConfig[p]).enabled = true)
          ∨ (s.mode ≠ .bypass ∧ s.survey.port = some p)
        ∃ v : State,
          exec (.learningDeadline p) { s with health := s.health.set p { h with relearnHold := false } } = .next v
          ∧ ((s.cams[p]).power = true ∧ wants ∨ link = .off ∧ ¬ wants ∨ link = .testing ∨ link = .powerFault → t = v)
          ∧ (link = .off → wants → t.cams = s.cams.set p ((s.cams[p]).newly .waking s.nodeTime)
            ∧ Adds [(.cameraLink, p.val)] v t ∧ SameBut [.cams, .agent, .trunk] v t)
          ∧ (link = .waking ∨ link = .lost → ¬ wants → t.cams = s.cams.set p ((s.cams[p]).newly .off s.nodeTime)
            ∧ Adds [(.cameraLink, p.val)] v t ∧ SameBut [.cams, .agent, .trunk] v t)
          ∧ (link = .locked → ¬ wants → t.cams = s.cams.set p ((s.cams[p]).newly .off s.nodeTime)
            ∧ t.health = v.health.set p (v.health[p]).noSignal ∧ t.engine = (endBadly p v).engine
            ∧ t.store = (endBadly p v).store ∧ Adds (v.lossCauses p) v t
            ∧ SameBut [.cams, .health, .engine, .store, .agent, .trunk] v t))

/-! ### The lens survey -/

/-- R185, R186: in STANDBY a survey starts at its due time, sets the next one, and takes the lowest member port that is
neither TESTING nor in POWER_FAULT: an OFF port is powered and waited for, a LOCKED one is surveyed at once. -/
def Claim.ASurveyStartsAtItsDueTime : Prop :=
  ∀ s : State, s.mode = .standby → s.survey.phase = .idle → due s.nodeTime s.survey.due = true →
    let n := s.tables.nodeParams.surveyInterval
    let next : Option NodeTime := if n = 0 then none else some (s.nodeTime + BitVec.ofNat 32 (600000 * n))
    ((∀ p : CamPort, s.surveyPasses p) → exec .surveyStart s = .next { s with survey := ⟨.idle, next, none, 0⟩ })
      ∧ ∀ p : CamPort, ¬ s.surveyPasses p → (∀ q : CamPort, q < p → s.surveyPasses q) →
        ((s.cams[p]).link = .locked → exec .surveyStart s = .next { s with survey := ⟨.skip, next, some p, 0⟩ })
        ∧ ((s.cams[p]).link = .waking ∨ (s.cams[p]).link = .lost →
          exec .surveyStart s = .next { s with survey := ⟨.waitLock, next, some p, 0⟩ })
        ∧ ((s.cams[p]).link = .off → ∃ t : State, exec .surveyStart s = .next t
          ∧ t.survey = ⟨.waitLock, next, some p, 0⟩
          ∧ t.cams = s.cams.set p { s.cams[p] with
            link := .waking, lockTimer := some (s.nodeTime + 20000), stallTimer := none, retryTimer := none,
            probeLimit := none, openFrame := none, frameIndex := 0, prevNumber := none }
          ∧ Adds [(.cameraLink, p.val)] s t ∧ SameBut [.cams, .survey, .agent, .trunk] s t)

/-- R186: the frame with which the SKIP count reaches 8 begins the BURST, whose frames are samples; with the one with
which the BURST count reaches 16 the survey leaves the port, which goes OFF unless a relearn hold stands, and takes the
next. -/
def Claim.TheSurveyCountsItsFrames : Prop :=
  ∀ (p : CamPort) (f : OpenFrame) (pic : Picture) (s : State), (s.cams[p]).link = .locked →
    (s.cams[p]).openFrame = some f → f.goodWith pic = true → s.survey.port = some p → s.mode = .standby →
    (s.survey.phase = .skip → s.survey.count < 7 → ∃ t : State, exec (.frameEnd p pic) s = .next t
        ∧ t.survey = { s.survey with count := s.survey.count + 1 }
        ∧ (t.health[p]).sampleCount = (s.health[p]).sampleCount ∧ (t.health[p]).lens = (s.health[p]).lens)
      ∧ (s.survey.phase = .skip → 7 ≤ s.survey.count → ∃ t : State, exec (.surveySkipDone p pic) s = .next t
        ∧ exec (.frameEnd p pic) s = .next t ∧ t.survey = { s.survey with phase := .burst, count := 0 }
        ∧ (t.health[p]).sampleCount = (s.health[p]).sampleCount ∧ (t.health[p]).lens = (s.health[p]).lens)
      ∧ (s.survey.phase = .burst → s.survey.count < 15 → ∃ t : State, exec (.sample p pic) s = .next t
        ∧ exec (.frameEnd p pic) s = .next t ∧ t.survey = { s.survey with count := s.survey.count + 1 }
        ∧ (t.health[p]).sampleCount = 0)
      ∧ (s.survey.phase = .burst → 15 ≤ s.survey.count →
        ∃ t : State, exec (.surveyBurstDone p pic) s = .next t ∧ exec (.frameEnd p pic) s = .next t
          ∧ SurveyMovesOn p s t ∧ (t.cams[p]).link = if (t.health[p]).relearnHold then .locked else .off)

/-- R3, R5, R7, R10, R186, R187: the survey leaves its port at the lock timer's expiry, at a stall or a bad frame, and
at a trip, and takes the next. The port that was lost goes OFF, or stays LOST under a relearn hold. -/
def Claim.TheSurveyLeavesItsPort : Prop :=
  ∀ (p : CamPort) (h : FrameHead) (pic : Picture) (s : State), s.mode = .standby → s.survey.port = some p →
    let c := s.cams[p]
    let lost : CameraPort := c.newly (if (s.health[p]).relearnHold then .lost else .off) s.nodeTime
    let left (x : CameraPort) (told t : State) : Prop :=
      t.cams[p] = x ∧ SurveyMovesOn p s t ∧ SurveyTells p told s t
    let dark (x : CameraPort) (told t : State) : Prop :=
      left x told t ∧ t.health = s.health.set p (s.health[p]).noSignal ∧ t.engine = (endBadly p s).engine
        ∧ t.store = (endBadly p s).store ∧ SameBut [.cams, .health, .engine, .store, .survey, .agent, .trunk] s t
    let failed : CameraPort := { lost with counters := c.counters.set 2 (increment c.counters[(2 : Fin 6)]) }
    let loss := addTogether (s.lossCauses p) s
    let tripped : CameraPort := { c.newly .powerFault s.nodeTime with
      counters := c.counters.set 4 (increment c.counters[(4 : Fin 6)]) }
    (c.link = .waking → due s.nodeTime c.lockTimer = true → ∃ t : State, exec (.lockTimerExpiry p) s = .next t
        ∧ left lost (addCause .cameraLink p.val false s) t ∧ SameBut [.cams, .survey, .agent, .trunk] s t)
      ∧ (c.link = .locked → due s.nodeTime c.stallTimer = true →
        ∃ t : State, exec (.stallTimerExpiry p) s = .next t ∧ dark lost loss t)
      ∧ (c.link = .locked → c.openFrame ≠ none → ∃ t : State, exec (.shortLine p) s = .next t ∧ dark failed loss t)
      ∧ (c.link = .locked → c.openFrame ≠ none ∨ FrameHead.passes h = false →
        ∃ t : State, exec (.frameStart p h) s = .next t ∧ dark failed loss t)
      ∧ (∀ f : OpenFrame, c.link = .locked → c.openFrame = some f → f.goodWith pic = false →
        ∃ t : State, exec (.frameEnd p pic) s = .next t ∧ dark failed loss t)
      ∧ (c.link = .locked → ∃ t : State, exec (.overcurrentTrip p) s = .next t
        ∧ dark tripped (addTogether ((.powerFault, p.val) :: s.lossCauses p) s) t)
      ∧ (c.link = .waking ∨ c.link = .lost → ∃ t : State, exec (.overcurrentTrip p) s = .next t
        ∧ left tripped (addTogether [(.powerFault, p.val), (.cameraLink, p.val)] s) t
        ∧ SameBut [.cams, .survey, .agent, .trunk] s t)

/-- R185 to R187: the start of the lens survey, its frames, and what makes it leave a port and take the next (its
going from WAIT_LOCK to SKIP is Claim.TheFirstGoodFrameLocks's, a cable check of its port Claim.ACableCheckStarts's).
In part this rests on the choices of notes/assumptions/4.md, notes/assumptions/6.md, notes/assumptions/11.md,
notes/assumptions/17.md, notes/assumptions/25.md, notes/assumptions/26.md and notes/assumptions/27.md. -/
def Obligations.TheSurveyTakesThePortsInTurn : Prop :=
  Claim.ASurveyStartsAtItsDueTime ∧ Claim.TheSurveyCountsItsFrames ∧ Claim.TheSurveyLeavesItsPort

/-! ### Trunk ports -/

/-- R88: in TRAINING eight good headers in a row take the port UP, which TRAINING_COMPLETE is, and a bad one begins the
run again; in another state the cell changes nothing. -/
def Claim.EightGoodHeadersBringThePortUp : Prop :=
  ∀ (p : TrunkPort) (c : Cell) (s : State),
    let x := s.trunk.get p
    let set (y : Trunk) : State := { s with trunk := s.trunk.set p y }
    let good : Prop := byteAt c 7 = crc8 (padTo 7 c)
    (x.link = .training → good → x.goodRun < 7 →
        exec (.cellReceivedTraining p c) s = .next (set { x with goodRun := x.goodRun + 1 })
          ∧ exec (.trainingComplete p c) s = .next s)
      ∧ (x.link = .training → ¬ good →
        exec (.cellReceivedTraining p c) s = .next (set { x with goodRun := 0 })
          ∧ exec (.trainingComplete p c) s = .next s)
      ∧ (x.link = .training → good → 7 ≤ x.goodRun → ∃ t : State, exec (.trainingComplete p c) s = .next t
        ∧ exec (.cellReceivedTraining p c) s = .next t
        ∧ Adds [(.trunkLink, if p = .a then 0 else 1)]
          (set { x with link := .up, goodRun := x.goodRun + 1, failedRun := 0 }) t
        ∧ SameBut [.agent, .trunk] s t)
      ∧ (x.link ≠ .training →
        exec (.cellReceivedTraining p c) s = .next s ∧ exec (.trainingComplete p c) s = .next s)

/-- R88: in UP a failing header is counted, and the fourth in a row, which FAILED_HEADER_RUN_FULL is, takes the port to
TRAINING, counts LINK_LOSSES and clears the far-end fault flag. -/
def Claim.FourFailedHeadersLoseTheLink : Prop :=
  ∀ (p : TrunkPort) (c : Cell) (s : State),
    let x := s.trunk.get p
    let set (y : Trunk) : State := { s with trunk := s.trunk.set p y }
    let good : Prop := byteAt c 7 = crc8 (padTo 7 c)
    let counted := x.counters.set 2 (increment x.counters[(2 : Fin 9)])
    (x.link = .up → ¬ good → x.failedRun < 3 →
        exec (.headerFailure p c) s = .next (set { x with failedRun := x.failedRun + 1, counters := counted })
          ∧ exec (.failedHeaderRunFull p c) s = .next s)
      ∧ (x.link = .up → ¬ good → 3 ≤ x.failedRun → ∃ t : State, exec (.failedHeaderRunFull p c) s = .next t
        ∧ exec (.headerFailure p c) s = .next t
        ∧ Adds [(.trunkLink, if p = .a then 0 else 1)]
          (set { x with
            link := .training, farFault := false, goodRun := 0, failedRun := x.failedRun + 1,
            counters := counted.set 3 (increment x.counters[(3 : Fin 9)]) }) t
        ∧ SameBut [.agent, .trunk] s t)
      ∧ (x.link ≠ .up ∨ good → exec (.headerFailure p c) s = .next s ∧ exec (.failedHeaderRunFull p c) s = .next s)

/-- R88: training, and the loss of training. In part this rests on the choices of notes/assumptions/6.md and
notes/assumptions/7.md. -/
def Obligations.HeadersTrainAndLoseTheTrunkPort : Prop :=
  Claim.EightGoodHeadersBringThePortUp ∧ Claim.FourFailedHeadersLoseTheLink

/-- R88: signal takes a port from DOWN to TRAINING, its loss takes it to DOWN, counted from UP; each change adds
TRUNK_LINK with the port as subject. -/
def Claim.TheSignalMovesTheTrunkLink : Prop :=
  ∀ (p : TrunkPort) (s : State),
    let x := s.trunk.get p
    let subject : Nat := if p = .a then 0 else 1
    let moves (c : Instr) (y : Trunk) : Prop := ∃ t : State, exec c s = .next t
      ∧ Adds [(.trunkLink, subject)] { s with trunk := s.trunk.set p y } t ∧ SameBut [.agent, .trunk] s t
    (x.link = .down → moves (.signalDetected p) { x with link := .training, farFault := false, goodRun := 0 })
      ∧ (x.link ≠ .down → exec (.signalDetected p) s = .next s)
      ∧ (x.link = .down → exec (.signalLoss p) s = .next s)
      ∧ (x.link = .training → moves (.signalLoss p) { x with link := .down, farFault := false })
      ∧ (x.link = .up → moves (.signalLoss p) { x with
        link := .down, farFault := false, counters := x.counters.set 3 (increment x.counters[(3 : Fin 9)]) })

/-- R88, R89: a FILL taken in UP sets the failed-header run to 0 and the far-end fault flag to its FAULT flag; a change
of the flag adds TRUNK_LINK. It is not counted in CELLS_IN. -/
def Claim.AFillCarriesTheFarEndFault : Prop :=
  ∀ (p : TrunkPort) (c : Cell) (s : State), byteAt c 7 = crc8 (padTo 7 c) → (byteAt c 0).toNat / 16 = 0 →
    let x := s.trunk.get p
    let fault : Bool := (byteAt c 0).getLsbD 0
    (x.link = .up → x.farFault = fault →
        exec (.fill p c) s = .next { s with trunk := s.trunk.set p { x with failedRun := 0 } })
      ∧ (x.link = .up → x.farFault ≠ fault → ∃ t : State, exec (.fill p c) s = .next t
        ∧ Adds [(.trunkLink, if p = .a then 0 else 1)]
          { s with trunk := s.trunk.set p { x with failedRun := 0, farFault := fault } } t
        ∧ SameBut [.agent, .trunk] s t)
      ∧ (x.link ≠ .up → exec (.fill p c) s = .next s)

/-- R89: a cell of any other kind, taken in UP with the far-end fault flag set, first clears the flag and adds
TRUNK_LINK; all else it does is what it does where the flag is clear, with that cause in the set. -/
def Claim.ACellClearsTheFarEndFault : Prop :=
  ∀ (p : TrunkPort) (c : Cell) (row : Instr) (s : State), (s.trunk.get p).link = .up → headerOk c = true →
    (s.trunk.get p).farFault = true →
    (s.mode = .bypass ∧ kindOf c ≠ some .fill ∧ row = .bypassPass p c)
      ∨ (s.mode ≠ .bypass ∧ ((kindOf c = some .beacon ∧ row = .beacon p c) ∨ (kindOf c = some .state ∧ row = .state p c)
        ∨ (kindOf c = some .command ∧ row = .command p c)
        ∨ ((kindOf c = some .reply ∨ kindOf c = some .notice) ∧ row = .passReplyNotice p c)
        ∨ (kindOf c = none ∧ row = .badKind p c) ∨ (kindOf c = some .tileHead ∧ row = .tileHead p c)
        ∨ (kindOf c = some .tileData ∧ row = .tileData p c)
        ∨ (kindOf c = some .tileData ∧ s.endsContext c = true ∧ row = .contextEnd p c))) →
    let u : State := addCause .trunkLink (if p = .a then 0 else 1) false
      { s with trunk := s.trunk.set p { s.trunk.get p with farFault := false } }
    exec row s = exec row u ∧ ∃ t : State, exec row s = .next t ∧ (t.trunk.get p).farFault = false

/-- R88, R89: signal, its loss, FILL, and the far-end fault flag. In part this rests on the choices of
notes/assumptions/2.md and notes/assumptions/7.md. -/
def Obligations.SignalAndFillMoveTheTrunkPort : Prop :=
  Claim.TheSignalMovesTheTrunkLink ∧ Claim.AFillCarriesTheFarEndFault ∧ Claim.ACellClearsTheFarEndFault

/-- R89, R90, R93, R104, R115, R125, R190: with no send entries, a cell time gives each port the first that there is
of the bypass path, the control queue and the pass-through queue, or a FILL; a port that is not UP drops its cell,
counts NO_LINK and sends a FILL with FAULT. A TILE_HEAD that passes has its age corrected by its residence, at least 1
cell time, and the link allowance, unless it is damaged or the mode is BYPASS. In part this rests on the choices of
notes/assumptions/9.md, notes/assumptions/10.md and notes/assumptions/16.md. -/
def Obligations.ACellTimeServesEachPort : Prop :=
  ∀ (reads : MemoryReads) (s : State), s.trunk.a.sendList = [] → s.trunk.b.sendList = [] →
    let corrected (q : PassCell) : Nat :=
      min 65535 (ageField q.cell + ((max 1 (s.cellCount + 1 - q.arrivedAt) + 20) * 9 + 15624) / 15625)
    let leaves (q : PassCell) : Cell :=
      if lowFlag q.cell then sealHeader q.cell
      else if kindOf q.cell = some .tileHead ∧ s.mode ≠ .bypass then sealCell (setAge q.cell (corrected q))
      else sealCell q.cell
    ∃ t : State, exec (.cellTime reads) s = .next t ∧ t.cellCount = s.cellCount + 1
      ∧ SameBut [.cellCount, .trunk] s t
      ∧ ∀ p : TrunkPort,
        let x := s.trunk.get p
        let sends (y : Trunk) (c : Cell) : Prop := t.trunk.get p =
          if x.link = .up then
            { y with line := c, counters := y.counters.set 1 (increment y.counters[(1 : Fin 9)]) }
          else { y with line := fillCell true, counters := y.counters.set 4 (increment y.counters[(4 : Fin 9)]) }
        (∀ c rest, x.bypassPath = c :: rest → sends { x with bypassPath := rest } c)
          ∧ (∀ c rest, x.bypassPath = [] → x.control = c :: rest → sends { x with control := rest } (sealCell c))
          ∧ (∀ q rest, x.bypassPath = [] → x.control = [] → x.pass = q :: rest → sends { x with pass := rest } (leaves q))
          ∧ (x.bypassPath = [] → x.control = [] → x.pass = [] →
            t.trunk.get p = { x with line := fillCell (decide (x.link ≠ .up)) })

/-- R90, R93, R95, R96, R124, R190: where the front entry keeps its port, a pass-through cell goes first until the
share counter has reached the share; then the waiting entry's TILE_HEAD with its slot's age, held at 65,535, and the
next data cells of a started entry; each cell taken of the list sets the share counter to 0. An entry of a port that
is not UP goes on cell by cell, each dropped. -/
def Claim.TheSendListSharesTheLine : Prop :=
  ∀ (p : TrunkPort) (e : SendEntry) (rest : List SendEntry) (reads : MemoryReads) (s : State),
    let x := s.trunk.get p
    s.mode ≠ .bypass → x.bypassPath = [] → x.control = [] → x.sendList = e :: rest →
    (s.trunk.get p.other).sendList = [] → reads.get p = none →
    let k := s.tables.nodeParams.share
    let slot := s.store.slots[e.slot]
    (∀ q more, x.pass = q :: more → x.share < k → ∃ t : State, exec (.cellTime reads) s = .next t
        ∧ t.trunk.get p = { x with pass := more, share := x.share + 1 }.sends
          ((s.withCellCount (s.cellCount + 1)).passLeaves q)
        ∧ t.store = s.store)
      ∧ (∀ r st, x.pass = [] ∨ k ≤ x.share → e.started = false → e.next = none → slot.record = some r →
        r.stamp = some st → e.kind ≠ .tile ∨ s.sendRoute e.stream = .one p ∨ s.sendRoute e.stream = .both →
        ∃ t : State, exec (.cellTime reads) s = .next t
          ∧ t.trunk.get p = { x with sendList := { e with started := true, next := some 0 } :: rest, share := 0 }.sends
            (sealCell (tileHeadCell e.stream r st (min 65535 (ageInRange (match st.base with
              | .captured c => (s.nodeTime - c).toNat + 1
              | .arrived age a => age + (s.nodeTime - a).toNat + 2)))))
          ∧ t.store = s.store)
      ∧ (∀ r i, x.pass = [] ∨ k ≤ x.share → e.started = true → e.next = some i → i + 1 < e.cellCount →
        slot.record = some r →
        ∃ t : State, exec (.cellTime reads) s = .next t
          ∧ t.trunk.get p = { x with sendList := { e with next := some (i + 1) } :: rest, share := 0 }.sends
            (sealCell (tileDataCell slot.damaged e.stream r.sequence i (padTo 54 ((slot.data.drop (54 * i)).take 54))))
          ∧ t.store = s.store)

/-- R53, R90, R96, R192: the cell time in which an entry sends its last data cell, which SEND_ENTRY_END is, takes the
entry off the list, ends its hold, and for a fetch clears fetch running in the position it still names. -/
def Claim.ASendEntryEndsWithItsLastCell : Prop :=
  ∀ (p : TrunkPort) (e : SendEntry) (rest : List SendEntry) (i : Nat) (reads : MemoryReads) (s : State),
    let x := s.trunk.get p
    s.mode ≠ .bypass → x.bypassPath = [] → x.control = [] → x.sendList = e :: rest →
    (s.trunk.get p.other).sendList = [] → reads.get p = none → (x.pass = [] ∨ s.tables.nodeParams.share ≤ x.share) →
    e.started = true → e.next = some i → e.cellCount = i + 1 →
    ∃ t : State, exec (.sendEntryEnd p reads) s = .next t ∧ exec (.cellTime reads) s = .next t
      ∧ (t.trunk.get p).sendList = rest ∧ (t.trunk.get p).share = 0
      ∧ (∀ r, (s.store.slots[e.slot]).record = some r → t.trunk.get p = { x with sendList := rest, share := 0 }.sends
        (sealCell (tileDataCell (s.store.slots[e.slot]).damaged e.stream r.sequence i
          (padTo 54 (((s.store.slots[e.slot]).data.drop (54 * i)).take 54)))))
      ∧ (e.kind = .tile ∨ e.kind = .fetch none → t.store = s.store.endHold e.slot)
      ∧ (∀ k : Fin 4, e.kind = .fetch (some k) → t.store = { s.store.endHold e.slot with
        evidence := s.store.evidence.set k ((s.store.evidence[k]).map fun v => { v with fetching := false }) })

/-- R90, R93, R95: where the cell time finds a waiting TILE entry in front whose stream no longer names this port, the
entry does not start: with no port it is removed, its hold ends and SEND_CANCELLED counts it; with the other port only
it is handed there; the cell time goes to the next entry, or past an empty list to the pass-through queue. -/
def Claim.AFrontEntryIsCancelledOrHandedOver : Prop :=
  ∀ (p : TrunkPort) (e : SendEntry) (rest : List SendEntry) (reads : MemoryReads) (s : State),
    let x := s.trunk.get p
    let y := s.trunk.get p.other
    s.mode ≠ .bypass → x.bypassPath = [] → x.control = [] → x.sendList = e :: rest →
    (x.pass = [] ∨ s.tables.nodeParams.share ≤ x.share) → e.started = false → e.kind = .tile →
    ¬ s.namesPort e.stream p →
    let cancelled := x.counters.set 8 (increment x.counters[(8 : Fin 9)])
    let seen : State := { s with cellCount := s.cellCount + 1 }
    (¬ s.namesPort e.stream p.other → rest = [] → y.sendList = [] → ∃ t : State, exec (.cellTime reads) s = .next t
        ∧ t.store = s.store.endHold e.slot
        ∧ (x.pass = [] → t.trunk.get p =
          { x with sendList := [], counters := cancelled, line := fillCell (decide (x.link ≠ .up)) })
        ∧ (∀ q more, x.pass = q :: more → t.trunk.get p =
          { x with sendList := [], pass := more, counters := cancelled }.sends (seen.passLeaves q)))
      ∧ (∀ d more, ¬ s.namesPort e.stream p.other → rest = d :: more → y.sendList = [] → d.started = false →
        d.next = none → d.kind ≠ .tile ∨ s.namesPort d.stream p → ∃ t : State, exec (.cellTime reads) s = .next t
          ∧ t.store = s.store.endHold e.slot
          ∧ t.trunk.get p =
            { x with
              sendList := { d with started := true, next := some 0 } :: more, share := 0, counters := cancelled }.sends
            (sealCell (({ s with store := s.store.endHold e.slot } : State).headCell d)))
      ∧ (∀ c more, s.namesPort e.stream p.other → rest = [] → y.bypassPath = [] → y.control = c :: more →
        let handed := takeHanded p.other e { s with trunk := s.trunk.set p { x with sendList := [] } }
        ∃ t : State, exec (.cellTime reads) s = .next t ∧ t.store = handed.store
          ∧ (t.trunk.get p.other).sendList = (handed.trunk.get p.other).sendList
          ∧ (∀ i : Fin 9, i ≠ (if y.link = .up then 1 else 4) →
            (t.trunk.get p.other).counters[i] = (handed.trunk.get p.other).counters[i])
          ∧ (x.pass = [] → t.trunk.get p = { x with sendList := [], line := fillCell (decide (x.link ≠ .up)) })
          ∧ (∀ q more, x.pass = q :: more →
            t.trunk.get p = { x with sendList := [], pass := more }.sends (seen.passLeaves q)))

/-- R90, R93, R95, R96: with entries on both send lists, none of which is to be handed to the other, a cell time
serves port A as it does with list B empty, and port B as it does with list A empty, from the store that A has left;
it is the same store and the same ports whichever is served first. -/
def Claim.TheTwoPortsAreServedApart : Prop :=
  ∀ s : State, s.storeOk →
    (∀ p : TrunkPort, ∀ e ∈ (s.trunk.get p).sendList,
      e.started = true ∨ e.kind ≠ .tile ∨ s.namesPort e.stream p ∨ ¬ s.namesPort e.stream p.other) →
    let cellTime : Instr := .cellTime ⟨none, none⟩
    let onlyA : State := { s with trunk := s.trunk.set .b { s.trunk.b with sendList := [] } }
    let onlyB (store : Store) : State := { s with
      store := store
      trunk := s.trunk.set .a { s.trunk.a with sendList := [] } }
    ∃ t u v : State, exec cellTime s = .next t ∧ exec cellTime onlyA = .next u ∧ exec cellTime (onlyB u.store) = .next v
      ∧ t.trunk = ⟨u.trunk.a, v.trunk.b⟩ ∧ t.store = v.store ∧ t.cellCount = s.cellCount + 1
      ∧ SameBut [.cellCount, .store, .trunk] s t

/-- R53, R90, R93, R95, R96, R123, R124, R190, R192: the send list shares its port, its entries start, are cancelled
or handed over, and end, and the two ports are served apart. In part this rests on the choices of
notes/assumptions/6.md, notes/assumptions/9.md, notes/assumptions/16.md and notes/assumptions/23.md. -/
def Obligations.TheSendListSendsItsEntries : Prop :=
  Claim.TheSendListSharesTheLine ∧ Claim.AFrontEntryIsCancelledOrHandedOver ∧ Claim.ASendEntryEndsWithItsLastCell
    ∧ Claim.TheTwoPortsAreServedApart

/-- R36, R94: a published tile whose entry copy sends it joins the send list of each port its direction names, holding
its slot, or takes the place of the tile that waits there for its stream; a full list skips it. -/
def Claim.ASendRequestJoinsTheList : Prop :=
  ∀ (p : TrunkPort) (i : SlotNo) (sid : StreamId) (s : State),
    let l := (s.trunk.get p).sendList
    let entry : SendEntry := ⟨.tile, i, sid, false, none, (s.store.slots[i]).cells⟩
    let skipped : State := { s with trunk := s.trunk.set p { s.trunk.get p with
      counters := (s.trunk.get p).counters.set 7 (increment (s.trunk.get p).counters[(7 : Fin 9)]) } }
    ((∀ e ∈ l, ¬ (e.started = false ∧ e.stream = sid)) → l.length < 8 →
        requestSend p i sid s = { s with
          trunk := s.trunk.set p { s.trunk.get p with sendList := l ++ [entry] }, store := s.store.takeHold i })
      ∧ ((∀ e ∈ l, ¬ (e.started = false ∧ e.stream = sid)) → 8 ≤ l.length → requestSend p i sid s = skipped)
      ∧ (∀ (before : List SendEntry) (old : SendEntry) (behind : List SendEntry), l = before ++ old :: behind →
        old.started = false → old.stream = sid → (∀ e ∈ before ++ behind, ¬ (e.started = false ∧ e.stream = sid)) →
        (old.kind = .tile → requestSend p i sid s = { s with
          trunk := s.trunk.set p { s.trunk.get p with sendList := before ++ entry :: behind }
          store := (s.store.takeHold i).endHold old.slot })
        ∧ (old.kind ≠ .tile → requestSend p i sid s = skipped))

/-- R36, R97, R102, R113: the ports a tile is requested on, by its stream's direction in the route table (HEAD with no
entry), the orientation and the controller-side port. -/
def Claim.TheDirectionChoosesThePorts : Prop :=
  ∀ (i : SlotNo) (sid : StreamId) (s : State),
    let d := s.tables.routeDirection sid
    let t := placeRequests i sid s
    let counted (k : Fin 6) : State :=
      { s with engine := { s.engine with counters := s.engine.counters.set k (increment s.engine.counters[k]) } }
    (d = .none → t = s)
      ∧ (d = .both → t = requestSend .b i sid (requestSend .a i sid s))
      ∧ (∀ p : TrunkPort, d = .controller → s.controllerSide = some p → t = requestSend p i sid s)
      ∧ (d = .controller → s.controllerSide = none → t = counted 5)
      ∧ (d = .head → s.orient.state ≠ .found → t = counted 4)
      ∧ (d = .head → s.orient.state = .found → s.orient.candidate = true → t = s)
      ∧ (∀ p : TrunkPort, d = .head → s.orient.state = .found → s.orient.candidate = false →
        s.orient.headSide = some p → t = requestSend p i sid s)
      ∧ ((∀ k : Fin 128, ∀ e : RouteEntry, s.tables.route[k] = some e → e.stream ≠ sid) → d = .head)
      ∧ (s.routesOk → ∀ k : Fin 128, ∀ e : RouteEntry, s.tables.route[k] = some e → e.stream = sid → d = e.direction)

/-- R53, R95: a waiting TILE entry handed to the other port keeps its hold and joins the tail there; where an entry of
its stream waits, the older of the two tiles is dropped with its hold, and before a fetch the handed entry is. -/
def Claim.AHandedEntryKeepsItsHold : Prop :=
  ∀ (p : TrunkPort) (e : SendEntry) (s : State),
    let l := (s.trunk.get p).sendList
    let waits (d : SendEntry) : Prop := d.started = false ∧ d.stream = e.stream
    let withList (m : List SendEntry) : State := { s with trunk := s.trunk.set p { s.trunk.get p with sendList := m } }
    let dropped : State := { s with
      trunk := s.trunk.set p { s.trunk.get p with
        counters := (s.trunk.get p).counters.set 7 (increment (s.trunk.get p).counters[(7 : Fin 9)]) }
      store := s.store.endHold e.slot }
    ((∀ d ∈ l, ¬ waits d) → l.length < 8 → takeHanded p e s = withList (l ++ [e]))
      ∧ ((∀ d ∈ l, ¬ waits d) → 8 ≤ l.length → takeHanded p e s = dropped)
      ∧ ∀ (before : List SendEntry) (w : SendEntry) (behind : List SendEntry), l = before ++ w :: behind → waits w →
        (∀ d ∈ before ++ behind, ¬ waits d) →
        (w.kind = .tile → s.entryAge e ≤ s.entryAge w →
          takeHanded p e s = { withList (before ++ e :: behind) with store := s.store.endHold w.slot })
        ∧ (w.kind = .tile → s.entryAge w < s.entryAge e → takeHanded p e s = { s with store := s.store.endHold e.slot })
        ∧ (w.kind ≠ .tile → takeHanded p e s = dropped)

/-- R36, R53, R94, R95, R113: the ports a send request names, and how an entry joins a send list. -/
def Obligations.SendRequestsJoinTheListsOfTheirPorts : Prop :=
  Claim.ASendRequestJoinsTheList ∧ Claim.TheDirectionChoosesThePorts ∧ Claim.AHandedEntryKeepsItsHold

/-! ### Orientation -/

/-- R97, R98, R183: CAB_ACTIVE makes a cab-end node in RUN head, with its record, its first beacons and
ORIENTATION_CHANGE, or puts it in CONFLICT at once when it follows a lower head; elsewhere only the level changes. -/
def Claim.CabActiveMakesAHead : Prop :=
  ∀ s : State, s.orient.candidate = false →
    (s.cabActive = true → exec .cabActiveRise s = .next s)
      ∧ (s.cabActive = false → s.straps.cabEnd = false ∨ s.mode = .bypass →
        exec .cabActiveRise s = .next { s with cabActive := true })
      ∧ (s.cabActive = false → s.straps.cabEnd = true → s.mode = .run →
        (∀ h : Nat, s.orient.state = .found → s.orient.head = some h → s.straps.node.toNat + 1 ≤ h) →
        ∃ t : State, exec .cabActiveRise s = .next t ∧ t.cabActive = true
          ∧ t.orient = ⟨.found, some (s.straps.node.toNat + 1), none, some 0, none, true, none, some (s.nodeTime + 100)⟩
          ∧ Adds (if s.orient.state = .found ∧ s.orient.head = some (s.straps.node.toNat + 1) ∧ s.orient.headSide = none
            then [] else [(.orientationChange, 0)]) (beaconBoth s) t
          ∧ SameBut [.cabActive, .orient, .agent, .trunk] s t)
      ∧ (∀ h : Nat, s.cabActive = false → s.straps.cabEnd = true → s.mode = .run → s.orient.state = .found →
        s.orient.head = some h → h < s.straps.node.toNat + 1 →
        ∃ t : State, exec .cabActiveRise s = .next t ∧ t.cabActive = true
          ∧ t.orient = { s.orient with
            state := .conflict, candidate := true, resume := s.orient.lastBeacon.map fun b => b + 500,
            nextBeacon := none }
          ∧ Adds [(.headConflict, h), (.orientationChange, 0)] s t
          ∧ SameBut [.cabActive, .orient, .agent, .trunk] s t)

/-- R97, R147, R152: when CAB_ACTIVE falls a head knows no head, sends no beacons and stops composing, its screen holds
ending; a yielding node follows the head it heard; a node that is no candidate only sees the level change. -/
def Claim.CabActiveEndsTheHeadRole : Prop :=
  ∀ s : State,
    (s.cabActive = false → exec .cabActiveFall s = .next s)
      ∧ (s.cabActive = true → s.orient.candidate = false →
        exec .cabActiveFall s = .next { s with cabActive := false })
      ∧ (s.cabActive = true → s.orient.candidate = true → s.orient.state = .conflict →
        ∃ t : State, exec .cabActiveFall s = .next t ∧ t.cabActive = false
          ∧ t.orient = { s.orient with state := .found, candidate := false, resume := none, nextBeacon := none }
          ∧ Adds [(.orientationChange, 0)] s t ∧ SameBut [.cabActive, .orient, .agent, .trunk] s t)
      ∧ (s.cabActive = true → s.orient.candidate = true → s.orient.state = .found →
        ∃ t : State, exec .cabActiveFall s = .next t ∧ t.cabActive = false
          ∧ t.orient = ⟨.none, none, none, none, none, false, none, none⟩
          ∧ Adds [(.orientationChange, 0)] s t
          ∧ (∀ sc : Screen, t.comp.outputs[sc] = { s.comp.outputs[sc] with
            frame := (s.comp.outputs[sc]).frame.map fun f => ⟨false, none, f.background, [], []⟩ })
          ∧ t.comp.applyImage = s.comp.applyImage ∧ t.comp.pulseEnd = s.comp.pulseEnd
          ∧ t.store = (s.store.endHolds (s.comp.outputs[(0 : Screen)]).held).endHolds (s.comp.outputs[(1 : Screen)]).held
          ∧ SameBut [.cabActive, .orient, .agent, .trunk, .comp, .store] s t)

/-- R97, R98, R147, R152, R183: what the two edges of CAB_ACTIVE do. In part this rests on the choices of
notes/assumptions/2.md, notes/assumptions/4.md, notes/assumptions/18.md, notes/assumptions/21.md and
notes/assumptions/28.md. -/
def Obligations.CabActiveGivesAndEndsTheHeadRole : Prop :=
  Claim.CabActiveMakesAHead ∧ Claim.CabActiveEndsTheHeadRole

/-- R99, R100, R112: a node that is not head follows the beacon of a head not above the one it knows and sends it on
one hop further; a head yields to a lower node's beacon, its screens' frames becoming background and their holds
ending, and ignores any other; a failing payload is counted. In part this rests on the choices of
notes/assumptions/4.md, notes/assumptions/7.md, notes/assumptions/18.md and notes/assumptions/21.md. -/
def Obligations.BeaconsAreFollowedOrYieldedTo : Prop :=
  ∀ (p : TrunkPort) (c : Cell) (s : State), (s.trunk.get p).link = .up → headerOk c = true → s.mode ≠ .bypass →
    kindOf c = some .beacon → (s.trunk.get p).farFault = false →
    let u : State := { s with trunk := s.trunk.set p (s.handed p) }
    let h := (byteAt c 8).toNat % 16
    let hops := min 15 ((byteAt c 9).toNat % 16 + 1)
    let named : Prop := payloadOk c = true ∧ 1 ≤ h ∧ h ≤ 8
    (payloadOk c = false → exec (.beacon p c) s = .next { u with router := { s.router with
        counters := s.router.counters.set 0 (increment s.router.counters[(0 : Fin 13)]) } })
      ∧ (payloadOk c = true → h = 0 ∨ 8 < h → exec (.beacon p c) s = .next u)
      ∧ (named → s.isHead = true → s.straps.node.toNat + 1 ≤ h → exec (.beacon p c) s = .next u)
      ∧ (∀ g : Nat, named → s.isHead = false → s.orient.state ≠ .none → s.orient.head = some g → g < h →
        exec (.beacon p c) s = .next u)
      ∧ (named → s.isHead = false → s.orient.state = .none ∨ s.orient.head = none ∨ (∃ g, s.orient.head = some g ∧ h ≤ g) →
        let yielding := decide (s.orient.state = .conflict)
        let o : Orientation := ⟨if yielding then .conflict else .found, some h, some p, some hops, some s.nodeTime,
          s.orient.candidate, if yielding then some (s.nodeTime + 500) else none, none⟩
        ∃ t : State, exec (.beacon p c) s = .next t ∧ t.orient = o
          ∧ Adds (if s.orient.state = o.state ∧ s.orient.head = some h ∧ s.orient.headSide = some p then []
            else [(.orientationChange, 0)]) (placeBeacon p.other h hops u) t
          ∧ SameBut [.orient, .agent, .trunk] s t)
      ∧ (named → s.isHead = true → h < s.straps.node.toNat + 1 →
        ∃ t : State, exec (.beacon p c) s = .next t
          ∧ t.orient = ⟨.conflict, some h, some p, some hops, some s.nodeTime, true, some (s.nodeTime + 500), none⟩
          ∧ Adds [(.headConflict, h), (.orientationChange, 0)] (placeBeacon p.other h hops u) t
          ∧ (∀ sc : Screen, t.comp.outputs[sc] = { s.comp.outputs[sc] with
            frame := (s.comp.outputs[sc]).frame.map fun f => ⟨false, none, f.background, [], []⟩ })
          ∧ t.comp.applyImage = s.comp.applyImage ∧ t.comp.pulseEnd = s.comp.pulseEnd
          ∧ t.store = (s.store.endHolds (s.comp.outputs[(0 : Screen)]).held).endHolds (s.comp.outputs[(1 : Screen)]).held
          ∧ SameBut [.orient, .agent, .trunk, .comp, .store] s t)

/-- R91, R98: each beacon period a head places a beacon with its own number and hop count 0 on each port that is UP,
where there is room, and the next is due 10 ms after the last; a node that is not head places none. -/
def Claim.AHeadSendsItsBeacons : Prop :=
  ∀ s : State,
    (s.isHead = true → due s.nodeTime s.orient.nextBeacon = true →
      ∃ t : State, exec .beaconPeriod s = .next t
        ∧ t.orient = { s.orient with nextBeacon := s.orient.nextBeacon.map fun b => b + 100 }
        ∧ (∀ p : TrunkPort,
          let x := s.trunk.get p
          t.trunk.get p =
            if x.link = .up then
              (if x.control.length < 32 then
                { x with control := x.control ++ [mkCell [0x10] [byte (s.straps.node.toNat + 1), 0]] }
              else { x with counters := x.counters.set 5 (increment x.counters[(5 : Fin 9)]) })
            else x)
        ∧ SameBut [.trunk, .orient] s t)
      ∧ (s.isHead = false ∨ due s.nodeTime s.orient.nextBeacon = false → exec .beaconPeriod s = .next s)

/-- R100, R101: 50 ms after the last beacon a following node knows no head; a yielding node becomes head again at its
resume time, with its beacons; both add ORIENTATION_CHANGE, and before that time nothing changes. -/
def Claim.AHeadIsForgottenOrResumed : Prop :=
  ∀ s : State,
    let silent := due s.nodeTime (s.orient.lastBeacon.map fun b => b + 500)
    (s.orient.state = .found → s.orient.candidate = false → silent = true →
      ∃ t : State, exec .orientationExpiry s = .next t
        ∧ t.orient = ⟨.none, none, none, none, none, false, none, none⟩
        ∧ Adds [(.orientationChange, 0)] s t ∧ SameBut [.orient, .agent, .trunk] s t)
      ∧ (s.orient.state ≠ .found ∨ s.orient.candidate = true ∨ silent = false → exec .orientationExpiry s = .next s)
      ∧ (s.orient.state = .conflict → s.orient.candidate = true → due s.nodeTime s.orient.resume = true →
        ∃ t : State, exec .resumeTime s = .next t
          ∧ t.orient = ⟨.found, some (s.straps.node.toNat + 1), none, some 0, none, true, none, some (s.nodeTime + 100)⟩
          ∧ Adds [(.orientationChange, 0)] (beaconBoth s) t ∧ SameBut [.orient, .agent, .trunk] s t)
      ∧ (s.orient.state ≠ .conflict ∨ s.orient.candidate = false ∨ due s.nodeTime s.orient.resume = false →
        exec .resumeTime s = .next s)

/-- R91, R98, R100, R101: what node time brings to the orientation. In part this rests on the choices of
notes/assumptions/2.md, notes/assumptions/4.md, notes/assumptions/15.md, notes/assumptions/17.md and
notes/assumptions/28.md. -/
def Obligations.BeaconsExpiryAndResumeFollowTheirTimes : Prop :=
  Claim.AHeadSendsItsBeacons ∧ Claim.AHeadIsForgottenOrResumed

/-! ### Cells that arrive -/

/-- R102, R112, R127: a STATE cell sets the vehicle state record, the controller-side port and fresh, is passed on,
and brings an evaluation of each screen when the record changed; a failing payload is counted and nothing is taken.
When the controller-side port becomes known with causes waiting, a NOTICE goes out there first (R175). In part this
rests on the choices of notes/assumptions/7.md. -/
def Obligations.AStateCellIsTaken : Prop :=
  ∀ (p : TrunkPort) (c : Cell) (s : State), (s.trunk.get p).link = .up → headerOk c = true → s.mode ≠ .bypass →
    kindOf c = some .state → (s.trunk.get p).farFault = false →
    let u : State := { s with trunk := s.trunk.set p (s.handed p) }
    let b := payloadOf c
    let door (d : Fin 16) : Nat :=
      if d.val % 2 = 0 then (byteAt b (3 + d.val / 2)).toNat / 16 else (byteAt b (3 + d.val / 2)).toNat % 16
    let v : Vehicle :=
      { speed := min 1000 (halfAt b 0).toNat
        travel := if (byteAt b 2).getLsbD 0 then .reverse else .forward
        release := releaseOf ((byteAt b 2).toNat / 2 % 4)
        doors := Vector.ofFn fun d : Fin 16 => doorStateOf (door d)
        fresh := true
        lastState := some s.nodeTime
        expiry := some (s.nodeTime + BitVec.ofNat 32 (10 * s.tables.nodeParams.stateTimeout)) }
    let changed : Prop := v.speed ≠ s.vehicle.speed ∨ v.travel ≠ s.vehicle.travel ∨ v.release ≠ s.vehicle.release
      ∨ v.doors ≠ s.vehicle.doors ∨ s.vehicle.fresh = false
    let seen : State := { s with vehicle := v }
    (payloadOk c = false → exec (.state p c) s = .next { u with router := { s.router with
        counters := s.router.counters.set 0 (increment s.router.counters[(0 : Fin 13)]) } })
      ∧ (payloadOk c = true → ∃ t : State, exec (.state p c) s = .next t ∧ t.vehicle = v ∧ t.controllerSide = some p
        ∧ (changed → t.selection = (evaluateBoth seen).selection ∧ t.comp = (evaluateBoth seen).comp)
        ∧ (¬ changed → t.selection = s.selection ∧ t.comp = s.comp)
        ∧ t.trunk.get p.other = (if (s.trunk.get p.other).control.length < 32 then
            { s.trunk.get p.other with control := (s.trunk.get p.other).control ++ [c] }
          else { s.trunk.get p.other with counters :=
            (s.trunk.get p.other).counters.set 5 (increment (s.trunk.get p.other).counters[(5 : Fin 9)]) })
        ∧ (s.controllerSide ≠ none ∨ s.agent.armed = false ∨ (s.agent.causes = [] ∧ s.agent.overflow = false) →
          t.trunk.get p = s.handed p ∧ t.agent = s.agent)
        ∧ (s.controllerSide = none → s.agent.armed = true → s.agent.causes ≠ [] ∨ s.agent.overflow = true →
          (s.trunk.get p).control.length + 2 ≤ 32 →
          t.trunk.get p = { s.handed p with control := (s.trunk.get p).control ++ s.noticeCells }
            ∧ t.agent = { s.agent with armed := false })
        ∧ SameBut [.trunk, .controllerSide, .vehicle, .selection, .comp, .agent] s t)

/-- R91, R102, R112, R165, R175: a COMMAND sets the controller-side port, with the NOTICE that waits for it; for this
node it joins the agent's queue, or is answered OVERFLOW when 4 wait; for another node it is passed on; for all nodes
both. -/
def Claim.ACommandCellIsQueuedOrPassedOn : Prop :=
  ∀ (p : TrunkPort) (c : Cell) (s : State), (s.trunk.get p).link = .up → headerOk c = true → s.mode ≠ .bypass →
    kindOf c = some .command → (s.trunk.get p).farFault = false →
    let u : State := { s with trunk := s.trunk.set p (s.handed p) }
    let v := u.sided p
    let destination := (byteAt c 1).toNat % 16
    let mine : Prop := destination = s.straps.node.toNat + 1
    let passed : State := { v with trunk := v.trunk.set p.other ((s.trunk.get p.other).queued c) }
    let queued (x : State) : State := { x with agent := { x.agent with queue := s.agent.queue ++ [⟨p, c⟩] } }
    let refused (x : State) : State := { x with trunk := (reply ⟨p, c⟩ .overflow [[]] x).trunk }
    (payloadOk c = false → exec (.command p c) s = .next { u with router := { s.router with
        counters := s.router.counters.set 0 (increment s.router.counters[(0 : Fin 13)]) } })
      ∧ (payloadOk c = true → mine → s.agent.queue.length < 4 → exec (.command p c) s = .next (queued v))
      ∧ (payloadOk c = true → mine → 4 ≤ s.agent.queue.length → exec (.command p c) s = .next (refused v))
      ∧ (payloadOk c = true → ¬ mine → destination ≠ 15 → exec (.command p c) s = .next passed)
      ∧ (payloadOk c = true → destination = 15 → s.agent.queue.length < 4 →
        exec (.command p c) s = .next (queued passed))
      ∧ (payloadOk c = true → destination = 15 → 4 ≤ s.agent.queue.length →
        exec (.command p c) s = .next (refused passed))

/-- R91, R112: a REPLY or NOTICE is placed in the control queue of the opposite port, or dropped there when it is
full; a cell whose kind code names no kind is discarded; a failing payload is counted in both, and the first is then
discarded too. -/
def Claim.RepliesAndNoticesArePassedOn : Prop :=
  ∀ (p : TrunkPort) (c : Cell) (s : State), (s.trunk.get p).link = .up → headerOk c = true → s.mode ≠ .bypass →
    (s.trunk.get p).farFault = false →
    let u : State := { s with trunk := s.trunk.set p (s.handed p) }
    let other := s.trunk.get p.other
    let failed (v : Vector Counter 13) : Vector Counter 13 := v.set 0 (increment v[(0 : Fin 13)])
    let badKind := s.router.counters.set 1 (increment s.router.counters[(1 : Fin 13)])
    let withCounters (v : Vector Counter 13) : State := { u with router := { s.router with counters := v } }
    (kindOf c = some .reply ∨ kindOf c = some .notice → payloadOk c = true →
      exec (.passReplyNotice p c) s = .next { u with trunk := u.trunk.set p.other (other.queued c) })
      ∧ (kindOf c = some .reply ∨ kindOf c = some .notice → payloadOk c = false →
        exec (.passReplyNotice p c) s = .next (withCounters (failed s.router.counters)))
      ∧ (8 ≤ (byteAt c 0).toNat / 16 →
        exec (.badKind p c) s = .next (withCounters (if payloadOk c then badKind else failed badKind)))

/-- R91, R102, R112, R165, R175: COMMAND, REPLY and NOTICE cells, and cells of no kind. In part this rests on the
choices of notes/assumptions/7.md and notes/assumptions/13.md. -/
def Obligations.ControlCellsAreTakenOrPassedOn : Prop :=
  Claim.ACommandCellIsQueuedOrPassedOn ∧ Claim.RepliesAndNoticesArePassedOn

/-- R89, R92, R113 to R115: the forward part of a TILE_HEAD or TILE_DATA that is not consumed: it joins the opposite
port's pass-through queue, marked damaged when it is bad, or is dropped there when that holds 1,024; or one counter
names why it goes no further. In part this rests on the choices of notes/assumptions/7.md and notes/assumptions/9.md.
-/
def Obligations.ATileCellIsForwarded : Prop :=
  ∀ (p : TrunkPort) (c : Cell) (kind : CellKind) (s : State), kind = .tileHead ∨ kind = .tileData →
    s.tileArrives p c kind → s.tables.routeConsume (streamOf c) = false ∨ s.mode = .standby →
    let command : Instr := if kind = .tileHead then .tileHead p c else .tileData p c
    let d := s.tables.routeDirection (streamOf c)
    let bad : Prop := payloadOk c = false ∨ lowFlag c = true
    let counters := if payloadOk c then s.router.counters
      else s.router.counters.set 0 (increment s.router.counters[(0 : Fin 13)])
    let u : State := { s with
      trunk := s.trunk.set p (s.handed p), router := { s.router with counters := counters } }
    let stopped (k : Fin 13) : State := { u with router := { s.router with counters := counters.set k (increment counters[k]) } }
    let other := s.trunk.get p.other
    let joined : Trunk :=
      if other.pass.length < 1024 then
        { other with pass := other.pass ++ [⟨if bad then (byteAt c 0 ||| 1) :: c.drop 1 else c, s.cellCount⟩] }
      else { other with counters := other.counters.set 6 (increment other.counters[(6 : Fin 9)]) }
    let follows : Prop := s.orient.state ≠ .none ∧ s.isHead = false
    (d = .none → exec command s = .next u)
      ∧ (d = .both ∨ (d = .controller ∧ s.controllerSide = some p.other)
          ∨ (d = .head ∧ follows ∧ s.orient.headSide = some p.other) →
        exec command s = .next { u with trunk := u.trunk.set p.other joined })
      ∧ (d = .controller → s.controllerSide = none → exec command s = .next (stopped 5))
      ∧ (d = .controller → s.controllerSide = some p → exec command s = .next (stopped 2))
      ∧ (d = .head → s.orient.state = .none → exec command s = .next (stopped 4))
      ∧ (d = .head → s.isHead = true → s.orient.state ≠ .none → exec command s = .next (stopped 3))
      ∧ (d = .head → follows → s.orient.headSide = some p → exec command s = .next (stopped 2))

/-- R40, R42, R113 to R118: a consumed TILE_HEAD, of every direction, is forwarded as its route entry says, and a
failing payload is counted. A valid one of a stream with no context opens one in the lowest closed context and FREE
slot, or is counted CONTEXT_FULL or SLOT_SHORT; of a stream with an open context it first breaks that one, its slot
FREE and TILE_BROKEN counted, and so always opens; one that is not valid, as when its payload fails or it is damaged,
is counted BAD_TILE_HEAD and breaks the context its stream had. In part this rests on the choices of
notes/assumptions/7.md, notes/assumptions/9.md and notes/assumptions/14.md. -/
def Obligations.AConsumedTileHeadOpensAContext : Prop :=
  ∀ (p : TrunkPort) (c : Cell) (s : State), s.tileConsumed p c .tileHead →
    let sid := streamOf c
    let alone : Prop := ∀ k : ContextNo, ∀ x : Context, s.router.contexts[k] = some x → x.stream ≠ sid
    let u := s.tilePassed p c
    let counted (k : Fin 13) : State := { u with router := { u.router with
      counters := u.router.counters.set k (increment u.router.counters[k]) } }
    (∀ f : TileHeadFields, readTileHead c = some f → alone → (∀ k : ContextNo, s.router.contexts[k] ≠ none) →
        exec (.tileHead p c) s = .next (counted 7))
      ∧ (∀ f : TileHeadFields, ∀ k : ContextNo, readTileHead c = some f → alone → s.router.contexts[k] = none →
        (∀ i : SlotNo, (s.store.slots[i]).state ≠ .free) → exec (.tileHead p c) s = .next (counted 8))
      ∧ (∀ f : TileHeadFields, ∀ k : ContextNo, ∀ i : SlotNo, readTileHead c = some f → alone →
        s.router.contexts[k] = none → (∀ j : ContextNo, j < k → s.router.contexts[j] ≠ none) →
        (s.store.slots[i]).state = .free → (∀ j : SlotNo, j < i → (s.store.slots[j]).state ≠ .free) →
        exec (.tileHead p c) s = .next { u with
          store := { s.store with slots := s.store.slots.set i ⟨.filling, .context k, none, 0, false, false,
            some ⟨sid, f.sequence, f.width, f.height, f.mirror, f.captureFrame,
              some ⟨f.view, .arrived f.age s.nodeTime, f.picture, f.lens, f.coverage⟩⟩, []⟩ }
          router := { s.router with contexts := s.router.contexts.set k (some
            { stream := sid, view := f.view, sequence := f.sequence, width := f.width, height := f.height,
              cellCount := f.cellCount, next := 0, slot := i, headArrival := s.nodeTime, arrivedAge := f.age,
              picture := f.picture, lens := f.lens, coverage := f.coverage,
              expiry := s.nodeTime + BitVec.ofNat 32 (10 * s.tables.nodeParams.contextTimeout), damaged := false }) } })
      ∧ (∀ f : TileHeadFields, ∀ k : ContextNo, ∀ x : Context, readTileHead c = some f → s.contextsOk →
        s.router.contexts[k] = some x → x.stream = sid → (s.store.slots[x.slot]).state = .filling →
        let broken : State := { s with
          store := { s.store with slots := s.store.slots.set x.slot ⟨.free, .none, none, 0, false, false, none, []⟩ }
          router := { s.router with
            contexts := s.router.contexts.set k none
            counters := s.router.counters.set 11 (increment s.router.counters[(11 : Fin 13)]) } }
        exec (.tileHead p c) s = exec (.tileHead p c) broken
          ∧ ∃ t : State, exec (.tileHead p c) s = .next t ∧ t.router.counters = broken.router.counters
            ∧ ∃ j : ContextNo, ∃ y : Context, t.router.contexts[j] = some y ∧ y.stream = sid ∧ y.next = 0
              ∧ y.headArrival = s.nodeTime)
      ∧ (payloadOk c = false ∨ lowFlag c = true → readTileHead c = none)
      ∧ (readTileHead c = none → alone → exec (.tileHead p c) s = .next (counted 6))
      ∧ (∀ k : ContextNo, ∀ x : Context, readTileHead c = none → s.contextsOk →
        s.router.contexts[k] = some x → x.stream = sid → (s.store.slots[x.slot]).state = .filling →
        exec (.tileHead p c) s = .next { u with
          store := { s.store with slots := s.store.slots.set x.slot ⟨.free, .none, none, 0, false, false, none, []⟩ }
          router := { s.router with
            contexts := s.router.contexts.set k none
            counters := (u.router.counters.set 6 (increment u.router.counters[(6 : Fin 13)])).set 11
              (increment u.router.counters[(11 : Fin 13)]) } })

/-- R92, R113 to R115, R119, R120: a consumed data cell, of every direction, is forwarded as its route entry says, and a
failing payload is counted. The next data cell of a context joins its slot, without the padding of the last, and marks
the context damaged when its payload fails or it arrived damaged; a cell out of turn is not written and marks the
context damaged. The last cell, or one out of turn whose index reaches it, ends the context, which CONTEXT_END is: an
undamaged one is published, and a damaged one gives its slot back, counted TILE_BROKEN. A data cell with no context is
counted. -/
def Claim.DataCellsFillTheContext : Prop :=
  ∀ (p : TrunkPort) (c : Cell) (s : State), s.tileConsumed p c .tileData → s.contextsOk →
    let sid := streamOf c
    let bad : Bool := !payloadOk c || lowFlag c
    let u := s.tilePassed p c
    let counted (k : Fin 13) : Vector Counter 13 := u.router.counters.set k (increment u.router.counters[k])
    ((∀ k : ContextNo, ∀ x : Context, s.router.contexts[k] = some x → x.stream ≠ sid) →
        exec (.tileData p c) s = .next { u with router := { s.router with counters := counted 9 } }
        ∧ exec (.contextEnd p c) s = .next s)
      ∧ ∀ k : ContextNo, ∀ x : Context, s.router.contexts[k] = some x → x.stream = sid →
        let inTurn : Prop := byteAt c 3 = x.sequence.extractLsb' 0 8 ∧ (halfAt c 4).toNat = x.next
        let bytes := (payloadOf c).take (2 * x.width * x.height - 54 * x.next)
        let written : Store :=
          s.store.setSlot x.slot { s.store.slots[x.slot] with data := (s.store.slots[x.slot]).data ++ bytes }
        let holding (y : Context) : Router := { u.router with contexts := s.router.contexts.set k (some y) }
        let broken : State := { u with
          store := { s.store with slots := s.store.slots.set x.slot ⟨.free, .none, none, 0, false, false, none, []⟩ }
          router := { s.router with contexts := s.router.contexts.set k none, counters := counted 11 } }
        (inTurn → x.next + 1 < x.cellCount →
          exec (.tileData p c) s = .next { u with
            store := written
            router := holding { x with next := x.next + 1, damaged := x.damaged || bad } }
          ∧ exec (.contextEnd p c) s = .next s)
        ∧ (¬ inTurn → (halfAt c 4).toNat + 1 < x.cellCount →
          exec (.tileData p c) s = .next { u with router := holding { x with damaged := true } }
          ∧ exec (.contextEnd p c) s = .next s)
        ∧ (inTurn → x.cellCount ≤ x.next + 1 → x.damaged = false → bad = false →
          ∃ t : State, exec (.contextEnd p c) s = .next t
          ∧ exec (.tileData p c) s = .next t
          ∧ t.store = written.publish x.slot x.view
          ∧ t.router = { s.router with contexts := s.router.contexts.set k none, counters := counted 10 }
          ∧ t.trunk = u.trunk ∧ t.alarm = t.store.alarmCount
          ∧ (t.alarm = s.alarm → t.selection = s.selection ∧ t.comp = s.comp)
          ∧ (t.alarm ≠ s.alarm → let seen := evaluateBoth { s with alarm := t.alarm }
            t.selection = seen.selection ∧ t.comp = seen.comp)
          ∧ SameBut [.trunk, .router, .store, .alarm, .selection, .comp] s t)
        ∧ (inTurn → x.cellCount ≤ x.next + 1 → x.damaged = true ∨ bad = true →
          (s.store.slots[x.slot]).state = .filling →
          exec (.contextEnd p c) s = .next broken ∧ exec (.tileData p c) s = .next broken)
        ∧ (¬ inTurn → x.cellCount ≤ (halfAt c 4).toNat + 1 → (s.store.slots[x.slot]).state = .filling →
          exec (.contextEnd p c) s = .next broken ∧ exec (.tileData p c) s = .next broken)

/-- R43, R121: a context whose expiry is reached gives its FILLING slot back and closes, counted TILE_TIMEOUT; before
that time, or closed, nothing changes. -/
def Claim.AContextTimesOut : Prop :=
  ∀ (k : ContextNo) (s : State),
    (∀ x : Context, s.router.contexts[k] = some x → due s.nodeTime (some x.expiry) = true →
      (s.store.slots[x.slot]).state = .filling →
      exec (.contextExpiry k) s = .next { s with
        store := { s.store with slots := s.store.slots.set x.slot ⟨.free, .none, none, 0, false, false, none, []⟩ }
        router := { s.router with
          contexts := s.router.contexts.set k none
          counters := s.router.counters.set 12 (increment s.router.counters[(12 : Fin 13)]) } })
      ∧ (∀ x : Context, s.router.contexts[k] = some x → due s.nodeTime (some x.expiry) = false →
        exec (.contextExpiry k) s = .next s)
      ∧ (s.router.contexts[k] = none → exec (.contextExpiry k) s = .next s)

/-- R43, R92, R113 to R115, R119 to R121: data cells and the context expiry. In part this rests on the choices of
notes/assumptions/2.md, notes/assumptions/6.md, notes/assumptions/7.md, notes/assumptions/9.md and
notes/assumptions/17.md. -/
def Obligations.ContextsFillAndTimeOut : Prop :=
  Claim.DataCellsFillTheContext ∧ Claim.AContextTimesOut

/-- R91, R102, R104, R112, R165, R175: in BYPASS every cell but FILL takes the other port's bypass path unchanged; a
STATE or COMMAND whose payload fails is counted; a good one sets the controller-side port, with the NOTICE that waits
for it; and a COMMAND for this node joins the agent's queue, or is answered OVERFLOW when 4 wait. In part this rests
on the choices of notes/assumptions/7.md and notes/assumptions/13.md. -/
def Obligations.BypassPassesCellsUnchanged : Prop :=
  ∀ (p : TrunkPort) (c : Cell) (s : State), (s.trunk.get p).link = .up → headerOk c = true → s.mode = .bypass →
    kindOf c ≠ some .fill → (s.trunk.get p).farFault = false →
    let other := s.trunk.get p.other
    let u : State := { s with
      trunk := (s.trunk.set p (s.handed p)).set p.other { other with bypassPath := other.bypassPath ++ [c] } }
    let v := u.sided p
    let control : Prop := kindOf c = some .state ∨ kindOf c = some .command
    let mine : Prop := (byteAt c 1).toNat % 16 = s.straps.node.toNat + 1 ∨ (byteAt c 1).toNat % 16 = 15
    (¬ control → exec (.bypassPass p c) s = .next u)
      ∧ (control → payloadOk c = false → exec (.bypassPass p c) s = .next { u with router := { s.router with
        counters := s.router.counters.set 0 (increment s.router.counters[(0 : Fin 13)]) } })
      ∧ (control → payloadOk c = true → kindOf c = some .state ∨ ¬ mine → exec (.bypassPass p c) s = .next v)
      ∧ (kindOf c = some .command → payloadOk c = true → mine → s.agent.queue.length < 4 →
        exec (.bypassPass p c) s = .next { v with agent := { v.agent with queue := s.agent.queue ++ [⟨p, c⟩] } })
      ∧ (kindOf c = some .command → payloadOk c = true → mine → 4 ≤ s.agent.queue.length →
        exec (.bypassPass p c) s = .next { v with trunk := (reply ⟨p, c⟩ .overflow [[]] v).trunk })

/-! ### The selector and the compositor -/

/-- R128, R138 to R141: when the staleness expiry is reached fresh is cleared, the rest of the record is held, and each
screen goes to its stale layout at urgency 3, unless a hold of urgency 3 stands. -/
def Claim.AStaleRecordShowsTheStaleLayouts : Prop :=
  ∀ s : State,
    (s.vehicle.fresh = true → due s.nodeTime s.vehicle.expiry = true →
      ∃ t : State, exec .stalenessExpiry s = .next t
        ∧ t.vehicle = { s.vehicle with fresh := false, expiry := none }
        ∧ (∀ sc : Screen,
          let x := s.selection[sc]
          let stale := (s.tables.outputConfig[sc]).staleLayout
          t.selection[sc] =
            if stale = x.layout then { x with urgency := 3 }
            else if 1000 * x.hold ≤ (s.nodeTime - x.switchTime).toNat ∨ x.urgency < 3 then
              ⟨stale, 3, s.nodeTime, 0, none⟩
            else x)
        ∧ SameBut [.vehicle, .selection, .comp] s t)
      ∧ (s.vehicle.fresh = false ∨ due s.nodeTime s.vehicle.expiry = false → exec .stalenessExpiry s = .next s)

/-- R136, R140: at a screen's hold expiry, with its hold ended, the layout wanted is taken whatever its urgency; before
it nothing changes. -/
def Claim.AHoldExpiryEvaluatesTheScreen : Prop :=
  ∀ (sc : Screen) (s : State),
    let x := s.selection[sc]
    let w := s.wanted sc
    (due s.nodeTime x.holdExpiry = true → 1000 * x.hold ≤ (s.nodeTime - x.switchTime).toNat →
      ∃ t : State, exec (.holdExpiry sc) s = .next t
        ∧ t.selection = s.selection.set sc
          (if w.layout = x.layout then { x with urgency := w.urgency, holdExpiry := none }
          else ⟨w.layout, w.urgency, s.nodeTime, w.hold,
            if w.hold = 0 then none else some (s.nodeTime + BitVec.ofNat 32 (1000 * w.hold))⟩)
        ∧ SameBut [.selection, .comp] s t)
      ∧ (due s.nodeTime x.holdExpiry = false → exec (.holdExpiry sc) s = .next s)

/-- R128, R136, R138 to R141: the staleness expiry and the hold expiry of a screen. In part this rests on the choices
of notes/assumptions/2.md, notes/assumptions/17.md and notes/assumptions/30.md. -/
def Obligations.StalenessAndHoldExpiryEvaluate : Prop :=
  Claim.AStaleRecordShowsTheStaleLayouts ∧ Claim.AHoldExpiryEvaluatesTheScreen

/-- R161, R163: a chime request asserts ALERT_CHIME on a cab-end node and sets its end 250 ms on, whatever end stood;
at the pulse end the line is no longer asserted; a command that ends the head role lets the pulse run, and the resets
and RESTART clear it. -/
def Claim.AChimeRequestPulsesTheLine : Prop :=
  ∀ (x : Straps) (s : State),
    (requestChime s = { s with comp := { s.comp with pulseEnd := some (s.nodeTime + 2500) } }
        ∧ (requestChime s).alertChime = s.straps.cabEnd)
      ∧ (due s.nodeTime s.comp.pulseEnd = true → ∃ t : State, exec .pulseEnd s = .next t
        ∧ t.comp = { s.comp with pulseEnd := none } ∧ t.alertChime = false ∧ SameBut [.comp] s t)
      ∧ (due s.nodeTime s.comp.pulseEnd = false → exec .pulseEnd s = .next s)
      ∧ (∀ i : Instr, ∀ t : State, i ≠ .restart → (∀ y : Straps, i ≠ .powerOnReset y ∧ i ≠ .resetLine y) →
        s.isHead = true → exec i s = .next t → t.isHead = false → t.comp.pulseEnd = s.comp.pulseEnd)
      ∧ (∀ t : State, exec (.powerOnReset x) s = .next t ∨ exec (.resetLine x) s = .next t →
        t.comp.pulseEnd = none ∧ t.alertChime = false)
      ∧ (∀ c : AgentCommand, ∀ t : State, s.runs .restart c → exec .restart s = .next t →
        t.comp.pulseEnd = none ∧ t.alertChime = false)

/-- R161, R162: ALERT_LENS is asserted on a cab-end head whose alarm count is above 0: raised as the node becomes head,
dropped as it ceases to be; each line's level is its state by its polarity, and a write of a polarity moves the level
at once and leaves the state. After a reset both lines are low. -/
def Claim.AlertLinesFollowTheirState : Prop :=
  ∀ (x : Straps) (s : State),
    let level (v : Polarity) (asserted : Bool) : Bool := if v = .highTrue then asserted else !asserted
    (s.alertLens = true ↔ s.straps.cabEnd = true ∧ s.isHead = true ∧ 0 < s.alarm)
      ∧ (s.alertChime = true ↔ s.straps.cabEnd = true ∧ s.comp.pulseEnd ≠ none)
      ∧ s.alertLensLevel = level s.tables.nodeParams.lensPolarity s.alertLens
      ∧ s.alertChimeLevel = level s.tables.nodeParams.chimePolarity s.alertChime
      ∧ (∀ c : AgentCommand, ∀ e : NodeParams, s.writes c .nodeParams → readNodeParams (payloadOf c.cell) = some e →
        ∃ t : State, exec .writeNodeParams s = .next t ∧ t.alertLens = s.alertLens
          ∧ t.alertLensLevel = level e.lensPolarity s.alertLens
          ∧ (s.vehicle.fresh = false → t.alertChimeLevel = level e.chimePolarity s.alertChime))
      ∧ (s.orient.candidate = false → s.cabActive = false → s.straps.cabEnd = true → s.mode = .run →
        s.orient.state = .none → ∃ t : State, exec .cabActiveRise s = .next t ∧ t.alertLens = decide (0 < s.alarm))
      ∧ (s.cabActive = true → ∃ t : State, exec .cabActiveFall s = .next t ∧ t.alertLens = false)
      ∧ (∀ c : AgentCommand, ∀ m : Mode, s.runs .setMode c → modeOf (byteAt (payloadOf c.cell) 0).toNat = some m →
        m ≠ s.mode → m ≠ .run → ∃ t : State, exec .setMode s = .next t ∧ t.alertLens = false)
      ∧ (∀ t : State, exec (.powerOnReset x) s = .next t ∨ exec (.resetLine x) s = .next t →
        t.alertLensLevel = false ∧ t.alertChimeLevel = false)

/-- R161 to R163: the two alert lines. In part this rests on the choices of notes/assumptions/2.md,
notes/assumptions/17.md and notes/assumptions/19.md. -/
def Obligations.TheAlertLinesFollowTheirRules : Prop :=
  Claim.AChimeRequestPulsesTheLine ∧ Claim.AlertLinesFollowTheirState

/-- R142, R147, R150, R152: a frame start of a RUNNING output ends the holds of the frame before, takes a waiting
apply, and on a head composes the selected layout of the ACTIVE bank, holding each slot it binds once; elsewhere it
draws background; an OFF output has no frame start. In part this rests on the choices of notes/assumptions/2.md and
notes/assumptions/18.md. -/
def Obligations.AFrameStartComposesOnAHead : Prop :=
  ∀ (sc : Screen) (s : State),
    let o := s.comp.outputs[sc]
    let entry := s.tables.outputConfig[sc]
    let bank : Vector Layout 16 := match s.comp.applyImage with
      | none => s.tables.activeBank
      | some image => image
    let ended := s.store.endHolds o.held
    let layout := bank[(s.selection[sc]).layout]
    let seen : State := { s with store := ended }
    let panes := (layout.panes.toList.take layout.count).map fun q => seen.drawPane entry.mode q
    (o.running = false → exec (.screenFrameStart sc) s = .next s)
      ∧ (o.running = true → ∃ t : State, exec (.screenFrameStart sc) s = .next t
        ∧ t.tables = { s.tables with activeBank := bank } ∧ t.comp.applyImage = none ∧ t.comp.pulseEnd = s.comp.pulseEnd
        ∧ (∀ other : Screen, other ≠ sc → t.comp.outputs[other] = s.comp.outputs[other])
        ∧ SameBut [.store, .comp, .tables] s t
        ∧ (s.isHead = false → t.store = ended ∧ t.comp.outputs[sc] = ⟨true, some ⟨false, none, entry.colour, [], []⟩⟩)
        ∧ (s.isHead = true → ∃ f : ScreenFrame, t.comp.outputs[sc] = ⟨true, some f⟩ ∧ f.composed = true
          ∧ f.layout = some layout ∧ f.background = entry.colour ∧ f.panes = panes
          ∧ f.held.Nodup ∧ (∀ i : SlotNo, i ∈ f.held ↔ ∃ d ∈ panes, d.slot = some i)
          ∧ t.store = ended.takeHolds f.held))

/-- R123, R153 to R157: a FIXED pane names its view; a DOOR_FOCUS pane binds the door of its rank among those of its
side and focus set; what is shown of a view is a tile only when it is undamaged, neither FROZEN nor NO_SIGNAL, and not
older than the blank age, and STALE above the stale age. -/
def Claim.APaneShowsItsView : Prop :=
  ∀ (mode : Nat) (q : Pane) (s : State),
    let d := s.drawPane mode q
    let doors := (List.finRange 16).filter fun k : Fin 16 =>
      (q.side = 3 || (q.side = 1 && (s.tables.door[k]).side = .one) || (q.side = 2 && (s.tables.door[k]).side = .two))
        && q.focus.getLsbD (s.vehicle.doors[k]).code
    (q.source = .none → d.presentation = .blank ∧ d.slot = none)
      ∧ (q.source = .doorFocus → doors.length < q.rank.toNat → q.hasFallback = false →
        d.presentation = .blank ∧ d.slot = none)
      ∧ (∀ k : Fin 16, q.source = .doorFocus → 1 ≤ q.rank.toNat → doors[q.rank.toNat - 1]? = some k →
        (s.tables.door[k]).camera = none → d.presentation = .placeholder .noCamera ∧ d.slot = none ∧ d.door = some k)
      ∧ (∀ v : ViewNo, ∀ k : Option (Fin 16),
        (q.source = .fixed ∧ v = viewOf (Fin.ofNat 32 q.camera.toNat) q.rendition.toNat ∧ k = none)
          ∨ (q.source = .doorFocus ∧ q.hasFallback = true ∧ doors.length < q.rank.toNat
            ∧ v = viewOf (Fin.ofNat 32 q.fallbackCamera.toNat) q.fallbackRendition.toNat ∧ k = none)
          ∨ (∃ n : Fin 16, ∃ c : CameraId, q.source = .doorFocus ∧ 1 ≤ q.rank.toNat
            ∧ doors[q.rank.toNat - 1]? = some n ∧ (s.tables.door[n]).camera = some c
            ∧ v = viewOf c q.focusRendition.toNat ∧ k = some n) →
        d.slot = s.store.viewMap[v] ∧ d.door = k
        ∧ (s.store.viewMap[v] = none → s.underTest v = false → d.presentation = .placeholder .noPicture)
        ∧ (s.store.viewMap[v] = none → s.underTest v = true → d.presentation = .placeholder .test)
        ∧ ∀ i : SlotNo, ∀ r : TileRecord, ∀ st : Stamp, s.store.viewMap[v] = some i →
          (s.store.slots[i]).record = some r → r.stamp = some st →
          let age := ageInRange (match st.base with
            | .captured at_ => (s.nodeTime - at_).toNat + 1
            | .arrived a at_ => a + (s.nodeTime - at_).toNat + 2)
          d.presentation =
            if (s.store.slots[i]).damaged then .placeholder .noPicture
            else if st.picture = .frozen then .placeholder .frozen
            else if st.picture = .noSignal then .placeholder .noPicture
            else if 10 * q.blankAge < age then .placeholder (if s.underTest v then .test else .noPicture)
            else if 10 * q.staleAge < age then .stale else .live)

/-- R157 to R160: a pane has the size of its slot's tile, a placeholder without a slot 320 × 180, a BLANK pane none;
what lies right of the screen or below it is not drawn; a LIVE or STALE pane carries the overlays of its record and
the label of its kind, any other none. -/
def Claim.APaneIsDrawnWithItsOverlays : Prop :=
  ∀ (mode : Nat) (q : Pane) (s : State),
    let d := s.drawPane mode q
    let a := d.area
    let width := if mode = 4 ∨ mode = 5 then 1920 else 1280
    let height := if mode = 0 ∨ mode = 1 then 800 else if mode = 2 ∨ mode = 3 then 1024 else 1080
    let shows : Prop := d.presentation = .live ∨ d.presentation = .stale
    mode ≤ 5 → a.x = q.x ∧ a.y = q.y
      ∧ (d.presentation = .blank → d.visible.w = 0 ∧ d.visible.h = 0)
      ∧ (∀ text : PlaceholderText, d.presentation = .placeholder text → d.slot = none → a.w = 320 ∧ a.h = 180)
      ∧ (∀ i : SlotNo, ∀ r : TileRecord, d.slot = some i → (s.store.slots[i]).record = some r →
        a.w = r.width ∧ a.h = r.height)
      ∧ (d.presentation ≠ .blank → d.visible = ⟨q.x, q.y, min a.w (width - q.x), min a.h (height - q.y)⟩)
      ∧ (¬ shows → d.overlays = [] ∧ d.label = none)
      ∧ (shows → ∃ i : SlotNo, ∃ r : TileRecord, ∃ st : Stamp, d.slot = some i ∧ (s.store.slots[i]).record = some r
        ∧ r.stamp = some st
        ∧ (∀ o : Overlay, o ∈ d.overlays ↔
          (st.lens = .smeared ∧ o = ⟨.amberLens, ⟨a.x + a.w - 40, a.y + 8, 32, 32⟩⟩)
          ∨ (st.lens = .blocked ∧ (o = ⟨.redLens, ⟨a.x + a.w - 40, a.y + 8, 32, 32⟩⟩ ∨ o = ⟨.redFrame, a⟩))
          ∨ (st.picture = .dark ∧ o = ⟨.darkIcon, ⟨a.x + 8, a.y + 8, 32, 32⟩⟩)
          ∨ (d.presentation = .stale ∧ st.lens ≠ .blocked ∧ o = ⟨.amberFrame, a⟩)
          ∨ (d.presentation = .stale ∧ st.lens = .blocked
            ∧ o = ⟨.amberFrame, ⟨a.x + 4, a.y + 4, a.w - 8, a.h - 8⟩⟩))
        ∧ (q.labelKind = .none → d.label = none)
        ∧ (q.labelKind = .fixed → d.label = some ⟨q.labelNumber.toNat, a.x + 8, a.y + a.h - 8⟩)
        ∧ (q.labelKind = .boundDoor → d.label = d.door.map fun k => ⟨k.val + 1, a.x + 8, a.y + a.h - 8⟩))

/-- R123, R153 to R160: what a pane binds to, what it shows, and how it is drawn. In part this rests on the choices of
notes/assumptions/18.md and notes/assumptions/23.md. -/
def Obligations.APaneShowsItsViewByItsAge : Prop :=
  Claim.APaneShowsItsView ∧ Claim.APaneIsDrawnWithItsOverlays

/-- R54, R55, R90, R93, R96, R174, R175, R192: a check failure in the read of a data cell, on either port, sets the
slot's damaged mark, counts MEMORY_ERRORS, adds MEMORY_ERROR with the slot as subject and the NOTICE it may bring, and
the cell carries the tile's bytes as read and 0s behind them, with its damaged flag set; with the last cell the entry
ends, and its fetch. The other port is served in the same cell time as ever, before or behind that. -/
def Claim.ACheckFailureMarksTheSlot : Prop :=
  ∀ (p : TrunkPort) (e : SendEntry) (rest : List SendEntry) (i : Nat) (bytes : List Byte) (reads : MemoryReads)
    (s : State),
    let x := s.trunk.get p
    s.mode ≠ .bypass → x.bypassPath = [] → x.control = [] → x.pass = [] ∨ s.tables.nodeParams.share ≤ x.share →
    x.sendList = e :: rest → reads.get p = some bytes → e.started = true → e.next = some i →
    (∀ d ∈ (s.trunk.get p.other).sendList,
      d.started = true ∨ d.kind ≠ .tile ∨ s.namesPort d.stream p.other ∨ ¬ s.namesPort d.stream p) →
    let own (y : State) : State :=
      let slot := y.store.slots[e.slot]
      let tile : Half × Nat := match slot.record with
        | none => (0, 0)
        | some r => (r.sequence, min 54 (2 * r.width * r.height - 54 * i))
      let found := bytes.take tile.2
      let cell := sealCell (tileDataCell true e.stream tile.1 i (found ++ List.replicate (54 - found.length) 0))
      let damaged : Store := { y.store with
        slots := y.store.slots.set e.slot { slot with damaged := true }
        counters := y.store.counters.set 0 (increment y.store.counters[(0 : Fin 2)]) }
      let told := addCause .memoryError e.slot.val false { y with store := damaged }
      let ended : Store := match e.kind with
        | .fetch (some k) => { damaged.endHold e.slot with
          evidence := damaged.evidence.set k ((damaged.evidence[k]).map fun v => { v with fetching := false }) }
        | .fetch none | .tile => damaged.endHold e.slot
      let goes (l : List SendEntry) (store : Store) : State := { told with
        trunk := told.trunk.set p ({ told.trunk.get p with sendList := l, share := 0 }.sends cell)
        store := store }
      if i + 1 < e.cellCount then goes ({ e with next := some (i + 1) } :: rest) damaged else goes rest ended
    let alone (y : State) : State := { y with trunk := y.trunk.set p { y.trunk.get p with sendList := [] } }
    let joined (u y : State) : State := { u with trunk := u.trunk.set p (y.trunk.get p) }
    ∃ t u : State, exec (.cellTime reads) s = .next t
      ∧ ((exec (.cellTime reads) (alone (own s)) = .next u ∧ t = joined u (own s))
        ∨ (exec (.cellTime reads) (alone s) = .next u ∧ t = own (joined u s)))

/-- R54, R160: a check failure that a screen finds in a slot its frame holds marks the slot damaged, is counted, and
adds MEMORY_ERROR with the slot as subject; a slot the frame does not hold is not read. -/
def Claim.AScreenFindsADamagedSlot : Prop :=
  ∀ (sc : Screen) (i : SlotNo) (s : State),
    let reads : Prop := ∃ f : ScreenFrame, (s.comp.outputs[sc]).frame = some f ∧ i ∈ f.held
    (¬ reads → exec (.drawCheckFailure sc i) s = .next s)
      ∧ (reads → ∃ t : State, exec (.drawCheckFailure sc i) s = .next t
        ∧ t.store = { s.store with
          slots := s.store.slots.set i { s.store.slots[i] with damaged := true }
          counters := s.store.counters.set 0 (increment s.store.counters[(0 : Fin 2)]) }
        ∧ Adds [(.memoryError, i.val)] s t ∧ SameBut [.store, .agent, .trunk] s t)

/-- R54, R55, R96, R160, R192: a check failure found by a send entry and by a screen. In part this rests on the
choices of notes/assumptions/2.md, notes/assumptions/11.md, notes/assumptions/16.md, notes/assumptions/18.md and
notes/assumptions/20.md. -/
def Obligations.CheckFailuresMarkTheSlot : Prop :=
  Claim.ACheckFailureMarksTheSlot ∧ Claim.AScreenFindsADamagedSlot

/-! ### Resets and modes -/

/-- R18, R22, R57, R60, R87, R97, R107, R122, R129, R136, R164, R168, R177, R180, R181, R185: what a power-on reset
and the reset line leave, whatever stood before: the reset values of every block, the straps latched, the start-up
mode, and the head role of a cab-end node in RUN whose CAB_ACTIVE is asserted. The line resets all but node time. In
part this rests on the choices of notes/assumptions/1.md, notes/assumptions/4.md, notes/assumptions/16.md,
notes/assumptions/25.md and notes/assumptions/29.md. -/
def Obligations.ResetsBeginAfresh : Prop :=
  ∀ (x : Straps) (s : State),
    let isHead := x.cabEnd && s.cabActive && !x.bypassStart
    let fresh (now : NodeTime) (cells : Nat) : State :=
      { State.reset with
        nodeTime := now
        cellCount := cells
        straps := x
        cabActive := s.cabActive
        mode := if x.bypassStart then .bypass else .run
        selection := Vector.replicate 2 ⟨0, 3, now, 0, none⟩
        orient := if isHead then
            ⟨.found, some (x.node.toNat + 1), none, some 0, none, true, none, some (now + 100)⟩
          else ⟨.none, none, none, none, none, false, none, none⟩
        agent := ⟨[], none, 0, if isHead then [⟨.orientationChange, 0, false⟩] else [], false, true⟩
        swapTies := s.swapTies
        pending := s.pending }
    exec (.powerOnReset x) s = .next (fresh 0 0) ∧ exec (.resetLine x) s = .next (fresh s.nodeTime s.cellCount)

/-- R18, R22, R57, R87, R107, R122, R129, R136, R146, R150, R164, R173, R177, R181, R185: RESTART puts every block at
its RESTART value and keeps the tables, completing a waiting apply, the link states of the trunk ports and the copy of
a RESTART for all nodes that still waits to go on; the reply stands first, and the enabled ports, the head role and
the enabled outputs start at once. In part this rests on the choices of notes/assumptions/15.md and
notes/assumptions/25.md. -/
def Obligations.RestartKeepsTheTables : Prop :=
  ∀ (c : AgentCommand) (s : State), s.runs .restart c →
    let isHead := s.straps.cabEnd && s.cabActive
    let forAll : Bool := decide ((byteAt c.cell 1).toNat % 16 = 15)
    let other := s.trunk.get c.arrival.other
    let beacon (x : Trunk) : List Cell :=
      if isHead ∧ x.link = .up then [mkCell [0x10] [byte (s.straps.node.toNat + 1), 0]] else []
    let answer : Cell := mkCell [0x40, byte (s.straps.node.toNat + 1), byteAt c.cell 2, 0, 0, 1] []
    ∃ t : State, exec .restart s = .next t ∧ t.mode = .run
      ∧ t.store = Store.reset ∧ t.engine = Engine.reset ∧ t.router = ⟨Vector.replicate 16 none, Vector.replicate 13 0⟩
      ∧ t.vehicle = Vehicle.reset ∧ t.controllerSide = none ∧ t.alarm = 0 ∧ t.survey = ⟨.idle, none, none, 0⟩
      ∧ t.tables = { s.tables with activeBank := match s.comp.applyImage with
        | none => s.tables.activeBank
        | some image => image }
      ∧ (∀ sc : Screen, t.selection[sc] = ⟨(s.tables.outputConfig[sc]).staleLayout, 3, s.nodeTime, 0, none⟩)
      ∧ (∀ p : CamPort, t.cams[p] =
        if (s.tables.cameraConfig[p]).enabled then
          { CameraPort.reset with link := .waking, lockTimer := some (s.nodeTime + 20000) }
        else CameraPort.reset)
      ∧ (∀ p : CamPort, t.health[p] = Health.reset
        (if ∀ z : ZoneNo, s.tables.reference[zoneEntry p z] = none then .noReference else .unrated))
      ∧ t.orient = (if isHead then
          ⟨.found, some (s.straps.node.toNat + 1), none, some 0, none, true, none, some (s.nodeTime + 100)⟩
        else ⟨.none, none, none, none, none, false, none, none⟩)
      ∧ t.comp.applyImage = none ∧ t.comp.pulseEnd = none
      ∧ (∀ sc : Screen, (t.comp.outputs[sc]).running = (s.straps.cabEnd && (s.tables.outputConfig[sc]).enabled))
      ∧ t.agent = { Agent.reset with causes := t.agent.causes }
      ∧ (∀ x : Cause, x ∈ t.agent.causes ↔
        (∃ p : CamPort, (s.tables.cameraConfig[p]).enabled = true ∧ x = ⟨.cameraLink, p.val, false⟩)
          ∨ (isHead = true ∧ x = ⟨.orientationChange, 0, false⟩))
      ∧ (∀ p : TrunkPort, t.trunk.get p = { s.trunk.get p with
          control := (t.trunk.get p).control, pass := [], sendList := [], bypassPath := (t.trunk.get p).bypassPath,
          share := 0, counters := Vector.replicate 9 0 })
      ∧ (t.trunk.get c.arrival).control = answer :: beacon (s.trunk.get c.arrival)
      ∧ (t.trunk.get c.arrival).bypassPath = []
      ∧ (t.trunk.get c.arrival.other).control =
        (if forAll ∧ c.cell ∈ other.control then [c.cell] else []) ++ beacon other
      ∧ (t.trunk.get c.arrival.other).bypassPath =
        (if forAll ∧ c.cell ∉ other.control ∧ c.cell ∈ other.bypassPath then [c.cell] else [])
      ∧ SameBut (Instr.touched .restart) s t

/-- R166, R167, R172, R183: SET_MODE to another mode is that change of mode, answered OK behind it; to the present
mode it changes nothing and is answered OK; a code that names no mode is refused with BAD_VALUE. CAB_ACTIVE that rises
on a cab-end node in STANDBY is the change to RUN, with no reply. -/
def Claim.SetModeIsCarriedOut : Prop :=
  ∀ (c : AgentCommand) (s : State),
    let code := (byteAt (payloadOf c.cell) 0).toNat
    let popped (u : State) : Agent := { u.agent with queue := s.agent.queue.drop 1 }
    (∀ m : Mode, s.runs .setMode c → code = [Mode.run, .standby, .bypass].idxOf m → m ≠ s.mode →
        let u := changeMode m s
        exec .setMode s = .next { u with agent := popped u, trunk := (reply c .ok [[]] u).trunk })
      ∧ (s.runs .setMode c → code = [Mode.run, .standby, .bypass].idxOf s.mode →
        exec .setMode s = .next { s with agent := popped s, trunk := (reply c .ok [[]] s).trunk })
      ∧ (s.runs .setMode c → 2 < code →
        exec .setMode s = .next { s with agent := popped s, trunk := (reply c .badValue [[]] s).trunk })
      ∧ (s.cabActive = false → s.straps.cabEnd = true → s.mode = .standby →
        exec .cabActiveRise s = .next (changeMode .run { s with cabActive := true }))

/-- R56, R97, R103, R105, R122, R182, R184, R185, R188: what a change of mode leaves in every state. -/
def Claim.AModeChangeKeepsItsLaws : Prop :=
  ∀ (m : Mode) (s : State), m ≠ s.mode → ModeChanged m s (changeMode m s)

/-- R2, R3, R35, R61, R182, R184, R185, R188: the camera ports take the change. A port that wants power only now
wakes, one that wants it no more goes OFF, from LOCKED with NO_SIGNAL and empty accumulators; TESTING and POWER_FAULT
stand. A survey ends with STANDBY, and its schedule starts with it; relearn holds end in BYPASS. -/
def Claim.TheCameraPortsTakeAModeChange : Prop :=
  ∀ (m : Mode) (s : State), m ≠ s.mode → s.powerOk →
    let t := changeMode m s
    let n := s.tables.nodeParams.surveyInterval
    (∀ p : CamPort,
        let c := s.cams[p]
        let h : Health := if m = .bypass then { s.health[p] with relearnHold := false } else s.health[p]
        let wants := s.wantsPowerIn m p
        t.cams[p] = (match c.link with
          | .off => if wants then c.newly .waking s.nodeTime else c
          | .waking | .locked | .lost => if wants then c else c.newly .off s.nodeTime
          | .testing | .powerFault => c)
        ∧ t.health[p] = (if c.link = .locked ∧ wants = false then h.noSignal else h)
        ∧ t.engine.sums[p] =
          if c.link = .locked ∧ wants = false then Vector.replicate 48 ⟨0, 0⟩ else s.engine.sums[p])
      ∧ t.survey = (match m with
        | .standby => { s.survey with
            due := if n = 0 then none else some (s.nodeTime + BitVec.ofNat 32 (600000 * n)) }
        | .run | .bypass => if s.mode = .standby then ⟨.idle, none, none, 0⟩ else s.survey)

/-- R32, R46, R53, R56, R96, R105, R122, R147, R182: the work of RUN stops. Productions and contexts end, each counted
TILE_ABORTED or TILE_BROKEN, and their slots go FREE; on leaving RUN and on entering BYPASS the send lists are emptied,
the fetches in them end, frames of a head become background, and no hold is left: a RETIRED slot goes to EVIDENCE with
its pin mark and to FREE without. A change to RUN leaves the store, the lists and the screens. -/
def Claim.AModeChangeStopsTheWork : Prop :=
  ∀ (m : Mode) (s : State), m ≠ s.mode → s.storeOk → s.outputsOk → s.modeOk → s.candidacyOk →
    let t := changeMode m s
    let made := ((List.finRange 8).filter fun k : PlanNo => (s.engine.productions[k]).isSome).length
    let rebuilt := ((List.finRange 16).filter fun k : ContextNo => (s.router.contexts[k]).isSome).length
    let fetched (k : Fin 4) : Bool :=
      (s.trunk.a.sendList ++ s.trunk.b.sendList).any fun e => e.kind == .fetch (some k)
    t.engine = { s.engine with
        sums := t.engine.sums
        productions := Vector.replicate 8 none
        counters := s.engine.counters.set 3 (Nat.iterate increment made s.engine.counters[(3 : Fin 6)]) }
      ∧ t.router = ⟨Vector.replicate 16 none,
        s.router.counters.set 11 (Nat.iterate increment rebuilt s.router.counters[(11 : Fin 13)])⟩
      ∧ (∀ p : TrunkPort, (t.trunk.get p).sendList = (if m = .run then (s.trunk.get p).sendList else [])
        ∧ (t.trunk.get p).share = if s.mode = .run then 0 else (s.trunk.get p).share)
      ∧ (m = .run → t.store = s.store ∧ t.comp = s.comp)
      ∧ (m ≠ .run →
        (∀ i : SlotNo,
          let x := s.store.slots[i]
          t.store.slots[i] = (match x.state with
            | .free | .filling => ⟨.free, .none, none, 0, false, false, none, []⟩
            | .latest | .evidence => { x with holders := 0 }
            | .retired => if x.pinned then { x with state := .evidence, holders := 0 }
              else ⟨.free, .none, none, 0, false, false, none, []⟩))
        ∧ t.store.viewMap = s.store.viewMap ∧ t.store.counters = s.store.counters
        ∧ (∀ k : Fin 4, t.store.evidence[k] =
          if fetched k then (s.store.evidence[k]).map fun v => { v with fetching := false } else s.store.evidence[k])
        ∧ (∀ sc : Screen, t.comp.outputs[sc] = if s.isHead then
            { s.comp.outputs[sc] with
              frame := (s.comp.outputs[sc]).frame.map fun f => ⟨false, none, f.background, [], []⟩ }
          else s.comp.outputs[sc])
        ∧ t.comp.applyImage = s.comp.applyImage ∧ t.comp.pulseEnd = s.comp.pulseEnd)

/-- R65, R97, R98, R100, R103, R105, R174, R175, R182: candidacy begins in RUN and ends outside it, and the record is
forgotten in BYPASS. The blocks add their causes: ORIENTATION_CHANGE, behind a new head's first beacons or with the
HEAD_CONFLICT of one that yields at once; and port by port CAMERA_LINK and PICTURE_CHANGE. Each brings the NOTICE that
its rule gives it, in either order of the two; control and pass-through queues keep their cells. -/
def Claim.AModeChangeTellsItsCauses : Prop :=
  ∀ (m : Mode) (s : State), m ≠ s.mode → s.powerOk → s.candidacyOk →
    let t := changeMode m s
    let number := s.straps.node.toNat + 1
    let none_ : Orientation := ⟨.none, none, none, none, none, false, none, none⟩
    let heads : Prop := m = .run ∧ s.straps.cabEnd = true ∧ s.cabActive = true
    let lower : Option Nat :=
      if s.orient.state = .found then s.orient.head.filter fun h => decide (h < number) else none
    let o : Orientation :=
      if m = .bypass then none_
      else if heads then
        (if lower = none then ⟨.found, some number, none, some 0, none, true, none, some (s.nodeTime + 100)⟩
        else { s.orient with
          state := .conflict, candidate := true, resume := s.orient.lastBeacon.map fun b => b + 500,
          nextBeacon := none })
      else if s.orient.candidate = false then s.orient
      else if s.orient.state = .conflict then
        { s.orient with state := .found, candidate := false, resume := none, nextBeacon := none }
      else none_
    let turns (x : State) : State :=
      if o.state = s.orient.state ∧ o.head = s.orient.head ∧ o.headSide = s.orient.headSide then x
      else addCause .orientationChange 0 false x
    let orientTells (x : State) : State :=
      match lower with
      | some h => if heads then addTogether [(.headConflict, h), (.orientationChange, 0)] x else turns x
      | none => turns (if heads then beaconBoth x else x)
    let causesOf (p : CamPort) : List (CauseKind × Nat) :=
      match (s.cams[p]).link with
      | .off => if s.wantsPowerIn m p then [(.cameraLink, p.val)] else []
      | .waking | .lost => if s.wantsPowerIn m p then [] else [(.cameraLink, p.val)]
      | .locked => if s.wantsPowerIn m p then [] else s.lossCauses p
      | .testing | .powerFault => []
    let portsTell (x : State) : State := (List.finRange 4).foldl (fun y p => addTogether (causesOf p) y) x
    let told := if s.swapTies then orientTells (portsTell s) else portsTell (orientTells s)
    t.orient = o ∧ t.agent = told.agent
      ∧ ∀ p : TrunkPort, t.trunk.get p = { told.trunk.get p with
        sendList := (t.trunk.get p).sendList, share := (t.trunk.get p).share }

/-- R2, R3, R32, R46, R53, R56, R61, R65, R96 to R98, R100, R103, R105, R122, R147, R166, R167, R172, R174, R175, R182
to R185, R188: SET_MODE, the wake by CAB_ACTIVE, and what each block makes of the change. In part this rests on the
choices of notes/assumptions/4.md, notes/assumptions/8.md, notes/assumptions/18.md, notes/assumptions/21.md,
notes/assumptions/25.md, notes/assumptions/27.md and notes/assumptions/28.md. -/
def Obligations.TheModeChanges : Prop :=
  Claim.SetModeIsCarriedOut ∧ Claim.AModeChangeKeepsItsLaws ∧ Claim.TheCameraPortsTakeAModeChange
    ∧ Claim.AModeChangeStopsTheWork ∧ Claim.AModeChangeTellsItsCauses

/-! ### The commands of the management agent -/

/-- A command whose code names none, at the head of the agent's queue, is answered BAD_COMMAND and removed in every
mode, and the command behind it comes to the head (R166, test 1). -/
def Claim.UnknownCommandsAreAnswered : Prop :=
  ∀ (s : State) (c d : AgentCommand) (n : CommandName), s.pending = [] → s.agent.queue = [c, d] → c.name = none →
    d.name = some n →
    ∃ t : State, step s = .next t ∧ t.agent = { s.agent with queue := [d] }
      ∧ t.trunk = (reply c .badCommand [[]] s).trunk ∧ commandRow s.agent.window n ∈ t.pending

/-- R166, R167, R169, R172: a command that its mode does not allow, a write with no table to be written, past the last
entry, or whose entry fails its checks is answered by that name and removed, and nothing else changes; a READ_NEXT's
reply, which returns no entry then, carries the table code and the pointer (R193). -/
def Claim.RefusedCommandsChangeNothing : Prop :=
  ∀ (c : AgentCommand) (s : State),
    let answers (row : Instr) (st : Status) (results : List Byte) : Prop :=
      ∃ t : State, exec row s = .next t ∧ Answers c st [results] s t ∧ SameBut [.agent, .trunk] s t
    let refuses (row : Instr) (st : Status) : Prop := answers row st []
    let table : Byte := match s.agent.window with
      | none => Config.absentTableCode
      | some x => x.code
    (∀ n : CommandName, s.agent.queue.head? = some c → c.name = some n → s.mode = .bypass →
        n ≠ .setMode → n ≠ .readStatus → n ≠ .readCauses → n ≠ .restart →
        answers (commandRow s.agent.window n) .refusedMode
          (if n = .readNext then table :: bytes2 s.agent.pointer else []))
      ∧ (∀ w : Option Table, ∀ n : CommandName, s.agent.queue = [] → exec (commandRow w n) s = .next s)
      ∧ (s.runs .writeNext c → s.agent.window = none ∨ s.agent.window = some .route
          ∨ s.agent.window = some .layoutActive → refuses .writeNext .badTable)
      ∧ (∀ x : Table, s.runs .writeNext c → s.agent.window = some x → x ≠ .route → x ≠ .layoutActive →
        x.entries ≤ s.agent.pointer → refuses (commandRow (some x) .writeNext) .badIndex)
      ∧ (∀ x : Table, s.writes c x → x ≠ .route → x ≠ .layoutActive →
        entryPasses x s.agent.pointer (payloadOf c.cell) = false → refuses (commandRow (some x) .writeNext) .badValue)

/-- R1, R20, R58 to R60, R130, R132, R145, R149, R171, R193: the bytes that each table's checks let pass: every field
in its range, flags 0 or 1, enumerations one of their codes, and of a condition, of condition B, of a pane's source
and of its fallback only what the entry's own kind reads. -/
def Claim.EntriesAreCheckedByTheirRules : Prop :=
  ∀ (i : Nat) (l : List Byte),
    let b (k : Nat) : Nat := (byteAt l k).toNat
    let w (k : Nat) : Nat := 256 * b k + b (k + 1)
    let within (n low high : Nat) : Prop := low ≤ n ∧ n ≤ high
    let condition (k : Nat) : Prop := b (k + 2) ≤ 7
      ∧ ((b k = 0 ∧ w (k + 3) ≤ 1000) ∨ (b k = 1 ∧ w (k + 3) ≤ 1)
        ∨ (b k = 2 ∧ within (b (k + 1)) 1 16 ∧ w (k + 3) ≤ 7)
        ∨ (within (b k) 3 5 ∧ within (b (k + 1)) 1 3 ∧ w (k + 3) ≤ 16)
        ∨ (b k = 6 ∧ w (k + 3) ≤ 3) ∨ (b k = 7 ∧ w (k + 3) ≤ 32))
    (entryPasses .tilePlan i l = true ↔
        b 0 ≤ 1 ∧ w 1 % 2 = 0 ∧ w 1 ≤ 1918 ∧ w 3 ≤ 1079 ∧ w 5 % 2 = 0 ∧ within (w 5) 64 1920 ∧ within (w 7) 48 1080
        ∧ w 9 % 16 = 0 ∧ within (w 9) 64 1280 ∧ w 9 ≤ w 5 ∧ w 11 % 8 = 0 ∧ within (w 11) 48 720 ∧ w 11 ≤ w 7
        ∧ b 13 ≤ 1 ∧ within (b 14) 1 4 ∧ w 15 ≤ 4095 ∧ b 17 ≤ 1 ∧ b 18 ≤ 1)
      ∧ (entryPasses .cameraConfig i l = true ↔ b 0 ≤ 1 ∧ b 1 ≤ 1 ∧ 1 ≤ b 2 ∧ b 3 ≤ 1 ∧ b 4 ≤ 96)
      ∧ (entryPasses .lensParams i l = true ↔
        b 0 < b 1 ∧ b 3 < b 4 ∧ b 6 < b 5 ∧ 1 ≤ b 7 ∧ b 7 < b 8 ∧ b 8 ≤ 144 ∧ 1 ≤ b 9 ∧ b 9 < b 7
        ∧ within (w 10) 1 4095)
      ∧ (entryPasses .reference i l = true ↔ w 0 ≤ 4095 ∨ w 0 = 65535)
      ∧ (entryPasses .weight i l = true ↔ b 0 ≤ 3)
      ∧ (entryPasses .door i l = true ↔ (b 0 ≤ 31 ∨ b 0 = 255) ∧ within (b 1) 1 2)
      ∧ (∀ x : Table, x = .rules0 ∨ x = .rules1 → (entryPasses x i l = true ↔
        b 0 ≤ 1 ∧ condition 1 ∧ b 6 ≤ 1 ∧ (b 6 = 1 → condition 7 ∧ b 12 ≤ 1) ∧ b 13 ≤ 15 ∧ b 14 ≤ 3 ∧ b 15 ≤ 100))
      ∧ (i % 10 = 0 → (entryPasses .layoutPending i l = true ↔ b 0 ≤ 9))
      ∧ (i % 10 ≠ 0 → (entryPasses .layoutPending i l = true ↔
        w 0 ≤ 1919 ∧ w 2 ≤ 1079 ∧ b 4 ≤ 2 ∧ (b 4 = 0 → b 5 ≤ 31 ∧ b 6 ≤ 1)
        ∧ (b 4 = 1 → within (b 7) 1 3 ∧ within (b 8) 1 4 ∧ b 10 ≤ 1)
        ∧ b 11 ≤ 1 ∧ (b 11 = 1 → b 12 ≤ 31 ∧ b 13 ≤ 1) ∧ b 14 ≤ 2 ∧ (b 14 = 1 → b 15 ≤ 99)
        ∧ within (w 16) 40 1000 ∧ w 16 < w 18 ∧ w 18 ≤ 10000))
      ∧ (entryPasses .outputConfig i l = true ↔ b 0 ≤ 1 ∧ b 1 ≤ 5 ∧ b 2 ≤ 15 ∧ b 3 ≤ 15 ∧ b 4 ≤ 7)
      ∧ (entryPasses .nodeParams i l = true ↔
        within (b 0) 1 15 ∧ within (b 1) 10 250 ∧ within (w 2) 100 2000 ∧ b 4 ≤ 60 ∧ b 5 ≤ 1 ∧ b 6 ≤ 1)

/-- R1, R20, R58 to R60, R130, R132, R145, R149, R166, R167, R169, R171, R172, R193: what the agent answers to a
command that it does not execute, and which entries of each table it refuses. In part this rests on the choices of
notes/assumptions/5.md, notes/assumptions/8.md, notes/assumptions/12.md, notes/assumptions/13.md and
notes/assumptions/31.md. -/
def Obligations.UnknownAndRefusedCommandsAreAnswered : Prop :=
  Claim.UnknownCommandsAreAnswered ∧ Claim.RefusedCommandsChangeNothing ∧ Claim.EntriesAreCheckedByTheirRules

/-- R20, R21, R130, R132, R137, R143, R148, R149: a write of TILE_PLAN, LAYOUT_PENDING, DOOR or RULES stores its entry;
a DOOR write brings an evaluation of each screen and a RULES write one of its own screen. -/
def Claim.TableWritesStoreTheirEntry : Prop :=
  ∀ (c : AgentCommand) (s : State),
    let l := payloadOf c.cell
    let i := s.agent.pointer
    let done (tables : Tables) (seen : State) : State := { s with
      tables := tables
      selection := seen.selection
      comp := seen.comp
      agent := { s.agent with pointer := i + 1, queue := s.agent.queue.drop 1 }
      trunk := (reply c .ok [[]] s).trunk }
    (∀ e : TilePlan, s.writes c .tilePlan → readTilePlan l = some e →
        exec .writeTilePlan s =
          .next (done { s.tables with tilePlan := s.tables.tilePlan.set (Fin.ofNat 8 i) e } s))
      ∧ (∀ n : Nat, s.writes c .layoutPending → i % 10 = 0 → readLayoutHeader l = some n →
        exec .writeLayoutPending s = .next (done { s.tables with
          pendingBank := s.tables.pendingBank.set (Fin.ofNat 16 (i / 10))
            ⟨n, (s.tables.pendingBank[Fin.ofNat 16 (i / 10)]).panes⟩ } s))
      ∧ (∀ q : Pane, s.writes c .layoutPending → i % 10 ≠ 0 → readPane l = some q →
        exec .writeLayoutPending s = .next (done { s.tables with
          pendingBank := s.tables.pendingBank.set (Fin.ofNat 16 (i / 10))
            ⟨(s.tables.pendingBank[Fin.ofNat 16 (i / 10)]).count,
              (s.tables.pendingBank[Fin.ofNat 16 (i / 10)]).panes.set (Fin.ofNat 9 (i % 10 - 1)) q⟩ } s))
      ∧ (∀ e : DoorEntry, s.writes c .door → readDoor l = some e →
        let tables : Tables := { s.tables with door := s.tables.door.set (Fin.ofNat 16 i) e }
        exec .writeDoor s = .next (done tables (evaluateBoth { s with tables := tables })))
      ∧ (∀ e : Rule, s.writes c .rules0 → readRule l = some e →
        let tables : Tables := { s.tables with
          rules := s.tables.rules.set 0 ((s.tables.rules[(0 : Screen)]).set (Fin.ofNat 16 i) e) }
        exec .writeRules s = .next (done tables (evaluate 0 { s with tables := tables })))
      ∧ (∀ e : Rule, s.writes c .rules1 → readRule l = some e →
        let tables : Tables := { s.tables with
          rules := s.tables.rules.set 1 ((s.tables.rules[(1 : Screen)]).set (Fin.ofNat 16 i) e) }
        exec .writeRules s = .next (done tables (evaluate 1 { s with tables := tables })))

/-- R128, R137, R143, R145, R146, R150, R171, R185: an OUTPUT_CONFIG write evaluates its screen, and starts, stops or
leaves its output; one that starts or restarts has its frame start at once, which sees the selection as it was or as
the evaluation leaves it; a NODE_PARAMS write moves the staleness expiry, or clears fresh at once and evaluates both
screens, and in STANDBY sets the survey's due time. -/
def Claim.OutputAndNodeWritesTakeEffect : Prop :=
  ∀ (c : AgentCommand) (s : State),
    let l := payloadOf c.cell
    let answered (t : State) : Prop :=
      t.agent = { s.agent with pointer := s.agent.pointer + 1, queue := s.agent.queue.drop 1 }
        ∧ t.trunk = (reply c .ok [[]] s).trunk
    (∀ e : OutputConfig, s.writes c .outputConfig → readOutputConfig l = some e →
        let sc : Screen := Fin.ofNat 2 s.agent.pointer
        let old := s.tables.outputConfig[sc]
        let o := s.comp.outputs[sc]
        let running (x : State) : State :=
          { x with comp := { x.comp with outputs := x.comp.outputs.set sc { o with running := true } } }
        let tables : Tables := { s.tables with outputConfig := s.tables.outputConfig.set sc e }
        let base : State := { s with tables := tables }
        ∃ t : State, exec .writeOutputConfig s = .next t ∧ answered t
          ∧ t.tables.outputConfig = tables.outputConfig
          ∧ (∀ other : Screen, other ≠ sc → t.comp.outputs[other] = s.comp.outputs[other]
            ∧ t.selection[other] = s.selection[other])
          ∧ t.selection = (evaluate sc base).selection ∧ t.comp.pulseEnd = (evaluate sc base).comp.pulseEnd
          ∧ (s.straps.cabEnd = false ∨ (o.running = false ∧ e.enabled = false)
              ∨ (o.running = true ∧ e.enabled = true ∧ e.mode = old.mode) →
            t.comp.outputs[sc] = o ∧ t.store = s.store ∧ t.tables = tables ∧ t.comp.applyImage = s.comp.applyImage)
          ∧ (s.straps.cabEnd = true → o.running = true → e.enabled = false →
            t.comp.outputs[sc] = ⟨false, none⟩ ∧ t.store = s.store.endHolds o.held ∧ t.tables = tables
              ∧ t.comp.applyImage = s.comp.applyImage)
          ∧ (s.straps.cabEnd = true → e.enabled = true → o.running = false ∨ e.mode ≠ old.mode →
            (t.comp.outputs[sc]).running = true ∧ t.comp.applyImage = none
              ∧ (∃ f : ScreenFrame, (t.comp.outputs[sc]).frame = some f ∧ f.composed = s.isHead
                ∧ f.background = e.colour)
              ∧ ∃ x u : State, (x = base ∨ x = evaluate sc base)
                ∧ exec (.screenFrameStart sc) (running x) = .next u
                ∧ t.comp.outputs = u.comp.outputs ∧ t.store = u.store ∧ t.tables = u.tables)
          ∧ SameBut [.store, .selection, .comp, .tables, .agent, .trunk] s t)
      ∧ (∀ e : NodeParams, s.writes c .nodeParams → readNodeParams l = some e →
        let n := e.surveyInterval
        let v := s.vehicle
        ∃ t : State, exec .writeNodeParams s = .next t ∧ answered t ∧ t.tables = { s.tables with nodeParams := e }
          ∧ t.survey = (if s.mode = .standby then
              { s.survey with due := if n = 0 then none else some (s.nodeTime + BitVec.ofNat 32 (600000 * n)) }
            else s.survey)
          ∧ (v.fresh = false ∨ v.lastState = none → t.vehicle = v ∧ t.selection = s.selection ∧ t.comp = s.comp)
          ∧ (∀ b : NodeTime, v.fresh = true → v.lastState = some b →
            let expiry := b + BitVec.ofNat 32 (10 * e.stateTimeout)
            (due s.nodeTime (some expiry) = false →
              t.vehicle = { v with expiry := some expiry } ∧ t.selection = s.selection ∧ t.comp = s.comp)
            ∧ (due s.nodeTime (some expiry) = true →
              let stale : Vehicle := { v with fresh := false, expiry := none }
              let seen := evaluateBoth { s with tables := { s.tables with nodeParams := e }, vehicle := stale }
              t.vehicle = stale ∧ t.selection = seen.selection ∧ t.comp = seen.comp))
          ∧ SameBut [.vehicle, .selection, .comp, .survey, .tables, .agent, .trunk] s t)

/-- R20, R21, R128, R130, R132, R137, R143, R145, R146, R148, R149, R171, R185: what the writes of seven tables do. In
part this rests on the choices of notes/assumptions/4.md, notes/assumptions/8.md, notes/assumptions/12.md,
notes/assumptions/17.md, notes/assumptions/18.md and notes/assumptions/30.md. -/
def Obligations.TableWritesTakeEffect : Prop :=
  Claim.TableWritesStoreTheirEntry ∧ Claim.OutputAndNodeWritesTakeEffect

/-- R1, R2, R8, R187: a CAMERA_CONFIG write powers an OFF port in RUN when it enables it and takes power from a
powered one when it ends its demand, in STANDBY as far as the survey and a relearn hold let it; it ends POWER_FAULT,
and in TESTING the fault kept with it; else the link stands. In part this rests on the choices of
notes/assumptions/4.md, notes/assumptions/8.md and notes/assumptions/27.md. -/
def Obligations.ACameraConfigWriteIsTakenByThePort : Prop :=
  ∀ (c : AgentCommand) (e : CameraConfig) (s : State), s.writes c .cameraConfig →
    readCameraConfig (payloadOf c.cell) = some e →
    let p : CamPort := Fin.ofNat 4 s.agent.pointer
    let x := s.cams[p]
    let wants : Prop := (s.mode = .run ∧ e.enabled = true) ∨ s.survey.port = some p ∨ (s.health[p]).relearnHold = true
    let tables : Tables := { s.tables with cameraConfig := s.tables.cameraConfig.set p e }
    let waking : CameraPort := x.newly .waking s.nodeTime
    let off : CameraPort := x.newly .off s.nodeTime
    ∃ t : State, exec .writeCameraConfig s = .next t ∧ t.tables = tables
      ∧ ((x.link = .off ∧ ¬ wants) ∨ (x.power = true ∧ wants) →
        t.cams = s.cams ∧ Writes c [] s t ∧ SameBut [.tables, .agent, .trunk] s t)
      ∧ (x.link = .off → wants →
        t.cams = s.cams.set p waking ∧ Writes c [(.cameraLink, p.val)] s t
          ∧ SameBut [.cams, .tables, .agent, .trunk] s t)
      ∧ (x.link = .waking ∨ x.link = .lost → ¬ wants →
        t.cams = s.cams.set p off ∧ Writes c [(.cameraLink, p.val)] s t
          ∧ SameBut [.cams, .tables, .agent, .trunk] s t)
      ∧ (x.link = .locked → ¬ wants → t.cams = s.cams.set p off
        ∧ t.health = s.health.set p (s.health[p]).noSignal
        ∧ t.engine = (endBadly p s).engine ∧ t.store = (endBadly p s).store ∧ Writes c (s.lossCauses p) s t
        ∧ SameBut [.cams, .health, .engine, .store, .tables, .agent, .trunk] s t)
      ∧ (x.link = .powerFault → s.survey.port ≠ some p →
        t.cams = s.cams.set p (if wants then waking else off) ∧ Writes c [(.cameraLink, p.val)] s t
          ∧ SameBut [.cams, .tables, .agent, .trunk] s t)
      ∧ (x.link = .testing → t.cams = s.cams.set p { x with faultKept := false } ∧ Writes c [] s t
        ∧ SameBut [.cams, .tables, .agent, .trunk] s t)

/-- R13 to R15, R187: CABLE_CHECK is refused BUSY while the port is TESTING, and BAD_VALUE for no port; else it takes
the port there, keeping a fault it stood in, with 30 ms for the probe; from LOCKED its tiles are abandoned and the
picture is NO_SIGNAL; a survey that had taken the port leaves it. -/
def Claim.ACableCheckStarts : Prop :=
  ∀ (c : AgentCommand) (s : State), s.runs .cableCheck c →
    let refuses (st : Status) : Prop :=
      ∃ t : State, exec .cableCheck s = .next t ∧ Answers c st [[]] s t ∧ SameBut [.agent, .trunk] s t
    (3 < (byteAt (payloadOf c.cell) 0).toNat → refuses .badValue)
      ∧ ∀ p : CamPort, (byteAt (payloadOf c.cell) 0).toNat = p.val →
        let x := s.cams[p]
        let wasLocked : Prop := x.link = .locked
        let testing : CameraPort := { x.newly .testing s.nodeTime with faultKept := decide (x.link = .powerFault) }
        let told := addTogether (if wasLocked then s.lossCauses p else [(.cameraLink, p.val)]) s
        let ended := if wasLocked then endBadly p s else s
        let starts (u t : State) : Prop := exec .cableCheck s = .next t ∧ u.cams[p] = testing
          ∧ u.health = (if wasLocked then s.health.set p (s.health[p]).noSignal else s.health)
          ∧ u.engine = ended.engine ∧ u.store = ended.store
          ∧ t.agent = { u.agent with queue := s.agent.queue.drop 1 } ∧ t.trunk = (reply c .ok [[]] u).trunk
          ∧ SameBut [.agent, .trunk] u t
        (x.link = .testing → refuses .busy)
          ∧ (x.link ≠ .testing → s.survey.port ≠ some p → ∃ u t : State, starts u t ∧ u.cams = s.cams.set p testing
            ∧ u.agent = told.agent ∧ u.trunk = told.trunk
            ∧ SameBut [.cams, .health, .engine, .store, .agent, .trunk] s u)
          ∧ (x.link ≠ .testing → s.survey.port = some p → s.mode = .standby → ∃ u t : State, starts u t
            ∧ SurveyMovesOn p s u ∧ SurveyTells p told s u
            ∧ SameBut [.cams, .health, .engine, .store, .survey, .agent, .trunk] s u)

/-- R51, R79, R80, R184, R187: RELEARN is refused BUSY while LEARNING, REFUSED_STATE without power in RUN and in
STANDBY in TESTING and POWER_FAULT, and BAD_VALUE for no port; else it starts learning, with the scratch empty, the
condition kept aside and the deadline set; the camera's evidence positions are emptied, their slots lose the pin mark
and leave EVIDENCE, and fetches of them no longer name them; in STANDBY it starts with a hold, which powers an OFF
port and leaves a powered one as it is. -/
def Claim.LearningStarts : Prop :=
  ∀ (c : AgentCommand) (s : State), s.runs .relearn c →
    let refuses (st : Status) : Prop :=
      ∃ t : State, exec .relearn s = .next t ∧ Answers c st [[]] s t ∧ SameBut [.agent, .trunk] s t
    (3 < (byteAt (payloadOf c.cell) 0).toNat → refuses .badValue)
      ∧ ∀ p : CamPort, (byteAt (payloadOf c.cell) 0).toNat = p.val →
        let x := s.cams[p]
        let h := s.health[p]
        let mine (k : Fin 4) : Bool := (s.store.evidence[k]).any fun v => v.camera == s.cameraId p
        let forget (e : SendEntry) : SendEntry := match e.kind with
          | .fetch (some k) => if mine k then { e with kind := .fetch none } else e
          | .fetch none | .tile => e
        let forgets (y : Trunk) : Trunk := { y with sendList := y.sendList.map forget }
        let released : State := { s with trunk := ⟨forgets s.trunk.a, forgets s.trunk.b⟩ }
        let noted := addCause .lensChange p.val false released
        let told := if x.link = .off then addCause .cameraLink p.val false noted else noted
        (h.lens = .learning → refuses .busy)
          ∧ (h.lens ≠ .learning → s.mode = .run → x.power = false → refuses .refusedState)
          ∧ (h.lens ≠ .learning → s.mode = .standby → x.link = .testing ∨ x.link = .powerFault → refuses .refusedState)
          ∧ (h.lens ≠ .learning → x.power = true ∨ (s.mode = .standby ∧ x.link = .off) →
            ∃ t : State, exec .relearn s = .next t
              ∧ t.health = s.health.set p { h with
                lens := .learning, keptAside := some h.lens, progress := 0, unusableRun := 0,
                zones := Vector.ofFn fun z : ZoneNo => { h.zones[z] with scratchSum := 0, scratchCount := 0 },
                deadline := some (s.nodeTime + 6000000), relearnHold := decide (s.mode = .standby) }
              ∧ t.cams = (if x.link = .off then s.cams.set p (x.newly .waking s.nodeTime) else s.cams)
              ∧ t.agent = { told.agent with queue := s.agent.queue.drop 1 } ∧ t.trunk = (reply c .ok [[]] told).trunk
              ∧ (∀ k : Fin 4, t.store.evidence[k] = if mine k then none else s.store.evidence[k])
              ∧ (∀ i : SlotNo,
                let y := s.store.slots[i]
                ((∀ k : Fin 4, ∀ v : Evidence, s.store.evidence[k] = some v → mine k = true → v.slot ≠ i) →
                  t.store.slots[i] = y)
                ∧ ((∃ k : Fin 4, ∃ v : Evidence, s.store.evidence[k] = some v ∧ mine k = true ∧ v.slot = i) →
                  t.store.slots[i] = if y.state = .evidence then
                      (if y.holders = 0 then ⟨.free, .none, none, 0, false, false, none, []⟩
                        else { y with state := .retired, pinned := false })
                    else { y with pinned := false }))
              ∧ t.store.viewMap = s.store.viewMap ∧ t.store.counters = s.store.counters
              ∧ ((∀ k : Fin 4, ∀ v : Evidence, s.store.evidence[k] = some v → v.camera ≠ s.cameraId p) →
                t.store = s.store ∧ t.trunk = (reply c .ok [[]] told).trunk)
              ∧ SameBut [.cams, .health, .store, .agent, .trunk] s t)

/-- R13 to R15, R79, R80, R184, R187: what CABLE_CHECK and RELEARN do. In part this rests on the choices of
notes/assumptions/4.md, notes/assumptions/8.md, notes/assumptions/22.md, notes/assumptions/25.md and
notes/assumptions/27.md. -/
def Obligations.CableChecksAndLearningStart : Prop :=
  Claim.ACableCheckStarts ∧ Claim.LearningStarts

/-- R58, R59, R73, R76 to R78: a LENS_PARAMS or WEIGHT write judges every flag of its port anew, recomputes the coverage
and moves a rated condition once; a change adds LENS_CHANGE, with a pin request for a worsening. -/
def Claim.LensWritesAreReevaluated : Prop :=
  ∀ (c : AgentCommand) (s : State),
    let l := payloadOf c.cell
    let i := s.agent.pointer
    let follows (row : Instr) (p : CamPort) (tables : Tables) : Prop :=
      let e := tables.lensParams[p]
      let h := s.health[p]
      let zones : Vector Zone 48 := Vector.ofFn fun z : ZoneNo =>
        let x := h.zones[z]
        { x with obscured := if e.sOn ≤ x.score then true else if x.score ≤ e.sOff then false else x.obscured }
      let cov := ((List.finRange 48).map fun z : ZoneNo =>
        if (zones[z]).obscured then tables.weight[zoneEntry p z] else 0).sum
      let lens : LensCondition :=
        if h.lens = .clean then (if e.tBlock ≤ cov then .blocked else if e.tWarn ≤ cov then .smeared else .clean)
        else if h.lens = .smeared then
          (if e.tBlock ≤ cov then .blocked else if cov ≤ e.tWarn - e.h then .clean else .smeared)
        else if h.lens = .blocked then
          (if cov ≤ e.tBlock - e.h then (if cov ≤ e.tWarn - e.h then .clean else .smeared) else .blocked)
        else h.lens
      let worse : Prop := (lens = .smeared ∧ h.lens = .clean) ∨ (lens = .blocked ∧ h.lens ≠ .blocked)
      let asked := if worse then pinRequest (s.cameraId p) lens cov s else (s, false)
      let told := if lens = h.lens then s else addCause .lensChange p.val asked.2 s
      ∃ t : State, exec row s = .next t ∧ t.tables = tables
        ∧ t.health = s.health.set p { h with zones := zones, coverage := cov, lens := lens }
        ∧ t.store = asked.1.store
        ∧ t.agent = { told.agent with pointer := i + 1, queue := s.agent.queue.drop 1 }
        ∧ t.trunk = (reply c .ok [[]] told).trunk
        ∧ SameBut [.tables, .health, .store, .agent, .trunk] s t
    (∀ e : LensParams, s.writes c .lensParams → readLensParams l = some e →
        follows .writeLensParams (Fin.ofNat 4 i) { s.tables with lensParams := s.tables.lensParams.set (Fin.ofNat 4 i) e })
      ∧ (∀ w : Nat, s.writes c .weight → readWeight l = some w →
        follows .writeWeight (Fin.ofNat 4 (i / 48)) { s.tables with weight := s.tables.weight.set (Fin.ofNat 192 i) w })

/-- R60, R73, R74, R76 to R78: a REFERENCE write is refused BUSY while its port is LEARNING; else it is stored and its
zone begins anew. The first reference of a port without any takes it from NO_REFERENCE to UNRATED, the loss of the
last one back. In a rated condition the coverage is recomputed and the condition moves once; a change adds
LENS_CHANGE, with a pin request for a worsening. -/
def Claim.AReferenceWriteIsTaken : Prop :=
  ∀ (c : AgentCommand) (v : Option Nat) (s : State), s.writes c .reference →
    readReference (payloadOf c.cell) = some v →
    let i := s.agent.pointer
    let p : CamPort := Fin.ofNat 4 (i / 48)
    let z : ZoneNo := Fin.ofNat 48 (i % 48)
    let h := s.health[p]
    let tables : Tables := { s.tables with reference := s.tables.reference.set (Fin.ofNat 192 i) v }
    let none_ : Prop := ∀ k : ZoneNo, tables.reference[zoneEntry p k] = none
    let began : Vector Zone 48 := h.zones.set z { h.zones[z] with score := 0, obscured := false }
    let wiped : Health := { h with
      zones := Vector.ofFn fun k : ZoneNo => { h.zones[k] with score := 0, obscured := false }
      coverage := 0
      unusableRun := 0 }
    let e := s.tables.lensParams[p]
    let cov := ((List.finRange 48).map fun k : ZoneNo =>
      if (began[k]).obscured then s.tables.weight[zoneEntry p k] else 0).sum
    let rated : Prop := h.lens = .clean ∨ h.lens = .smeared ∨ h.lens = .blocked
    let lens : LensCondition :=
      if h.lens = .clean then (if e.tBlock ≤ cov then .blocked else if e.tWarn ≤ cov then .smeared else .clean)
      else if h.lens = .smeared then
        (if e.tBlock ≤ cov then .blocked else if cov ≤ e.tWarn - e.h then .clean else .smeared)
      else if cov ≤ e.tBlock - e.h then (if cov ≤ e.tWarn - e.h then .clean else .smeared) else .blocked
    let worse : Prop := (lens = .smeared ∧ h.lens = .clean) ∨ (lens = .blocked ∧ h.lens ≠ .blocked)
    let asked := if worse then pinRequest (s.cameraId p) lens cov s else (s, false)
    let told := if lens = h.lens then s else addCause .lensChange p.val asked.2 s
    (h.lens = .learning → ∃ t : State, exec .writeReference s = .next t ∧ Answers c .busy [[]] s t
        ∧ SameBut [.agent, .trunk] s t)
      ∧ (h.lens ≠ .learning → ∃ t : State, exec .writeReference s = .next t ∧ t.tables = tables
        ∧ (none_ → t.health = s.health.set p { wiped with lens := .noReference } ∧ t.store = s.store
          ∧ Writes c (if h.lens = .noReference then [] else [(.lensChange, p.val)]) s t)
        ∧ (¬ none_ → h.lens = .noReference → t.health = s.health.set p { wiped with lens := .unrated }
          ∧ t.store = s.store ∧ Writes c [(.lensChange, p.val)] s t)
        ∧ (¬ none_ → h.lens = .unrated →
          t.health = s.health.set p { h with zones := began, coverage := cov } ∧ t.store = s.store ∧ Writes c [] s t)
        ∧ (¬ none_ → rated →
          t.health = s.health.set p { h with zones := began, coverage := cov, lens := lens }
          ∧ t.store = asked.1.store
          ∧ t.agent = { told.agent with pointer := i + 1, queue := s.agent.queue.drop 1 }
          ∧ t.trunk = (reply c .ok [[]] told).trunk)
        ∧ SameBut [.tables, .health, .store, .agent, .trunk] s t)

/-- R58 to R60, R73, R76 to R78: what a write of LENS_PARAMS, WEIGHT or REFERENCE does. In part this rests on the
choices of notes/assumptions/4.md, notes/assumptions/8.md and notes/assumptions/12.md. -/
def Obligations.LensAndReferenceWritesAreTaken : Prop :=
  Claim.LensWritesAreReevaluated ∧ Claim.AReferenceWriteIsTaken

/-- R108: the two buckets of every stream, a + 32 b + 1,024 c: a XOR b XOR c, and that XOR 31; and the four ways of
each, the primary bucket's first, in which the stream may lie. -/
def Claim.AStreamHasTwoBuckets : Prop :=
  ∀ (sid : StreamId) (a b c : Nat), a < 32 → b < 32 → c < 4 → sid.toNat = a + 32 * b + 1024 * c →
    let primary := (a ^^^ b) ^^^ c
    let secondary := primary ^^^ 31
    (waysOf sid).map Fin.val = [4 * primary, 4 * primary + 1, 4 * primary + 2, 4 * primary + 3, 4 * secondary,
        4 * secondary + 1, 4 * secondary + 2, 4 * secondary + 3]
      ∧ primary ≠ secondary ∧ primary < 32 ∧ secondary < 32

/-- R108 to R110: ROUTE_ADD writes a stream's own way, or the first empty way of its primary and then its secondary
bucket, and is refused TABLE_FULL with none; ROUTE_REMOVE empties the stream's way, or answers NOT_FOUND; both answer
with the way's number. -/
def Claim.RouteCommandsChangeTheTable : Prop :=
  ∀ (c : AgentCommand) (s : State),
    let l := payloadOf c.cell
    let n := (halfAt l 0).toNat
    let sid : StreamId := BitVec.ofNat 12 n
    let ways := waysOf sid
    let entry (i : Fin 128) : Option RouteEntry := s.tables.route[i]
    let holds (i : Fin 128) : Bool := (entry i).any fun e => e.stream == sid
    let refuses (row : Instr) (st : Status) : Prop :=
      ∃ t : State, exec row s = .next t ∧ Answers c st [[]] s t ∧ SameBut [.agent, .trunk] s t
    let changed (i : Fin 128) (e : Option RouteEntry) : State := { s with
      tables := { s.tables with route := s.tables.route.set i e }
      agent := { s.agent with queue := s.agent.queue.drop 1 }
      trunk := (reply c .ok [[byte i.val]] s).trunk }
    (∀ i : Fin 128, ways.find? holds = some i →
        (∀ consume : Bool, ∀ d : Direction, s.runs .routeAdd c → n ≤ 4095 → readFlag (byteAt l 2) = some consume →
          directionOf (byteAt l 3).toNat = some d → exec .routeAdd s = .next (changed i (some ⟨sid, consume, d⟩)))
        ∧ (s.runs .routeRemove c → n ≤ 4095 → exec .routeRemove s = .next (changed i none)))
      ∧ (ways.find? holds = none →
        (∀ consume : Bool, ∀ d : Direction, s.runs .routeAdd c → n ≤ 4095 → readFlag (byteAt l 2) = some consume →
          directionOf (byteAt l 3).toNat = some d →
          (∀ i : Fin 128, (ways.find? fun k => (entry k).isNone) = some i →
            exec .routeAdd s = .next (changed i (some ⟨sid, consume, d⟩)))
          ∧ ((ways.find? fun k => (entry k).isNone) = none → refuses .routeAdd .tableFull))
        ∧ (s.runs .routeRemove c → n ≤ 4095 → refuses .routeRemove .notFound))
      ∧ (s.runs .routeAdd c → 4095 < n ∨ 1 < (byteAt l 2).toNat ∨ 3 < (byteAt l 3).toNat → refuses .routeAdd .badValue)
      ∧ (s.runs .routeRemove c → 4095 < n → refuses .routeRemove .badValue)
      ∧ (∀ n : CommandName, n = .routeAdd ∨ n = .routeRemove → s.agent.queue.head? = some c → c.name = some n →
        s.mode = .bypass → refuses (commandRow s.agent.window n) .refusedMode)
      ∧ ways.map Fin.val = ((List.range 4).map fun w => (primaryBucket sid).toNat * 4 + w)
        ++ (List.range 4).map fun w => (31 - (primaryBucket sid).toNat) * 4 + w

/-- R108 to R110: the buckets of a stream, and what ROUTE_ADD and ROUTE_REMOVE do. In part this rests on the choices
of notes/assumptions/8.md and notes/assumptions/13.md. -/
def Obligations.RoutesAreAddedAndRemoved : Prop :=
  Claim.AStreamHasTwoBuckets ∧ Claim.RouteCommandsChangeTheTable

/-- R150, R151: APPLY_LAYOUTS keeps the PENDING bank as the apply image while an output runs, and else makes it the
ACTIVE bank at once; COPY_LAYOUTS copies the ACTIVE bank to the PENDING bank; both answer OK. In part this rests on
the choices of notes/assumptions/8.md and notes/assumptions/32.md. -/
def Obligations.LayoutBanksAreAppliedAndCopied : Prop :=
  ∀ (c : AgentCommand) (s : State),
    let running : Prop := ∃ sc : Screen, (s.comp.outputs[sc]).running = true
    let answered : Agent := { s.agent with queue := s.agent.queue.drop 1 }
    let trunk := (reply c .ok [[]] s).trunk
    (s.runs .applyLayouts c → running → exec .applyLayouts s = .next { s with
        comp := { s.comp with applyImage := some s.tables.pendingBank }, agent := answered, trunk := trunk })
      ∧ (s.runs .applyLayouts c → ¬ running → exec .applyLayouts s = .next { s with
        comp := { s.comp with applyImage := none }
        tables := { s.tables with activeBank := s.tables.pendingBank }, agent := answered, trunk := trunk })
      ∧ (s.runs .copyLayouts c → exec .copyLayouts s = .next { s with
        tables := { s.tables with pendingBank := s.tables.activeBank }, agent := answered, trunk := trunk })

/-- R168, R170, R193: SELECT_TABLE sets the window and the pointer; READ_NEXT returns up to four entries, one in each
cell with its table code and index, and moves the pointer past them; both refuse what their rules refuse, READ_NEXT with
the table code and the pointer and no entry. -/
def Claim.TheTableWindowIsSelectedAndRead : Prop :=
  ∀ (c : AgentCommand) (s : State),
    let l := payloadOf c.cell
    let code := (byteAt l 0).toNat
    let i := (halfAt l 1).toNat
    let refuses (row : Instr) (st : Status) (results : List Byte) : Prop :=
      ∃ t : State, exec row s = .next t ∧ Answers c st [results] s t ∧ SameBut [.agent, .trunk] s t
    (s.runs .selectTable c →
      (12 < code → refuses .selectTable .badTable [])
      ∧ (∀ x : Table, tableOf code = some x → x.entries ≤ i → refuses .selectTable .badIndex [])
      ∧ (∀ x : Table, tableOf code = some x → i < x.entries →
        exec .selectTable s = .next { s with
          agent := { s.agent with window := some x, pointer := i, queue := s.agent.queue.drop 1 }
          trunk := (reply c .ok [[]] s).trunk }))
      ∧ (s.runs .readNext c →
        (code = 0 ∨ 4 < code →
          (s.agent.window = none → refuses .readNext .badValue (Config.absentTableCode :: bytes2 s.agent.pointer))
          ∧ ∀ x : Table, s.agent.window = some x → refuses .readNext .badValue ([x.code] ++ bytes2 s.agent.pointer))
        ∧ (1 ≤ code → code ≤ 4 → s.agent.window = none →
          refuses .readNext .badTable (Config.absentTableCode :: bytes2 s.agent.pointer))
        ∧ ∀ x : Table, 1 ≤ code → code ≤ 4 → s.agent.window = some x →
          let part (j : Nat) : List Byte :=
            [x.code] ++ bytes2 (s.agent.pointer + j) ++ entryBytes s.tables (s.agent.pointer + j) x
          (x.entries ≤ s.agent.pointer → refuses .readNext .badIndex ([x.code] ++ bytes2 s.agent.pointer))
          ∧ (s.agent.pointer + code ≤ x.entries → exec .readNext s = .next { s with
            agent := { s.agent with pointer := s.agent.pointer + code, queue := s.agent.queue.drop 1 }
            trunk := (reply c .ok ((List.range code).map part) s).trunk })
          ∧ (s.agent.pointer < x.entries → x.entries < s.agent.pointer + code → exec .readNext s = .next { s with
            agent := { s.agent with pointer := x.entries, queue := s.agent.queue.drop 1 }
            trunk := (reply c .badIndex ((List.range (x.entries - s.agent.pointer)).map part) s).trunk }))

/-- R178, R193: READ_STATUS answers in four cells that list the node, two camera ports each, and the evidence
positions, in the order of R178 with the codes of section 11.4, and changes nothing else. -/
def Claim.TheStatusIsReadOut : Prop :=
  ∀ (c : AgentCommand) (s : State), s.runs .readStatus c →
    let b (x : Bool) : Byte := if x then 1 else 0
    let four (x : BitVec 32) : List Byte :=
      [x.extractLsb' 24 8, x.extractLsb' 16 8, x.extractLsb' 8 8, x.extractLsb' 0 8]
    let two (n : Nat) : List Byte := [BitVec.ofNat 8 (n / 256), BitVec.ofNat 8 n]
    let one (n : Nat) : Byte := BitVec.ofNat 8 n
    let side (x : Option TrunkPort) : Byte := match x with
      | none => 255
      | some .a => 0
      | some .b => 1
    let number (x : Option Nat) : Byte := match x with
      | none => 255
      | some n => one n
    let trunkLink (x : TrunkLink) : Byte := one ([TrunkLink.down, .training, .up].idxOf x)
    let lens (x : LensCondition) : Byte :=
      one ([LensCondition.noReference, .learning, .unrated, .clean, .smeared, .blocked].idxOf x)
    let o := s.orient
    let node : List Byte :=
      [one ([Mode.run, .standby, .bypass].idxOf s.mode), one s.straps.node.toNat, b s.straps.cabEnd,
        b s.straps.bypassStart, b s.cabActive, b o.candidate, one ([OrientState.none, .found, .conflict].idxOf o.state),
        number o.head, side o.headSide, number o.hops]
      ++ (match o.lastBeacon with
        | none => [0, 0, 0, 0, 0]
        | some x => 1 :: four x)
      ++ [side s.controllerSide, trunkLink s.trunk.a.link, trunkLink s.trunk.b.link, b s.trunk.a.farFault,
        b s.trunk.b.farFault, one s.alarm, b s.vehicle.fresh]
      ++ ((List.finRange 2).flatMap fun sc : Screen =>
        [one (s.selection[sc]).layout.val, b (s.comp.outputs[sc]).running])
      ++ [b s.comp.applyImage.isSome]
    let port (p : CamPort) : List Byte :=
      let x := s.cams[p]
      let h := s.health[p]
      [one ([CameraLink.off, .waking, .locked, .lost, .testing, .powerFault].idxOf x.link),
        b (x.link = .waking ∨ x.link = .locked ∨ x.link = .lost)]
      ++ (match x.lastRecord with
        | none => List.replicate 8 0
        | some r => 1 :: two r.number.toNat ++ two r.exposure ++ [one r.gain, b r.heater, b r.sensorFault])
      ++ (match x.cableResult with
        | none => [0, 0, 0]
        | some r =>
          [1, one ([CableOutcome.normal, .openCable, .short, .impedanceFault, .inconclusive].idxOf r.outcome),
            number r.distance])
      ++ [one ([PictureCondition.live, .noSignal, .frozen, .dark].idxOf h.picture), lens h.lens, one h.coverage,
        one h.progress]
      ++ (match h.deadline with
        | none => [255, 255]
        | some x => if h.lens = .learning then two (((x - s.nodeTime).toNat + 9999) / 10000) else [255, 255])
    let position (k : Fin 4) : List Byte :=
      match s.store.evidence[k] with
      | none => [255, 255, 255, 255] ++ four Config.absentPinTime ++ [255, 255]
      | some e =>
        [one e.slot.val, one e.camera.val, lens e.lens, one e.coverage] ++ four e.pinTime
          ++ [b e.fetching,
            one ([SlotState.free, .filling, .latest, .retired, .evidence].idxOf (s.store.slots[e.slot]).state)]
    exec .readStatus s = .next { s with
      agent := { s.agent with queue := s.agent.queue.drop 1 }
      trunk := (reply c .ok [node, port 0 ++ port 1, port 2 ++ port 3,
        position 0 ++ position 1 ++ position 2 ++ position 3] s).trunk }
      ∧ node.length ≤ 54 ∧ ∀ p : CamPort, 2 * (port p).length ≤ 54

/-- R176, R179, R193: READ_CAUSES answers with the whole set in two cells, clears it and arms notices; READ_COUNTERS
answers with a group's counters, twelve to a cell behind the group's code and the ordinal of the first (the nine of a
trunk port, the thirteen of the router, or the six of each camera port, the six of the engine and the two of the store),
and clears them when it is asked to, CLEAR_COUNTERS clears them; codes out of range are refused. -/
def Claim.CausesAndCountersAreRead : Prop :=
  ∀ (c : AgentCommand) (s : State),
    let l := payloadOf c.cell
    let popped (a : Agent) : Agent := { a with queue := s.agent.queue.drop 1 }
    let causes (part : List Cause) : List Byte :=
      [byte part.length, flag s.agent.overflow] ++ part.flatMap causeBytes
    let refuses (row : Instr) : Prop :=
      ∃ t : State, exec row s = .next t ∧ Answers c .badValue [[]] s t ∧ SameBut [.agent, .trunk] s t
    let cleared (g : CounterGroup) : State :=
      match g with
      | .trunk p => { s with trunk := s.trunk.set p { s.trunk.get p with counters := Vector.replicate 9 0 } }
      | .router => { s with router := { s.router with counters := Vector.replicate 13 0 } }
      | .engine => { s with
        cams := Vector.ofFn fun p : CamPort => { s.cams[p] with counters := Vector.replicate 6 0 }
        engine := { s.engine with counters := Vector.replicate 6 0 }
        store := { s.store with counters := Vector.replicate 2 0 } }
    let answered (parts : List (List Byte)) (u : State) : State :=
      { u with agent := popped s.agent, trunk := (reply c .ok parts u).trunk }
    let cell (code ordinal : Byte) (l : List Counter) : List Byte := code :: ordinal :: l.flatMap fun n =>
      [n.extractLsb' 24 8, n.extractLsb' 16 8, n.extractLsb' 8 8, n.extractLsb' 0 8]
    let cam (p : CamPort) : List Counter := (s.cams[p]).counters.toList
    let cells (g : CounterGroup) : List (List Byte) :=
      match g with
      | .trunk .a => [cell 0 0 s.trunk.a.counters.toList]
      | .trunk .b => [cell 1 0 s.trunk.b.counters.toList]
      | .router => [cell 2 0 (s.router.counters.toList.take 12), cell 2 12 [s.router.counters[(12 : Fin 13)]]]
      | .engine => [cell 3 0 (cam 0 ++ cam 1), cell 3 12 (cam 2 ++ cam 3),
        cell 3 24 (s.engine.counters.toList ++ s.store.counters.toList)]
    (s.runs .readCauses c → exec .readCauses s = .next { s with
        agent := popped { s.agent with causes := [], overflow := false, armed := true }
        trunk := (reply c .ok [causes (s.agent.causes.take 12), causes ((s.agent.causes.drop 12).take 12)] s).trunk })
      ∧ (∀ g : CounterGroup, (byteAt l 0).toNat = [CounterGroup.trunk .a, .trunk .b, .router, .engine].idxOf g →
        (s.runs .readCounters c → byteAt l 1 = 0 → exec .readCounters s = .next (answered (cells g) s))
        ∧ (s.runs .readCounters c → byteAt l 1 = 1 →
          exec .readCounters s = .next (answered (cells g) (cleared g)))
        ∧ (s.runs .readCounters c → 1 < (byteAt l 1).toNat → refuses .readCounters)
        ∧ (s.runs .clearCounters c → exec .clearCounters s = .next (answered [[]] (cleared g))))
      ∧ (3 < (byteAt l 0).toNat →
        (s.runs .readCounters c → refuses .readCounters) ∧ (s.runs .clearCounters c → refuses .clearCounters))

/-- R168, R170, R176, R178, R179, R193: the table window, and what the agent reads out. In part this rests on the
choices of notes/assumptions/3.md, notes/assumptions/8.md, notes/assumptions/13.md, notes/assumptions/24.md and
notes/assumptions/31.md. -/
def Obligations.TablesCausesAndCountersAreRead : Prop :=
  Claim.TheTableWindowIsSelectedAndRead ∧ Claim.TheStatusIsReadOut ∧ Claim.CausesAndCountersAreRead

/-- R51, R53, R191: RELEASE_EVIDENCE of a position, or of all with 255, empties it, clears its slot's pin mark and
sends an EVIDENCE slot to FREE, or to RETIRED under a hold; a fetch that reads it goes on and no longer names the
position. An empty position is answered NO_EVIDENCE, but under 255 OK; any other byte BAD_VALUE. -/
def Claim.EvidenceIsReleased : Prop :=
  ∀ (c : AgentCommand) (s : State), s.runs .releaseEvidence c →
    let n := (byteAt (payloadOf c.cell) 0).toNat
    let refuses (st : Status) : Prop :=
      ∃ t : State, exec .releaseEvidence s = .next t ∧ Answers c st [[]] s t ∧ SameBut [.agent, .trunk] s t
    let unpinned (x : Slot) : Slot :=
      if x.state = .evidence then
        (if x.holders = 0 then ⟨.free, .none, none, 0, false, false, none, []⟩
          else { x with state := .retired, pinned := false })
      else { x with pinned := false }
    let forgets (gone : Fin 4 → Prop) (l m : List SendEntry) : Prop := l.length = m.length
      ∧ ∀ i : Nat, ∀ d e : SendEntry, l[i]? = some d → m[i]? = some e →
        (∀ k : Fin 4, d.kind = .fetch (some k) → gone k → e = { d with kind := .fetch none })
        ∧ ((∀ k : Fin 4, d.kind = .fetch (some k) → ¬ gone k) → e = d)
    let releases (gone : Fin 4 → Prop) : Prop := ∃ u : State, exec .releaseEvidence s = .next { u with
        agent := { s.agent with queue := s.agent.queue.drop 1 }
        trunk := (reply c .ok [[]] u).trunk }
      ∧ u.store = { s.store with slots := u.store.slots, evidence := u.store.evidence }
      ∧ (∀ k : Fin 4, (gone k → u.store.evidence[k] = none) ∧ (¬ gone k → u.store.evidence[k] = s.store.evidence[k]))
      ∧ (∀ i : SlotNo,
        ((∃ k : Fin 4, ∃ v : Evidence, gone k ∧ s.store.evidence[k] = some v ∧ v.slot = i) →
          u.store.slots[i] = unpinned s.store.slots[i])
        ∧ ((∀ k : Fin 4, ∀ v : Evidence, gone k → s.store.evidence[k] = some v → v.slot ≠ i) →
          u.store.slots[i] = s.store.slots[i]))
      ∧ (∀ p : TrunkPort, u.trunk.get p = { s.trunk.get p with sendList := (u.trunk.get p).sendList }
        ∧ forgets gone (s.trunk.get p).sendList (u.trunk.get p).sendList)
      ∧ SameBut [.store, .trunk] s u
    (∀ k : Fin 4, n = k.val → s.store.evidence[k] = none → refuses .noEvidence)
      ∧ (∀ k : Fin 4, n = k.val → s.store.evidence[k] ≠ none → releases fun j => j = k)
      ∧ (n = 255 → releases fun _ => True)
      ∧ (4 ≤ n → n ≤ 254 → refuses .badValue)

/-- R52, R191: FETCH_EVIDENCE joins the send list of the controller-side port, holding its slot, with fetch running set;
it is refused BAD_VALUE, NO_EVIDENCE, BUSY while a fetch of the position runs, and REFUSED_STATE with no controller-side
port, a full list, or one that holds an entry waiting for the stream. -/
def Claim.EvidenceIsFetched : Prop :=
  ∀ (c : AgentCommand) (s : State), s.runs .fetchEvidence c →
    let n := (byteAt (payloadOf c.cell) 0).toNat
    let m := (halfAt (payloadOf c.cell) 1).toNat
    let sid : StreamId := BitVec.ofNat 12 m
    let refuses (st : Status) : Prop :=
      ∃ t : State, exec .fetchEvidence s = .next t ∧ Answers c st [[]] s t ∧ SameBut [.agent, .trunk] s t
    (4 ≤ n ∨ 4095 < m → refuses .badValue)
      ∧ ∀ k : Fin 4, n = k.val → m ≤ 4095 →
        (s.store.evidence[k] = none → refuses .noEvidence)
        ∧ ∀ v : Evidence, s.store.evidence[k] = some v →
          (v.fetching = true → refuses .busy)
          ∧ (v.fetching = false → s.controllerSide = none → refuses .refusedState)
          ∧ ∀ p : TrunkPort, v.fetching = false → s.controllerSide = some p →
            let list := (s.trunk.get p).sendList
            (8 ≤ list.length ∨ (∃ d ∈ list, d.started = false ∧ d.stream = sid) → refuses .refusedState)
            ∧ (list.length < 8 → (∀ d ∈ list, ¬ (d.started = false ∧ d.stream = sid)) →
              let u : State := { s with trunk := s.trunk.set p { s.trunk.get p with
                sendList := list ++ [⟨.fetch (some k), v.slot, sid, false, none, (s.store.slots[v.slot]).cells⟩] } }
              exec .fetchEvidence s = .next { s with
                store := { s.store.takeHold v.slot with
                  evidence := s.store.evidence.set k (some { v with fetching := true }) }
                agent := { s.agent with queue := s.agent.queue.drop 1 }
                trunk := (reply c .ok [[]] u).trunk })

/-- R51 to R53, R191: what RELEASE_EVIDENCE and FETCH_EVIDENCE do. In part this rests on the choices of
notes/assumptions/8.md. -/
def Obligations.EvidenceIsReleasedAndFetched : Prop :=
  Claim.EvidenceIsReleased ∧ Claim.EvidenceIsFetched
end

