-- ==== Sys2Proof/Laws/Cells.lean ====
section
/-! SUPPORT. The FILL cell of the reset state is the FILL cell that a port which is not UP sends, and cells keep their 64
bytes. -/

namespace Sys2Proof.Machine

/-- The line of a trunk port after reset carries a FILL with FAULT, with both its CRCs (R90, R190). -/
theorem faultFill_eq : faultFill = fillCell true := by decide +kernel

theorem padTo_length (n : Nat) (l : List Byte) : (padTo n l).length = n := by
  simp only [padTo, List.length_append, List.length_take, List.length_replicate]
  omega

theorem mkCell_length (head payload : List Byte) : (mkCell head payload).length = 64 := by
  simp [mkCell, padTo_length]

end Sys2Proof.Machine
end

