-- ==== Sys2Proof/Laws/State.lean ====
section
/-! SUPPORT. One lemma for each field of State under each named update, true by rfl. -/

namespace Sys2Proof.Machine

variable (s : State)

@[simp] theorem State.withNodeTime_nodeTime (v : NodeTime) : (s.withNodeTime v).nodeTime = v := rfl
@[simp] theorem State.withNodeTime_cellCount (v : NodeTime) : (s.withNodeTime v).cellCount = s.cellCount := rfl
@[simp] theorem State.withNodeTime_straps (v : NodeTime) : (s.withNodeTime v).straps = s.straps := rfl
@[simp] theorem State.withNodeTime_cabActive (v : NodeTime) : (s.withNodeTime v).cabActive = s.cabActive := rfl
@[simp] theorem State.withNodeTime_mode (v : NodeTime) : (s.withNodeTime v).mode = s.mode := rfl
@[simp] theorem State.withNodeTime_cams (v : NodeTime) : (s.withNodeTime v).cams = s.cams := rfl
@[simp] theorem State.withNodeTime_health (v : NodeTime) : (s.withNodeTime v).health = s.health := rfl
@[simp] theorem State.withNodeTime_engine (v : NodeTime) : (s.withNodeTime v).engine = s.engine := rfl
@[simp] theorem State.withNodeTime_store (v : NodeTime) : (s.withNodeTime v).store = s.store := rfl
@[simp] theorem State.withNodeTime_trunk (v : NodeTime) : (s.withNodeTime v).trunk = s.trunk := rfl
@[simp] theorem State.withNodeTime_orient (v : NodeTime) : (s.withNodeTime v).orient = s.orient := rfl
@[simp] theorem State.withNodeTime_controllerSide (v : NodeTime) : (s.withNodeTime v).controllerSide = s.controllerSide := rfl
@[simp] theorem State.withNodeTime_router (v : NodeTime) : (s.withNodeTime v).router = s.router := rfl
@[simp] theorem State.withNodeTime_vehicle (v : NodeTime) : (s.withNodeTime v).vehicle = s.vehicle := rfl
@[simp] theorem State.withNodeTime_selection (v : NodeTime) : (s.withNodeTime v).selection = s.selection := rfl
@[simp] theorem State.withNodeTime_alarm (v : NodeTime) : (s.withNodeTime v).alarm = s.alarm := rfl
@[simp] theorem State.withNodeTime_comp (v : NodeTime) : (s.withNodeTime v).comp = s.comp := rfl
@[simp] theorem State.withNodeTime_agent (v : NodeTime) : (s.withNodeTime v).agent = s.agent := rfl
@[simp] theorem State.withNodeTime_survey (v : NodeTime) : (s.withNodeTime v).survey = s.survey := rfl
@[simp] theorem State.withNodeTime_tables (v : NodeTime) : (s.withNodeTime v).tables = s.tables := rfl
@[simp] theorem State.withNodeTime_swapTies (v : NodeTime) : (s.withNodeTime v).swapTies = s.swapTies := rfl
@[simp] theorem State.withNodeTime_pending (v : NodeTime) : (s.withNodeTime v).pending = s.pending := rfl

@[simp] theorem State.withCellCount_nodeTime (v : Nat) : (s.withCellCount v).nodeTime = s.nodeTime := rfl
@[simp] theorem State.withCellCount_cellCount (v : Nat) : (s.withCellCount v).cellCount = v := rfl
@[simp] theorem State.withCellCount_straps (v : Nat) : (s.withCellCount v).straps = s.straps := rfl
@[simp] theorem State.withCellCount_cabActive (v : Nat) : (s.withCellCount v).cabActive = s.cabActive := rfl
@[simp] theorem State.withCellCount_mode (v : Nat) : (s.withCellCount v).mode = s.mode := rfl
@[simp] theorem State.withCellCount_cams (v : Nat) : (s.withCellCount v).cams = s.cams := rfl
@[simp] theorem State.withCellCount_health (v : Nat) : (s.withCellCount v).health = s.health := rfl
@[simp] theorem State.withCellCount_engine (v : Nat) : (s.withCellCount v).engine = s.engine := rfl
@[simp] theorem State.withCellCount_store (v : Nat) : (s.withCellCount v).store = s.store := rfl
@[simp] theorem State.withCellCount_trunk (v : Nat) : (s.withCellCount v).trunk = s.trunk := rfl
@[simp] theorem State.withCellCount_orient (v : Nat) : (s.withCellCount v).orient = s.orient := rfl
@[simp] theorem State.withCellCount_controllerSide (v : Nat) : (s.withCellCount v).controllerSide = s.controllerSide := rfl
@[simp] theorem State.withCellCount_router (v : Nat) : (s.withCellCount v).router = s.router := rfl
@[simp] theorem State.withCellCount_vehicle (v : Nat) : (s.withCellCount v).vehicle = s.vehicle := rfl
@[simp] theorem State.withCellCount_selection (v : Nat) : (s.withCellCount v).selection = s.selection := rfl
@[simp] theorem State.withCellCount_alarm (v : Nat) : (s.withCellCount v).alarm = s.alarm := rfl
@[simp] theorem State.withCellCount_comp (v : Nat) : (s.withCellCount v).comp = s.comp := rfl
@[simp] theorem State.withCellCount_agent (v : Nat) : (s.withCellCount v).agent = s.agent := rfl
@[simp] theorem State.withCellCount_survey (v : Nat) : (s.withCellCount v).survey = s.survey := rfl
@[simp] theorem State.withCellCount_tables (v : Nat) : (s.withCellCount v).tables = s.tables := rfl
@[simp] theorem State.withCellCount_swapTies (v : Nat) : (s.withCellCount v).swapTies = s.swapTies := rfl
@[simp] theorem State.withCellCount_pending (v : Nat) : (s.withCellCount v).pending = s.pending := rfl

@[simp] theorem State.withCabActive_nodeTime (v : Bool) : (s.withCabActive v).nodeTime = s.nodeTime := rfl
@[simp] theorem State.withCabActive_cellCount (v : Bool) : (s.withCabActive v).cellCount = s.cellCount := rfl
@[simp] theorem State.withCabActive_straps (v : Bool) : (s.withCabActive v).straps = s.straps := rfl
@[simp] theorem State.withCabActive_cabActive (v : Bool) : (s.withCabActive v).cabActive = v := rfl
@[simp] theorem State.withCabActive_mode (v : Bool) : (s.withCabActive v).mode = s.mode := rfl
@[simp] theorem State.withCabActive_cams (v : Bool) : (s.withCabActive v).cams = s.cams := rfl
@[simp] theorem State.withCabActive_health (v : Bool) : (s.withCabActive v).health = s.health := rfl
@[simp] theorem State.withCabActive_engine (v : Bool) : (s.withCabActive v).engine = s.engine := rfl
@[simp] theorem State.withCabActive_store (v : Bool) : (s.withCabActive v).store = s.store := rfl
@[simp] theorem State.withCabActive_trunk (v : Bool) : (s.withCabActive v).trunk = s.trunk := rfl
@[simp] theorem State.withCabActive_orient (v : Bool) : (s.withCabActive v).orient = s.orient := rfl
@[simp] theorem State.withCabActive_controllerSide (v : Bool) : (s.withCabActive v).controllerSide = s.controllerSide := rfl
@[simp] theorem State.withCabActive_router (v : Bool) : (s.withCabActive v).router = s.router := rfl
@[simp] theorem State.withCabActive_vehicle (v : Bool) : (s.withCabActive v).vehicle = s.vehicle := rfl
@[simp] theorem State.withCabActive_selection (v : Bool) : (s.withCabActive v).selection = s.selection := rfl
@[simp] theorem State.withCabActive_alarm (v : Bool) : (s.withCabActive v).alarm = s.alarm := rfl
@[simp] theorem State.withCabActive_comp (v : Bool) : (s.withCabActive v).comp = s.comp := rfl
@[simp] theorem State.withCabActive_agent (v : Bool) : (s.withCabActive v).agent = s.agent := rfl
@[simp] theorem State.withCabActive_survey (v : Bool) : (s.withCabActive v).survey = s.survey := rfl
@[simp] theorem State.withCabActive_tables (v : Bool) : (s.withCabActive v).tables = s.tables := rfl
@[simp] theorem State.withCabActive_swapTies (v : Bool) : (s.withCabActive v).swapTies = s.swapTies := rfl
@[simp] theorem State.withCabActive_pending (v : Bool) : (s.withCabActive v).pending = s.pending := rfl

@[simp] theorem State.withMode_nodeTime (v : Mode) : (s.withMode v).nodeTime = s.nodeTime := rfl
@[simp] theorem State.withMode_cellCount (v : Mode) : (s.withMode v).cellCount = s.cellCount := rfl
@[simp] theorem State.withMode_straps (v : Mode) : (s.withMode v).straps = s.straps := rfl
@[simp] theorem State.withMode_cabActive (v : Mode) : (s.withMode v).cabActive = s.cabActive := rfl
@[simp] theorem State.withMode_mode (v : Mode) : (s.withMode v).mode = v := rfl
@[simp] theorem State.withMode_cams (v : Mode) : (s.withMode v).cams = s.cams := rfl
@[simp] theorem State.withMode_health (v : Mode) : (s.withMode v).health = s.health := rfl
@[simp] theorem State.withMode_engine (v : Mode) : (s.withMode v).engine = s.engine := rfl
@[simp] theorem State.withMode_store (v : Mode) : (s.withMode v).store = s.store := rfl
@[simp] theorem State.withMode_trunk (v : Mode) : (s.withMode v).trunk = s.trunk := rfl
@[simp] theorem State.withMode_orient (v : Mode) : (s.withMode v).orient = s.orient := rfl
@[simp] theorem State.withMode_controllerSide (v : Mode) : (s.withMode v).controllerSide = s.controllerSide := rfl
@[simp] theorem State.withMode_router (v : Mode) : (s.withMode v).router = s.router := rfl
@[simp] theorem State.withMode_vehicle (v : Mode) : (s.withMode v).vehicle = s.vehicle := rfl
@[simp] theorem State.withMode_selection (v : Mode) : (s.withMode v).selection = s.selection := rfl
@[simp] theorem State.withMode_alarm (v : Mode) : (s.withMode v).alarm = s.alarm := rfl
@[simp] theorem State.withMode_comp (v : Mode) : (s.withMode v).comp = s.comp := rfl
@[simp] theorem State.withMode_agent (v : Mode) : (s.withMode v).agent = s.agent := rfl
@[simp] theorem State.withMode_survey (v : Mode) : (s.withMode v).survey = s.survey := rfl
@[simp] theorem State.withMode_tables (v : Mode) : (s.withMode v).tables = s.tables := rfl
@[simp] theorem State.withMode_swapTies (v : Mode) : (s.withMode v).swapTies = s.swapTies := rfl
@[simp] theorem State.withMode_pending (v : Mode) : (s.withMode v).pending = s.pending := rfl

@[simp] theorem State.withCam_nodeTime (p : CamPort) (v : CameraPort) : (s.withCam p v).nodeTime = s.nodeTime := rfl
@[simp] theorem State.withCam_cellCount (p : CamPort) (v : CameraPort) : (s.withCam p v).cellCount = s.cellCount := rfl
@[simp] theorem State.withCam_straps (p : CamPort) (v : CameraPort) : (s.withCam p v).straps = s.straps := rfl
@[simp] theorem State.withCam_cabActive (p : CamPort) (v : CameraPort) : (s.withCam p v).cabActive = s.cabActive := rfl
@[simp] theorem State.withCam_mode (p : CamPort) (v : CameraPort) : (s.withCam p v).mode = s.mode := rfl
@[simp] theorem State.withCam_cams (p : CamPort) (v : CameraPort) : (s.withCam p v).cams = s.cams.set p v := rfl
@[simp] theorem State.withCam_health (p : CamPort) (v : CameraPort) : (s.withCam p v).health = s.health := rfl
@[simp] theorem State.withCam_engine (p : CamPort) (v : CameraPort) : (s.withCam p v).engine = s.engine := rfl
@[simp] theorem State.withCam_store (p : CamPort) (v : CameraPort) : (s.withCam p v).store = s.store := rfl
@[simp] theorem State.withCam_trunk (p : CamPort) (v : CameraPort) : (s.withCam p v).trunk = s.trunk := rfl
@[simp] theorem State.withCam_orient (p : CamPort) (v : CameraPort) : (s.withCam p v).orient = s.orient := rfl
@[simp] theorem State.withCam_controllerSide (p : CamPort) (v : CameraPort) : (s.withCam p v).controllerSide = s.controllerSide := rfl
@[simp] theorem State.withCam_router (p : CamPort) (v : CameraPort) : (s.withCam p v).router = s.router := rfl
@[simp] theorem State.withCam_vehicle (p : CamPort) (v : CameraPort) : (s.withCam p v).vehicle = s.vehicle := rfl
@[simp] theorem State.withCam_selection (p : CamPort) (v : CameraPort) : (s.withCam p v).selection = s.selection := rfl
@[simp] theorem State.withCam_alarm (p : CamPort) (v : CameraPort) : (s.withCam p v).alarm = s.alarm := rfl
@[simp] theorem State.withCam_comp (p : CamPort) (v : CameraPort) : (s.withCam p v).comp = s.comp := rfl
@[simp] theorem State.withCam_agent (p : CamPort) (v : CameraPort) : (s.withCam p v).agent = s.agent := rfl
@[simp] theorem State.withCam_survey (p : CamPort) (v : CameraPort) : (s.withCam p v).survey = s.survey := rfl
@[simp] theorem State.withCam_tables (p : CamPort) (v : CameraPort) : (s.withCam p v).tables = s.tables := rfl
@[simp] theorem State.withCam_swapTies (p : CamPort) (v : CameraPort) : (s.withCam p v).swapTies = s.swapTies := rfl
@[simp] theorem State.withCam_pending (p : CamPort) (v : CameraPort) : (s.withCam p v).pending = s.pending := rfl

@[simp] theorem State.withHealth_nodeTime (p : CamPort) (v : Health) : (s.withHealth p v).nodeTime = s.nodeTime := rfl
@[simp] theorem State.withHealth_cellCount (p : CamPort) (v : Health) : (s.withHealth p v).cellCount = s.cellCount := rfl
@[simp] theorem State.withHealth_straps (p : CamPort) (v : Health) : (s.withHealth p v).straps = s.straps := rfl
@[simp] theorem State.withHealth_cabActive (p : CamPort) (v : Health) : (s.withHealth p v).cabActive = s.cabActive := rfl
@[simp] theorem State.withHealth_mode (p : CamPort) (v : Health) : (s.withHealth p v).mode = s.mode := rfl
@[simp] theorem State.withHealth_cams (p : CamPort) (v : Health) : (s.withHealth p v).cams = s.cams := rfl
@[simp] theorem State.withHealth_health (p : CamPort) (v : Health) : (s.withHealth p v).health = s.health.set p v := rfl
@[simp] theorem State.withHealth_engine (p : CamPort) (v : Health) : (s.withHealth p v).engine = s.engine := rfl
@[simp] theorem State.withHealth_store (p : CamPort) (v : Health) : (s.withHealth p v).store = s.store := rfl
@[simp] theorem State.withHealth_trunk (p : CamPort) (v : Health) : (s.withHealth p v).trunk = s.trunk := rfl
@[simp] theorem State.withHealth_orient (p : CamPort) (v : Health) : (s.withHealth p v).orient = s.orient := rfl
@[simp] theorem State.withHealth_controllerSide (p : CamPort) (v : Health) : (s.withHealth p v).controllerSide = s.controllerSide := rfl
@[simp] theorem State.withHealth_router (p : CamPort) (v : Health) : (s.withHealth p v).router = s.router := rfl
@[simp] theorem State.withHealth_vehicle (p : CamPort) (v : Health) : (s.withHealth p v).vehicle = s.vehicle := rfl
@[simp] theorem State.withHealth_selection (p : CamPort) (v : Health) : (s.withHealth p v).selection = s.selection := rfl
@[simp] theorem State.withHealth_alarm (p : CamPort) (v : Health) : (s.withHealth p v).alarm = s.alarm := rfl
@[simp] theorem State.withHealth_comp (p : CamPort) (v : Health) : (s.withHealth p v).comp = s.comp := rfl
@[simp] theorem State.withHealth_agent (p : CamPort) (v : Health) : (s.withHealth p v).agent = s.agent := rfl
@[simp] theorem State.withHealth_survey (p : CamPort) (v : Health) : (s.withHealth p v).survey = s.survey := rfl
@[simp] theorem State.withHealth_tables (p : CamPort) (v : Health) : (s.withHealth p v).tables = s.tables := rfl
@[simp] theorem State.withHealth_swapTies (p : CamPort) (v : Health) : (s.withHealth p v).swapTies = s.swapTies := rfl
@[simp] theorem State.withHealth_pending (p : CamPort) (v : Health) : (s.withHealth p v).pending = s.pending := rfl

@[simp] theorem State.withEngine_nodeTime (v : Engine) : (s.withEngine v).nodeTime = s.nodeTime := rfl
@[simp] theorem State.withEngine_cellCount (v : Engine) : (s.withEngine v).cellCount = s.cellCount := rfl
@[simp] theorem State.withEngine_straps (v : Engine) : (s.withEngine v).straps = s.straps := rfl
@[simp] theorem State.withEngine_cabActive (v : Engine) : (s.withEngine v).cabActive = s.cabActive := rfl
@[simp] theorem State.withEngine_mode (v : Engine) : (s.withEngine v).mode = s.mode := rfl
@[simp] theorem State.withEngine_cams (v : Engine) : (s.withEngine v).cams = s.cams := rfl
@[simp] theorem State.withEngine_health (v : Engine) : (s.withEngine v).health = s.health := rfl
@[simp] theorem State.withEngine_engine (v : Engine) : (s.withEngine v).engine = v := rfl
@[simp] theorem State.withEngine_store (v : Engine) : (s.withEngine v).store = s.store := rfl
@[simp] theorem State.withEngine_trunk (v : Engine) : (s.withEngine v).trunk = s.trunk := rfl
@[simp] theorem State.withEngine_orient (v : Engine) : (s.withEngine v).orient = s.orient := rfl
@[simp] theorem State.withEngine_controllerSide (v : Engine) : (s.withEngine v).controllerSide = s.controllerSide := rfl
@[simp] theorem State.withEngine_router (v : Engine) : (s.withEngine v).router = s.router := rfl
@[simp] theorem State.withEngine_vehicle (v : Engine) : (s.withEngine v).vehicle = s.vehicle := rfl
@[simp] theorem State.withEngine_selection (v : Engine) : (s.withEngine v).selection = s.selection := rfl
@[simp] theorem State.withEngine_alarm (v : Engine) : (s.withEngine v).alarm = s.alarm := rfl
@[simp] theorem State.withEngine_comp (v : Engine) : (s.withEngine v).comp = s.comp := rfl
@[simp] theorem State.withEngine_agent (v : Engine) : (s.withEngine v).agent = s.agent := rfl
@[simp] theorem State.withEngine_survey (v : Engine) : (s.withEngine v).survey = s.survey := rfl
@[simp] theorem State.withEngine_tables (v : Engine) : (s.withEngine v).tables = s.tables := rfl
@[simp] theorem State.withEngine_swapTies (v : Engine) : (s.withEngine v).swapTies = s.swapTies := rfl
@[simp] theorem State.withEngine_pending (v : Engine) : (s.withEngine v).pending = s.pending := rfl

@[simp] theorem State.withStore_nodeTime (v : Store) : (s.withStore v).nodeTime = s.nodeTime := rfl
@[simp] theorem State.withStore_cellCount (v : Store) : (s.withStore v).cellCount = s.cellCount := rfl
@[simp] theorem State.withStore_straps (v : Store) : (s.withStore v).straps = s.straps := rfl
@[simp] theorem State.withStore_cabActive (v : Store) : (s.withStore v).cabActive = s.cabActive := rfl
@[simp] theorem State.withStore_mode (v : Store) : (s.withStore v).mode = s.mode := rfl
@[simp] theorem State.withStore_cams (v : Store) : (s.withStore v).cams = s.cams := rfl
@[simp] theorem State.withStore_health (v : Store) : (s.withStore v).health = s.health := rfl
@[simp] theorem State.withStore_engine (v : Store) : (s.withStore v).engine = s.engine := rfl
@[simp] theorem State.withStore_store (v : Store) : (s.withStore v).store = v := rfl
@[simp] theorem State.withStore_trunk (v : Store) : (s.withStore v).trunk = s.trunk := rfl
@[simp] theorem State.withStore_orient (v : Store) : (s.withStore v).orient = s.orient := rfl
@[simp] theorem State.withStore_controllerSide (v : Store) : (s.withStore v).controllerSide = s.controllerSide := rfl
@[simp] theorem State.withStore_router (v : Store) : (s.withStore v).router = s.router := rfl
@[simp] theorem State.withStore_vehicle (v : Store) : (s.withStore v).vehicle = s.vehicle := rfl
@[simp] theorem State.withStore_selection (v : Store) : (s.withStore v).selection = s.selection := rfl
@[simp] theorem State.withStore_alarm (v : Store) : (s.withStore v).alarm = s.alarm := rfl
@[simp] theorem State.withStore_comp (v : Store) : (s.withStore v).comp = s.comp := rfl
@[simp] theorem State.withStore_agent (v : Store) : (s.withStore v).agent = s.agent := rfl
@[simp] theorem State.withStore_survey (v : Store) : (s.withStore v).survey = s.survey := rfl
@[simp] theorem State.withStore_tables (v : Store) : (s.withStore v).tables = s.tables := rfl
@[simp] theorem State.withStore_swapTies (v : Store) : (s.withStore v).swapTies = s.swapTies := rfl
@[simp] theorem State.withStore_pending (v : Store) : (s.withStore v).pending = s.pending := rfl

@[simp] theorem State.withTrunk_nodeTime (p : TrunkPort) (v : Trunk) : (s.withTrunk p v).nodeTime = s.nodeTime := rfl
@[simp] theorem State.withTrunk_cellCount (p : TrunkPort) (v : Trunk) : (s.withTrunk p v).cellCount = s.cellCount := rfl
@[simp] theorem State.withTrunk_straps (p : TrunkPort) (v : Trunk) : (s.withTrunk p v).straps = s.straps := rfl
@[simp] theorem State.withTrunk_cabActive (p : TrunkPort) (v : Trunk) : (s.withTrunk p v).cabActive = s.cabActive := rfl
@[simp] theorem State.withTrunk_mode (p : TrunkPort) (v : Trunk) : (s.withTrunk p v).mode = s.mode := rfl
@[simp] theorem State.withTrunk_cams (p : TrunkPort) (v : Trunk) : (s.withTrunk p v).cams = s.cams := rfl
@[simp] theorem State.withTrunk_health (p : TrunkPort) (v : Trunk) : (s.withTrunk p v).health = s.health := rfl
@[simp] theorem State.withTrunk_engine (p : TrunkPort) (v : Trunk) : (s.withTrunk p v).engine = s.engine := rfl
@[simp] theorem State.withTrunk_store (p : TrunkPort) (v : Trunk) : (s.withTrunk p v).store = s.store := rfl
@[simp] theorem State.withTrunk_trunk (p : TrunkPort) (v : Trunk) : (s.withTrunk p v).trunk = s.trunk.set p v := rfl
@[simp] theorem State.withTrunk_orient (p : TrunkPort) (v : Trunk) : (s.withTrunk p v).orient = s.orient := rfl
@[simp] theorem State.withTrunk_controllerSide (p : TrunkPort) (v : Trunk) : (s.withTrunk p v).controllerSide = s.controllerSide := rfl
@[simp] theorem State.withTrunk_router (p : TrunkPort) (v : Trunk) : (s.withTrunk p v).router = s.router := rfl
@[simp] theorem State.withTrunk_vehicle (p : TrunkPort) (v : Trunk) : (s.withTrunk p v).vehicle = s.vehicle := rfl
@[simp] theorem State.withTrunk_selection (p : TrunkPort) (v : Trunk) : (s.withTrunk p v).selection = s.selection := rfl
@[simp] theorem State.withTrunk_alarm (p : TrunkPort) (v : Trunk) : (s.withTrunk p v).alarm = s.alarm := rfl
@[simp] theorem State.withTrunk_comp (p : TrunkPort) (v : Trunk) : (s.withTrunk p v).comp = s.comp := rfl
@[simp] theorem State.withTrunk_agent (p : TrunkPort) (v : Trunk) : (s.withTrunk p v).agent = s.agent := rfl
@[simp] theorem State.withTrunk_survey (p : TrunkPort) (v : Trunk) : (s.withTrunk p v).survey = s.survey := rfl
@[simp] theorem State.withTrunk_tables (p : TrunkPort) (v : Trunk) : (s.withTrunk p v).tables = s.tables := rfl
@[simp] theorem State.withTrunk_swapTies (p : TrunkPort) (v : Trunk) : (s.withTrunk p v).swapTies = s.swapTies := rfl
@[simp] theorem State.withTrunk_pending (p : TrunkPort) (v : Trunk) : (s.withTrunk p v).pending = s.pending := rfl

@[simp] theorem State.withOrient_nodeTime (v : Orientation) : (s.withOrient v).nodeTime = s.nodeTime := rfl
@[simp] theorem State.withOrient_cellCount (v : Orientation) : (s.withOrient v).cellCount = s.cellCount := rfl
@[simp] theorem State.withOrient_straps (v : Orientation) : (s.withOrient v).straps = s.straps := rfl
@[simp] theorem State.withOrient_cabActive (v : Orientation) : (s.withOrient v).cabActive = s.cabActive := rfl
@[simp] theorem State.withOrient_mode (v : Orientation) : (s.withOrient v).mode = s.mode := rfl
@[simp] theorem State.withOrient_cams (v : Orientation) : (s.withOrient v).cams = s.cams := rfl
@[simp] theorem State.withOrient_health (v : Orientation) : (s.withOrient v).health = s.health := rfl
@[simp] theorem State.withOrient_engine (v : Orientation) : (s.withOrient v).engine = s.engine := rfl
@[simp] theorem State.withOrient_store (v : Orientation) : (s.withOrient v).store = s.store := rfl
@[simp] theorem State.withOrient_trunk (v : Orientation) : (s.withOrient v).trunk = s.trunk := rfl
@[simp] theorem State.withOrient_orient (v : Orientation) : (s.withOrient v).orient = v := rfl
@[simp] theorem State.withOrient_controllerSide (v : Orientation) : (s.withOrient v).controllerSide = s.controllerSide := rfl
@[simp] theorem State.withOrient_router (v : Orientation) : (s.withOrient v).router = s.router := rfl
@[simp] theorem State.withOrient_vehicle (v : Orientation) : (s.withOrient v).vehicle = s.vehicle := rfl
@[simp] theorem State.withOrient_selection (v : Orientation) : (s.withOrient v).selection = s.selection := rfl
@[simp] theorem State.withOrient_alarm (v : Orientation) : (s.withOrient v).alarm = s.alarm := rfl
@[simp] theorem State.withOrient_comp (v : Orientation) : (s.withOrient v).comp = s.comp := rfl
@[simp] theorem State.withOrient_agent (v : Orientation) : (s.withOrient v).agent = s.agent := rfl
@[simp] theorem State.withOrient_survey (v : Orientation) : (s.withOrient v).survey = s.survey := rfl
@[simp] theorem State.withOrient_tables (v : Orientation) : (s.withOrient v).tables = s.tables := rfl
@[simp] theorem State.withOrient_swapTies (v : Orientation) : (s.withOrient v).swapTies = s.swapTies := rfl
@[simp] theorem State.withOrient_pending (v : Orientation) : (s.withOrient v).pending = s.pending := rfl

@[simp] theorem State.withControllerSide_nodeTime (v : Option TrunkPort) : (s.withControllerSide v).nodeTime = s.nodeTime := rfl
@[simp] theorem State.withControllerSide_cellCount (v : Option TrunkPort) : (s.withControllerSide v).cellCount = s.cellCount := rfl
@[simp] theorem State.withControllerSide_straps (v : Option TrunkPort) : (s.withControllerSide v).straps = s.straps := rfl
@[simp] theorem State.withControllerSide_cabActive (v : Option TrunkPort) : (s.withControllerSide v).cabActive = s.cabActive := rfl
@[simp] theorem State.withControllerSide_mode (v : Option TrunkPort) : (s.withControllerSide v).mode = s.mode := rfl
@[simp] theorem State.withControllerSide_cams (v : Option TrunkPort) : (s.withControllerSide v).cams = s.cams := rfl
@[simp] theorem State.withControllerSide_health (v : Option TrunkPort) : (s.withControllerSide v).health = s.health := rfl
@[simp] theorem State.withControllerSide_engine (v : Option TrunkPort) : (s.withControllerSide v).engine = s.engine := rfl
@[simp] theorem State.withControllerSide_store (v : Option TrunkPort) : (s.withControllerSide v).store = s.store := rfl
@[simp] theorem State.withControllerSide_trunk (v : Option TrunkPort) : (s.withControllerSide v).trunk = s.trunk := rfl
@[simp] theorem State.withControllerSide_orient (v : Option TrunkPort) : (s.withControllerSide v).orient = s.orient := rfl
@[simp] theorem State.withControllerSide_controllerSide (v : Option TrunkPort) : (s.withControllerSide v).controllerSide = v := rfl
@[simp] theorem State.withControllerSide_router (v : Option TrunkPort) : (s.withControllerSide v).router = s.router := rfl
@[simp] theorem State.withControllerSide_vehicle (v : Option TrunkPort) : (s.withControllerSide v).vehicle = s.vehicle := rfl
@[simp] theorem State.withControllerSide_selection (v : Option TrunkPort) : (s.withControllerSide v).selection = s.selection := rfl
@[simp] theorem State.withControllerSide_alarm (v : Option TrunkPort) : (s.withControllerSide v).alarm = s.alarm := rfl
@[simp] theorem State.withControllerSide_comp (v : Option TrunkPort) : (s.withControllerSide v).comp = s.comp := rfl
@[simp] theorem State.withControllerSide_agent (v : Option TrunkPort) : (s.withControllerSide v).agent = s.agent := rfl
@[simp] theorem State.withControllerSide_survey (v : Option TrunkPort) : (s.withControllerSide v).survey = s.survey := rfl
@[simp] theorem State.withControllerSide_tables (v : Option TrunkPort) : (s.withControllerSide v).tables = s.tables := rfl
@[simp] theorem State.withControllerSide_swapTies (v : Option TrunkPort) : (s.withControllerSide v).swapTies = s.swapTies := rfl
@[simp] theorem State.withControllerSide_pending (v : Option TrunkPort) : (s.withControllerSide v).pending = s.pending := rfl

@[simp] theorem State.withRouter_nodeTime (v : Router) : (s.withRouter v).nodeTime = s.nodeTime := rfl
@[simp] theorem State.withRouter_cellCount (v : Router) : (s.withRouter v).cellCount = s.cellCount := rfl
@[simp] theorem State.withRouter_straps (v : Router) : (s.withRouter v).straps = s.straps := rfl
@[simp] theorem State.withRouter_cabActive (v : Router) : (s.withRouter v).cabActive = s.cabActive := rfl
@[simp] theorem State.withRouter_mode (v : Router) : (s.withRouter v).mode = s.mode := rfl
@[simp] theorem State.withRouter_cams (v : Router) : (s.withRouter v).cams = s.cams := rfl
@[simp] theorem State.withRouter_health (v : Router) : (s.withRouter v).health = s.health := rfl
@[simp] theorem State.withRouter_engine (v : Router) : (s.withRouter v).engine = s.engine := rfl
@[simp] theorem State.withRouter_store (v : Router) : (s.withRouter v).store = s.store := rfl
@[simp] theorem State.withRouter_trunk (v : Router) : (s.withRouter v).trunk = s.trunk := rfl
@[simp] theorem State.withRouter_orient (v : Router) : (s.withRouter v).orient = s.orient := rfl
@[simp] theorem State.withRouter_controllerSide (v : Router) : (s.withRouter v).controllerSide = s.controllerSide := rfl
@[simp] theorem State.withRouter_router (v : Router) : (s.withRouter v).router = v := rfl
@[simp] theorem State.withRouter_vehicle (v : Router) : (s.withRouter v).vehicle = s.vehicle := rfl
@[simp] theorem State.withRouter_selection (v : Router) : (s.withRouter v).selection = s.selection := rfl
@[simp] theorem State.withRouter_alarm (v : Router) : (s.withRouter v).alarm = s.alarm := rfl
@[simp] theorem State.withRouter_comp (v : Router) : (s.withRouter v).comp = s.comp := rfl
@[simp] theorem State.withRouter_agent (v : Router) : (s.withRouter v).agent = s.agent := rfl
@[simp] theorem State.withRouter_survey (v : Router) : (s.withRouter v).survey = s.survey := rfl
@[simp] theorem State.withRouter_tables (v : Router) : (s.withRouter v).tables = s.tables := rfl
@[simp] theorem State.withRouter_swapTies (v : Router) : (s.withRouter v).swapTies = s.swapTies := rfl
@[simp] theorem State.withRouter_pending (v : Router) : (s.withRouter v).pending = s.pending := rfl

@[simp] theorem State.withVehicle_nodeTime (v : Vehicle) : (s.withVehicle v).nodeTime = s.nodeTime := rfl
@[simp] theorem State.withVehicle_cellCount (v : Vehicle) : (s.withVehicle v).cellCount = s.cellCount := rfl
@[simp] theorem State.withVehicle_straps (v : Vehicle) : (s.withVehicle v).straps = s.straps := rfl
@[simp] theorem State.withVehicle_cabActive (v : Vehicle) : (s.withVehicle v).cabActive = s.cabActive := rfl
@[simp] theorem State.withVehicle_mode (v : Vehicle) : (s.withVehicle v).mode = s.mode := rfl
@[simp] theorem State.withVehicle_cams (v : Vehicle) : (s.withVehicle v).cams = s.cams := rfl
@[simp] theorem State.withVehicle_health (v : Vehicle) : (s.withVehicle v).health = s.health := rfl
@[simp] theorem State.withVehicle_engine (v : Vehicle) : (s.withVehicle v).engine = s.engine := rfl
@[simp] theorem State.withVehicle_store (v : Vehicle) : (s.withVehicle v).store = s.store := rfl
@[simp] theorem State.withVehicle_trunk (v : Vehicle) : (s.withVehicle v).trunk = s.trunk := rfl
@[simp] theorem State.withVehicle_orient (v : Vehicle) : (s.withVehicle v).orient = s.orient := rfl
@[simp] theorem State.withVehicle_controllerSide (v : Vehicle) : (s.withVehicle v).controllerSide = s.controllerSide := rfl
@[simp] theorem State.withVehicle_router (v : Vehicle) : (s.withVehicle v).router = s.router := rfl
@[simp] theorem State.withVehicle_vehicle (v : Vehicle) : (s.withVehicle v).vehicle = v := rfl
@[simp] theorem State.withVehicle_selection (v : Vehicle) : (s.withVehicle v).selection = s.selection := rfl
@[simp] theorem State.withVehicle_alarm (v : Vehicle) : (s.withVehicle v).alarm = s.alarm := rfl
@[simp] theorem State.withVehicle_comp (v : Vehicle) : (s.withVehicle v).comp = s.comp := rfl
@[simp] theorem State.withVehicle_agent (v : Vehicle) : (s.withVehicle v).agent = s.agent := rfl
@[simp] theorem State.withVehicle_survey (v : Vehicle) : (s.withVehicle v).survey = s.survey := rfl
@[simp] theorem State.withVehicle_tables (v : Vehicle) : (s.withVehicle v).tables = s.tables := rfl
@[simp] theorem State.withVehicle_swapTies (v : Vehicle) : (s.withVehicle v).swapTies = s.swapTies := rfl
@[simp] theorem State.withVehicle_pending (v : Vehicle) : (s.withVehicle v).pending = s.pending := rfl

@[simp] theorem State.withSelection_nodeTime (i : Screen) (v : Selection) : (s.withSelection i v).nodeTime = s.nodeTime := rfl
@[simp] theorem State.withSelection_cellCount (i : Screen) (v : Selection) : (s.withSelection i v).cellCount = s.cellCount := rfl
@[simp] theorem State.withSelection_straps (i : Screen) (v : Selection) : (s.withSelection i v).straps = s.straps := rfl
@[simp] theorem State.withSelection_cabActive (i : Screen) (v : Selection) : (s.withSelection i v).cabActive = s.cabActive := rfl
@[simp] theorem State.withSelection_mode (i : Screen) (v : Selection) : (s.withSelection i v).mode = s.mode := rfl
@[simp] theorem State.withSelection_cams (i : Screen) (v : Selection) : (s.withSelection i v).cams = s.cams := rfl
@[simp] theorem State.withSelection_health (i : Screen) (v : Selection) : (s.withSelection i v).health = s.health := rfl
@[simp] theorem State.withSelection_engine (i : Screen) (v : Selection) : (s.withSelection i v).engine = s.engine := rfl
@[simp] theorem State.withSelection_store (i : Screen) (v : Selection) : (s.withSelection i v).store = s.store := rfl
@[simp] theorem State.withSelection_trunk (i : Screen) (v : Selection) : (s.withSelection i v).trunk = s.trunk := rfl
@[simp] theorem State.withSelection_orient (i : Screen) (v : Selection) : (s.withSelection i v).orient = s.orient := rfl
@[simp] theorem State.withSelection_controllerSide (i : Screen) (v : Selection) : (s.withSelection i v).controllerSide = s.controllerSide := rfl
@[simp] theorem State.withSelection_router (i : Screen) (v : Selection) : (s.withSelection i v).router = s.router := rfl
@[simp] theorem State.withSelection_vehicle (i : Screen) (v : Selection) : (s.withSelection i v).vehicle = s.vehicle := rfl
@[simp] theorem State.withSelection_selection (i : Screen) (v : Selection) : (s.withSelection i v).selection = s.selection.set i v := rfl
@[simp] theorem State.withSelection_alarm (i : Screen) (v : Selection) : (s.withSelection i v).alarm = s.alarm := rfl
@[simp] theorem State.withSelection_comp (i : Screen) (v : Selection) : (s.withSelection i v).comp = s.comp := rfl
@[simp] theorem State.withSelection_agent (i : Screen) (v : Selection) : (s.withSelection i v).agent = s.agent := rfl
@[simp] theorem State.withSelection_survey (i : Screen) (v : Selection) : (s.withSelection i v).survey = s.survey := rfl
@[simp] theorem State.withSelection_tables (i : Screen) (v : Selection) : (s.withSelection i v).tables = s.tables := rfl
@[simp] theorem State.withSelection_swapTies (i : Screen) (v : Selection) : (s.withSelection i v).swapTies = s.swapTies := rfl
@[simp] theorem State.withSelection_pending (i : Screen) (v : Selection) : (s.withSelection i v).pending = s.pending := rfl

@[simp] theorem State.withAlarm_nodeTime (v : Nat) : (s.withAlarm v).nodeTime = s.nodeTime := rfl
@[simp] theorem State.withAlarm_cellCount (v : Nat) : (s.withAlarm v).cellCount = s.cellCount := rfl
@[simp] theorem State.withAlarm_straps (v : Nat) : (s.withAlarm v).straps = s.straps := rfl
@[simp] theorem State.withAlarm_cabActive (v : Nat) : (s.withAlarm v).cabActive = s.cabActive := rfl
@[simp] theorem State.withAlarm_mode (v : Nat) : (s.withAlarm v).mode = s.mode := rfl
@[simp] theorem State.withAlarm_cams (v : Nat) : (s.withAlarm v).cams = s.cams := rfl
@[simp] theorem State.withAlarm_health (v : Nat) : (s.withAlarm v).health = s.health := rfl
@[simp] theorem State.withAlarm_engine (v : Nat) : (s.withAlarm v).engine = s.engine := rfl
@[simp] theorem State.withAlarm_store (v : Nat) : (s.withAlarm v).store = s.store := rfl
@[simp] theorem State.withAlarm_trunk (v : Nat) : (s.withAlarm v).trunk = s.trunk := rfl
@[simp] theorem State.withAlarm_orient (v : Nat) : (s.withAlarm v).orient = s.orient := rfl
@[simp] theorem State.withAlarm_controllerSide (v : Nat) : (s.withAlarm v).controllerSide = s.controllerSide := rfl
@[simp] theorem State.withAlarm_router (v : Nat) : (s.withAlarm v).router = s.router := rfl
@[simp] theorem State.withAlarm_vehicle (v : Nat) : (s.withAlarm v).vehicle = s.vehicle := rfl
@[simp] theorem State.withAlarm_selection (v : Nat) : (s.withAlarm v).selection = s.selection := rfl
@[simp] theorem State.withAlarm_alarm (v : Nat) : (s.withAlarm v).alarm = v := rfl
@[simp] theorem State.withAlarm_comp (v : Nat) : (s.withAlarm v).comp = s.comp := rfl
@[simp] theorem State.withAlarm_agent (v : Nat) : (s.withAlarm v).agent = s.agent := rfl
@[simp] theorem State.withAlarm_survey (v : Nat) : (s.withAlarm v).survey = s.survey := rfl
@[simp] theorem State.withAlarm_tables (v : Nat) : (s.withAlarm v).tables = s.tables := rfl
@[simp] theorem State.withAlarm_swapTies (v : Nat) : (s.withAlarm v).swapTies = s.swapTies := rfl
@[simp] theorem State.withAlarm_pending (v : Nat) : (s.withAlarm v).pending = s.pending := rfl

@[simp] theorem State.withComp_nodeTime (v : Compositor) : (s.withComp v).nodeTime = s.nodeTime := rfl
@[simp] theorem State.withComp_cellCount (v : Compositor) : (s.withComp v).cellCount = s.cellCount := rfl
@[simp] theorem State.withComp_straps (v : Compositor) : (s.withComp v).straps = s.straps := rfl
@[simp] theorem State.withComp_cabActive (v : Compositor) : (s.withComp v).cabActive = s.cabActive := rfl
@[simp] theorem State.withComp_mode (v : Compositor) : (s.withComp v).mode = s.mode := rfl
@[simp] theorem State.withComp_cams (v : Compositor) : (s.withComp v).cams = s.cams := rfl
@[simp] theorem State.withComp_health (v : Compositor) : (s.withComp v).health = s.health := rfl
@[simp] theorem State.withComp_engine (v : Compositor) : (s.withComp v).engine = s.engine := rfl
@[simp] theorem State.withComp_store (v : Compositor) : (s.withComp v).store = s.store := rfl
@[simp] theorem State.withComp_trunk (v : Compositor) : (s.withComp v).trunk = s.trunk := rfl
@[simp] theorem State.withComp_orient (v : Compositor) : (s.withComp v).orient = s.orient := rfl
@[simp] theorem State.withComp_controllerSide (v : Compositor) : (s.withComp v).controllerSide = s.controllerSide := rfl
@[simp] theorem State.withComp_router (v : Compositor) : (s.withComp v).router = s.router := rfl
@[simp] theorem State.withComp_vehicle (v : Compositor) : (s.withComp v).vehicle = s.vehicle := rfl
@[simp] theorem State.withComp_selection (v : Compositor) : (s.withComp v).selection = s.selection := rfl
@[simp] theorem State.withComp_alarm (v : Compositor) : (s.withComp v).alarm = s.alarm := rfl
@[simp] theorem State.withComp_comp (v : Compositor) : (s.withComp v).comp = v := rfl
@[simp] theorem State.withComp_agent (v : Compositor) : (s.withComp v).agent = s.agent := rfl
@[simp] theorem State.withComp_survey (v : Compositor) : (s.withComp v).survey = s.survey := rfl
@[simp] theorem State.withComp_tables (v : Compositor) : (s.withComp v).tables = s.tables := rfl
@[simp] theorem State.withComp_swapTies (v : Compositor) : (s.withComp v).swapTies = s.swapTies := rfl
@[simp] theorem State.withComp_pending (v : Compositor) : (s.withComp v).pending = s.pending := rfl

@[simp] theorem State.withAgent_nodeTime (v : Agent) : (s.withAgent v).nodeTime = s.nodeTime := rfl
@[simp] theorem State.withAgent_cellCount (v : Agent) : (s.withAgent v).cellCount = s.cellCount := rfl
@[simp] theorem State.withAgent_straps (v : Agent) : (s.withAgent v).straps = s.straps := rfl
@[simp] theorem State.withAgent_cabActive (v : Agent) : (s.withAgent v).cabActive = s.cabActive := rfl
@[simp] theorem State.withAgent_mode (v : Agent) : (s.withAgent v).mode = s.mode := rfl
@[simp] theorem State.withAgent_cams (v : Agent) : (s.withAgent v).cams = s.cams := rfl
@[simp] theorem State.withAgent_health (v : Agent) : (s.withAgent v).health = s.health := rfl
@[simp] theorem State.withAgent_engine (v : Agent) : (s.withAgent v).engine = s.engine := rfl
@[simp] theorem State.withAgent_store (v : Agent) : (s.withAgent v).store = s.store := rfl
@[simp] theorem State.withAgent_trunk (v : Agent) : (s.withAgent v).trunk = s.trunk := rfl
@[simp] theorem State.withAgent_orient (v : Agent) : (s.withAgent v).orient = s.orient := rfl
@[simp] theorem State.withAgent_controllerSide (v : Agent) : (s.withAgent v).controllerSide = s.controllerSide := rfl
@[simp] theorem State.withAgent_router (v : Agent) : (s.withAgent v).router = s.router := rfl
@[simp] theorem State.withAgent_vehicle (v : Agent) : (s.withAgent v).vehicle = s.vehicle := rfl
@[simp] theorem State.withAgent_selection (v : Agent) : (s.withAgent v).selection = s.selection := rfl
@[simp] theorem State.withAgent_alarm (v : Agent) : (s.withAgent v).alarm = s.alarm := rfl
@[simp] theorem State.withAgent_comp (v : Agent) : (s.withAgent v).comp = s.comp := rfl
@[simp] theorem State.withAgent_agent (v : Agent) : (s.withAgent v).agent = v := rfl
@[simp] theorem State.withAgent_survey (v : Agent) : (s.withAgent v).survey = s.survey := rfl
@[simp] theorem State.withAgent_tables (v : Agent) : (s.withAgent v).tables = s.tables := rfl
@[simp] theorem State.withAgent_swapTies (v : Agent) : (s.withAgent v).swapTies = s.swapTies := rfl
@[simp] theorem State.withAgent_pending (v : Agent) : (s.withAgent v).pending = s.pending := rfl

@[simp] theorem State.withSurvey_nodeTime (v : Survey) : (s.withSurvey v).nodeTime = s.nodeTime := rfl
@[simp] theorem State.withSurvey_cellCount (v : Survey) : (s.withSurvey v).cellCount = s.cellCount := rfl
@[simp] theorem State.withSurvey_straps (v : Survey) : (s.withSurvey v).straps = s.straps := rfl
@[simp] theorem State.withSurvey_cabActive (v : Survey) : (s.withSurvey v).cabActive = s.cabActive := rfl
@[simp] theorem State.withSurvey_mode (v : Survey) : (s.withSurvey v).mode = s.mode := rfl
@[simp] theorem State.withSurvey_cams (v : Survey) : (s.withSurvey v).cams = s.cams := rfl
@[simp] theorem State.withSurvey_health (v : Survey) : (s.withSurvey v).health = s.health := rfl
@[simp] theorem State.withSurvey_engine (v : Survey) : (s.withSurvey v).engine = s.engine := rfl
@[simp] theorem State.withSurvey_store (v : Survey) : (s.withSurvey v).store = s.store := rfl
@[simp] theorem State.withSurvey_trunk (v : Survey) : (s.withSurvey v).trunk = s.trunk := rfl
@[simp] theorem State.withSurvey_orient (v : Survey) : (s.withSurvey v).orient = s.orient := rfl
@[simp] theorem State.withSurvey_controllerSide (v : Survey) : (s.withSurvey v).controllerSide = s.controllerSide := rfl
@[simp] theorem State.withSurvey_router (v : Survey) : (s.withSurvey v).router = s.router := rfl
@[simp] theorem State.withSurvey_vehicle (v : Survey) : (s.withSurvey v).vehicle = s.vehicle := rfl
@[simp] theorem State.withSurvey_selection (v : Survey) : (s.withSurvey v).selection = s.selection := rfl
@[simp] theorem State.withSurvey_alarm (v : Survey) : (s.withSurvey v).alarm = s.alarm := rfl
@[simp] theorem State.withSurvey_comp (v : Survey) : (s.withSurvey v).comp = s.comp := rfl
@[simp] theorem State.withSurvey_agent (v : Survey) : (s.withSurvey v).agent = s.agent := rfl
@[simp] theorem State.withSurvey_survey (v : Survey) : (s.withSurvey v).survey = v := rfl
@[simp] theorem State.withSurvey_tables (v : Survey) : (s.withSurvey v).tables = s.tables := rfl
@[simp] theorem State.withSurvey_swapTies (v : Survey) : (s.withSurvey v).swapTies = s.swapTies := rfl
@[simp] theorem State.withSurvey_pending (v : Survey) : (s.withSurvey v).pending = s.pending := rfl

@[simp] theorem State.withTables_nodeTime (v : Tables) : (s.withTables v).nodeTime = s.nodeTime := rfl
@[simp] theorem State.withTables_cellCount (v : Tables) : (s.withTables v).cellCount = s.cellCount := rfl
@[simp] theorem State.withTables_straps (v : Tables) : (s.withTables v).straps = s.straps := rfl
@[simp] theorem State.withTables_cabActive (v : Tables) : (s.withTables v).cabActive = s.cabActive := rfl
@[simp] theorem State.withTables_mode (v : Tables) : (s.withTables v).mode = s.mode := rfl
@[simp] theorem State.withTables_cams (v : Tables) : (s.withTables v).cams = s.cams := rfl
@[simp] theorem State.withTables_health (v : Tables) : (s.withTables v).health = s.health := rfl
@[simp] theorem State.withTables_engine (v : Tables) : (s.withTables v).engine = s.engine := rfl
@[simp] theorem State.withTables_store (v : Tables) : (s.withTables v).store = s.store := rfl
@[simp] theorem State.withTables_trunk (v : Tables) : (s.withTables v).trunk = s.trunk := rfl
@[simp] theorem State.withTables_orient (v : Tables) : (s.withTables v).orient = s.orient := rfl
@[simp] theorem State.withTables_controllerSide (v : Tables) : (s.withTables v).controllerSide = s.controllerSide := rfl
@[simp] theorem State.withTables_router (v : Tables) : (s.withTables v).router = s.router := rfl
@[simp] theorem State.withTables_vehicle (v : Tables) : (s.withTables v).vehicle = s.vehicle := rfl
@[simp] theorem State.withTables_selection (v : Tables) : (s.withTables v).selection = s.selection := rfl
@[simp] theorem State.withTables_alarm (v : Tables) : (s.withTables v).alarm = s.alarm := rfl
@[simp] theorem State.withTables_comp (v : Tables) : (s.withTables v).comp = s.comp := rfl
@[simp] theorem State.withTables_agent (v : Tables) : (s.withTables v).agent = s.agent := rfl
@[simp] theorem State.withTables_survey (v : Tables) : (s.withTables v).survey = s.survey := rfl
@[simp] theorem State.withTables_tables (v : Tables) : (s.withTables v).tables = v := rfl
@[simp] theorem State.withTables_swapTies (v : Tables) : (s.withTables v).swapTies = s.swapTies := rfl
@[simp] theorem State.withTables_pending (v : Tables) : (s.withTables v).pending = s.pending := rfl

@[simp] theorem State.withPending_nodeTime (v : List Instr) : (s.withPending v).nodeTime = s.nodeTime := rfl
@[simp] theorem State.withPending_cellCount (v : List Instr) : (s.withPending v).cellCount = s.cellCount := rfl
@[simp] theorem State.withPending_straps (v : List Instr) : (s.withPending v).straps = s.straps := rfl
@[simp] theorem State.withPending_cabActive (v : List Instr) : (s.withPending v).cabActive = s.cabActive := rfl
@[simp] theorem State.withPending_mode (v : List Instr) : (s.withPending v).mode = s.mode := rfl
@[simp] theorem State.withPending_cams (v : List Instr) : (s.withPending v).cams = s.cams := rfl
@[simp] theorem State.withPending_health (v : List Instr) : (s.withPending v).health = s.health := rfl
@[simp] theorem State.withPending_engine (v : List Instr) : (s.withPending v).engine = s.engine := rfl
@[simp] theorem State.withPending_store (v : List Instr) : (s.withPending v).store = s.store := rfl
@[simp] theorem State.withPending_trunk (v : List Instr) : (s.withPending v).trunk = s.trunk := rfl
@[simp] theorem State.withPending_orient (v : List Instr) : (s.withPending v).orient = s.orient := rfl
@[simp] theorem State.withPending_controllerSide (v : List Instr) : (s.withPending v).controllerSide = s.controllerSide := rfl
@[simp] theorem State.withPending_router (v : List Instr) : (s.withPending v).router = s.router := rfl
@[simp] theorem State.withPending_vehicle (v : List Instr) : (s.withPending v).vehicle = s.vehicle := rfl
@[simp] theorem State.withPending_selection (v : List Instr) : (s.withPending v).selection = s.selection := rfl
@[simp] theorem State.withPending_alarm (v : List Instr) : (s.withPending v).alarm = s.alarm := rfl
@[simp] theorem State.withPending_comp (v : List Instr) : (s.withPending v).comp = s.comp := rfl
@[simp] theorem State.withPending_agent (v : List Instr) : (s.withPending v).agent = s.agent := rfl
@[simp] theorem State.withPending_survey (v : List Instr) : (s.withPending v).survey = s.survey := rfl
@[simp] theorem State.withPending_tables (v : List Instr) : (s.withPending v).tables = s.tables := rfl
@[simp] theorem State.withPending_swapTies (v : List Instr) : (s.withPending v).swapTies = s.swapTies := rfl
@[simp] theorem State.withPending_pending (v : List Instr) : (s.withPending v).pending = v := rfl

/-! ### Pairs and vectors -/

@[simp] theorem Pair.get_set_same {α : Type} (x : Pair α) (p : TrunkPort) (v : α) : (x.set p v).get p = v := by
  cases p <;> rfl

@[simp] theorem Pair.get_set_other {α : Type} (x : Pair α) (p : TrunkPort) (v : α) :
    (x.set p v).get p.other = x.get p.other := by
  cases p <;> rfl

theorem Pair.get_set_ne {α : Type} (x : Pair α) {p q : TrunkPort} (h : q ≠ p) (v : α) : (x.set p v).get q = x.get q := by
  cases p <;> cases q <;> first | rfl | exact absurd rfl h

@[simp] theorem Pair.set_set {α : Type} (x : Pair α) (p : TrunkPort) (v w : α) : (x.set p v).set p w = x.set p w := by
  cases p <;> rfl

@[simp] theorem TrunkPort.other_other (p : TrunkPort) : p.other.other = p := by cases p <;> rfl

theorem TrunkPort.other_ne (p : TrunkPort) : p.other ≠ p := by cases p <;> decide

/-- Reading the element that was set. -/
theorem getElem_set_same {α : Type} {n : Nat} (v : Vector α n) (i : Fin n) (x : α) : (v.set i x)[i] = x := by simp

/-- Reading another element than the one that was set. -/
theorem getElem_set_ne {α : Type} {n : Nat} (v : Vector α n) {i j : Fin n} (h : i ≠ j) (x : α) :
    (v.set i x)[j] = v[j] := by
  have : (i : Nat) ≠ (j : Nat) := fun e => h (Fin.ext e)
  simp [Vector.getElem_set_ne, this]

end Sys2Proof.Machine
end

