-- ==== Sys2Proof/Laws/Frame.lean ====
section
/-! SUPPORT. The frame of every shared operation: `mask l` wipes the parts listed in `l`, and an operation that
changes nothing but parts of `l` leaves the masked state alone. One lemma for each operation. -/

namespace Sys2Proof.Machine

/-- A state with the parts of a list wiped. -/
def State.mask (l : List Part) (s : State) : State where
  nodeTime := if Part.nodeTime ∈ l then 0 else s.nodeTime
  cellCount := if Part.cellCount ∈ l then 0 else s.cellCount
  straps := if Part.straps ∈ l then ⟨0, false, false⟩ else s.straps
  cabActive := if Part.cabActive ∈ l then false else s.cabActive
  mode := if Part.mode ∈ l then .run else s.mode
  cams := if Part.cams ∈ l then State.reset.cams else s.cams
  health := if Part.health ∈ l then State.reset.health else s.health
  engine := if Part.engine ∈ l then Engine.reset else s.engine
  store := if Part.store ∈ l then Store.reset else s.store
  trunk := if Part.trunk ∈ l then State.reset.trunk else s.trunk
  orient := if Part.orient ∈ l then Orientation.reset else s.orient
  controllerSide := if Part.controllerSide ∈ l then none else s.controllerSide
  router := if Part.router ∈ l then State.reset.router else s.router
  vehicle := if Part.vehicle ∈ l then Vehicle.reset else s.vehicle
  selection := if Part.selection ∈ l then State.reset.selection else s.selection
  alarm := if Part.alarm ∈ l then 0 else s.alarm
  comp := if Part.comp ∈ l then Compositor.reset else s.comp
  agent := if Part.agent ∈ l then Agent.reset else s.agent
  survey := if Part.survey ∈ l then Survey.reset else s.survey
  tables := if Part.tables ∈ l then Tables.reset else s.tables
  swapTies := if Part.swapTies ∈ l then false else s.swapTies
  pending := if Part.pending ∈ l then [] else s.pending

/-- Agreement on every part outside a list is equality of the masked states. -/
theorem sameBut_iff_mask (l : List Part) (s t : State) : SameBut l s t ↔ t.mask l = s.mask l := by
  constructor
  · intro h
    have e : ∀ x : Part, x ∉ l → x.same s t := h
    have h_nodeTime := e .nodeTime
    have h_cellCount := e .cellCount
    have h_straps := e .straps
    have h_cabActive := e .cabActive
    have h_mode := e .mode
    have h_cams := e .cams
    have h_health := e .health
    have h_engine := e .engine
    have h_store := e .store
    have h_trunk := e .trunk
    have h_orient := e .orient
    have h_controllerSide := e .controllerSide
    have h_router := e .router
    have h_vehicle := e .vehicle
    have h_selection := e .selection
    have h_alarm := e .alarm
    have h_comp := e .comp
    have h_agent := e .agent
    have h_survey := e .survey
    have h_tables := e .tables
    have h_swapTies := e .swapTies
    have h_pending := e .pending
    simp only [Part.same] at *
    simp only [State.mask, State.mk.injEq]
    and_intros
    · by_cases m : Part.nodeTime ∈ l <;> simp [m, h_nodeTime]
    · by_cases m : Part.cellCount ∈ l <;> simp [m, h_cellCount]
    · by_cases m : Part.straps ∈ l <;> simp [m, h_straps]
    · by_cases m : Part.cabActive ∈ l <;> simp [m, h_cabActive]
    · by_cases m : Part.mode ∈ l <;> simp [m, h_mode]
    · by_cases m : Part.cams ∈ l <;> simp [m, h_cams]
    · by_cases m : Part.health ∈ l <;> simp [m, h_health]
    · by_cases m : Part.engine ∈ l <;> simp [m, h_engine]
    · by_cases m : Part.store ∈ l <;> simp [m, h_store]
    · by_cases m : Part.trunk ∈ l <;> simp [m, h_trunk]
    · by_cases m : Part.orient ∈ l <;> simp [m, h_orient]
    · by_cases m : Part.controllerSide ∈ l <;> simp [m, h_controllerSide]
    · by_cases m : Part.router ∈ l <;> simp [m, h_router]
    · by_cases m : Part.vehicle ∈ l <;> simp [m, h_vehicle]
    · by_cases m : Part.selection ∈ l <;> simp [m, h_selection]
    · by_cases m : Part.alarm ∈ l <;> simp [m, h_alarm]
    · by_cases m : Part.comp ∈ l <;> simp [m, h_comp]
    · by_cases m : Part.agent ∈ l <;> simp [m, h_agent]
    · by_cases m : Part.survey ∈ l <;> simp [m, h_survey]
    · by_cases m : Part.tables ∈ l <;> simp [m, h_tables]
    · by_cases m : Part.swapTies ∈ l <;> simp [m, h_swapTies]
    · by_cases m : Part.pending ∈ l <;> simp [m, h_pending]
  · intro h x hx
    simp only [State.mask, State.mk.injEq] at h
    obtain ⟨h0, h1, h2, h3, h4, h5, h6, h7, h8, h9, h10, h11, h12, h13, h14, h15, h16, h17, h18, h19, h20, h21⟩ := h
    cases x <;> simp only [Part.same]
    · simpa [hx] using h0.symm
    · simpa [hx] using h1.symm
    · simpa [hx] using h2.symm
    · simpa [hx] using h3.symm
    · simpa [hx] using h4.symm
    · simpa [hx] using h5.symm
    · simpa [hx] using h6.symm
    · simpa [hx] using h7.symm
    · simpa [hx] using h8.symm
    · simpa [hx] using h9.symm
    · simpa [hx] using h10.symm
    · simpa [hx] using h11.symm
    · simpa [hx] using h12.symm
    · simpa [hx] using h13.symm
    · simpa [hx] using h14.symm
    · simpa [hx] using h15.symm
    · simpa [hx] using h16.symm
    · simpa [hx] using h17.symm
    · simpa [hx] using h18.symm
    · simpa [hx] using h19.symm
    · simpa [hx] using h20.symm
    · simpa [hx] using h21.symm

variable {l : List Part} {s : State}

@[simp] theorem mask_withNodeTime {v} (h : Part.nodeTime ∈ l) : (s.withNodeTime v).mask l = s.mask l := by
  simp [State.mask, h]
@[simp] theorem mask_withCellCount {v} (h : Part.cellCount ∈ l) : (s.withCellCount v).mask l = s.mask l := by
  simp [State.mask, h]
@[simp] theorem mask_withCabActive {v} (h : Part.cabActive ∈ l) : (s.withCabActive v).mask l = s.mask l := by
  simp [State.mask, h]
@[simp] theorem mask_withMode {v} (h : Part.mode ∈ l) : (s.withMode v).mask l = s.mask l := by
  simp [State.mask, h]
@[simp] theorem mask_withCam {p v} (h : Part.cams ∈ l) : (s.withCam p v).mask l = s.mask l := by
  simp [State.mask, h]
@[simp] theorem mask_withHealth {p v} (h : Part.health ∈ l) : (s.withHealth p v).mask l = s.mask l := by
  simp [State.mask, h]
@[simp] theorem mask_withEngine {v} (h : Part.engine ∈ l) : (s.withEngine v).mask l = s.mask l := by
  simp [State.mask, h]
@[simp] theorem mask_withStore {v} (h : Part.store ∈ l) : (s.withStore v).mask l = s.mask l := by
  simp [State.mask, h]
@[simp] theorem mask_withTrunk {p v} (h : Part.trunk ∈ l) : (s.withTrunk p v).mask l = s.mask l := by
  simp [State.mask, h]
@[simp] theorem mask_withOrient {v} (h : Part.orient ∈ l) : (s.withOrient v).mask l = s.mask l := by
  simp [State.mask, h]
@[simp] theorem mask_withControllerSide {v} (h : Part.controllerSide ∈ l) : (s.withControllerSide v).mask l = s.mask
    l := by
  simp [State.mask, h]
@[simp] theorem mask_withRouter {v} (h : Part.router ∈ l) : (s.withRouter v).mask l = s.mask l := by
  simp [State.mask, h]
@[simp] theorem mask_withVehicle {v} (h : Part.vehicle ∈ l) : (s.withVehicle v).mask l = s.mask l := by
  simp [State.mask, h]
@[simp] theorem mask_withSelection {i v} (h : Part.selection ∈ l) : (s.withSelection i v).mask l = s.mask l := by
  simp [State.mask, h]
@[simp] theorem mask_withAlarm {v} (h : Part.alarm ∈ l) : (s.withAlarm v).mask l = s.mask l := by
  simp [State.mask, h]
@[simp] theorem mask_withComp {v} (h : Part.comp ∈ l) : (s.withComp v).mask l = s.mask l := by
  simp [State.mask, h]
@[simp] theorem mask_withAgent {v} (h : Part.agent ∈ l) : (s.withAgent v).mask l = s.mask l := by
  simp [State.mask, h]
@[simp] theorem mask_withSurvey {v} (h : Part.survey ∈ l) : (s.withSurvey v).mask l = s.mask l := by
  simp [State.mask, h]
@[simp] theorem mask_withTables {v} (h : Part.tables ∈ l) : (s.withTables v).mask l = s.mask l := by
  simp [State.mask, h]
@[simp] theorem mask_withPending {v} (h : Part.pending ∈ l) : (s.withPending v).mask l = s.mask l := by
  simp [State.mask, h]

/-- A fold of an operation that keeps the masked state keeps it. -/
theorem mask_foldl {α : Type} (f : State → α → State) (h : ∀ t a, (f t a).mask l = t.mask l) (as : List α) :
    ∀ s : State, (as.foldl f s).mask l = s.mask l := by
  induction as with
  | nil => intro s; rfl
  | cons a as ih => intro s; rw [List.foldl_cons, ih, h]


/-! ### Counters, control queues, causes, replies -/

@[simp] theorem mask_countCam {p : CamPort} {k : PortCounter} (hC : Part.cams ∈ l) : (countCam p k s).mask l =
    s.mask l := by
  unfold countCam; (try dsimp only); (repeat' split) <;> simp [hC]
@[simp] theorem mask_countEngine {k : EngineCounter} (hE : Part.engine ∈ l) : (countEngine k s).mask l = s.mask l :=
    by
  unfold countEngine; (try dsimp only); (repeat' split) <;> simp [hE]
@[simp] theorem mask_countStore {k : StoreCounter} (hS : Part.store ∈ l) : (countStore k s).mask l = s.mask l := by
  unfold countStore; (try dsimp only); (repeat' split) <;> simp [hS]
@[simp] theorem mask_countTrunk {p : TrunkPort} {k : TrunkCounter} (hT : Part.trunk ∈ l) : (countTrunk p k s).mask l
    = s.mask l := by
  unfold countTrunk; (try dsimp only); (repeat' split) <;> simp [hT]
@[simp] theorem mask_countRouter {k : RouterCounter} (hR : Part.router ∈ l) : (countRouter k s).mask l = s.mask l :=
    by
  unfold countRouter; (try dsimp only); (repeat' split) <;> simp [hR]
@[simp] theorem mask_placeControl {p : TrunkPort} {c : Cell} (hT : Part.trunk ∈ l) : (placeControl p c s).mask l =
    s.mask l := by
  unfold placeControl; (try dsimp only); (repeat' split) <;> simp [hT]
@[simp] theorem mask_placeAll {p : TrunkPort} {cs : List Cell} (hT : Part.trunk ∈ l) : (placeAll p cs s).mask l =
    s.mask l := by
  unfold placeAll; exact mask_foldl _ (by intro t a; simp [hT]) _ _
@[simp] theorem mask_sendNotice (hA : Part.agent ∈ l) (hT : Part.trunk ∈ l) : (sendNotice s).mask l = s.mask l := by
  unfold sendNotice; (try dsimp only); (repeat' split) <;> simp [hA, hT]
@[simp] theorem mask_addCause {k : CauseKind} {n : Nat} {e : Bool} (hA : Part.agent ∈ l) (hT : Part.trunk ∈ l) :
    (addCause k n e s).mask l = s.mask l := by
  unfold addCause; (try dsimp only); (repeat' split) <;> simp [hA, hT]
@[simp] theorem mask_addTogether {cs : List (CauseKind × Nat)} (hA : Part.agent ∈ l) (hT : Part.trunk ∈ l) :
    (addTogether cs s).mask l = s.mask l := by
  unfold addTogether; exact mask_foldl _ (by intro t a; simp [hA, hT]) _ _
@[simp] theorem mask_setControllerSide {p : TrunkPort} (hA : Part.agent ∈ l) (hK : Part.controllerSide ∈ l) (hT :
    Part.trunk ∈ l) : (setControllerSide p s).mask l = s.mask l := by
  unfold setControllerSide; (try dsimp only); (repeat' split) <;> simp [hA, hK, hT]
@[simp] theorem mask_reply {c : AgentCommand} {st : Status} {parts : List (List Byte)} (hT : Part.trunk ∈ l) :
    (reply c st parts s).mask l = s.mask l := by
  unfold reply; (try dsimp only); (repeat' split) <;> simp [hT]
@[simp] theorem mask_replyStatus {c : AgentCommand} {st : Status} (hT : Part.trunk ∈ l) : (replyStatus c st s).mask
    l = s.mask l := by
  unfold replyStatus; (try dsimp only); (repeat' split) <;> simp [hT]

/-! ### The tile store -/

@[simp] theorem mask_endHold {i : SlotNo} (hS : Part.store ∈ l) : (s.endHold i).mask l = s.mask l := by
  unfold State.endHold; (try dsimp only); (repeat' split) <;> simp [hS]
@[simp] theorem mask_takeHold {i : SlotNo} (hS : Part.store ∈ l) : (s.takeHold i).mask l = s.mask l := by
  unfold State.takeHold; (try dsimp only); (repeat' split) <;> simp [hS]
@[simp] theorem mask_giveBack {i : SlotNo} (hS : Part.store ∈ l) : (s.giveBack i).mask l = s.mask l := by
  unfold State.giveBack; (try dsimp only); (repeat' split) <;> simp [hS]
@[simp] theorem mask_releasePosition {k : Fin 4} (hS : Part.store ∈ l) (hT : Part.trunk ∈ l) : (releasePosition k
    s).mask l = s.mask l := by
  unfold releasePosition; (try dsimp only); (repeat' split) <;> simp [hS, hT]
@[simp] theorem mask_releaseAll {ks : List (Fin 4)} (hS : Part.store ∈ l) (hT : Part.trunk ∈ l) : (releaseAll ks
    s).mask l = s.mask l := by
  unfold releaseAll; exact mask_foldl _ (by intro t a; simp [hS, hT]) _ _
@[simp] theorem mask_pinRequest {c : CameraId} {x : LensCondition} {n : Nat} (hS : Part.store ∈ l) : ((pinRequest c
    x n s).1).mask l = s.mask l := by
  unfold pinRequest; (try dsimp only); (repeat' split) <;> simp [hS]
@[simp] theorem mask_memoryError {i : SlotNo} (hA : Part.agent ∈ l) (hS : Part.store ∈ l) (hT : Part.trunk ∈ l) :
    (memoryError i s).mask l = s.mask l := by
  unfold memoryError; (try dsimp only); (repeat' split) <;> simp [hA, hS, hT]

/-! ### The view selector -/

@[simp] theorem mask_requestChime (hP : Part.comp ∈ l) : (requestChime s).mask l = s.mask l := by
  unfold requestChime; (try dsimp only); (repeat' split) <;> simp [hP]
@[simp] theorem mask_evaluate {sc : Screen} (hL : Part.selection ∈ l) (hP : Part.comp ∈ l) : (evaluate sc s).mask l
    = s.mask l := by
  unfold evaluate; (try dsimp only); (repeat' split) <;> simp [hL, hP]
@[simp] theorem mask_evaluateBoth (hL : Part.selection ∈ l) (hP : Part.comp ∈ l) : (evaluateBoth s).mask l = s.mask
    l := by
  unfold evaluateBoth; (try dsimp only); (repeat' split) <;> simp [hL, hP]
@[simp] theorem mask_publishTile {i : SlotNo} {v : ViewNo} (hS : Part.store ∈ l) (hM : Part.alarm ∈ l) (hL :
    Part.selection ∈ l) (hP : Part.comp ∈ l) : (publishTile i v s).mask l = s.mask l := by
  unfold publishTile; (try dsimp only); (repeat' split) <;> simp [hS, hM, hL, hP]
@[simp] theorem mask_clearFresh (hV : Part.vehicle ∈ l) (hL : Part.selection ∈ l) (hP : Part.comp ∈ l) : (clearFresh
    s).mask l = s.mask l := by
  unfold clearFresh; (try dsimp only); (repeat' split) <;> simp [hV, hL, hP]
@[simp] theorem mask_takeState {x : List Byte} (hV : Part.vehicle ∈ l) (hL : Part.selection ∈ l) (hP : Part.comp ∈
    l) : (takeState x s).mask l = s.mask l := by
  unfold takeState; (try dsimp only); (repeat' split) <;> simp [hV, hL, hP]

/-! ### The compositor -/

@[simp] theorem mask_withOutput {sc : Screen} {o : Output} (hP : Part.comp ∈ l) : (s.withOutput sc o).mask l =
    s.mask l := by
  unfold State.withOutput; (try dsimp only); (repeat' split) <;> simp [hP]
@[simp] theorem mask_endFrameHolds {sc : Screen} (hS : Part.store ∈ l) : (endFrameHolds sc s).mask l = s.mask l :=
    by
  unfold endFrameHolds; (try dsimp only); (repeat' split) <;> simp [hS]
@[simp] theorem mask_takeApply (hB : Part.tables ∈ l) (hP : Part.comp ∈ l) : (takeApply s).mask l = s.mask l := by
  unfold takeApply; (try dsimp only); (repeat' split) <;> simp [hB, hP]
@[simp] theorem mask_frameStart {sc : Screen} (hS : Part.store ∈ l) (hB : Part.tables ∈ l) (hP : Part.comp ∈ l) :
    (frameStart sc s).mask l = s.mask l := by
  unfold frameStart; (try dsimp only); (repeat' split) <;> simp [hS, hB, hP]
@[simp] theorem mask_stopOutput {sc : Screen} (hS : Part.store ∈ l) (hP : Part.comp ∈ l) : (stopOutput sc s).mask l
    = s.mask l := by
  unfold stopOutput; (try dsimp only); (repeat' split) <;> simp [hS, hP]
@[simp] theorem mask_stopFrame {sc : Screen} (hS : Part.store ∈ l) (hP : Part.comp ∈ l) : (stopFrame sc s).mask l =
    s.mask l := by
  unfold stopFrame; (try dsimp only); (repeat' split) <;> simp [hS, hP]
@[simp] theorem mask_stopComposing (hS : Part.store ∈ l) (hP : Part.comp ∈ l) : (stopComposing s).mask l = s.mask l
    := by
  unfold stopComposing; (try dsimp only); (repeat' split) <;> simp [hS, hP]
@[simp] theorem mask_outputTakes {sc : Screen} {o n : OutputConfig} (hS : Part.store ∈ l) (hB : Part.tables ∈ l) (hP
    : Part.comp ∈ l) : (outputTakes sc o n s).mask l = s.mask l := by
  unfold outputTakes; (try dsimp only); (repeat' split) <;> simp [hS, hB, hP]
@[simp] theorem mask_startOutputs (hS : Part.store ∈ l) (hB : Part.tables ∈ l) (hP : Part.comp ∈ l) : (startOutputs
    s).mask l = s.mask l := by
  unfold startOutputs; (try dsimp only); (repeat' split) <;> simp [hS, hB, hP]

/-! ### Orientation -/

@[simp] theorem mask_placeBeacon {p : TrunkPort} {h n : Nat} (hT : Part.trunk ∈ l) : (placeBeacon p h n s).mask l =
    s.mask l := by
  unfold placeBeacon; (try dsimp only); (repeat' split) <;> simp [hT]
@[simp] theorem mask_beaconBoth (hT : Part.trunk ∈ l) : (beaconBoth s).mask l = s.mask l := by
  unfold beaconBoth; (try dsimp only); (repeat' split) <;> simp [hT]
@[simp] theorem mask_reportOrientation {o : Orientation} (hA : Part.agent ∈ l) (hT : Part.trunk ∈ l) :
    (reportOrientation o s).mask l = s.mask l := by
  unfold reportOrientation; (try dsimp only); (repeat' split) <;> simp [hA, hT]
@[simp] theorem mask_becomeHead (hO : Part.orient ∈ l) (hA : Part.agent ∈ l) (hT : Part.trunk ∈ l) : (becomeHead
    s).mask l = s.mask l := by
  unfold becomeHead; (try dsimp only); (repeat' split) <;> simp [hO, hA, hT]
@[simp] theorem mask_beginCandidacy (hO : Part.orient ∈ l) (hA : Part.agent ∈ l) (hT : Part.trunk ∈ l) :
    (beginCandidacy s).mask l = s.mask l := by
  unfold beginCandidacy; (try dsimp only); (repeat' split) <;> simp [hO, hA, hT]
@[simp] theorem mask_endCandidacy (hO : Part.orient ∈ l) (hA : Part.agent ∈ l) (hT : Part.trunk ∈ l) (hS :
    Part.store ∈ l) (hP : Part.comp ∈ l) : (endCandidacy s).mask l = s.mask l := by
  unfold endCandidacy; (try dsimp only); (repeat' split) <;> simp [hO, hA, hT, hS, hP]
@[simp] theorem mask_reevaluateCandidacy (hO : Part.orient ∈ l) (hA : Part.agent ∈ l) (hT : Part.trunk ∈ l) (hS :
    Part.store ∈ l) (hP : Part.comp ∈ l) : (reevaluateCandidacy s).mask l = s.mask l := by
  unfold reevaluateCandidacy; (try dsimp only); (repeat' split) <;> simp [hO, hA, hT, hS, hP]
@[simp] theorem mask_forgetHead (hO : Part.orient ∈ l) (hA : Part.agent ∈ l) (hT : Part.trunk ∈ l) : (forgetHead
    s).mask l = s.mask l := by
  unfold forgetHead; (try dsimp only); (repeat' split) <;> simp [hO, hA, hT]
@[simp] theorem mask_followBeacon {p : TrunkPort} {h n : Nat} (hO : Part.orient ∈ l) (hA : Part.agent ∈ l) (hT :
    Part.trunk ∈ l) : (followBeacon p h n s).mask l = s.mask l := by
  unfold followBeacon; (try dsimp only); (repeat' split) <;> simp [hO, hA, hT]
@[simp] theorem mask_yieldTo {p : TrunkPort} {h n : Nat} (hO : Part.orient ∈ l) (hA : Part.agent ∈ l) (hT :
    Part.trunk ∈ l) (hS : Part.store ∈ l) (hP : Part.comp ∈ l) : (yieldTo p h n s).mask l = s.mask l := by
  unfold yieldTo; (try dsimp only); (repeat' split) <;> simp [hO, hA, hT, hS, hP]
@[simp] theorem mask_takeBeacon {p : TrunkPort} {h n : Nat} (hO : Part.orient ∈ l) (hA : Part.agent ∈ l) (hT :
    Part.trunk ∈ l) (hS : Part.store ∈ l) (hP : Part.comp ∈ l) : (takeBeacon p h n s).mask l = s.mask l := by
  unfold takeBeacon; (try dsimp only); (repeat' split) <;> simp [hO, hA, hT, hS, hP]

/-! ### Trunk links -/

@[simp] theorem mask_moveTrunk {p : TrunkPort} {x : TrunkLink} (hA : Part.agent ∈ l) (hT : Part.trunk ∈ l) :
    (moveTrunk p x s).mask l = s.mask l := by
  unfold moveTrunk; (try dsimp only); (repeat' split) <;> simp [hA, hT]
@[simp] theorem mask_setFarFault {p : TrunkPort} {b : Bool} (hA : Part.agent ∈ l) (hT : Part.trunk ∈ l) :
    (setFarFault p b s).mask l = s.mask l := by
  unfold setFarFault; (try dsimp only); (repeat' split) <;> simp [hA, hT]
@[simp] theorem mask_clearFailedRun {p : TrunkPort} (hT : Part.trunk ∈ l) : (clearFailedRun p s).mask l = s.mask l
    := by
  unfold clearFailedRun; (try dsimp only); (repeat' split) <;> simp [hT]
@[simp] theorem mask_handOn {p : TrunkPort} (hA : Part.agent ∈ l) (hT : Part.trunk ∈ l) : (handOn p s).mask l =
    s.mask l := by
  unfold handOn; (try dsimp only); (repeat' split) <;> simp [hA, hT]
@[simp] theorem mask_failHeader {p : TrunkPort} (hA : Part.agent ∈ l) (hT : Part.trunk ∈ l) : (failHeader p s).mask
    l = s.mask l := by
  unfold failHeader; (try dsimp only); (repeat' split) <;> simp [hA, hT]
@[simp] theorem mask_trainCell {p : TrunkPort} {c : Cell} (hA : Part.agent ∈ l) (hT : Part.trunk ∈ l) : (trainCell p
    c s).mask l = s.mask l := by
  unfold trainCell; (try dsimp only); (repeat' split) <;> simp [hA, hT]
@[simp] theorem mask_withSendList {p : TrunkPort} {x : List SendEntry} (hT : Part.trunk ∈ l) : (s.withSendList p
    x).mask l = s.mask l := by
  unfold State.withSendList; (try dsimp only); (repeat' split) <;> simp [hT]
@[simp] theorem mask_joinList {p : TrunkPort} {k : SendKind} {i : SlotNo} {sid : StreamId} (hT : Part.trunk ∈ l) (hS
    : Part.store ∈ l) : (joinList p k i sid s).mask l = s.mask l := by
  unfold joinList; (try dsimp only); (repeat' split) <;> simp [hT, hS]
@[simp] theorem mask_requestSend {p : TrunkPort} {i : SlotNo} {sid : StreamId} (hT : Part.trunk ∈ l) (hS :
    Part.store ∈ l) : (requestSend p i sid s).mask l = s.mask l := by
  unfold requestSend; (try dsimp only); (repeat' split) <;> simp [hT, hS]
@[simp] theorem mask_placeRequests {i : SlotNo} {sid : StreamId} (hT : Part.trunk ∈ l) (hS : Part.store ∈ l) (hE :
    Part.engine ∈ l) : (placeRequests i sid s).mask l = s.mask l := by
  unfold placeRequests; (try dsimp only); (repeat' split) <;> simp [hT, hS, hE]
@[simp] theorem mask_takeHanded {p : TrunkPort} {e : SendEntry} (hT : Part.trunk ∈ l) (hS : Part.store ∈ l) :
    (takeHanded p e s).mask l = s.mask l := by
  unfold takeHanded; (try dsimp only); (repeat' split) <;> simp [hT, hS]
@[simp] theorem mask_settleFront {p : TrunkPort} {n : Nat} (hT : Part.trunk ∈ l) (hS : Part.store ∈ l) :
    (settleFront p n s).mask l = s.mask l := by
  induction n generalizing s with
  | zero => rfl
  | succ n ih => unfold settleFront; (try dsimp only); (repeat' split) <;> simp [hT, hS, ih]
@[simp] theorem mask_endFetch {k : SendKind} (hS : Part.store ∈ l) : (endFetch k s).mask l = s.mask l := by
  unfold endFetch; (try dsimp only); (repeat' split) <;> simp [hS]
@[simp] theorem mask_releaseEntry {e : SendEntry} (hS : Part.store ∈ l) : (releaseEntry e s).mask l = s.mask l := by
  unfold releaseEntry; (try dsimp only); (repeat' split) <;> simp [hS]
@[simp] theorem mask_removeEntries {p : TrunkPort} {f : SendEntry → Bool} (hT : Part.trunk ∈ l) (hS : Part.store ∈
    l) : (removeEntries p f s).mask l = s.mask l := by
  unfold removeEntries; exact (mask_foldl _ (by intro t a; simp [hT, hS]) _ _).trans (by simp [hT, hS])
@[simp] theorem mask_sendFront {p : TrunkPort} {r : Option (List Byte)} {e : SendEntry} {es : List SendEntry} (hA :
    Part.agent ∈ l) (hS : Part.store ∈ l) (hT : Part.trunk ∈ l) : ((sendFront p r e es s).1).mask l = s.mask l := by
  unfold sendFront; (try dsimp only); (repeat' split) <;> simp [hA, hS, hT]
@[simp] theorem mask_withShare {p : TrunkPort} {n : Nat} (hT : Part.trunk ∈ l) : (s.withShare p n).mask l = s.mask l
    := by
  unfold State.withShare; (try dsimp only); (repeat' split) <;> simp [hT]
@[simp] theorem mask_takePass {p : TrunkPort} (hT : Part.trunk ∈ l) : ((takePass p s).1).mask l = s.mask l := by
  unfold takePass; (try dsimp only); (repeat' split) <;> simp [hT]
@[simp] theorem mask_takeSend {p : TrunkPort} {r : Option (List Byte)} (hA : Part.agent ∈ l) (hS : Part.store ∈ l)
    (hT : Part.trunk ∈ l) : ((takeSend p r s).1).mask l = s.mask l := by
  unfold takeSend; (try dsimp only); (repeat' split) <;> simp [hA, hS, hT]
@[simp] theorem mask_takeShared {p : TrunkPort} {r : Option (List Byte)} (hA : Part.agent ∈ l) (hS : Part.store ∈ l)
    (hT : Part.trunk ∈ l) : ((takeShared p r s).1).mask l = s.mask l := by
  unfold takeShared; (try dsimp only); (repeat' split) <;> simp [hA, hS, hT]
@[simp] theorem mask_arbitrate {p : TrunkPort} {r : Option (List Byte)} (hA : Part.agent ∈ l) (hS : Part.store ∈ l)
    (hT : Part.trunk ∈ l) : ((arbitrate p r s).1).mask l = s.mask l := by
  unfold arbitrate; (try dsimp only); (repeat' split) <;> simp [hA, hS, hT]
@[simp] theorem mask_putOnLine {p : TrunkPort} {c : Option Cell} (hT : Part.trunk ∈ l) : (putOnLine p c s).mask l =
    s.mask l := by
  unfold putOnLine; (try dsimp only); (repeat' split) <;> simp [hT]
@[simp] theorem mask_servePort {p : TrunkPort} {r : MemoryReads} (hA : Part.agent ∈ l) (hS : Part.store ∈ l) (hT :
    Part.trunk ∈ l) : (servePort p r s).mask l = s.mask l := by
  unfold servePort; (try dsimp only); (repeat' split) <;> simp [hA, hS, hT]
@[simp] theorem mask_cellTime {r : MemoryReads} (hN : Part.cellCount ∈ l) (hA : Part.agent ∈ l) (hS : Part.store ∈
    l) (hT : Part.trunk ∈ l) : (cellTime r s).mask l = s.mask l := by
  unfold cellTime; (try dsimp only); (repeat' split) <;> simp [hN, hA, hS, hT]

/-! ### The health monitor -/

@[simp] theorem mask_completeLearning {p : CamPort} (hB : Part.tables ∈ l) (hH : Part.health ∈ l) (hA : Part.agent ∈
    l) (hT : Part.trunk ∈ l) : (completeLearning p s).mask l = s.mask l := by
  unfold completeLearning; (try dsimp only); (repeat' split) <;> simp [hB, hH, hA, hT]
@[simp] theorem mask_takeSample {p : CamPort} {st : FrameStats} (hB : Part.tables ∈ l) (hH : Part.health ∈ l) (hA :
    Part.agent ∈ l) (hT : Part.trunk ∈ l) : (takeSample p st s).mask l = s.mask l := by
  unfold takeSample; (try dsimp only); (repeat' split) <;> simp [hB, hH, hA, hT]
@[simp] theorem mask_takeFrame {p : CamPort} {st : FrameStats} (hB : Part.tables ∈ l) (hH : Part.health ∈ l) (hA :
    Part.agent ∈ l) (hT : Part.trunk ∈ l) : (takeFrame p st s).mask l = s.mask l := by
  unfold takeFrame; (try dsimp only); (repeat' split) <;> simp [hB, hH, hA, hT]
@[simp] theorem mask_lensEvent {p : CamPort} {b : LensCondition} (hS : Part.store ∈ l) (hA : Part.agent ∈ l) (hT :
    Part.trunk ∈ l) : (lensEvent p b s).mask l = s.mask l := by
  unfold lensEvent; (try dsimp only); (repeat' split) <;> simp [hS, hA, hT]
@[simp] theorem mask_reevaluateLens {p : CamPort} (hH : Part.health ∈ l) (hS : Part.store ∈ l) (hA : Part.agent ∈ l)
    (hT : Part.trunk ∈ l) : (reevaluateLens p s).mask l = s.mask l := by
  unfold reevaluateLens; (try dsimp only); (repeat' split) <;> simp [hH, hS, hA, hT]
@[simp] theorem mask_startLearning {p : CamPort} (hH : Part.health ∈ l) (hS : Part.store ∈ l) (hA : Part.agent ∈ l)
    (hT : Part.trunk ∈ l) : (startLearning p s).mask l = s.mask l := by
  unfold startLearning; (try dsimp only); (repeat' split) <;> simp [hH, hS, hA, hT]
@[simp] theorem mask_failLearning {p : CamPort} (hH : Part.health ∈ l) (hS : Part.store ∈ l) (hA : Part.agent ∈ l)
    (hT : Part.trunk ∈ l) : (failLearning p s).mask l = s.mask l := by
  unfold failLearning; (try dsimp only); (repeat' split) <;> simp [hH, hS, hA, hT]

/-! ### Camera ports, the tile engine, the survey -/

@[simp] theorem mask_withProduction {k : PlanNo} {x : Option Production} (hE : Part.engine ∈ l) : (s.withProduction
    k x).mask l = s.mask l := by
  unfold State.withProduction; (try dsimp only); (repeat' split) <;> simp [hE]
@[simp] theorem mask_abandonProduction {k : PlanNo} (hE : Part.engine ∈ l) (hS : Part.store ∈ l) :
    (abandonProduction k s).mask l = s.mask l := by
  unfold abandonProduction; (try dsimp only); (repeat' split) <;> simp [hE, hS]
@[simp] theorem mask_withSums {p : CamPort} {x : Vector ZoneSums 48} (hE : Part.engine ∈ l) : (s.withSums p x).mask
    l = s.mask l := by
  unfold State.withSums; (try dsimp only); (repeat' split) <;> simp [hE]
@[simp] theorem mask_endBadly {p : CamPort} (hE : Part.engine ∈ l) (hS : Part.store ∈ l) : (endBadly p s).mask l =
    s.mask l := by
  unfold endBadly; (try dsimp only); (repeat' split) <;> simp [hE, hS]
@[simp] theorem mask_moveLink {p : CamPort} {x : CameraLink} {ex : List (CauseKind × Nat)} (hC : Part.cams ∈ l) (hH
    : Part.health ∈ l) (hE : Part.engine ∈ l) (hS : Part.store ∈ l) (hA : Part.agent ∈ l) (hT : Part.trunk ∈ l) :
    (moveLink p x ex s).mask l = s.mask l := by
  unfold moveLink; (try dsimp only); (repeat' split) <;> simp [hC, hH, hE, hS, hA, hT]
@[simp] theorem mask_reevaluateDemand {p : CamPort} (hC : Part.cams ∈ l) (hH : Part.health ∈ l) (hE : Part.engine ∈
    l) (hS : Part.store ∈ l) (hA : Part.agent ∈ l) (hT : Part.trunk ∈ l) : (reevaluateDemand p s).mask l = s.mask l
    := by
  unfold reevaluateDemand; (try dsimp only); (repeat' split) <;> simp [hC, hH, hE, hS, hA, hT]
@[simp] theorem mask_surveyTake {ps : List CamPort} (hY : Part.survey ∈ l) (hC : Part.cams ∈ l) (hH : Part.health ∈
    l) (hE : Part.engine ∈ l) (hS : Part.store ∈ l) (hA : Part.agent ∈ l) (hT : Part.trunk ∈ l) : (surveyTake ps
    s).mask l = s.mask l := by
  induction ps generalizing s with
  | nil => simp [surveyTake, hY, hC, hH, hE, hS, hA, hT]
  | cons p ps ih => unfold surveyTake; (try dsimp only); (repeat' split) <;> simp [hY, hC, hH, hE, hS, hA, hT, ih]
@[simp] theorem mask_surveyLeave {p : CamPort} (hY : Part.survey ∈ l) (hC : Part.cams ∈ l) (hH : Part.health ∈ l)
    (hE : Part.engine ∈ l) (hS : Part.store ∈ l) (hA : Part.agent ∈ l) (hT : Part.trunk ∈ l) : (surveyLeave p
    s).mask l = s.mask l := by
  unfold surveyLeave; (try dsimp only); (repeat' split) <;> simp [hY, hC, hH, hE, hS, hA, hT]
@[simp] theorem mask_surveyReacts {p : CamPort} (hY : Part.survey ∈ l) (hC : Part.cams ∈ l) (hH : Part.health ∈ l)
    (hE : Part.engine ∈ l) (hS : Part.store ∈ l) (hA : Part.agent ∈ l) (hT : Part.trunk ∈ l) : (surveyReacts p
    s).mask l = s.mask l := by
  unfold surveyReacts; (try dsimp only); (repeat' split) <;> simp [hY, hC, hH, hE, hS, hA, hT]
@[simp] theorem mask_changeLink {p : CamPort} {x : CameraLink} {ex : List (CauseKind × Nat)} (hY : Part.survey ∈ l)
    (hC : Part.cams ∈ l) (hH : Part.health ∈ l) (hE : Part.engine ∈ l) (hS : Part.store ∈ l) (hA : Part.agent ∈ l)
    (hT : Part.trunk ∈ l) : (changeLink p x ex s).mask l = s.mask l := by
  unfold changeLink; (try dsimp only); (repeat' split) <;> simp [hY, hC, hH, hE, hS, hA, hT]
@[simp] theorem mask_surveyCount {p : CamPort} (hY : Part.survey ∈ l) (hC : Part.cams ∈ l) (hH : Part.health ∈ l)
    (hE : Part.engine ∈ l) (hS : Part.store ∈ l) (hA : Part.agent ∈ l) (hT : Part.trunk ∈ l) : (surveyCount p
    s).mask l = s.mask l := by
  unfold surveyCount; (try dsimp only); (repeat' split) <;> simp [hY, hC, hH, hE, hS, hA, hT]
@[simp] theorem mask_startSurvey (hY : Part.survey ∈ l) (hC : Part.cams ∈ l) (hH : Part.health ∈ l) (hE :
    Part.engine ∈ l) (hS : Part.store ∈ l) (hA : Part.agent ∈ l) (hT : Part.trunk ∈ l) : (startSurvey s).mask l =
    s.mask l := by
  unfold startSurvey; (try dsimp only); (repeat' split) <;> simp [hY, hC, hH, hE, hS, hA, hT]
@[simp] theorem mask_beginTile {p : CamPort} {r : Fin 2} {f : OpenFrame} (hS : Part.store ∈ l) (hE : Part.engine ∈
    l) : (beginTile p r f s).mask l = s.mask l := by
  unfold beginTile; (try dsimp only); (repeat' split) <;> simp [hS, hE]
@[simp] theorem mask_deliverStart {p : CamPort} {h : FrameHead} (hC : Part.cams ∈ l) (hS : Part.store ∈ l) (hE :
    Part.engine ∈ l) : (deliverStart p h s).mask l = s.mask l := by
  unfold deliverStart; (try dsimp only); (repeat' split) <;> simp [hC, hS, hE]
@[simp] theorem mask_openWaking {p : CamPort} {h : FrameHead} (hC : Part.cams ∈ l) : (openWaking p h s).mask l =
    s.mask l := by
  unfold openWaking; (try dsimp only); (repeat' split) <;> simp [hC]
@[simp] theorem mask_failFrame {p : CamPort} (hY : Part.survey ∈ l) (hC : Part.cams ∈ l) (hH : Part.health ∈ l) (hE
    : Part.engine ∈ l) (hS : Part.store ∈ l) (hA : Part.agent ∈ l) (hT : Part.trunk ∈ l) : (failFrame p s).mask l =
    s.mask l := by
  unfold failFrame; (try dsimp only); (repeat' split) <;> simp [hY, hC, hH, hE, hS, hA, hT]
@[simp] theorem mask_takeFrameStart {p : CamPort} {h : FrameHead} (hY : Part.survey ∈ l) (hC : Part.cams ∈ l) (hH :
    Part.health ∈ l) (hE : Part.engine ∈ l) (hS : Part.store ∈ l) (hA : Part.agent ∈ l) (hT : Part.trunk ∈ l) :
    (takeFrameStart p h s).mask l = s.mask l := by
  unfold takeFrameStart; (try dsimp only); (repeat' split) <;> simp [hY, hC, hH, hE, hS, hA, hT]
@[simp] theorem mask_endGood {p : CamPort} {f : OpenFrame} (hC : Part.cams ∈ l) : (endGood p f s).mask l = s.mask l
    := by
  unfold endGood; (try dsimp only); (repeat' split) <;> simp [hC]
@[simp] theorem mask_completeTile {p : CamPort} {r : Fin 2} {pic : Picture} (hS : Part.store ∈ l) (hE : Part.engine
    ∈ l) (hM : Part.alarm ∈ l) (hL : Part.selection ∈ l) (hP : Part.comp ∈ l) (hT : Part.trunk ∈ l) : (completeTile
    p r pic s).mask l = s.mask l := by
  unfold completeTile; (try dsimp only); (repeat' split) <;> simp [hS, hE, hM, hL, hP, hT]
@[simp] theorem mask_goodEnd {p : CamPort} {f : OpenFrame} {pic : Picture} (hY : Part.survey ∈ l) (hC : Part.cams ∈
    l) (hH : Part.health ∈ l) (hE : Part.engine ∈ l) (hS : Part.store ∈ l) (hA : Part.agent ∈ l) (hT : Part.trunk ∈
    l) (hB : Part.tables ∈ l) (hM : Part.alarm ∈ l) (hL : Part.selection ∈ l) (hP : Part.comp ∈ l) : (goodEnd p f
    pic s).mask l = s.mask l := by
  unfold goodEnd; (try dsimp only); (repeat' split) <;> simp [hY, hC, hH, hE, hS, hA, hT, hB, hM, hL, hP]
@[simp] theorem mask_lockPort {p : CamPort} {f : OpenFrame} (hY : Part.survey ∈ l) (hC : Part.cams ∈ l) (hH :
    Part.health ∈ l) (hE : Part.engine ∈ l) (hS : Part.store ∈ l) (hA : Part.agent ∈ l) (hT : Part.trunk ∈ l) :
    (lockPort p f s).mask l = s.mask l := by
  unfold lockPort; (try dsimp only); (repeat' split) <;> simp [hY, hC, hH, hE, hS, hA, hT]
@[simp] theorem mask_frameEnd {p : CamPort} {pic : Picture} (hY : Part.survey ∈ l) (hC : Part.cams ∈ l) (hH :
    Part.health ∈ l) (hE : Part.engine ∈ l) (hS : Part.store ∈ l) (hA : Part.agent ∈ l) (hT : Part.trunk ∈ l) (hB :
    Part.tables ∈ l) (hM : Part.alarm ∈ l) (hL : Part.selection ∈ l) (hP : Part.comp ∈ l) : (frameEnd p pic s).mask
    l = s.mask l := by
  unfold frameEnd; (try dsimp only); (repeat' split) <;> simp [hY, hC, hH, hE, hS, hA, hT, hB, hM, hL, hP]
@[simp] theorem mask_frameEndIf {p : CamPort} {pic : Picture} {f : FrameStats → Bool} (hY : Part.survey ∈ l) (hC :
    Part.cams ∈ l) (hH : Part.health ∈ l) (hE : Part.engine ∈ l) (hS : Part.store ∈ l) (hA : Part.agent ∈ l) (hT :
    Part.trunk ∈ l) (hB : Part.tables ∈ l) (hM : Part.alarm ∈ l) (hL : Part.selection ∈ l) (hP : Part.comp ∈ l) :
    (frameEndIf p pic f s).mask l = s.mask l := by
  unfold frameEndIf; (try dsimp only); (repeat' split) <;> simp [hY, hC, hH, hE, hS, hA, hT, hB, hM, hL, hP]
@[simp] theorem mask_retryPort {p : CamPort} (hY : Part.survey ∈ l) (hC : Part.cams ∈ l) (hH : Part.health ∈ l) (hE
    : Part.engine ∈ l) (hS : Part.store ∈ l) (hA : Part.agent ∈ l) (hT : Part.trunk ∈ l) : (retryPort p s).mask l =
    s.mask l := by
  unfold retryPort; (try dsimp only); (repeat' split) <;> simp [hY, hC, hH, hE, hS, hA, hT]
@[simp] theorem mask_trip {p : CamPort} (hY : Part.survey ∈ l) (hC : Part.cams ∈ l) (hH : Part.health ∈ l) (hE :
    Part.engine ∈ l) (hS : Part.store ∈ l) (hA : Part.agent ∈ l) (hT : Part.trunk ∈ l) : (trip p s).mask l = s.mask
    l := by
  unfold trip; (try dsimp only); (repeat' split) <;> simp [hY, hC, hH, hE, hS, hA, hT]
@[simp] theorem mask_startCheck {p : CamPort} (hY : Part.survey ∈ l) (hC : Part.cams ∈ l) (hH : Part.health ∈ l) (hE
    : Part.engine ∈ l) (hS : Part.store ∈ l) (hA : Part.agent ∈ l) (hT : Part.trunk ∈ l) : (startCheck p s).mask l =
    s.mask l := by
  unfold startCheck; (try dsimp only); (repeat' split) <;> simp [hY, hC, hH, hE, hS, hA, hT]
@[simp] theorem mask_endCheck {p : CamPort} {f : ProbeFinding} (hY : Part.survey ∈ l) (hC : Part.cams ∈ l) (hH :
    Part.health ∈ l) (hE : Part.engine ∈ l) (hS : Part.store ∈ l) (hA : Part.agent ∈ l) (hT : Part.trunk ∈ l) :
    (endCheck p f s).mask l = s.mask l := by
  unfold endCheck; (try dsimp only); (repeat' split) <;> simp [hY, hC, hH, hE, hS, hA, hT]
@[simp] theorem mask_cameraTakes {p : CamPort} (hY : Part.survey ∈ l) (hC : Part.cams ∈ l) (hH : Part.health ∈ l)
    (hE : Part.engine ∈ l) (hS : Part.store ∈ l) (hA : Part.agent ∈ l) (hT : Part.trunk ∈ l) : (cameraTakes p
    s).mask l = s.mask l := by
  unfold cameraTakes; (try dsimp only); (repeat' split) <;> simp [hY, hC, hH, hE, hS, hA, hT]

/-! ### The router -/

@[simp] theorem mask_passOn {p : TrunkPort} {c : Cell} (hT : Part.trunk ∈ l) : (passOn p c s).mask l = s.mask l :=
    by
  unfold passOn; (try dsimp only); (repeat' split) <;> simp [hT]
@[simp] theorem mask_countPayload {c : Cell} (hR : Part.router ∈ l) : (countPayload c s).mask l = s.mask l := by
  unfold countPayload; (try dsimp only); (repeat' split) <;> simp [hR]
@[simp] theorem mask_queueCommand {p : TrunkPort} {c : Cell} (hA : Part.agent ∈ l) (hT : Part.trunk ∈ l) :
    (queueCommand p c s).mask l = s.mask l := by
  unfold queueCommand; (try dsimp only); (repeat' split) <;> simp [hA, hT]
@[simp] theorem mask_routeBeacon {p : TrunkPort} {c : Cell} (hO : Part.orient ∈ l) (hA : Part.agent ∈ l) (hT :
    Part.trunk ∈ l) (hS : Part.store ∈ l) (hP : Part.comp ∈ l) : (routeBeacon p c s).mask l = s.mask l := by
  unfold routeBeacon; (try dsimp only); (repeat' split) <;> simp [hO, hA, hT, hS, hP]
@[simp] theorem mask_routeState {p : TrunkPort} {c : Cell} (hA : Part.agent ∈ l) (hK : Part.controllerSide ∈ l) (hT
    : Part.trunk ∈ l) (hV : Part.vehicle ∈ l) (hL : Part.selection ∈ l) (hP : Part.comp ∈ l) : (routeState p c
    s).mask l = s.mask l := by
  unfold routeState; (try dsimp only); (repeat' split) <;> simp [hA, hK, hT, hV, hL, hP]
@[simp] theorem mask_routeCommand {p : TrunkPort} {c : Cell} (hA : Part.agent ∈ l) (hK : Part.controllerSide ∈ l)
    (hT : Part.trunk ∈ l) : (routeCommand p c s).mask l = s.mask l := by
  unfold routeCommand; (try dsimp only); (repeat' split) <;> simp [hA, hK, hT]
@[simp] theorem mask_joinPass {p : TrunkPort} {c : Cell} (hT : Part.trunk ∈ l) : (joinPass p c s).mask l = s.mask l
    := by
  unfold joinPass; (try dsimp only); (repeat' split) <;> simp [hT]
@[simp] theorem mask_forwardTile {p : TrunkPort} {c : Cell} (hT : Part.trunk ∈ l) (hR : Part.router ∈ l) :
    (forwardTile p c s).mask l = s.mask l := by
  unfold forwardTile; (try dsimp only); (repeat' split) <;> simp [hT, hR]
@[simp] theorem mask_withContext {k : ContextNo} {x : Option Context} (hR : Part.router ∈ l) : (s.withContext k
    x).mask l = s.mask l := by
  unfold State.withContext; (try dsimp only); (repeat' split) <;> simp [hR]
@[simp] theorem mask_abandonContext {k : ContextNo} {n : RouterCounter} (hR : Part.router ∈ l) (hS : Part.store ∈ l)
    : (abandonContext k n s).mask l = s.mask l := by
  unfold abandonContext; (try dsimp only); (repeat' split) <;> simp [hR, hS]
@[simp] theorem mask_breakStream {sid : StreamId} (hR : Part.router ∈ l) (hS : Part.store ∈ l) : (breakStream sid
    s).mask l = s.mask l := by
  unfold breakStream; (try dsimp only); (repeat' split) <;> simp [hR, hS]
@[simp] theorem mask_openContext {f : TileHeadFields} {sid : StreamId} (hR : Part.router ∈ l) (hS : Part.store ∈ l)
    : (openContext f sid s).mask l = s.mask l := by
  unfold openContext; (try dsimp only); (repeat' split) <;> simp [hR, hS]
@[simp] theorem mask_consumeHead {c : Cell} (hR : Part.router ∈ l) (hS : Part.store ∈ l) : (consumeHead c s).mask l
    = s.mask l := by
  unfold consumeHead; (try dsimp only); (repeat' split) <;> simp [hR, hS]
@[simp] theorem mask_endContext {k : ContextNo} {x : Context} {d : Bool} (hR : Part.router ∈ l) (hS : Part.store ∈
    l) (hM : Part.alarm ∈ l) (hL : Part.selection ∈ l) (hP : Part.comp ∈ l) : (endContext k x d s).mask l = s.mask l
    := by
  unfold endContext; (try dsimp only); (repeat' split) <;> simp [hR, hS, hM, hL, hP]
@[simp] theorem mask_takeData {k : ContextNo} {x : Context} {c : Cell} (hR : Part.router ∈ l) (hS : Part.store ∈ l)
    (hM : Part.alarm ∈ l) (hL : Part.selection ∈ l) (hP : Part.comp ∈ l) : (takeData k x c s).mask l = s.mask l :=
    by
  unfold takeData; (try dsimp only); (repeat' split) <;> simp [hR, hS, hM, hL, hP]
@[simp] theorem mask_consumeData {c : Cell} (hR : Part.router ∈ l) (hS : Part.store ∈ l) (hM : Part.alarm ∈ l) (hL :
    Part.selection ∈ l) (hP : Part.comp ∈ l) : (consumeData c s).mask l = s.mask l := by
  unfold consumeData; (try dsimp only); (repeat' split) <;> simp [hR, hS, hM, hL, hP]
@[simp] theorem mask_joinBypass {p : TrunkPort} {c : Cell} (hT : Part.trunk ∈ l) : (joinBypass p c s).mask l =
    s.mask l := by
  unfold joinBypass; (try dsimp only); (repeat' split) <;> simp [hT]
@[simp] theorem mask_bypassActs {p : TrunkPort} {c : Cell} (hA : Part.agent ∈ l) (hK : Part.controllerSide ∈ l) (hT
    : Part.trunk ∈ l) (hR : Part.router ∈ l) : (bypassActs p c s).mask l = s.mask l := by
  unfold bypassActs; (try dsimp only); (repeat' split) <;> simp [hA, hK, hT, hR]

/-! ### Modes -/

@[simp] theorem mask_abandonProductions (hE : Part.engine ∈ l) (hS : Part.store ∈ l) : (abandonProductions s).mask l
    = s.mask l := by
  unfold abandonProductions; exact mask_foldl _ (by intro t a; simp [hE, hS]) _ _
@[simp] theorem mask_abandonContexts (hR : Part.router ∈ l) (hS : Part.store ∈ l) : (abandonContexts s).mask l =
    s.mask l := by
  unfold abandonContexts; exact mask_foldl _ (by intro t a; simp [hR, hS]) _ _
@[simp] theorem mask_clearSends (hT : Part.trunk ∈ l) (hS : Part.store ∈ l) : (clearSends s).mask l = s.mask l := by
  unfold clearSends; (try dsimp only); (repeat' split) <;> simp [hT, hS]
@[simp] theorem mask_stopRun (hE : Part.engine ∈ l) (hR : Part.router ∈ l) (hT : Part.trunk ∈ l) (hS : Part.store ∈
    l) : (stopRun s).mask l = s.mask l := by
  unfold stopRun; (try dsimp only); (repeat' split) <;> simp [hE, hR, hT, hS]
@[simp] theorem mask_endSurvey (hY : Part.survey ∈ l) : (endSurvey s).mask l = s.mask l := by
  unfold endSurvey; (try dsimp only); (repeat' split) <;> simp [hY]
@[simp] theorem mask_dropHold {p : CamPort} (hH : Part.health ∈ l) : (dropHold p s).mask l = s.mask l := by
  unfold dropHold; (try dsimp only); (repeat' split) <;> simp [hH]
@[simp] theorem mask_enterBypass (hH : Part.health ∈ l) (hT : Part.trunk ∈ l) (hS : Part.store ∈ l) : (enterBypass
    s).mask l = s.mask l := by
  unfold enterBypass eachPort; exact (mask_foldl _ (by intro t a; simp [hH, hT, hS]) _ _).trans (by simp [hH, hT, hS])
@[simp] theorem mask_enterMode {m : Mode} (hH : Part.health ∈ l) (hT : Part.trunk ∈ l) (hS : Part.store ∈ l) (hY :
    Part.survey ∈ l) : (enterMode m s).mask l = s.mask l := by
  unfold enterMode; (try dsimp only); (repeat' split) <;> simp [hH, hT, hS, hY]
@[simp] theorem mask_leaveMode {m : Mode} (hE : Part.engine ∈ l) (hR : Part.router ∈ l) (hT : Part.trunk ∈ l) (hS :
    Part.store ∈ l) (hY : Part.survey ∈ l) : (leaveMode m s).mask l = s.mask l := by
  unfold leaveMode; (try dsimp only); (repeat' split) <;> simp [hE, hR, hT, hS, hY]
@[simp] theorem mask_orientMode (hO : Part.orient ∈ l) (hA : Part.agent ∈ l) (hT : Part.trunk ∈ l) (hS : Part.store
    ∈ l) (hP : Part.comp ∈ l) : (orientMode s).mask l = s.mask l := by
  unfold orientMode; (try dsimp only); (repeat' split) <;> simp [hO, hA, hT, hS, hP]
@[simp] theorem mask_eachPort_demand (hC : Part.cams ∈ l) (hH : Part.health ∈ l) (hE : Part.engine ∈ l) (hS :
    Part.store ∈ l) (hA : Part.agent ∈ l) (hT : Part.trunk ∈ l) : (eachPort reevaluateDemand s).mask l = s.mask l :=
    by
  unfold eachPort; exact mask_foldl _ (by intro t a; simp [hC, hH, hE, hS, hA, hT]) _ _
@[simp] theorem mask_changeMode {m : Mode} (hD : Part.mode ∈ l) (hE : Part.engine ∈ l) (hR : Part.router ∈ l) (hT :
    Part.trunk ∈ l) (hS : Part.store ∈ l) (hY : Part.survey ∈ l) (hH : Part.health ∈ l) (hO : Part.orient ∈ l) (hA :
    Part.agent ∈ l) (hP : Part.comp ∈ l) (hC : Part.cams ∈ l) : (changeMode m s).mask l = s.mask l := by
  unfold changeMode; (try dsimp only); (repeat' split) <;> simp [hD, hE, hR, hT, hS, hY, hH, hO, hA, hP, hC]

/-! ### The table window and the commands -/

@[simp] theorem mask_disposeUnknown {cs : List AgentCommand} (hA : Part.agent ∈ l) (hT : Part.trunk ∈ l) :
    (disposeUnknown cs s).mask l = s.mask l := by
  induction cs generalizing s with
  | nil => simp [disposeUnknown, hA, hT]
  | cons c cs ih => unfold disposeUnknown; (try dsimp only); (repeat' split) <;> simp [hA, hT, ih]
@[simp] theorem mask_popCommand (hA : Part.agent ∈ l) : (popCommand s).mask l = s.mask l := by
  unfold popCommand; (try dsimp only); (repeat' split) <;> simp [hA]
@[simp] theorem mask_withPointer {n : Nat} (hA : Part.agent ∈ l) : (s.withPointer n).mask l = s.mask l := by
  unfold State.withPointer; (try dsimp only); (repeat' split) <;> simp [hA]
@[simp] theorem mask_selectTable {c : AgentCommand} (hA : Part.agent ∈ l) (hT : Part.trunk ∈ l) : (selectTable c
    s).mask l = s.mask l := by
  unfold selectTable; (try dsimp only); (repeat' split) <;> simp [hA, hT]
@[simp] theorem mask_takeTilePlan {e : TilePlan} (hB : Part.tables ∈ l) : (takeTilePlan e s).mask l = s.mask l := by
  unfold takeTilePlan; (try dsimp only); (repeat' split) <;> simp [hB]
@[simp] theorem mask_takeCameraConfig {e : CameraConfig} (hB : Part.tables ∈ l) (hY : Part.survey ∈ l) (hC :
    Part.cams ∈ l) (hH : Part.health ∈ l) (hE : Part.engine ∈ l) (hS : Part.store ∈ l) (hA : Part.agent ∈ l) (hT :
    Part.trunk ∈ l) : (takeCameraConfig e s).mask l = s.mask l := by
  unfold takeCameraConfig; (try dsimp only); (repeat' split) <;> simp [hB, hY, hC, hH, hE, hS, hA, hT]
@[simp] theorem mask_takeLensParams {e : LensParams} (hB : Part.tables ∈ l) (hH : Part.health ∈ l) (hS : Part.store
    ∈ l) (hA : Part.agent ∈ l) (hT : Part.trunk ∈ l) : (takeLensParams e s).mask l = s.mask l := by
  unfold takeLensParams; (try dsimp only); (repeat' split) <;> simp [hB, hH, hS, hA, hT]
@[simp] theorem mask_takeWeight {n : Nat} (hB : Part.tables ∈ l) (hH : Part.health ∈ l) (hS : Part.store ∈ l) (hA :
    Part.agent ∈ l) (hT : Part.trunk ∈ l) : (takeWeight n s).mask l = s.mask l := by
  unfold takeWeight; (try dsimp only); (repeat' split) <;> simp [hB, hH, hS, hA, hT]
@[simp] theorem mask_takeReference {v : Option Nat} (hB : Part.tables ∈ l) (hH : Part.health ∈ l) (hS : Part.store ∈
    l) (hA : Part.agent ∈ l) (hT : Part.trunk ∈ l) : (takeReference v s).mask l = s.mask l := by
  unfold takeReference; (try dsimp only); (repeat' split) <;> simp [hB, hH, hS, hA, hT]
@[simp] theorem mask_takeDoor {e : DoorEntry} (hB : Part.tables ∈ l) (hL : Part.selection ∈ l) (hP : Part.comp ∈ l)
    : (takeDoor e s).mask l = s.mask l := by
  unfold takeDoor; (try dsimp only); (repeat' split) <;> simp [hB, hL, hP]
@[simp] theorem mask_takeRule {sc : Screen} {r : Rule} (hB : Part.tables ∈ l) (hL : Part.selection ∈ l) (hP :
    Part.comp ∈ l) : (takeRule sc r s).mask l = s.mask l := by
  unfold takeRule; (try dsimp only); (repeat' split) <;> simp [hB, hL, hP]
@[simp] theorem mask_takeLayoutEntry {e : LayoutEntry} (hB : Part.tables ∈ l) : (takeLayoutEntry e s).mask l =
    s.mask l := by
  unfold takeLayoutEntry; (try dsimp only); (repeat' split) <;> simp [hB]
@[simp] theorem mask_takeOutputConfig {e : OutputConfig} (hB : Part.tables ∈ l) (hL : Part.selection ∈ l) (hP :
    Part.comp ∈ l) (hS : Part.store ∈ l) : (takeOutputConfig e s).mask l = s.mask l := by
  unfold takeOutputConfig; (try dsimp only); (repeat' split) <;> simp [hB, hL, hP, hS]
@[simp] theorem mask_retime (hV : Part.vehicle ∈ l) (hL : Part.selection ∈ l) (hP : Part.comp ∈ l) : (retime s).mask
    l = s.mask l := by
  unfold retime; (try dsimp only); (repeat' split) <;> simp [hV, hL, hP]
@[simp] theorem mask_takeNodeParams {e : NodeParams} (hB : Part.tables ∈ l) (hY : Part.survey ∈ l) (hV :
    Part.vehicle ∈ l) (hL : Part.selection ∈ l) (hP : Part.comp ∈ l) : (takeNodeParams e s).mask l = s.mask l := by
  unfold takeNodeParams; (try dsimp only); (repeat' split) <;> simp [hB, hY, hV, hL, hP]
@[simp] theorem mask_readNext {c : AgentCommand} (hA : Part.agent ∈ l) (hT : Part.trunk ∈ l) : (readNext c s).mask l
    = s.mask l := by
  unfold readNext; (try dsimp only); (repeat' split) <;> simp [hA, hT]
@[simp] theorem mask_withRoute {i : Fin 128} {e : Option RouteEntry} (hB : Part.tables ∈ l) : (s.withRoute i e).mask
    l = s.mask l := by
  unfold State.withRoute; (try dsimp only); (repeat' split) <;> simp [hB]
@[simp] theorem mask_routeAdd {c : AgentCommand} (hB : Part.tables ∈ l) (hT : Part.trunk ∈ l) : (routeAdd c s).mask
    l = s.mask l := by
  unfold routeAdd; (try dsimp only); (repeat' split) <;> simp [hB, hT]
@[simp] theorem mask_routeRemove {c : AgentCommand} (hB : Part.tables ∈ l) (hT : Part.trunk ∈ l) : (routeRemove c
    s).mask l = s.mask l := by
  unfold routeRemove; (try dsimp only); (repeat' split) <;> simp [hB, hT]
@[simp] theorem mask_applyLayouts (hB : Part.tables ∈ l) (hP : Part.comp ∈ l) : (applyLayouts s).mask l = s.mask l
    := by
  unfold applyLayouts; (try dsimp only); (repeat' split) <;> simp [hB, hP]
@[simp] theorem mask_copyLayouts (hB : Part.tables ∈ l) : (copyLayouts s).mask l = s.mask l := by
  unfold copyLayouts; (try dsimp only); (repeat' split) <;> simp [hB]
@[simp] theorem mask_relearn {c : AgentCommand} (hC : Part.cams ∈ l) (hH : Part.health ∈ l) (hE : Part.engine ∈ l)
    (hS : Part.store ∈ l) (hA : Part.agent ∈ l) (hT : Part.trunk ∈ l) : (relearn c s).mask l = s.mask l := by
  unfold relearn; (try dsimp only); (repeat' split) <;> simp [hC, hH, hE, hS, hA, hT]
@[simp] theorem mask_cableCheck {c : AgentCommand} (hY : Part.survey ∈ l) (hC : Part.cams ∈ l) (hH : Part.health ∈
    l) (hE : Part.engine ∈ l) (hS : Part.store ∈ l) (hA : Part.agent ∈ l) (hT : Part.trunk ∈ l) : (cableCheck c
    s).mask l = s.mask l := by
  unfold cableCheck; (try dsimp only); (repeat' split) <;> simp [hY, hC, hH, hE, hS, hA, hT]
@[simp] theorem mask_readCauses {c : AgentCommand} (hA : Part.agent ∈ l) (hT : Part.trunk ∈ l) : (readCauses c
    s).mask l = s.mask l := by
  unfold readCauses; (try dsimp only); (repeat' split) <;> simp [hA, hT]
@[simp] theorem mask_clearPort {p : CamPort} (hC : Part.cams ∈ l) : (clearPort p s).mask l = s.mask l := by
  unfold clearPort; (try dsimp only); (repeat' split) <;> simp [hC]
@[simp] theorem mask_clearGroup {g : CounterGroup} (hT : Part.trunk ∈ l) (hR : Part.router ∈ l) (hC : Part.cams ∈ l)
    (hE : Part.engine ∈ l) (hS : Part.store ∈ l) : (clearGroup g s).mask l = s.mask l := by
  unfold clearGroup eachPort; split; · simp [hT, hR, hC, hE, hS]
  · simp [hT, hR, hC, hE, hS]
  · rw [mask_withStore hS, mask_withEngine hE]; exact mask_foldl _ (by intro t a; simp [hT, hR, hC, hE, hS]) _ _
@[simp] theorem mask_readCounters {c : AgentCommand} (hT : Part.trunk ∈ l) (hR : Part.router ∈ l) (hC : Part.cams ∈
    l) (hE : Part.engine ∈ l) (hS : Part.store ∈ l) : (readCounters c s).mask l = s.mask l := by
  unfold readCounters; (try dsimp only); (repeat' split) <;> simp [hT, hR, hC, hE, hS]
@[simp] theorem mask_clearCounters {c : AgentCommand} (hT : Part.trunk ∈ l) (hR : Part.router ∈ l) (hC : Part.cams ∈
    l) (hE : Part.engine ∈ l) (hS : Part.store ∈ l) : (clearCounters c s).mask l = s.mask l := by
  unfold clearCounters; (try dsimp only); (repeat' split) <;> simp [hT, hR, hC, hE, hS]
@[simp] theorem mask_setMode {c : AgentCommand} (hD : Part.mode ∈ l) (hE : Part.engine ∈ l) (hR : Part.router ∈ l)
    (hT : Part.trunk ∈ l) (hS : Part.store ∈ l) (hY : Part.survey ∈ l) (hH : Part.health ∈ l) (hO : Part.orient ∈ l)
    (hA : Part.agent ∈ l) (hP : Part.comp ∈ l) (hC : Part.cams ∈ l) : (setMode c s).mask l = s.mask l := by
  unfold setMode; (try dsimp only); (repeat' split) <;> simp [hD, hE, hR, hT, hS, hY, hH, hO, hA, hP, hC]
@[simp] theorem mask_releaseEvidence {c : AgentCommand} (hS : Part.store ∈ l) (hT : Part.trunk ∈ l) :
    (releaseEvidence c s).mask l = s.mask l := by
  unfold releaseEvidence; (try dsimp only); (repeat' split) <;> simp [hS, hT]
@[simp] theorem mask_startFetch {p : TrunkPort} {k : Fin 4} {i : SlotNo} {sid : StreamId} (hS : Part.store ∈ l) (hT
    : Part.trunk ∈ l) : (startFetch p k i sid s).mask l = s.mask l := by
  unfold startFetch; (try dsimp only); (repeat' split) <;> simp [hS, hT]
@[simp] theorem mask_fetchEvidence {c : AgentCommand} (hS : Part.store ∈ l) (hT : Part.trunk ∈ l) : (fetchEvidence c
    s).mask l = s.mask l := by
  unfold fetchEvidence; (try dsimp only); (repeat' split) <;> simp [hS, hT]

end Sys2Proof.Machine
end

