-- ==== Sys2Proof/WellFormed.lean ====
section
/-! DEFINITION. Which commands can arrive at all: a cell has 64 bytes, a picture's planes fit one another,
an announced size is a 16-bit number, a probe's distance is there when its outcome has one. -/

namespace Sys2Proof

/-- A cell is 64 bytes (chapter 11). -/
def Cell.wellFormed (c : Cell) : Bool := c.length == 64

/-- 4:2:2: each chroma component has as many lines as the luma, and one sample for each pair of pixels (R28). -/
def Picture.wellFormed (p : Picture) : Bool :=
  let fits (chroma : List (List Byte)) : Bool :=
    chroma.length == p.luma.length &&
      (p.luma.zip chroma).all (fun lc => 2 * lc.2.length == lc.1.length)
  fits p.cb && fits p.cr

/-- The announced numbers of a frame start fit their 16-bit fields. -/
def FrameHead.wellFormed (h : FrameHead) : Bool :=
  h.width < 65536 && h.height < 65536 && h.record.exposure < 65536 && h.record.gain < 256

/-- A distance is found for OPEN, SHORT and IMPEDANCE_FAULT, and for no other outcome (R15). -/
def ProbeFinding.wellFormed (f : ProbeFinding) : Bool :=
  match f.outcome with
  | .normal | .inconclusive => f.distance.isNone
  | .openCable | .short | .impedanceFault => f.distance.isSome

/-- The bytes of a failing read fill the payload of one data cell. -/
def MemoryReads.wellFormed (r : MemoryReads) : Bool :=
  let ok (x : Option (List Byte)) : Bool :=
    match x with
    | none => true
    | some l => l.length == 54
  ok r.a && ok r.b

/-- A command that can arrive. -/
def Instr.wellFormed : Instr → Bool
  | .powerOnReset _ => true
  | .resetLine _ => true
  | .cabActiveRise => true
  | .cabActiveFall => true
  | .frameStart _ h => h.wellFormed
  | .frameEnd _ p => p.wellFormed
  | .lockTimerExpiry _ => true
  | .stallTimerExpiry _ => true
  | .retryTimerExpiry _ => true
  | .overcurrentTrip _ => true
  | .probeEnd _ f => f.wellFormed
  | .sameFrameRunFull _ p => p.wellFormed
  | .darkRunFull _ p => p.wellFormed
  | .sample _ p => p.wellFormed
  | .unusableRunFull _ p => p.wellFormed
  | .learningComplete _ p => p.wellFormed
  | .learningDeadline _ => true
  | .signalDetected _ => true
  | .signalLoss _ => true
  | .cellReceivedTraining _ c => Cell.wellFormed c
  | .trainingComplete _ c => Cell.wellFormed c
  | .headerFailure _ c => Cell.wellFormed c
  | .failedHeaderRunFull _ c => Cell.wellFormed c
  | .fill _ c => Cell.wellFormed c
  | .beacon _ c => Cell.wellFormed c
  | .state _ c => Cell.wellFormed c
  | .command _ c => Cell.wellFormed c
  | .passReplyNotice _ c => Cell.wellFormed c
  | .badKind _ c => Cell.wellFormed c
  | .tileHead _ c => Cell.wellFormed c
  | .tileData _ c => Cell.wellFormed c
  | .contextEnd _ c => Cell.wellFormed c
  | .bypassPass _ c => Cell.wellFormed c
  | .cellTime r => MemoryReads.wellFormed r
  | .sendEntryEnd _ r => MemoryReads.wellFormed r
  | .beaconPeriod => true
  | .orientationExpiry => true
  | .resumeTime => true
  | .contextExpiry _ => true
  | .stalenessExpiry => true
  | .holdExpiry _ => true
  | .pulseEnd => true
  | .screenFrameStart _ => true
  | .surveyStart => true
  | .surveySkipDone _ p => p.wellFormed
  | .surveyBurstDone _ p => p.wellFormed
  | .selectTable => true
  | .writeNext => true
  | .writeTilePlan => true
  | .writeCameraConfig => true
  | .writeLensParams => true
  | .writeWeight => true
  | .writeReference => true
  | .writeDoor => true
  | .writeRules => true
  | .writeLayoutPending => true
  | .writeOutputConfig => true
  | .writeNodeParams => true
  | .readNext => true
  | .routeAdd => true
  | .routeRemove => true
  | .applyLayouts => true
  | .copyLayouts => true
  | .relearn => true
  | .cableCheck => true
  | .readCauses => true
  | .readStatus => true
  | .readCounters => true
  | .clearCounters => true
  | .setMode => true
  | .releaseEvidence => true
  | .fetchEvidence => true
  | .restart => true
  | .shortLine _ => true
  | .drawCheckFailure _ _ => true

end Sys2Proof
end

