-- ==== Sys2Proof/Laws/PerInstr.lean ====
section
/-! SUPPORT. A law of every command as it arrives, one lemma for each constructor: the cells a well-formed command
brings are whole. -/

namespace Sys2Proof.Laws

/-- The cell a command brings from a trunk port, when it brings one. -/
def cellOf : Instr → Option Cell
  | .powerOnReset _ => none
  | .resetLine _ => none
  | .cabActiveRise => none
  | .cabActiveFall => none
  | .frameStart _ _ => none
  | .frameEnd _ _ => none
  | .lockTimerExpiry _ => none
  | .stallTimerExpiry _ => none
  | .retryTimerExpiry _ => none
  | .overcurrentTrip _ => none
  | .probeEnd _ _ => none
  | .sameFrameRunFull _ _ => none
  | .darkRunFull _ _ => none
  | .sample _ _ => none
  | .unusableRunFull _ _ => none
  | .learningComplete _ _ => none
  | .learningDeadline _ => none
  | .signalDetected _ => none
  | .signalLoss _ => none
  | .cellReceivedTraining _ x => some x
  | .trainingComplete _ x => some x
  | .headerFailure _ x => some x
  | .failedHeaderRunFull _ x => some x
  | .fill _ x => some x
  | .beacon _ x => some x
  | .state _ x => some x
  | .command _ x => some x
  | .passReplyNotice _ x => some x
  | .badKind _ x => some x
  | .tileHead _ x => some x
  | .tileData _ x => some x
  | .contextEnd _ x => some x
  | .bypassPass _ x => some x
  | .cellTime _ => none
  | .sendEntryEnd _ _ => none
  | .beaconPeriod => none
  | .orientationExpiry => none
  | .resumeTime => none
  | .contextExpiry _ => none
  | .stalenessExpiry => none
  | .holdExpiry _ => none
  | .pulseEnd => none
  | .screenFrameStart _ => none
  | .surveyStart => none
  | .surveySkipDone _ _ => none
  | .surveyBurstDone _ _ => none
  | .selectTable => none
  | .writeNext => none
  | .writeTilePlan => none
  | .writeCameraConfig => none
  | .writeLensParams => none
  | .writeWeight => none
  | .writeReference => none
  | .writeDoor => none
  | .writeRules => none
  | .writeLayoutPending => none
  | .writeOutputConfig => none
  | .writeNodeParams => none
  | .readNext => none
  | .routeAdd => none
  | .routeRemove => none
  | .applyLayouts => none
  | .copyLayouts => none
  | .relearn => none
  | .cableCheck => none
  | .readCauses => none
  | .readStatus => none
  | .readCounters => none
  | .clearCounters => none
  | .setMode => none
  | .releaseEvidence => none
  | .fetchEvidence => none
  | .restart => none
  | .shortLine _ => none
  | .drawCheckFailure _ _ => none

/-- The cell of a well-formed command has its 64 bytes, 0 to 63 (chapter 11). -/
def CellsWhole.Statement (i : Instr) : Prop := i.wellFormed = true → ∀ c : Cell, cellOf i = some c → c.length = 64

theorem CellsWhole.powerOnReset (straps : Straps) : CellsWhole.Statement (.powerOnReset straps) := by
  intro _ c e
  cases e
theorem CellsWhole.resetLine (straps : Straps) : CellsWhole.Statement (.resetLine straps) := by
  intro _ c e
  cases e
theorem CellsWhole.cabActiveRise : CellsWhole.Statement .cabActiveRise := by
  intro _ c e
  cases e
theorem CellsWhole.cabActiveFall : CellsWhole.Statement .cabActiveFall := by
  intro _ c e
  cases e
theorem CellsWhole.frameStart (port : CamPort) (head : FrameHead) : CellsWhole.Statement (.frameStart port head) := by
  intro _ c e
  cases e
theorem CellsWhole.frameEnd (port : CamPort) (picture : Picture) : CellsWhole.Statement (.frameEnd port picture) := by
  intro _ c e
  cases e
theorem CellsWhole.lockTimerExpiry (port : CamPort) : CellsWhole.Statement (.lockTimerExpiry port) := by
  intro _ c e
  cases e
theorem CellsWhole.stallTimerExpiry (port : CamPort) : CellsWhole.Statement (.stallTimerExpiry port) := by
  intro _ c e
  cases e
theorem CellsWhole.retryTimerExpiry (port : CamPort) : CellsWhole.Statement (.retryTimerExpiry port) := by
  intro _ c e
  cases e
theorem CellsWhole.overcurrentTrip (port : CamPort) : CellsWhole.Statement (.overcurrentTrip port) := by
  intro _ c e
  cases e
theorem CellsWhole.probeEnd (port : CamPort) (finding : ProbeFinding) : CellsWhole.Statement (.probeEnd port finding) := by
  intro _ c e
  cases e
theorem CellsWhole.sameFrameRunFull (port : CamPort) (picture : Picture) : CellsWhole.Statement (.sameFrameRunFull port picture) := by
  intro _ c e
  cases e
theorem CellsWhole.darkRunFull (port : CamPort) (picture : Picture) : CellsWhole.Statement (.darkRunFull port picture) := by
  intro _ c e
  cases e
theorem CellsWhole.sample (port : CamPort) (picture : Picture) : CellsWhole.Statement (.sample port picture) := by
  intro _ c e
  cases e
theorem CellsWhole.unusableRunFull (port : CamPort) (picture : Picture) : CellsWhole.Statement (.unusableRunFull port picture) := by
  intro _ c e
  cases e
theorem CellsWhole.learningComplete (port : CamPort) (picture : Picture) : CellsWhole.Statement (.learningComplete port picture) := by
  intro _ c e
  cases e
theorem CellsWhole.learningDeadline (port : CamPort) : CellsWhole.Statement (.learningDeadline port) := by
  intro _ c e
  cases e
theorem CellsWhole.signalDetected (trunk : TrunkPort) : CellsWhole.Statement (.signalDetected trunk) := by
  intro _ c e
  cases e
theorem CellsWhole.signalLoss (trunk : TrunkPort) : CellsWhole.Statement (.signalLoss trunk) := by
  intro _ c e
  cases e
theorem CellsWhole.cellReceivedTraining (trunk : TrunkPort) (cell : Cell) : CellsWhole.Statement (.cellReceivedTraining trunk cell) := by
  intro h c e
  cases e
  simpa [Instr.wellFormed, Cell.wellFormed] using h
theorem CellsWhole.trainingComplete (trunk : TrunkPort) (cell : Cell) : CellsWhole.Statement (.trainingComplete trunk cell) := by
  intro h c e
  cases e
  simpa [Instr.wellFormed, Cell.wellFormed] using h
theorem CellsWhole.headerFailure (trunk : TrunkPort) (cell : Cell) : CellsWhole.Statement (.headerFailure trunk cell) := by
  intro h c e
  cases e
  simpa [Instr.wellFormed, Cell.wellFormed] using h
theorem CellsWhole.failedHeaderRunFull (trunk : TrunkPort) (cell : Cell) : CellsWhole.Statement (.failedHeaderRunFull trunk cell) := by
  intro h c e
  cases e
  simpa [Instr.wellFormed, Cell.wellFormed] using h
theorem CellsWhole.fill (trunk : TrunkPort) (cell : Cell) : CellsWhole.Statement (.fill trunk cell) := by
  intro h c e
  cases e
  simpa [Instr.wellFormed, Cell.wellFormed] using h
theorem CellsWhole.beacon (trunk : TrunkPort) (cell : Cell) : CellsWhole.Statement (.beacon trunk cell) := by
  intro h c e
  cases e
  simpa [Instr.wellFormed, Cell.wellFormed] using h
theorem CellsWhole.state (trunk : TrunkPort) (cell : Cell) : CellsWhole.Statement (.state trunk cell) := by
  intro h c e
  cases e
  simpa [Instr.wellFormed, Cell.wellFormed] using h
theorem CellsWhole.command (trunk : TrunkPort) (cell : Cell) : CellsWhole.Statement (.command trunk cell) := by
  intro h c e
  cases e
  simpa [Instr.wellFormed, Cell.wellFormed] using h
theorem CellsWhole.passReplyNotice (trunk : TrunkPort) (cell : Cell) : CellsWhole.Statement (.passReplyNotice trunk cell) := by
  intro h c e
  cases e
  simpa [Instr.wellFormed, Cell.wellFormed] using h
theorem CellsWhole.badKind (trunk : TrunkPort) (cell : Cell) : CellsWhole.Statement (.badKind trunk cell) := by
  intro h c e
  cases e
  simpa [Instr.wellFormed, Cell.wellFormed] using h
theorem CellsWhole.tileHead (trunk : TrunkPort) (cell : Cell) : CellsWhole.Statement (.tileHead trunk cell) := by
  intro h c e
  cases e
  simpa [Instr.wellFormed, Cell.wellFormed] using h
theorem CellsWhole.tileData (trunk : TrunkPort) (cell : Cell) : CellsWhole.Statement (.tileData trunk cell) := by
  intro h c e
  cases e
  simpa [Instr.wellFormed, Cell.wellFormed] using h
theorem CellsWhole.contextEnd (trunk : TrunkPort) (cell : Cell) : CellsWhole.Statement (.contextEnd trunk cell) := by
  intro h c e
  cases e
  simpa [Instr.wellFormed, Cell.wellFormed] using h
theorem CellsWhole.bypassPass (trunk : TrunkPort) (cell : Cell) : CellsWhole.Statement (.bypassPass trunk cell) := by
  intro h c e
  cases e
  simpa [Instr.wellFormed, Cell.wellFormed] using h
theorem CellsWhole.cellTime (reads : MemoryReads) : CellsWhole.Statement (.cellTime reads) := by
  intro _ c e
  cases e
theorem CellsWhole.sendEntryEnd (trunk : TrunkPort) (reads : MemoryReads) : CellsWhole.Statement (.sendEntryEnd trunk reads) := by
  intro _ c e
  cases e
theorem CellsWhole.beaconPeriod : CellsWhole.Statement .beaconPeriod := by
  intro _ c e
  cases e
theorem CellsWhole.orientationExpiry : CellsWhole.Statement .orientationExpiry := by
  intro _ c e
  cases e
theorem CellsWhole.resumeTime : CellsWhole.Statement .resumeTime := by
  intro _ c e
  cases e
theorem CellsWhole.contextExpiry (context : ContextNo) : CellsWhole.Statement (.contextExpiry context) := by
  intro _ c e
  cases e
theorem CellsWhole.stalenessExpiry : CellsWhole.Statement .stalenessExpiry := by
  intro _ c e
  cases e
theorem CellsWhole.holdExpiry (screen : Screen) : CellsWhole.Statement (.holdExpiry screen) := by
  intro _ c e
  cases e
theorem CellsWhole.pulseEnd : CellsWhole.Statement .pulseEnd := by
  intro _ c e
  cases e
theorem CellsWhole.screenFrameStart (screen : Screen) : CellsWhole.Statement (.screenFrameStart screen) := by
  intro _ c e
  cases e
theorem CellsWhole.surveyStart : CellsWhole.Statement .surveyStart := by
  intro _ c e
  cases e
theorem CellsWhole.surveySkipDone (port : CamPort) (picture : Picture) : CellsWhole.Statement (.surveySkipDone port picture) := by
  intro _ c e
  cases e
theorem CellsWhole.surveyBurstDone (port : CamPort) (picture : Picture) : CellsWhole.Statement (.surveyBurstDone port picture) := by
  intro _ c e
  cases e
theorem CellsWhole.selectTable : CellsWhole.Statement .selectTable := by
  intro _ c e
  cases e
theorem CellsWhole.writeNext : CellsWhole.Statement .writeNext := by
  intro _ c e
  cases e
theorem CellsWhole.writeTilePlan : CellsWhole.Statement .writeTilePlan := by
  intro _ c e
  cases e
theorem CellsWhole.writeCameraConfig : CellsWhole.Statement .writeCameraConfig := by
  intro _ c e
  cases e
theorem CellsWhole.writeLensParams : CellsWhole.Statement .writeLensParams := by
  intro _ c e
  cases e
theorem CellsWhole.writeWeight : CellsWhole.Statement .writeWeight := by
  intro _ c e
  cases e
theorem CellsWhole.writeReference : CellsWhole.Statement .writeReference := by
  intro _ c e
  cases e
theorem CellsWhole.writeDoor : CellsWhole.Statement .writeDoor := by
  intro _ c e
  cases e
theorem CellsWhole.writeRules : CellsWhole.Statement .writeRules := by
  intro _ c e
  cases e
theorem CellsWhole.writeLayoutPending : CellsWhole.Statement .writeLayoutPending := by
  intro _ c e
  cases e
theorem CellsWhole.writeOutputConfig : CellsWhole.Statement .writeOutputConfig := by
  intro _ c e
  cases e
theorem CellsWhole.writeNodeParams : CellsWhole.Statement .writeNodeParams := by
  intro _ c e
  cases e
theorem CellsWhole.readNext : CellsWhole.Statement .readNext := by
  intro _ c e
  cases e
theorem CellsWhole.routeAdd : CellsWhole.Statement .routeAdd := by
  intro _ c e
  cases e
theorem CellsWhole.routeRemove : CellsWhole.Statement .routeRemove := by
  intro _ c e
  cases e
theorem CellsWhole.applyLayouts : CellsWhole.Statement .applyLayouts := by
  intro _ c e
  cases e
theorem CellsWhole.copyLayouts : CellsWhole.Statement .copyLayouts := by
  intro _ c e
  cases e
theorem CellsWhole.relearn : CellsWhole.Statement .relearn := by
  intro _ c e
  cases e
theorem CellsWhole.cableCheck : CellsWhole.Statement .cableCheck := by
  intro _ c e
  cases e
theorem CellsWhole.readCauses : CellsWhole.Statement .readCauses := by
  intro _ c e
  cases e
theorem CellsWhole.readStatus : CellsWhole.Statement .readStatus := by
  intro _ c e
  cases e
theorem CellsWhole.readCounters : CellsWhole.Statement .readCounters := by
  intro _ c e
  cases e
theorem CellsWhole.clearCounters : CellsWhole.Statement .clearCounters := by
  intro _ c e
  cases e
theorem CellsWhole.setMode : CellsWhole.Statement .setMode := by
  intro _ c e
  cases e
theorem CellsWhole.releaseEvidence : CellsWhole.Statement .releaseEvidence := by
  intro _ c e
  cases e
theorem CellsWhole.fetchEvidence : CellsWhole.Statement .fetchEvidence := by
  intro _ c e
  cases e
theorem CellsWhole.restart : CellsWhole.Statement .restart := by
  intro _ c e
  cases e
theorem CellsWhole.shortLine (port : CamPort) : CellsWhole.Statement (.shortLine port) := by
  intro _ c e
  cases e
theorem CellsWhole.drawCheckFailure (screen : Screen) (slot : SlotNo) : CellsWhole.Statement (.drawCheckFailure screen slot) := by
  intro _ c e
  cases e

end Sys2Proof.Laws
end

