-- ==== Sys2Proof/Laws/Ports.lean ====
section
/-! SUPPORT. What a change of link state makes of a camera port, and the range of a tile's age, said once for each. -/

namespace Sys2Proof.Machine

/-! ### The age of a tile (R123) -/

/-- An age lies in 0–4,294,967,295. -/
theorem ageInRange_lt (n : Nat) : ageInRange n < 4294967296 := by
  unfold ageInRange
  split
  · assumption
  · exact (Config.ageBeyond n).isLt

/-- A sum within the range is the age. -/
theorem ageInRange_of_lt (n : Nat) (h : n < 4294967296) : ageInRange n = n := if_pos h

/-! ### A change of link state (R3, R5 to R7, R9, R10, R14, R15) -/

/-- The port that a change of link state leaves is the statements' own. -/
theorem entering_eq_newly (c : CameraPort) (new : CameraLink) (s : State) :
    c.entering new s = c.newly new s.nodeTime := rfl

/-- A change of link state starts the one timer, or the probe's limit, of the new state and no other. -/
theorem newly_timersOk (c : CameraPort) (new : CameraLink) (t : NodeTime) : (c.newly new t).timersOk := by
  cases new <;> simp [CameraPort.newly, CameraPort.timersOk]

/-- A finding within the 30 ms is stored as it is found; behind them the probe is INCONCLUSIVE (R15). -/
theorem found_cases (p : CamPort) (f : ProbeFinding) (s : State) :
    (s.probeLate p = false ∧ s.found p f = f) ∨ (s.probeLate p = true ∧ s.found p f = ⟨.inconclusive, none⟩) := by
  cases h : s.probeLate p <;> simp [State.found, h]

end Sys2Proof.Machine
end

