-- ==== Sys2Proof/Laws/Store.lean ====
section
/-! SUPPORT. What each shared operation of the counters, the control queue, the cause set and the tile store can do,
said once for each. -/

namespace Sys2Proof.Machine

/-! ### Counters and the control queue -/

/-- A counter either stands at the greatest value and stays, or grows by one. -/
theorem increment_cases (c : Counter) :
    (c = BitVec.allOnes 32 ∧ increment c = c) ∨ (c ≠ BitVec.allOnes 32 ∧ (increment c).toNat = c.toNat + 1) := by
  by_cases h : c = BitVec.allOnes 32
  · exact .inl ⟨h, by simp [increment, h]⟩
  · refine .inr ⟨h, ?_⟩
    have hb : c.toNat ≠ 4294967295 := fun e => h (BitVec.eq_of_toNat_eq (by simpa using e))
    have h1 : (1 : Counter).toNat = 1 := rfl
    have := c.isLt
    simp only [increment, h, if_false, BitVec.toNat_add, h1]
    omega

theorem bump_same {n : Nat} (i : Fin n) (v : Vector Counter n) : (bump i v)[i] = increment v[i] := by simp [bump]

theorem bump_other {n : Nat} {i j : Fin n} (h : j ≠ i) (v : Vector Counter n) : (bump i v)[j] = v[j] := by
  have : i.val ≠ j.val := fun e => h (Fin.ext e.symm)
  simp [bump, this]

/-- Placing a control cell appends it while the queue has room, and counts it otherwise (R91). -/
theorem placeControl_cases (p : TrunkPort) (c : Cell) (s : State) :
    ((s.trunk.get p).control.length < Config.controlCapacity ∧
      placeControl p c s = s.withTrunk p { s.trunk.get p with control := (s.trunk.get p).control ++ [c] }) ∨
    (Config.controlCapacity ≤ (s.trunk.get p).control.length ∧
      placeControl p c s = countTrunk p .controlOverflow s) := by
  by_cases h : (s.trunk.get p).control.length < Config.controlCapacity
  · exact .inl ⟨h, by simp [placeControl, h]⟩
  · exact .inr ⟨Nat.le_of_not_lt h, by simp [placeControl, h]⟩

theorem placeAll_nil (p : TrunkPort) (s : State) : placeAll p [] s = s := rfl

theorem placeAll_cons (p : TrunkPort) (c : Cell) (cs : List Cell) (s : State) :
    placeAll p (c :: cs) s = placeAll p cs (placeControl p c s) := rfl

theorem placeAll_append (p : TrunkPort) (cs ds : List Cell) (s : State) :
    placeAll p (cs ++ ds) s = placeAll p ds (placeAll p cs s) := by simp [placeAll]

/-! ### The cause set -/

/-- Adding a cause does one of five things (the table of R174). -/
theorem joinCause_cases (c : Cause) (cs : List Cause) (o : Bool) :
    (∃ old, cs.find? c.alike = some old ∧ c.kind = .lensChange ∧ c.evidence = true ∧ old.evidence = false ∧
      joinCause c cs o = ⟨cs.map fun d => if c.alike d then { d with evidence := true } else d, o, true⟩) ∨
    (∃ old, cs.find? c.alike = some old ∧ ¬(c.kind = .lensChange ∧ c.evidence = true ∧ old.evidence = false) ∧
      joinCause c cs o = ⟨cs, o, false⟩) ∨
    (cs.find? c.alike = none ∧ cs.length < Config.causeCapacity ∧ joinCause c cs o = ⟨cs ++ [c], o, true⟩) ∨
    (cs.find? c.alike = none ∧ Config.causeCapacity ≤ cs.length ∧ o = false ∧
      joinCause c cs o = ⟨cs, true, true⟩) ∨
    (cs.find? c.alike = none ∧ Config.causeCapacity ≤ cs.length ∧ o = true ∧
      joinCause c cs o = ⟨cs, true, false⟩) := by
  cases h : cs.find? c.alike with
  | some old =>
    by_cases k : c.kind = .lensChange ∧ c.evidence = true ∧ old.evidence = false
    · exact .inl ⟨old, rfl, k.1, k.2.1, k.2.2, by simp only [joinCause, h]; rw [if_pos k]⟩
    · exact .inr (.inl ⟨old, rfl, k, by simp only [joinCause, h]; rw [if_neg k]⟩)
  | none =>
    by_cases k : cs.length < Config.causeCapacity
    · exact .inr (.inr (.inl ⟨rfl, k, by simp only [joinCause, h]; rw [if_pos k]⟩))
    · have k' := Nat.le_of_not_lt k
      cases o
      · exact .inr (.inr (.inr (.inl ⟨rfl, k', rfl, by simp only [joinCause, h]; rw [if_neg k]; rfl⟩)))
      · exact .inr (.inr (.inr (.inr ⟨rfl, k', rfl, by simp only [joinCause, h]; rw [if_neg k]; rfl⟩)))

/-- A notice goes out, and disarms, exactly when notices are armed and the controller-side port is known (R175). -/
theorem sendNotice_cases (s : State) :
    (∃ p, s.controllerSide = some p ∧ s.agent.armed = true ∧
      sendNotice s = placeAll p s.noticeCells (s.withAgent { s.agent with armed := false })) ∨
    ((s.controllerSide = none ∨ s.agent.armed = false) ∧ sendNotice s = s) := by
  cases h : s.controllerSide with
  | none => exact .inr ⟨.inl rfl, by simp [sendNotice, h]⟩
  | some p =>
    cases k : s.agent.armed
    · exact .inr ⟨.inr rfl, by simp [sendNotice, h, k]⟩
    · exact .inl ⟨p, rfl, rfl, by simp [sendNotice, h, k]⟩

/-- Learning the controller-side port sends the waiting causes only when it was unknown (R102, R175). -/
theorem setControllerSide_cases (p : TrunkPort) (s : State) :
    (s.controllerSide = none ∧ (s.agent.causes ≠ [] ∨ s.agent.overflow = true) ∧
      setControllerSide p s = sendNotice (s.withControllerSide (some p))) ∨
    ((s.controllerSide ≠ none ∨ (s.agent.causes = [] ∧ s.agent.overflow = false)) ∧
      setControllerSide p s = s.withControllerSide (some p)) := by
  rcases hc : s.controllerSide with _ | q <;> rcases ha : s.agent.causes with _ | ⟨a, as⟩ <;>
    rcases ho : s.agent.overflow <;> simp [setControllerSide, hc, ha, ho]

/-! ### The tile store -/

/-- The slot that an allocation takes is FREE, and every lower one is not (R42). -/
theorem lowestFree_some {st : Store} {i : SlotNo} (h : st.lowestFree = some i) :
    (st.slots[i]).state = .free ∧ ∀ j : SlotNo, j < i → (st.slots[j]).state ≠ .free := by
  obtain ⟨hi, as, bs, e, hb⟩ := List.find?_eq_some_iff_append.mp h
  refine ⟨by simpa using hi, fun j hj => ?_⟩
  have hs : (as ++ i :: bs).Pairwise (· < ·) := e ▸ List.pairwise_lt_finRange 64
  have hm : j ∈ as ++ i :: bs := e ▸ List.mem_finRange j
  rcases List.mem_append.mp hm with m | m
  · simpa using hb j m
  · rcases List.mem_cons.mp m with m | m
    · exact absurd (m ▸ hj) (lt_irrefl _)
    · have := (List.pairwise_cons.mp (List.pairwise_append.mp hs).2.1).1 j m
      exact absurd (lt_trans hj this) (lt_irrefl _)

/-- No slot is allocated only where none is FREE (R42). -/
theorem lowestFree_none {st : Store} (h : st.lowestFree = none) (i : SlotNo) : (st.slots[i]).state ≠ .free := by
  have := List.find?_eq_none.mp h i (List.mem_finRange i)
  simpa using this

/-- An allocation makes the lowest FREE slot FILLING, or there is none (R42). -/
theorem allocate_cases (st : Store) (o : Owner) (r : TileRecord) :
    (∃ i, st.lowestFree = some i ∧ st.allocate o r = some (i, st.setSlot i (Slot.filling o r))) ∨
    (st.lowestFree = none ∧ st.allocate o r = none) := by
  cases h : st.lowestFree with
  | none => exact .inr ⟨rfl, by simp [Store.allocate, h]⟩
  | some i => exact .inl ⟨i, rfl, by simp [Store.allocate, h]⟩

theorem setSlot_same (st : Store) (i : SlotNo) (x : Slot) : (st.setSlot i x).slots[i] = x := by
  simp [Store.setSlot]

theorem setSlot_other {i j : SlotNo} (h : j ≠ i) (st : Store) (x : Slot) :
    (st.setSlot i x).slots[j] = st.slots[j] := by
  have : i.val ≠ j.val := fun e => h (Fin.ext e.symm)
  simp [Store.setSlot, this]

/-- A slot whose hold ends loses one holder; a RETIRED slot that loses its last one goes to rest (R46). -/
theorem endHold_cases (x : Slot) :
    (x.holders = 0 ∧ x.endHold = x) ∨
    (x.holders = 1 ∧ x.state = .retired ∧ x.endHold = { x with holders := 0 }.rest) ∨
    (0 < x.holders ∧ ¬(x.holders = 1 ∧ x.state = .retired) ∧ x.endHold = { x with holders := x.holders - 1 }) := by
  rcases h : x.holders with _ | _ | n
  · exact .inl ⟨rfl, by simp [Slot.endHold, h]⟩
  · by_cases k : x.state = .retired
    · exact .inr (.inl ⟨rfl, k, by simp [Slot.endHold, h, k]⟩)
    · exact .inr (.inr ⟨by omega, by simp [k], by simp [Slot.endHold, h, k]⟩)
  · exact .inr (.inr ⟨by omega, by omega, by simp [Slot.endHold, h]⟩)

/-- Where a slot at rest goes (R44, R46). -/
theorem rest_cases (x : Slot) :
    (x.pinned = true ∧ x.rest = { x with state := .evidence }) ∨ (x.pinned = false ∧ x.rest = Slot.reset) := by
  rcases h : x.pinned
  · exact .inr ⟨rfl, by simp [Slot.rest, h]⟩
  · exact .inl ⟨rfl, by simp [Slot.rest, h]⟩

/-- Publishing acts on a FILLING slot alone: the tile it follows leaves LATEST first (R44). -/
theorem publish_cases (st : Store) (i : SlotNo) (v : ViewNo) :
    ((st.slots[i]).state ≠ .filling ∧ st.publish i v = st) ∨
    ((st.slots[i]).state = .filling ∧ st.viewMap[v] = none ∧
      st.publish i v = { st.setSlot i ((st.slots[i]).becomeLatest v) with viewMap := st.viewMap.set v (some i) }) ∨
    (∃ p, (st.slots[i]).state = .filling ∧ st.viewMap[v] = some p ∧
      st.publish i v =
        let st1 := st.setSlot p (st.slots[p]).leaveLatest
        { st1.setSlot i ((st1.slots[i]).becomeLatest v) with viewMap := st.viewMap.set v (some i) }) := by
  by_cases h : (st.slots[i]).state = .filling
  · cases k : st.viewMap[v] with
    | none => exact .inr (.inl ⟨h, rfl, by simp only [Store.publish, h, if_true, k]⟩)
    | some p => exact .inr (.inr ⟨p, h, rfl, by simp only [Store.publish, h, if_true, k, Store.setSlot]⟩)
  · exact .inl ⟨h, by simp only [Store.publish, h, if_false]⟩

/-- A pin request is dropped and counted, finds its tile pinned already, or fills the lowest empty position (R49). -/
theorem pinRequest_cases (c : CameraId) (lens : LensCondition) (n : Nat) (s : State) :
    (pinRequest c lens n s = (countStore .pinsDropped s, false) ∧
      (s.store.viewMap[viewOf c 0] = none ∨ Config.pinCapacity ≤ s.store.pinCount ∨
        s.store.emptyPosition = none)) ∨
    (∃ i, s.store.viewMap[viewOf c 0] = some i ∧ (s.store.slots[i]).pinned = true ∧
      pinRequest c lens n s = (s, true)) ∨
    (∃ i k, s.store.viewMap[viewOf c 0] = some i ∧ (s.store.slots[i]).pinned = false ∧
      s.store.pinCount < Config.pinCapacity ∧ s.store.emptyPosition = some k ∧
      pinRequest c lens n s =
        (s.withStore { s.store.setSlot i { s.store.slots[i] with pinned := true } with
          evidence := s.store.evidence.set k (some ⟨i, c, lens, n, s.nodeTime, false⟩) }, true)) := by
  rcases hv : s.store.viewMap[viewOf c 0] with _ | i
  · exact .inl ⟨by simp only [pinRequest, hv], .inl rfl⟩
  · by_cases hp : (s.store.slots[i]).pinned = true
    · exact .inr (.inl ⟨i, rfl, hp, by simp only [pinRequest, hv]; rw [if_pos hp]⟩)
    · have hp' : (s.store.slots[i]).pinned = false := by simpa using hp
      by_cases hc : Config.pinCapacity ≤ s.store.pinCount
      · exact .inl ⟨by simp only [pinRequest, hv]; rw [if_neg hp, if_pos hc], .inr (.inl hc)⟩
      · rcases he : s.store.emptyPosition with _ | k
        · exact .inl ⟨by simp only [pinRequest, hv]; rw [if_neg hp, if_neg hc]; simp only [he], .inr (.inr rfl)⟩
        · exact .inr (.inr ⟨i, k, rfl, hp', Nat.lt_of_not_le hc, rfl, by
            simp only [pinRequest, hv]; rw [if_neg hp, if_neg hc]; simp only [he]; rfl⟩)

/-- Releasing a position that is empty does nothing; otherwise its slot loses its pin mark and it empties (R51). -/
theorem release_cases (st : Store) (k : Fin 4) :
    (st.evidence[k] = none ∧ st.release k = st) ∨
    (∃ e, st.evidence[k] = some e ∧
      st.release k =
        { st.setSlot e.slot (st.slots[e.slot]).unpin with evidence := st.evidence.set k none }) := by
  rcases h : st.evidence[k] with _ | e
  · exact .inl ⟨rfl, by simp only [Store.release, h]⟩
  · exact .inr ⟨e, rfl, by simp only [Store.release, h]⟩

end Sys2Proof.Machine
end

