-- ==== Sys2Proof/Tests/Slice0.lean ====
section
/-! SUPPORT. Tests by evaluation: what WellFormed refuses, one step of each command against the spec's own figures,
and for each statement with hypotheses a state and operands that meet them. -/

open Sys2Proof Sys2Proof.Machine

namespace Sys2Proof.Tests

set_option Elab.async false

/-! ### WellFormed -/

theorem test_short_cell_is_refused : Instr.wellFormed (.beacon .a [1, 2, 3]) = false := by decide

theorem test_full_cell_is_accepted : Instr.wellFormed (.beacon .a (fillCell false)) = true := by decide

theorem test_unfit_chroma_is_refused : Instr.wellFormed (.frameEnd 0 ⟨[[1, 2]], [[3, 4]], [[5]]⟩) = false := by decide

theorem test_missing_chroma_line_is_refused : Instr.wellFormed (.sample 0 ⟨[[1, 2]], [[3]], []⟩) = false := by decide

theorem test_oversized_frame_start_is_refused :
    Instr.wellFormed (.frameStart 0 ⟨⟨0, 1, 0, false, false⟩, true, 65536, 48⟩) = false := by decide

theorem test_normal_probe_with_distance_is_refused :
    Instr.wellFormed (.probeEnd 0 ⟨.normal, some 3⟩) = false := by decide

theorem test_open_probe_without_distance_is_refused :
    Instr.wellFormed (.probeEnd 0 ⟨.openCable, none⟩) = false := by decide

theorem test_short_memory_read_is_refused : Instr.wellFormed (.cellTime ⟨none, some [1]⟩) = false := by decide

theorem test_no_word_spells_a_command : decodeTableWord 8 0 = none := by decide

/-! ### Small states -/

/-- The reset state with camera port 0 in a link state, and a frame open or not. -/
def withLink (l : CameraLink) (f : Option OpenFrame) : State :=
  State.reset.withCam 0 { CameraPort.reset with link := l, openFrame := f }

/-- A frame of 8 columns and 6 lines that is open, and its head with a size that R4 lets through. -/
def smallFrame : OpenFrame := ⟨⟨7, 100, 20, false, false⟩, 8, 6, false, 0⟩

/-- A frame head at the least size and at the ends of the ranges of R4. -/
def leastHead : FrameHead := ⟨⟨7, 1, 96, false, false⟩, true, 64, 48⟩

/-- A picture of one luma value for the small frame. -/
def flat (b : Byte) : Picture :=
  ⟨List.replicate 6 (List.replicate 8 b), List.replicate 6 (List.replicate 4 128), List.replicate 6 (List.replicate 4 128)⟩

/-- Camera port 0 LOCKED with the small frame open, its health record and its sample interval 1. -/
def taking (h : Health) : State :=
  ((withLink .locked (some smallFrame)).withHealth 0 h).withTables
    { Tables.reset with cameraConfig := Tables.reset.cameraConfig.set 0 ⟨true, true, 1, false, 72⟩ }

/-- The reset state with trunk port A as given. -/
def portA (t : Trunk) : State := State.reset.withTrunk .a t

/-- Trunk port A in UP, nothing waiting there. -/
def upA : State := portA { Trunk.reset with link := .up }

/-- A COMMAND cell for node 1 with a code and arguments. -/
def commandCell (code : Byte) (args : List Byte) : Cell := sealCell (mkCell [0x30, 1, 9, code] args)

/-- The reset state with one COMMAND at the head of the agent's queue. -/
def asked (code : Byte) (args : List Byte) : State :=
  State.reset.withAgent { Agent.reset with queue := [⟨.a, commandCell code args⟩] }

/-- The same with a table selected. -/
def writing (t : Table) (pointer : Nat) (args : List Byte) : State :=
  State.reset.withAgent
    { Agent.reset with queue := [⟨.a, commandCell 2 args⟩], window := some t, pointer := pointer }

/-! ### Witnesses: the machine and its invariants -/

theorem witness_StepRunsTheCommandInFront :
    ({ State.reset with pending := [.beaconPeriod, .pulseEnd] } : State).pending = .beaconPeriod :: [.pulseEnd] := by
  decide

theorem witness_TheClockBringsWhatIsDue : State.reset.pending = [] := by decide

theorem witness_UnknownCommandsAreAnswered :
    let c : AgentCommand := ⟨.a, commandCell 99 []⟩
    let d : AgentCommand := ⟨.b, commandCell 14 []⟩
    let s := State.reset.withAgent { Agent.reset with queue := [c, d] }
    s.pending = [] ∧ s.agent.queue = [c, d] ∧ c.name = none ∧ d.name = some .setMode := by
  decide +kernel

/-- A state with a command in front, which every law holds in. -/
def ready : State := { State.reset with pending := [.beaconPeriod] }

theorem ready_steps : ∃ t : State, step ready = .next t := ⟨_, rfl⟩

theorem witness_StepKeepsCapacities : ready.causesOk ∧ ready.windowOk ∧ ready.queuesOk := by
  refine ⟨⟨by decide, List.Pairwise.nil⟩, ?_, ?_, by decide⟩
  · intro t h; cases h
  · intro p; cases p <;> decide

theorem witness_StepKeepsSendLists : ready.sendsOk := by
  intro p; cases p <;> exact ⟨by decide, List.Pairwise.nil⟩

theorem ready_routes (i : Fin 128) : ready.tables.route[i] = none := by
  simp [ready, State.reset, Tables.reset]

theorem ready_contexts (k : ContextNo) : ready.router.contexts[k] = none := by
  simp [ready, State.reset]

theorem witness_StepKeepsStreams : ready.routesOk ∧ ready.contextsOk := by
  refine ⟨?_, ?_⟩
  · intro i e h; rw [ready_routes] at h; cases h
  · intro j k x y h; rw [ready_contexts] at h; cases h

theorem witness_StepKeepsCoverage : ready.coverageOk := ⟨by decide +kernel, by decide +kernel⟩

theorem witness_StepKeepsLensRatings : ∀ p : CamPort, ready.lensOk p := by
  intro p
  simp [State.lensOk, ready, State.reset, Health.reset, Zone.reset, Tables.reset, LensParams.reset, LensParams.valid]

theorem ready_slots (i : SlotNo) : ready.store.slots[i] = Slot.reset := by
  simp [ready, State.reset, Store.reset]

theorem ready_map : ready.store.mapOk := by
  intro i
  simp [ready, State.reset, Store.reset, Slot.reset]

theorem witness_StepKeepsTheAlarmCount : ready.alarmOk := ⟨ready_map, by decide⟩

theorem ready_timers : ready.timersOk := by
  intro p
  simp [CameraPort.timersOk, ready, State.reset, CameraPort.reset]

theorem witness_StepKeepsCameraPorts : ready.timersOk ∧ ready.pictureOk := by
  refine ⟨ready_timers, ?_⟩
  intro p
  simp [ready, State.reset, CameraPort.reset, Health.reset]

theorem witness_StepKeepsPower : ready.powerOk := by
  refine ⟨?_, by decide, by decide⟩
  decide

theorem witness_StepKeepsHeadRole : ready.candidacyOk ∧ ready.headOk := by
  refine ⟨by rfl, ?_⟩
  intro h; exact absurd h (by decide)

theorem witness_StepKeepsTheModesRules : ready.modeOk := by
  refine ⟨fun h => absurd rfl h, ?_⟩
  intro h; exact absurd h (by decide)

theorem witness_StepKeepsOutputs : ready.outputsOk := by
  intro sc
  simp [ready, State.reset, Compositor.reset]

theorem witness_StepKeepsTheStore : ready.storeOk ∧ ready.sendsOk := by
  refine ⟨⟨fun i => ⟨?_, ?_, ?_⟩, ?_, ?_, ?_, ready_map, ready_timers⟩, witness_StepKeepsSendLists⟩
  · have h := ready_slots i
    simp only [State.slotOk]
    rw [h]; simp [Slot.reset]
  · rw [ready_slots]; simp [State.holdsOn, ready, State.reset, Compositor.reset, Output.held, Trunk.reset, Slot.reset]
  · rw [ready_slots]; simp [ready, State.reset, Store.reset, Slot.reset]
  · intro p r pr h; simp [ready, State.reset, Engine.reset] at h
  · intro k c h; rw [ready_contexts] at h; cases h
  · intro j k d e h; simp [ready, State.reset, Store.reset] at h


/-! ### Witnesses: encodings and arithmetic -/

theorem witness_AnEntryReadsBackAsItWasWritten :
    (readTilePlan (padTo 54 TilePlan.reset.bytes)).isSome = true ∧ (readCameraConfig (padTo 54 CameraConfig.reset.bytes)).isSome = true
      ∧ (readLensParams (padTo 54 LensParams.reset.bytes)).isSome = true
      ∧ readReference (padTo 54 (referenceBytes (some 255))) = some (some 255)
      ∧ readReference (padTo 54 (referenceBytes none)) = some none ∧ readWeight (padTo 54 [3]) = some 3
      ∧ (readDoor (padTo 54 [31, 1])).isSome = true ∧ (readRule (padTo 54 Rule.reset.bytes)).isSome = true
      ∧ readLayoutHeader (padTo 54 [9]) = some 9 ∧ (readPane (padTo 54 Pane.reset.bytes)).isSome = true
      ∧ (readOutputConfig (padTo 54 OutputConfig.reset.bytes)).isSome = true
      ∧ (readNodeParams (padTo 54 NodeParams.reset.bytes)).isSome = true := by
  decide +kernel

theorem witness_ATileHeadIsReadAsItWasFormed :
    tileSizeOk 640 360 = true ∧ tileSizeOk 64 48 = true
      ∧ (⟨0, .arrived 0 0, .live, .blocked, 144⟩ : Stamp).coverage ≤ 144 := by
  decide

/-- A picture of 16 columns and 12 lines. -/
def board : Picture :=
  ⟨List.replicate 12 (List.replicate 16 90), List.replicate 12 (List.replicate 8 60), List.replicate 12 (List.replicate 8 200)⟩

theorem witness_MeansRoundHalfUp :
    2 * 3 = 2 * (2 * 1 + 1) ∧ (0 < 4 ∧ 4 % 2 = 0 ∧ 4 ≤ 6 ∧ 3 ≤ 5 ∧ 2 % 2 = 0 ∧ 6 % 2 = 0)
      ∧ 7 + 5 ≤ board.luma.length ∧ 7 + 5 ≤ board.cb.length ∧ 7 + 5 ≤ board.cr.length
      ∧ (∀ l ∈ board.luma, 2 + 6 ≤ l.length) ∧ (∀ l ∈ board.cb, (2 + 6) / 2 ≤ l.length)
      ∧ (∀ l ∈ board.cr, (2 + 6) / 2 ≤ l.length) := by
  decide

theorem witness_CropsAreClippedToTheFrame :
    let e := TilePlan.reset
    (e.outW ≤ e.cropW ∧ e.outH ≤ e.cropH ∧ e.outW ≤ 640 ∧ e.outH ≤ 360)
      ∧ e.cropX + e.outW ≤ min (e.cropX + e.cropW) 640
      ∧ (let g := { e with cropX := 320, cropY := 180 }
         min (g.cropX + g.cropW) 640 < g.cropX + g.outW ∧ min (g.cropY + g.cropH) 360 < g.cropY + g.outH) := by
  decide

/-! ### Witnesses: the tile store, causes, the selector -/

/-- A record of a 64 × 48 tile, complete. -/
def record : TileRecord := ⟨5, 1, 64, 48, false, 7, some ⟨0, .captured 0, .live, .clean, 0⟩⟩

/-- A store with slot 0 FILLING for a production and slot 1 as the LATEST of view 0. -/
def shown (holders : Nat) (pinned : Bool) : Store := { Store.reset with
  slots := (Store.reset.slots.set 0 ⟨.filling, .production 0, none, 0, false, false, some record, []⟩).set 1
    ⟨.latest, .none, some 0, holders, pinned, false, some record, []⟩
  viewMap := Store.reset.viewMap.set 0 (some 1) }

theorem witness_APublishIsOneStep :
    ((shown 0 false).slots[(0 : SlotNo)]).state = .filling ∧ (shown 0 false).viewMap[(0 : ViewNo)] = some 1
      ∧ (shown 1 true).viewMap[(0 : ViewNo)] = some 1 := by
  decide +kernel

theorem shown_map : (shown 0 true).mapOk := by
  unfold Store.mapOk
  decide +kernel

theorem witness_HoldsComeAndGoByTheSlotsState :
    ((shown 0 true).slots[(1 : SlotNo)]).holders = 0 ∧ ((shown 1 true).slots[(1 : SlotNo)]).holders = 0 + 1
      ∧ ((shown 0 true).slots[(1 : SlotNo)]).state ≠ .retired := by
  decide +kernel

/-- The causes of the memory errors of slots 0 to 23: a full set. -/
def fullSet : List Cause := (List.range 24).map fun n => ⟨.memoryError, n, false⟩

theorem witness_ACauseJoinsTheSet :
    (∀ d ∈ fullSet, ¬ (d.kind = .cameraLink ∧ d.subject = 0))
      ∧ (∃ d ∈ [(⟨.lensChange, 0, false⟩ : Cause)], d.kind = .lensChange ∧ d.subject = 0)
      ∧ fullSet.length = 24 ∧ fullSet.Pairwise fun d e => ¬ (d.kind = e.kind ∧ d.subject = e.subject) := by
  decide +kernel

theorem witness_ANoticeFollowsAChangeOfTheSet :
    let s := ({ State.reset with controllerSide := some .a } : State).withTrunk .a
      { Trunk.reset with control := List.replicate 30 [] }
    (joinCause ⟨.cameraLink, 0, false⟩ s.agent.causes s.agent.overflow).changed = true ∧ s.agent.armed = true
      ∧ s.controllerSide = some .a ∧ (s.trunk.get .a).control.length + 2 ≤ 32
      ∧ State.reset.controllerSide = none := by
  decide +kernel

/-- The reset state with screen 0 on a layout, by its urgency and hold, at 100 ms. -/
def screenOn (layout : LayoutNo) (urgency hold : Nat) : State :=
  ({ State.reset with nodeTime := 1000 } : State).withSelection 0 ⟨layout, urgency, 0, hold, none⟩

/-- The same with the record fresh and rule 0 of screen 0 asking for layout 2, SPEED ≥ 0. -/
def ruled (layout : LayoutNo) (urgency hold : Nat) : State :=
  { screenOn layout urgency hold with
    vehicle := { Vehicle.reset with fresh := true }
    tables := { Tables.reset with
      rules := Tables.reset.rules.set 0 ((Vector.replicate 16 Rule.reset).set 0
        { Rule.reset with enabled := true, condA := ⟨0, 0, 2, 0⟩, layout := 2, urgency := 1, hold := 5 }) } }

theorem witness_AnEvaluationSwitchesOrHolds :
    ((screenOn 0 3 0).wanted 0).layout = ((screenOn 0 3 0).selection[(0 : Screen)]).layout
      ∧ (screenOn 0 3 0).vehicle.fresh = false
      ∧ ((screenOn 1 3 2).wanted 0).layout ≠ 1 ∧ ((screenOn 1 3 2).wanted 0).urgency ≤ 3
      ∧ ((screenOn 1 3 2).nodeTime - 0).toNat < 1000 * 2 ∧ 1000 * 1 ≤ ((screenOn 1 3 1).nodeTime - 0).toNat
      ∧ (ruled 0 0 0).vehicle.fresh = true ∧ (ruled 0 0 0).ruleHolds ((ruled 0 0 0).tables.rules[(0 : Screen)])[(0 : Fin 16)] = true
      ∧ ∀ i : Fin 16, (ruled 0 0 0).ruleHolds ((ruled 0 0 0).tables.rules[(1 : Screen)])[i] = false := by
  decide +kernel

theorem witness_RulesHoldByTheirConditions :
    let s : State := { State.reset with
      vehicle := { Vehicle.reset with doors := Vehicle.reset.doors.set 15 .unknown, release := .both } }
    let c (field operand : Byte) : Condition := ⟨field, operand, 7, 0⟩
    let r : Rule := { Rule.reset with enabled := true }
    (c 2 16).operand.toNat = (15 : Fin 16).val + 1
      ∧ ([.closedLocked, .released, .opening, .opened, .closing, .obstructed, .fault, .unknown] : List DoorState)[7]?
        = some s.vehicle.doors[(15 : Fin 16)]
      ∧ ([.none, .side1, .side2, .both] : List Release)[3]? = some s.vehicle.release
      ∧ (c 0 0).field = 0 ∧ (c 1 0).field = 1 ∧ (c 3 3).field = 3 ∧ (c 4 1).field = 4 ∧ (c 5 2).field = 5
      ∧ (c 6 0).field = 6 ∧ (c 7 0).field = 7
      ∧ Rule.reset.enabled = false ∧ (r.enabled = true ∧ r.hasB = false)
      ∧ (let both : Rule := { r with hasB := true }
         both.enabled = true ∧ both.hasB = true ∧ both.join = 0 ∧ { both with join := 1 }.join = 1) := by
  decide +kernel

/-! ### Witnesses: tile engine and camera ports -/

/-- A tile in production for rendition 0 of port 0, in slot 0, and that slot. -/
def inHand : Production :=
  ⟨0, { TilePlan.reset with enabled := true, localUse := true, outW := 8, outH := 6 }, ⟨0, 0, 8, 6⟩⟩

/-- The slot that tile fills. -/
def filling : Slot :=
  ⟨.filling, .production 0, none, 0, false, false, some { record with stamp := none }, []⟩

/-- Camera port 0 LOCKED with the small frame open, and that tile in production. -/
def producing : State :=
  let port : CameraPort :=
    { CameraPort.reset with link := .locked, openFrame := some smallFrame, stallTimer := some 2000 }
  let engine : Engine := { Engine.reset with productions := Engine.reset.productions.set 0 (some inHand) }
  let store : Store := { Store.reset with slots := Store.reset.slots.set 0 filling }
  ((State.reset.withCam 0 port).withEngine engine).withStore store

theorem producing_plan (p : CamPort) (r : Fin 2) :
    producing.engine.productions[planOf p r] = if p = 0 ∧ r = 0 then some inHand else none := by
  revert p r
  decide +kernel

theorem producing_slots (i : SlotNo) : producing.store.slots[i] = if i = 0 then filling else Slot.reset := by
  revert i
  decide +kernel

theorem producing_productions : producing.productionsOk := by
  intro p r pr e
  rw [producing_plan] at e
  split at e
  · next k =>
    obtain ⟨rfl, rfl⟩ := k
    cases e
    decide +kernel
  · cases e

theorem witness_ABadFrameEndAbandonsItsTiles :
    producing.productionsOk ∧ producing.engine.productions[planOf 0 0] = some inHand :=
  ⟨producing_productions, by decide +kernel⟩

theorem producing_store : producing.storeOk := by
  have hv : ∀ v : ViewNo, producing.store.viewMap[v] = none := by decide +kernel
  have he : ∀ k : Fin 4, producing.store.evidence[k] = none := by decide +kernel
  have hc : ∀ k : ContextNo, producing.router.contexts[k] = none := by decide +kernel
  have hh : ∀ i : SlotNo, producing.holdsOn i = 0 := by intro i; rfl
  refine ⟨fun i => ⟨?_, ?_, ?_⟩, producing_productions, ?_, ?_, ?_, ?_⟩
  · have h := producing_slots i
    simp only [State.slotOk]
    rw [h]
    by_cases k : i = 0
    · subst k
      exact ⟨rfl, rfl, rfl, rfl, inHand, by decide +kernel, rfl⟩
    · simp [k, Slot.reset]
  · rw [hh, producing_slots]
    by_cases k : i = 0 <;> simp [k, Slot.reset, filling]
  · rw [producing_slots]
    by_cases k : i = 0 <;> simp [k, Slot.reset, filling, he]
  · intro k c h; rw [hc] at h; cases h
  · intro j k d e h; rw [he] at h; cases h
  · intro i
    rw [producing_slots]
    by_cases k : i = 0 <;> simp [k, Slot.reset, filling, hv]
  · have h : ∀ p : CamPort,
        ((producing.cams[p]).lockTimer ≠ none ↔ (producing.cams[p]).link = .waking)
          ∧ ((producing.cams[p]).stallTimer ≠ none ↔ (producing.cams[p]).link = .locked)
          ∧ ((producing.cams[p]).retryTimer ≠ none ↔ (producing.cams[p]).link = .lost)
          ∧ ((producing.cams[p]).probeLimit ≠ none ↔ (producing.cams[p]).link = .testing)
          ∧ ((producing.cams[p]).openFrame ≠ none → (producing.cams[p]).listens = true) := by
      decide +kernel
    exact h

/-- The reset state with a plan for rendition 0 of port 0: a whole 64 × 48 frame, each second frame. -/
def planned : State := State.reset.withTables { Tables.reset with
  tilePlan := Tables.reset.tilePlan.set 0 ⟨true, 0, 0, 64, 48, 64, 48, false, 2, 5, true, false⟩ }

theorem witness_ATileIsBegunInTheLowestFreeSlot :
    let plan := planned.tables.tilePlan[planOf 0 0]
    planned.mode = .run ∧ plan.enabled = true ∧ plan.localUse = true ∧ 0 % plan.divisor = 0 ∧ ¬ 1 % plan.divisor = 0
      ∧ plan.outW ≤ 64 ∧ plan.outH ≤ 48 ∧ ¬ plan.outW ≤ 62
      ∧ (planned.store.slots[(0 : SlotNo)]).state = .free
      ∧ (∀ j : SlotNo, j < 0 → (planned.store.slots[j]).state ≠ .free)
      ∧ (let full : Store := { Store.reset with slots := Vector.replicate 64 ⟨.latest, .none, none, 0, false, false, none, []⟩ }
         ∀ i : SlotNo, (full.slots[i]).state ≠ .free) := by
  decide +kernel

theorem witness_AFrameStartIsDelivered :
    ((withLink .locked none).cams[(0 : CamPort)]).link = .locked
      ∧ ((withLink .locked none).cams[(0 : CamPort)]).openFrame = none ∧ leastHead.recordOk = true
      ∧ 1 ≤ leastHead.record.exposure ∧ leastHead.record.exposure ≤ 40000 ∧ leastHead.record.gain ≤ 96
      ∧ leastHead.width % 2 = 0 ∧ 64 ≤ leastHead.width ∧ leastHead.width ≤ 1920 ∧ 48 ≤ leastHead.height
      ∧ leastHead.height ≤ 1080 := by
  decide

theorem witness_FramesOutsideLockedAreNotDelivered :
    let s := withLink .waking (some smallFrame)
    (s.cams[(0 : CamPort)]).link = .waking ∧ FrameHead.passes leastHead = true
      ∧ FrameHead.passes { leastHead with width := 62 } = false ∧ (s.cams[(0 : CamPort)]).openFrame = some smallFrame
      ∧ smallFrame.goodWith ⟨[], [], []⟩ = false ∧ ((withLink .off none).cams[(0 : CamPort)]).link = .off := by
  decide

theorem witness_ALockedPortIsLost :
    let s := (withLink .locked (some smallFrame)).withCam 0
      { CameraPort.reset with link := .locked, openFrame := some smallFrame, stallTimer := some 0 }
    (s.cams[(0 : CamPort)]).link = .locked ∧ s.survey.port ≠ some 0
      ∧ due s.nodeTime (s.cams[(0 : CamPort)]).stallTimer = true ∧ (s.cams[(0 : CamPort)]).openFrame = some smallFrame
      ∧ FrameHead.passes { leastHead with height := 46 } = false ∧ smallFrame.goodWith ⟨[], [], []⟩ = false := by
  decide

theorem witness_PortTimersMoveTheLink :
    let s := State.reset.withCam 0 { CameraPort.reset with link := .waking, lockTimer := some 0 }
    let u := State.reset.withCam 0 { CameraPort.reset with link := .lost, retryTimer := some 0 }
    ((s.cams[(0 : CamPort)]).link = .waking ∧ due s.nodeTime (s.cams[(0 : CamPort)]).lockTimer = true
        ∧ s.survey.port ≠ some 0)
      ∧ ((u.cams[(0 : CamPort)]).link = .lost ∧ due u.nodeTime (u.cams[(0 : CamPort)]).retryTimer = true)
      ∧ due s.nodeTime (s.cams[(0 : CamPort)]).stallTimer = false := by
  decide

theorem witness_TheSwitchTrips :
    ((withLink .off none).cams[(0 : CamPort)]).link = .off ∧ ((withLink .locked none).cams[(0 : CamPort)]).link = .locked
      ∧ (withLink .locked none).survey.port ≠ some 0 := by
  decide

theorem witness_TheProbeEndsTheCableCheck :
    ((withLink .testing none).cams[(0 : CamPort)]).link = .testing ∧ (withLink .testing none).survey.port ≠ some 0
      ∧ ((withLink .off none).cams[(0 : CamPort)]).link ≠ .testing
      ∧ due (300 : NodeTime) ((some 300 : Option NodeTime).map fun b => b + 1) = false
      ∧ due (301 : NodeTime) ((some 300 : Option NodeTime).map fun b => b + 1) = true := by
  decide

theorem witness_TheFirstGoodFrameLocks :
    let s := withLink .waking (some smallFrame)
    (s.cams[(0 : CamPort)]).link = .waking ∧ (s.cams[(0 : CamPort)]).openFrame = some smallFrame
      ∧ (flat 100).luma.length = smallFrame.height ∧ (∀ l ∈ (flat 100).luma, l.length = smallFrame.width)
      ∧ s.survey.port ≠ some 0
      ∧ (let u : State := { s with mode := .standby, survey := ⟨.waitLock, none, some 0, 0⟩ }
         u.survey.port = some 0 ∧ u.survey.phase = .waitLock) := by
  decide

/-! ### Witnesses: frames taken in LOCKED -/

/-- A health record LIVE, with a lens condition. -/
def live (lens : LensCondition) : Health := { Health.reset lens with picture := .live }

theorem taking_takes (h : Health) (b : Byte) (k : h.relearnHold = false) :
    (taking h).takesFrame 0 smallFrame (flat b) := by
  refine ⟨rfl, rfl, rfl, ?_, ?_⟩
  · intro e; cases e
  · simpa [taking, State.withHealth, State.withTables, withLink] using k

theorem witness_AGoodFrameIsTaken :
    (taking (live .noReference)).takesFrame 0 smallFrame (flat 100)
      ∧ (taking (live .noReference)).engine.productions[planOf 0 0] = none
      ∧ (taking (live .noReference)).engine.productions[planOf 0 1] = none
      ∧ ((taking (live .noReference)).health[(0 : CamPort)]).lens = .noReference :=
  ⟨taking_takes _ _ rfl, by decide, by decide, by decide⟩

theorem witness_ZonesAreMeasured : smallFrame.goodWith (flat 100) = true ∧ leastHead.width = 64 := by decide

theorem witness_AFullRunFreezesOrDarkensThePicture :
    let h : Health := { live .noReference with
      sameRun := 24, darkRun := 9, prevSignature := some (smallFrame.statsOf (flat 0)).signature }
    (taking h).takesFrame 0 smallFrame (flat 0)
      ∧ ((taking h).health[(0 : CamPort)]).prevSignature = some (smallFrame.statsOf (flat 0)).signature
      ∧ ((taking h).health[(0 : CamPort)]).sameRun = 24 ∧ ((taking h).health[(0 : CamPort)]).darkRun = 9
      ∧ (∀ z : ZoneNo, (smallFrame.statsOf (flat 0)).mean[z] < ((taking h).tables.lensParams[(0 : CamPort)]).darkLevel)
      ∧ ((taking (live .noReference)).health[(0 : CamPort)]).sameRun < 24 := by
  refine ⟨taking_takes _ _ rfl, ?_, by decide, by decide, by decide +kernel, by decide⟩
  rfl

theorem witness_TheTileOfAGoodFrameIsPublished :
    producing.takesFrame 0 smallFrame (flat 100) ∧ producing.storeOk
      ∧ producing.engine.productions[planOf 0 0] = some inHand ∧ producing.engine.productions[planOf 0 1] = none
      ∧ (producing.store.slots[inHand.slot]).record = some { record with stamp := none } ∧ inHand.plan.send = false
      ∧ (producing.health[(0 : CamPort)]).lens = .noReference :=
  ⟨⟨by decide, by decide, by rfl, by decide, by decide⟩, producing_store, by decide +kernel, by decide +kernel,
    by decide +kernel, by decide, by decide⟩

theorem witness_AUsableSampleIsScored :
    let s := taking (live .clean)
    s.takesFrame 0 smallFrame (flat 100) ∧ (s.health[(0 : CamPort)]).lens = .clean
      ∧ (s.tables.cameraConfig[(0 : CamPort)]).interval ≤ (s.health[(0 : CamPort)]).sampleCount + 1
      ∧ (∀ r : Fin 2, s.engine.productions[planOf 0 r] = none)
      ∧ s.usableSample 0 (s.runsAfter 0 (smallFrame.statsOf (flat 100))).picture (smallFrame.statsOf (flat 100)) := by
  refine ⟨taking_takes _ _ rfl, by decide, by decide, by decide, ?_⟩
  unfold State.usableSample
  decide +kernel

theorem witness_AnUnusableSampleIsCounted :
    let s := taking { live .clean with unusableRun := 299 }
    s.takesFrame 0 smallFrame (flat 0) ∧ (s.health[(0 : CamPort)]).lens = .clean
      ∧ (s.health[(0 : CamPort)]).unusableRun = 299
      ∧ (s.tables.cameraConfig[(0 : CamPort)]).interval ≤ (s.health[(0 : CamPort)]).sampleCount + 1
      ∧ ¬ s.usableSample 0 (s.runsAfter 0 (smallFrame.statsOf (flat 0))).picture (smallFrame.statsOf (flat 0))
      ∧ ((taking (live .learning)).health[(0 : CamPort)]).lens = .learning := by
  refine ⟨taking_takes _ _ rfl, by decide, by decide, by decide, ?_, by decide⟩
  unfold State.usableSample
  decide +kernel

theorem witness_UsableSamplesAreLearned :
    let s := taking { live .learning with progress := 31 }
    s.takesFrame 0 smallFrame (flat 100) ∧ (s.health[(0 : CamPort)]).lens = .learning
      ∧ 31 ≤ (s.health[(0 : CamPort)]).progress ∧ ((taking (live .learning)).health[(0 : CamPort)]).progress < 31
      ∧ (s.tables.cameraConfig[(0 : CamPort)]).interval ≤ (s.health[(0 : CamPort)]).sampleCount + 1
      ∧ s.usableSample 0 (s.runsAfter 0 (smallFrame.statsOf (flat 100))).picture (smallFrame.statsOf (flat 100)) := by
  refine ⟨taking_takes _ _ rfl, by decide, by decide, by decide, by decide, ?_⟩
  unfold State.usableSample
  decide +kernel

/-- A port under a relearn hold, one usable sample before the end of its learning, enabled or not. -/
def relearning (enabled : Bool) : State :=
  (taking { live .learning with relearnHold := true, progress := 31 }).withTables
    { Tables.reset with cameraConfig := Tables.reset.cameraConfig.set 0 ⟨enabled, true, 1, false, 72⟩ }

theorem witness_ARelearnHoldEndsWithItsLearning (enabled : Bool) :
    let s := relearning enabled
    (s.cams[(0 : CamPort)]).link = .locked ∧ (s.cams[(0 : CamPort)]).openFrame = some smallFrame
      ∧ smallFrame.goodWith (flat 100) = true ∧ s.survey.port ≠ some 0 ∧ (s.health[(0 : CamPort)]).relearnHold = true
      ∧ (s.health[(0 : CamPort)]).lens = .learning ∧ 31 ≤ (s.health[(0 : CamPort)]).progress
      ∧ (s.tables.cameraConfig[(0 : CamPort)]).interval ≤ (s.health[(0 : CamPort)]).sampleCount + 1
      ∧ s.usableSample 0 (s.runsAfter 0 (smallFrame.statsOf (flat 100))).picture (smallFrame.statsOf (flat 100))
      ∧ (s.mode = .run ∧ (s.tables.cameraConfig[(0 : CamPort)]).enabled = enabled) := by
  refine ⟨rfl, rfl, rfl, (fun e => by cases e), rfl, rfl, by cases enabled <;> decide, by cases enabled <;> decide, ?_,
    rfl, by cases enabled <;> rfl⟩
  unfold State.usableSample
  cases enabled <;> decide +kernel

theorem witness_APinRequestIsTaken :
    State.reset.store.viewMap[viewOf 0 0] = none ∧ (shown 0 false).viewMap[viewOf 0 0] = some 1
      ∧ ((shown 0 false).slots[(1 : SlotNo)]).pinned = false ∧ ((shown 0 true).slots[(1 : SlotNo)]).pinned = true
      ∧ (shown 0 false).evidence[(0 : Fin 4)] = none ∧ ∀ j : Fin 4, j < 0 → (shown 0 false).evidence[j] ≠ none := by
  decide +kernel

theorem witness_LearningFailsAtItsDeadline :
    let s := State.reset.withHealth 0 { live .learning with deadline := some 0, keptAside := some .smeared }
    (s.health[(0 : CamPort)]).lens = .learning ∧ due s.nodeTime (s.health[(0 : CamPort)]).deadline = true
      ∧ (s.health[(0 : CamPort)]).keptAside = some .smeared ∧ (s.health[(0 : CamPort)]).relearnHold = false
      ∧ (let u := ({ withLink .waking none with mode := .standby } : State).withHealth 0
            { live .learning with deadline := some 0, keptAside := some .clean, relearnHold := true }
         (u.health[(0 : CamPort)]).relearnHold = true ∧ u.mode = .standby ∧ u.survey.port ≠ some 0
          ∧ (u.cams[(0 : CamPort)]).power = true
          ∧ ({ u with survey := ⟨.waitLock, none, some 0, 0⟩ } : State).survey.port = some 0)
      ∧ (∀ l : CameraLink,
        let held := (withLink l (some smallFrame)).withHealth 0
          { live .learning with deadline := some 0, keptAside := some .clean, relearnHold := true }
        held.mode = .run ∧ (held.cams[(0 : CamPort)]).link = l ∧ (held.health[(0 : CamPort)]).relearnHold = true
          ∧ (held.tables.cameraConfig[(0 : CamPort)]).enabled = false ∧ held.survey.port ≠ some 0) := by
  refine ⟨by decide, by decide, by decide, by decide, by decide, fun l => ?_⟩
  cases l <;> decide

/-! ### Witnesses: the survey -/

/-- A node in STANDBY whose survey is due, with port 0 in a link state and the one member. -/
def surveyed (l : CameraLink) (v : Survey) : State := { withLink l (some smallFrame) with
  mode := .standby
  survey := v
  tables := { Tables.reset with cameraConfig := Tables.reset.cameraConfig.set 0 ⟨false, true, 1, false, 72⟩ } }

theorem witness_ASurveyStartsAtItsDueTime :
    (let s := { State.reset with mode := .standby, survey := ⟨.idle, some 0, none, 0⟩ }
     s.mode = .standby ∧ s.survey.phase = .idle ∧ due s.nodeTime s.survey.due = true
      ∧ ∀ p : CamPort, (s.tables.cameraConfig[p]).surveyMember = false)
      ∧ (let u := surveyed .locked ⟨.idle, some 0, none, 0⟩
         (u.tables.cameraConfig[(0 : CamPort)]).surveyMember = true ∧ (u.cams[(0 : CamPort)]).link = .locked
          ∧ ∀ q : CamPort, q < 0 → (u.tables.cameraConfig[q]).surveyMember = false) := by
  decide +kernel

theorem witness_TheSurveyCountsItsFrames :
    let s := surveyed .locked ⟨.skip, some 0, some 0, 7⟩
    let u := surveyed .locked ⟨.burst, some 0, some 0, 15⟩
    (s.cams[(0 : CamPort)]).link = .locked ∧ (s.cams[(0 : CamPort)]).openFrame = some smallFrame
      ∧ smallFrame.goodWith (flat 100) = true ∧ s.survey.port = some 0 ∧ s.mode = .standby
      ∧ (s.health[(0 : CamPort)]).relearnHold = false ∧ 7 ≤ s.survey.count ∧ s.survey.phase = .skip
      ∧ u.survey.phase = .burst ∧ 15 ≤ u.survey.count
      ∧ ∀ q : CamPort, 0 < q → (u.tables.cameraConfig[q]).surveyMember = false := by
  decide +kernel

/-- The same with every port a member: port 1 TESTING, so passed over, port 2 OFF, so taken next. -/
def surveyedOn (l : CameraLink) (x : CameraPort) : State := { surveyed l ⟨.skip, some 0, some 0, 3⟩ with
  cams := ((surveyed l ⟨.skip, some 0, some 0, 3⟩).cams.set 0 x).set 1 { CameraPort.reset with link := .testing }
  tables := { Tables.reset with cameraConfig := Vector.replicate 4 ⟨false, true, 1, false, 72⟩ } }

theorem surveyedOn_next (x : CameraPort) : (surveyedOn .locked x).surveyTakesNext 0 2 := by
  refine ⟨by decide, ?_, ?_⟩
  · simp [State.surveyPasses, surveyedOn, surveyed, withLink, State.withCam, State.reset, CameraPort.reset]
  · intro r a b
    have e : r = 1 := by
      have a1 : (0 : CamPort).val < r.val := a
      have b1 : r.val < (2 : CamPort).val := b
      apply Fin.ext
      simp at a1 b1 ⊢
      omega
    subst e
    simp [State.surveyPasses, surveyedOn, surveyed, withLink, State.withCam]

theorem witness_TheSurveyLeavesItsPort :
    let x (l : CameraLink) : CameraPort :=
      { CameraPort.reset with link := l, openFrame := some smallFrame, lockTimer := some 0, stallTimer := some 0 }
    let s (l : CameraLink) := surveyedOn l (x l)
    (s .locked).mode = .standby ∧ (s .locked).survey.port = some 0 ∧ (s .locked).surveyTakesNext 0 2
      ∧ ((s .locked).cams[(2 : CamPort)]).link = .off
      ∧ ((s .waking).cams[(0 : CamPort)]).link = .waking
      ∧ due (s .waking).nodeTime ((s .waking).cams[(0 : CamPort)]).lockTimer = true
      ∧ ((s .locked).cams[(0 : CamPort)]).link = .locked
      ∧ due (s .locked).nodeTime ((s .locked).cams[(0 : CamPort)]).stallTimer = true
      ∧ ((s .locked).cams[(0 : CamPort)]).openFrame = some smallFrame ∧ smallFrame.goodWith ⟨[], [], []⟩ = false
      ∧ FrameHead.passes { leastHead with height := 46 } = false ∧ ((s .lost).cams[(0 : CamPort)]).link = .lost
      ∧ ∀ q : CamPort, 3 < q → (s .locked).surveyPasses q :=
  ⟨rfl, rfl, surveyedOn_next _, by decide, by decide, by decide, by decide, by decide, by decide, by decide, by decide,
    by decide, fun q h => absurd h (by revert q; decide)⟩


/-! ### Witnesses: trunk ports -/

/-- A cell whose header does not match. -/
def badCell : Cell := List.replicate 64 1

theorem witness_EightGoodHeadersBringThePortUp :
    let s := portA { Trunk.reset with link := .training, goodRun := 7 }
    (s.trunk.get .a).link = .training ∧ 7 ≤ (s.trunk.get .a).goodRun
      ∧ byteAt (fillCell false) 7 = crc8 (padTo 7 (fillCell false)) ∧ ¬ byteAt badCell 7 = crc8 (padTo 7 badCell)
      ∧ ((portA { Trunk.reset with link := .training, goodRun := 6 }).trunk.get .a).goodRun < 7
      ∧ (State.reset.trunk.get .a).link ≠ .training := by
  decide +kernel

theorem witness_FourFailedHeadersLoseTheLink :
    let s := portA { Trunk.reset with link := .up, failedRun := 3 }
    (s.trunk.get .a).link = .up ∧ ¬ byteAt badCell 7 = crc8 (padTo 7 badCell) ∧ 3 ≤ (s.trunk.get .a).failedRun
      ∧ ((portA { Trunk.reset with link := .up, failedRun := 2 }).trunk.get .a).failedRun < 3 := by
  decide +kernel

theorem witness_TheSignalMovesTheTrunkLink :
    (State.reset.trunk.get .a).link = .down ∧ (upA.trunk.get .a).link = .up
      ∧ ((portA { Trunk.reset with link := .training }).trunk.get .b).link ≠ .training := by
  decide

theorem witness_AFillCarriesTheFarEndFault :
    byteAt (fillCell true) 7 = crc8 (padTo 7 (fillCell true)) ∧ (byteAt (fillCell true) 0).toNat / 16 = 0
      ∧ (upA.trunk.get .a).link = .up ∧ (upA.trunk.get .a).farFault ≠ (byteAt (fillCell true) 0).getLsbD 0
      ∧ (upA.trunk.get .a).farFault = (byteAt (fillCell false) 0).getLsbD 0 := by
  decide +kernel

/-- Trunk port A in UP with the far-end fault flag set. -/
def faulted (m : Mode) : State := { portA { Trunk.reset with link := .up, farFault := true } with mode := m }

theorem witness_ACellTimeServesEachPort :
    let waits := portA { Trunk.reset with link := .up, pass := [⟨fillCell false, 0⟩] }
    upA.trunk.a.sendList = [] ∧ upA.trunk.b.sendList = [] ∧ (waits.trunk.get .a).pass = [⟨fillCell false, 0⟩]
      ∧ (waits.trunk.get .a).control = [] ∧ (waits.trunk.get .a).bypassPath = [] := by
  decide +kernel

/-- A send entry of stream 5 from slot 1, with a number of cells. -/
def entryOf (started : Bool) (next : Option Nat) (cells : Nat) : SendEntry := ⟨.tile, 1, 5, started, next, cells⟩

/-- Port A in UP with one send entry, slot 1 shown, stream 5 going both ways. -/
def sending (e : SendEntry) (share : Nat) (pass : List PassCell) : State :=
  { portA { Trunk.reset with link := .up, sendList := [e], share := share, pass := pass } with
    store := shown 1 false
    tables := { Tables.reset with route := Tables.reset.route.set (wayIndex (primaryBucket 5) 0) (some ⟨5, false, .both⟩) } }

theorem witness_TheSendListSharesTheLine :
    let s := sending (entryOf false none 114) 3 [⟨fillCell false, 0⟩]
    let u := sending (entryOf true (some 112) 114) 3 []
    s.mode ≠ .bypass ∧ (s.trunk.get .a).link = .up ∧ (s.trunk.get .a).bypassPath = [] ∧ (s.trunk.get .a).control = []
      ∧ (s.trunk.get .a).sendList = [entryOf false none 114] ∧ (s.trunk.get .b).sendList = []
      ∧ s.tables.nodeParams.share ≤ (s.trunk.get .a).share
      ∧ ((sending (entryOf false none 114) 2 [⟨fillCell false, 0⟩]).trunk.get .a).share < s.tables.nodeParams.share
      ∧ (s.store.slots[(1 : SlotNo)]).record = some record ∧ record.stamp = some ⟨0, .captured 0, .live, .clean, 0⟩
      ∧ s.sendRoute 5 = .both ∧ (u.trunk.get .a).pass = [] ∧ 112 + 1 < (entryOf true (some 112) 114).cellCount := by
  decide +kernel

/-- Route entries that send stream 5 as given and stream 6 both ways. -/
def reroutes (d : Direction) : Tables := { Tables.reset with
  route := (Tables.reset.route.set (wayIndex (primaryBucket 5) 0) (some ⟨5, false, d⟩)).set
    (wayIndex (primaryBucket 6) 0) (some ⟨6, false, .both⟩) }

/-- An entry of stream 5 in front at port A, with the controller on port B's side. -/
def rerouted (d : Direction) (e : SendEntry) (rest : List SendEntry) (control : List Cell) : State :=
  { sending e 3 [] with
    trunk := ⟨{ Trunk.reset with link := .up, sendList := e :: rest, share := 3 },
      { Trunk.reset with link := .up, control := control }⟩
    controllerSide := some .b
    tables := reroutes d }

theorem witness_AFrontEntryIsCancelledOrHandedOver :
    let e := entryOf false none 114
    let behind : SendEntry := { e with stream := 6 }
    let s := rerouted .none e [behind] []
    let u := rerouted .controller e [] [fillCell false]
    s.mode ≠ .bypass ∧ (s.trunk.get .a).link = .up ∧ (s.trunk.get .a).control = [] ∧ (s.trunk.get .a).bypassPath = []
      ∧ (s.trunk.get .a).pass = [] ∧ (s.trunk.get .a).sendList = e :: [behind] ∧ e.started = false ∧ e.kind = .tile
      ∧ (s.tables.routeDirection 5 = .none ∧ (s.trunk.get .b).sendList = [])
      ∧ (behind.started = false ∧ behind.next = none ∧ s.tables.routeDirection 6 = .both)
      ∧ ((rerouted .none e [] []).trunk.get .a).sendList = [e]
      ∧ (u.tables.routeDirection 5 = .controller ∧ u.controllerSide = some .b)
      ∧ ((u.trunk.get .b).bypassPath = [] ∧ (u.trunk.get .b).control = [fillCell false]
        ∧ (u.trunk.get .b).link = .up) := by
  decide +kernel

theorem rerouted_names (e : SendEntry) (rest : List SendEntry) (control : List Cell) :
    (∀ p : TrunkPort, ¬ (rerouted .none e rest control).namesPort 5 p)
      ∧ ¬ (rerouted .controller e rest control).namesPort 5 .a
      ∧ (rerouted .controller e rest control).namesPort 5 .b ∧ (rerouted .none e rest control).namesPort 6 .a := by
  have none_ : (reroutes .none).routeDirection 5#12 = .none := by decide +kernel
  have toController : (reroutes .controller).routeDirection 5#12 = .controller := by decide +kernel
  have both_ : (reroutes .none).routeDirection 6#12 = .both := by decide +kernel
  simp [State.namesPort, rerouted, none_, toController, both_]

theorem witness_ASendEntryEndsWithItsLastCell :
    let e := entryOf true (some 113) 114
    let s := sending e 0 []
    s.mode ≠ .bypass ∧ (s.trunk.get .a).bypassPath = [] ∧ (s.trunk.get .a).control = []
      ∧ (s.trunk.get .a).sendList = [e] ∧ (s.trunk.get .b).sendList = [] ∧ (s.trunk.get .a).pass = []
      ∧ e.started = true ∧ e.next = some 113 ∧ e.cellCount = 113 + 1 ∧ e.kind = .tile := by
  decide +kernel

/-- Slot 1 is shown and held by an entry of stream 5 at port A and one of stream 6 at port B. -/
def twoSending : State :=
  let lists (sid : StreamId) : Trunk :=
    { Trunk.reset with link := .up, sendList := [{ entryOf false none 114 with stream := sid }] }
  { State.reset with
    trunk := ⟨lists 5, lists 6⟩
    tables := reroutes .both
    store := { Store.reset with
      slots := Store.reset.slots.set 1 ⟨.latest, .none, some 0, 2, false, false, some record, []⟩
      viewMap := Store.reset.viewMap.set 0 (some 1) } }

theorem twoSending_store : twoSending.storeOk := by
  have slots : ∀ i : SlotNo, (twoSending.store.slots[i]).state ≠ .filling ∧ (twoSending.store.slots[i]).pinned = false
      ∧ ((twoSending.store.slots[i]).state = .free → twoSending.store.slots[i] = Slot.reset)
      ∧ ((twoSending.store.slots[i]).state = .latest → (twoSending.store.slots[i]).owner = .none)
      ∧ (twoSending.store.slots[i]).state ≠ .retired ∧ (twoSending.store.slots[i]).state ≠ .evidence
      ∧ (twoSending.store.slots[i]).holders = twoSending.holdsOn i := by decide +kernel
  have made : ∀ k : PlanNo, twoSending.engine.productions[k] = none := by decide +kernel
  have contexts : ∀ k : ContextNo, twoSending.router.contexts[k] = none := by decide +kernel
  have pins : ∀ k : Fin 4, twoSending.store.evidence[k] = none := by decide +kernel
  refine ⟨fun i => ⟨?_, (slots i).2.2.2.2.2.2, ?_⟩, ?_, ?_, ?_, ?_, ?_⟩
  · obtain ⟨a, b, c, d, e, f, -⟩ := slots i
    unfold State.slotOk
    dsimp only
    split <;> simp_all
  · refine ⟨fun h => absurd ((slots i).2.1.symm.trans h) (by decide), ?_⟩
    rintro ⟨k, e, h, -⟩
    rw [pins] at h; cases h
  · intro p r pr h; rw [made] at h; cases h
  · intro k c h; rw [contexts] at h; cases h
  · intro j k d e h; rw [pins] at h; cases h
  · unfold Store.mapOk; decide +kernel
  · exact ready_timers

theorem witness_TheTwoPortsAreServedApart :
    twoSending.storeOk ∧ (twoSending.trunk.get .a).sendList ≠ [] ∧ (twoSending.trunk.get .b).sendList ≠ []
      ∧ ∀ p : TrunkPort, ∀ e ∈ (twoSending.trunk.get p).sendList, twoSending.namesPort e.stream p := by
  refine ⟨twoSending_store, by decide, by decide, ?_⟩
  have ways : ∀ e ∈ twoSending.trunk.a.sendList ++ twoSending.trunk.b.sendList,
      twoSending.tables.routeDirection e.stream = .both := by decide +kernel
  intro p e h
  refine .inl (ways e ?_)
  cases p
  · exact List.mem_append_left _ h
  · exact List.mem_append_right _ h

theorem witness_ASendRequestJoinsTheList :
    let s := sending (entryOf false none 114) 0 []
    (∀ d ∈ (s.trunk.get .a).sendList, ¬ (d.started = false ∧ d.stream = 6)) ∧ (s.trunk.get .a).sendList.length < 8
      ∧ (s.trunk.get .a).sendList = [] ++ entryOf false none 114 :: []
      ∧ (entryOf false none 114).started = false ∧ (entryOf false none 114).stream = 5
      ∧ (let full := portA { Trunk.reset with sendList := List.replicate 8 (entryOf true none 114) }
         8 ≤ (full.trunk.get .a).sendList.length
          ∧ ∀ d ∈ (full.trunk.get .a).sendList, ¬ (d.started = false ∧ d.stream = 5)) := by
  decide +kernel

theorem witness_TheDirectionChoosesThePorts :
    (sending (entryOf false none 114) 0 []).tables.routeDirection 5 = .both
      ∧ State.reset.tables.routeDirection 5 = .head ∧ State.reset.orient.state ≠ .found
      ∧ (∀ k : Fin 128, State.reset.tables.route[k] = none) := by
  decide +kernel

theorem witness_AHandedEntryKeepsItsHold :
    let s := sending (entryOf false none 114) 0 []
    (∀ d ∈ (s.trunk.get .b).sendList, ¬ (d.started = false ∧ d.stream = 5)) ∧ (s.trunk.get .b).sendList.length < 8
      ∧ (s.trunk.get .a).sendList = [] ++ entryOf false none 114 :: []
      ∧ s.entryAge (entryOf false none 114) ≤ s.entryAge (entryOf false none 114) := by
  decide +kernel

theorem witness_ACheckFailureMarksTheSlot :
    let e := entryOf true (some 112) 114
    let last := entryOf true (some 113) 114
    let fetch := { last with kind := .fetch (some 3) }
    let reads : MemoryReads := ⟨some (List.replicate 54 7), none⟩
    let s := sending e 0 []
    (s.mode ≠ .bypass ∧ (s.trunk.get .a).bypassPath = [] ∧ (s.trunk.get .a).control = [] ∧ (s.trunk.get .a).pass = []
        ∧ s.agent.armed = true ∧ (s.trunk.get .a).sendList = e :: [] ∧ reads.get .a = some (List.replicate 54 7)
        ∧ e.started = true ∧ e.next = some 112 ∧ 112 + 1 < e.cellCount ∧ (s.trunk.get .b).sendList = []
        ∧ (s.store.slots[e.slot]).record = some record ∧ last.next = some 113 ∧ last.cellCount ≤ 113 + 1
        ∧ min 54 (2 * record.width * record.height - 54 * 113) = 42)
      ∧ (∀ d : SendEntry, d = last ∨ d = fetch →
        let u : State := { sending d 4 [⟨fillCell false, 0⟩] with
          trunk := ⟨Trunk.reset, { Trunk.reset with sendList := [d], share := 4, pass := [⟨fillCell false, 0⟩] }⟩ }
        let both : MemoryReads := ⟨none, some [7]⟩
        u.mode ≠ .bypass ∧ (u.trunk.get .b).bypassPath = [] ∧ (u.trunk.get .b).control = []
          ∧ (u.trunk.get .b).pass ≠ [] ∧ u.tables.nodeParams.share ≤ (u.trunk.get .b).share
          ∧ (u.trunk.get .b).sendList = d :: [] ∧ both.get .b = some [7] ∧ (u.trunk.get .a).sendList = []) := by
  refine ⟨by decide +kernel, fun d h => ?_⟩
  rcases h with rfl | rfl <;> decide +kernel

/-! ### Witnesses: orientation -/

/-- A cab-end node 3 that is head, with its first beacon due. -/
def heading : State := { State.reset with
  straps := ⟨2, true, false⟩, cabActive := true
  orient := ⟨.found, some 3, none, some 0, none, true, none, some 0⟩ }

/-- A cab-end node 3 that follows head 2, heard at node time 0. -/
def following : State := { State.reset with
  straps := ⟨2, true, false⟩, nodeTime := 500
  orient := ⟨.found, some 2, some .a, some 1, some 0, false, none, none⟩ }

/-- A cab-end node 3 that yields to head 2, with its resume time reached. -/
def yielding : State := { following with
  cabActive := true
  orient := ⟨.conflict, some 2, some .a, some 1, some 0, true, some 500, none⟩ }

theorem witness_CabActiveMakesAHead :
    let s : State := { State.reset with straps := ⟨2, true, false⟩ }
    (s.orient.candidate = false ∧ s.cabActive = false ∧ s.straps.cabEnd = true ∧ s.mode = .run
        ∧ s.orient.state ≠ .found)
      ∧ (following.orient.candidate = false ∧ following.cabActive = false ∧ following.orient.state = .found
        ∧ following.orient.head = some 2 ∧ 2 < following.straps.node.toNat + 1)
      ∧ State.reset.straps.cabEnd = false := by
  decide

theorem witness_CabActiveEndsTheHeadRole :
    (heading.cabActive = true ∧ heading.orient.candidate = true ∧ heading.orient.state = .found)
      ∧ (yielding.cabActive = true ∧ yielding.orient.candidate = true ∧ yielding.orient.state = .conflict)
      ∧ State.reset.cabActive = false := by
  decide

/-- A sealed BEACON of a head at some hops. -/
def beaconOf (head : Nat) : Cell := sealCell (beaconCell head 1)

/-- A state with both trunk ports in UP. -/
def up (s : State) : State :=
  { s with trunk := ⟨{ s.trunk.a with link := .up }, { s.trunk.b with link := .up }⟩ }

theorem witness_BeaconsAreFollowedOrYieldedTo :
    let c := beaconOf 1
    ((up heading).trunk.get .a).link = .up ∧ headerOk c = true ∧ heading.mode ≠ .bypass ∧ kindOf c = some .beacon
      ∧ ((up heading).trunk.get .a).farFault = false ∧ payloadOk c = true ∧ (byteAt c 8).toNat % 16 = 1
      ∧ (up heading).isHead = true ∧ (up following).isHead = false ∧ (up following).orient.head = some 2
      ∧ (byteAt (beaconOf 8) 8).toNat % 16 = 8 ∧ (byteAt (beaconOf 9) 8).toNat % 16 = 9
      ∧ payloadOk (c.set 20 1) = false := by
  decide +kernel

theorem witness_AHeadSendsItsBeacons :
    heading.isHead = true ∧ due heading.nodeTime heading.orient.nextBeacon = true ∧ State.reset.isHead = false := by
  decide

theorem witness_AHeadIsForgottenOrResumed :
    (following.orient.state = .found ∧ following.orient.candidate = false
        ∧ due following.nodeTime (following.orient.lastBeacon.map fun b => b + 500) = true)
      ∧ (yielding.orient.state = .conflict ∧ yielding.orient.candidate = true
        ∧ due yielding.nodeTime yielding.orient.resume = true) := by
  decide

/-! ### Witnesses: cells that arrive -/

/-- A STATE cell: 5.0 km/h, forward, both sides released, every door closed and locked. -/
def stateOf : Cell := sealCell (mkCell [0x20] [0, 50, 6])

theorem witness_AStateCellIsTaken :
    (upA.trunk.get .a).link = .up ∧ headerOk stateOf = true ∧ upA.mode ≠ .bypass ∧ kindOf stateOf = some .state
      ∧ (upA.trunk.get .a).farFault = false ∧ payloadOk stateOf = true ∧ payloadOk (stateOf.set 20 1) = false
      ∧ upA.controllerSide = none ∧ upA.agent.armed = true
      ∧ ((upA.withAgent { Agent.reset with overflow := true }).agent.overflow = true)
      ∧ (upA.trunk.get .a).control.length + 2 ≤ 32 := by
  decide +kernel

theorem witness_ACommandCellIsQueuedOrPassedOn :
    let s : State := { upA with controllerSide := some .a }
    let c := commandCell 14 []
    let other := sealCell (mkCell [0x30, 2, 9, 14] [])
    let all := sealCell (mkCell [0x30, 15, 9, 14] [])
    (s.trunk.get .a).link = .up ∧ headerOk c = true ∧ s.mode ≠ .bypass ∧ kindOf c = some .command
      ∧ (s.trunk.get .a).farFault = false ∧ s.controllerSide ≠ none ∧ payloadOk c = true
      ∧ (byteAt c 1).toNat % 16 = s.straps.node.toNat + 1 ∧ s.agent.queue.length < 4
      ∧ (byteAt other 1).toNat % 16 = 2 ∧ headerOk other = true ∧ payloadOk other = true
      ∧ (byteAt all 1).toNat % 16 = 15 ∧ headerOk all = true ∧ payloadOk all = true
      ∧ 4 ≤ (s.withAgent { Agent.reset with queue := List.replicate 4 ⟨.a, c⟩ }).agent.queue.length := by
  decide +kernel

/-- The controller side of port A becomes known with causes waiting and notices armed, before and in BYPASS; the agent's
queue holds 4, and a control queue 32 or 31 cells (R91, R165, R175). -/
theorem witness_AnUnknownSideIsSetWithItsNotice :
    let s := upA.withAgent { Agent.reset with causes := fullSet, queue := List.replicate 4 ⟨.a, commandCell 14 []⟩ }
    let full := s.withTrunk .a { s.trunk.get .a with control := List.replicate 32 (fillCell false) }
    s.controllerSide = none ∧ s.agent.armed = true ∧ s.agent.causes ≠ [] ∧ 4 ≤ s.agent.queue.length
      ∧ (s.sided .a).controllerSide = some .a ∧ (s.sided .a).agent.armed = false
      ∧ ((s.sided .a).trunk.get .a).control = s.noticeCells
      ∧ ((full.sided .a).trunk.get .a).control.length = 32
      ∧ ((full.sided .a).trunk.get .a).counters[(5 : Fin 9)] = 2
      ∧ (let b : State := { full with mode := .bypass }; b.mode = .bypass ∧ (b.trunk.get .a).link = .up) := by
  decide +kernel

theorem witness_RepliesAndNoticesArePassedOn :
    let c := sealCell (mkCell [0x40, 3, 1, 0, 0, 1] [])
    let b := sealCell (mkCell [0x80] [])
    headerOk c = true ∧ kindOf c = some .reply ∧ payloadOk c = true ∧ payloadOk (c.set 20 1) = false
      ∧ (upA.trunk.get .b).control.length < 32 ∧ headerOk b = true ∧ 8 ≤ (byteAt b 0).toNat / 16
      ∧ (upA.trunk.get .a).link = .up ∧ (upA.trunk.get .a).farFault = false := by
  decide +kernel

/-- A sealed TILE_HEAD of stream 5 and one of its data cells. -/
def headCell : Cell := sealCell (tileHeadCell 5 record ⟨0, .captured 0, .live, .clean, 0⟩ 0)
def dataCell (i : Nat) : Cell := sealCell (tileDataCell false 5 1 i [])

/-- Port A in UP and a route entry for stream 5. -/
def routed (consume : Bool) (d : Direction) : State := upA.withTables
  { Tables.reset with route := Tables.reset.route.set (wayIndex (primaryBucket 5) 0) (some ⟨5, consume, d⟩) }

theorem routed_arrives (consume : Bool) (d : Direction) : (routed consume d).tileArrives .a headCell .tileHead
    ∧ (routed consume d).tileArrives .a (dataCell 0) .tileData := by
  refine ⟨⟨rfl, by decide +kernel, ?_, by decide +kernel, rfl⟩, rfl, by decide +kernel, ?_, by decide +kernel, rfl⟩ <;>
    (intro e; cases e)

theorem witness_ATileCellIsForwarded :
    (routed false .both).tileArrives .a headCell .tileHead
      ∧ (routed false .both).tables.routeConsume (streamOf headCell) = false
      ∧ (routed false .both).tables.routeDirection (streamOf headCell) = .both
      ∧ (routed false .controller).tables.routeDirection (streamOf (dataCell 0)) = .controller
      ∧ (routed false .controller).controllerSide = none
      ∧ (routed false .head).tables.routeDirection (streamOf headCell) = .head
      ∧ (routed false .head).orient.state = .none ∧ payloadOk headCell = true ∧ lowFlag headCell = false :=
  ⟨(routed_arrives _ _).1, by decide +kernel⟩

theorem witness_AConsumedTileHeadOpensAContext :
    (routed true .none).tileConsumed .a headCell .tileHead ∧ (readTileHead headCell).isSome = true
      ∧ (∀ k : ContextNo, (routed true .none).router.contexts[k] = none)
      ∧ ((routed true .none).store.slots[(0 : SlotNo)]).state = .free
      ∧ readTileHead (sealCell (headCell.set 8 99)) = none ∧ payloadOk (sealCell (headCell.set 8 99)) = true
      ∧ headerOk (sealCell (headCell.set 8 99)) = true :=
  ⟨⟨(routed_arrives _ _).1, by decide, by decide +kernel⟩, by decide +kernel⟩

/-- An open context of stream 5 in slot 0, with the data cell it waits for. -/
def contextAt (next : Nat) (damaged : Bool) : Context :=
  ⟨5, 0, 1, 64, 48, 114, next, 0, 0, 0, .live, .clean, 0, 0, damaged⟩

/-- A node that consumes stream 5, with that context open. -/
def joining (next : Nat) (damaged : Bool) : State := { routed true .none with
  store := { Store.reset with
    slots := Store.reset.slots.set 0 ⟨.filling, .context 0, none, 0, false, false, some record, []⟩ }
  router := ⟨(Vector.replicate 16 none).set (0 : ContextNo) (some (contextAt next damaged)), Vector.replicate 13 0⟩ }

theorem joining_contexts (next : Nat) (damaged : Bool) : (joining next damaged).contextsOk := by
  have h : ∀ k : ContextNo, (joining next damaged).router.contexts[k]
      = if k = 0 then some (contextAt next damaged) else none := by
    intro k
    simp only [joining, Fin.getElem_fin, Vector.getElem_set, Vector.getElem_replicate]
    by_cases g : k = 0
    · subst g; rfl
    · rw [if_neg g, if_neg fun e => g (Fin.ext e.symm)]
  intro j k x y e f
  rw [h] at e f
  split at e
  · split at f
    · simp_all
    · cases f
  · cases e

theorem joining_ends (next : Nat) (damaged : Bool) (i : Nat) (k : i ≤ 113) :
    (joining next damaged).tileConsumed .a (dataCell i) .tileData := by
  have h : ∀ j : Fin 114, headerOk (dataCell j.val) = true ∧ kindOf (dataCell j.val) = some .tileData
      ∧ streamOf (dataCell j.val) = 5 := by decide +kernel
  have g := h ⟨i, by omega⟩
  refine ⟨⟨rfl, g.1, ?_, g.2.1, rfl⟩, rfl, ?_⟩
  · intro e; cases e
  · rw [g.2.2]; exact (by decide +kernel : (routed true .none).tables.routeConsume 5 = true)

theorem witness_AnOpenContextIsBroken :
    (joining 3 false).tileConsumed .a headCell .tileHead ∧ (joining 3 false).contextsOk
      ∧ (joining 3 false).router.contexts[(0 : ContextNo)] = some (contextAt 3 false)
      ∧ (contextAt 3 false).stream = streamOf headCell
      ∧ ((joining 3 false).store.slots[(contextAt 3 false).slot]).state = .filling :=
  ⟨⟨⟨rfl, by decide +kernel, (fun e => by cases e), by decide +kernel, rfl⟩, rfl, by decide +kernel⟩,
    joining_contexts _ _, by decide +kernel, by decide +kernel, by decide +kernel⟩

theorem witness_DataCellsFillTheContext :
    (joining 113 false).tileConsumed .a (dataCell 113) .tileData ∧ payloadOk (dataCell 113) = true
      ∧ lowFlag (dataCell 113) = false ∧ (joining 113 false).contextsOk
      ∧ (joining 113 false).router.contexts[(0 : ContextNo)] = some (contextAt 113 false)
      ∧ byteAt (dataCell 113) 3 = (contextAt 113 false).sequence.extractLsb' 0 8
      ∧ (halfAt (dataCell 113) 4).toNat = 113 ∧ (contextAt 113 false).cellCount ≤ 113 + 1
      ∧ (joining 112 false).tileConsumed .a (dataCell 112) .tileData ∧ (halfAt (dataCell 112) 4).toNat = 112
      ∧ 112 + 1 < (contextAt 112 false).cellCount
      ∧ ((joining 113 true).store.slots[(contextAt 113 true).slot]).state = .filling :=
  ⟨joining_ends _ _ _ (by decide), by decide +kernel, by decide +kernel, joining_contexts _ _, by decide +kernel,
    by decide +kernel, by decide +kernel, by decide, joining_ends _ _ _ (by decide), by decide +kernel, by decide,
    by decide +kernel⟩

/-- A data cell whose payload fails, one that arrived damaged, a cell out of turn in the middle and at the end of the
tile (R115, R119), and a failing TILE_HEAD, for a stream that is consumed and sent on to the other port as well. -/
theorem witness_BadCellsAreConsumed :
    let late := dataCell 113
    let damaged := sealCell (tileDataCell true 5 1 3 [])
    (joining 3 false).tileConsumed .a late .tileData ∧ (routed true .both).tileConsumed .a headCell .tileHead
      ∧ ((halfAt late 4).toNat ≠ (contextAt 3 false).next ∧ (contextAt 3 false).cellCount ≤ (halfAt late 4).toNat + 1
        ∧ (halfAt (dataCell 7) 4).toNat + 1 < (contextAt 3 false).cellCount
        ∧ lowFlag damaged = true ∧ headerOk damaged = true ∧ readTileHead (headCell.set 20 1) = none
        ∧ (∀ c ∈ [dataCell 3, headCell], headerOk (c.set 20 1) = true ∧ payloadOk (c.set 20 1) = false)
        ∧ (routed true .both).forwardsOn .a (streamOf headCell)
        ∧ ((routed true .both).trunk.get .b).pass.length < 1024) :=
  ⟨joining_ends _ _ _ (by decide), ⟨(routed_arrives _ _).1, by decide, by decide +kernel⟩, by decide +kernel⟩

theorem witness_AContextTimesOut :
    (joining 3 false).router.contexts[(0 : ContextNo)] = some (contextAt 3 false)
      ∧ due (joining 3 false).nodeTime (some (contextAt 3 false).expiry) = true
      ∧ ((joining 3 false).store.slots[(contextAt 3 false).slot]).state = .filling
      ∧ due (0 : NodeTime) (some 1) = false ∧ State.reset.router.contexts[(0 : ContextNo)] = none := by
  decide +kernel

theorem witness_BypassPassesCellsUnchanged :
    let s : State := { upA with mode := .bypass, controllerSide := some .a }
    let c := commandCell 14 []
    (s.trunk.get .a).link = .up ∧ headerOk c = true ∧ s.mode = .bypass ∧ kindOf c ≠ some .fill
      ∧ (s.trunk.get .a).farFault = false ∧ s.controllerSide ≠ none ∧ payloadOk c = true
      ∧ (byteAt c 1).toNat % 16 = s.straps.node.toNat + 1 ∧ s.agent.queue.length < 4
      ∧ headerOk (beaconOf 1) = true ∧ kindOf (beaconOf 1) = some .beacon ∧ kindOf stateOf = some .state := by
  decide +kernel

theorem witness_ACellClearsTheFarEndFault :
    let s := faulted .run
    (s.trunk.get .a).link = .up ∧ (s.trunk.get .a).farFault = true ∧ (faulted .bypass).mode = .bypass
      ∧ (headerOk (beaconOf 1) = true ∧ kindOf (beaconOf 1) = some .beacon)
      ∧ (headerOk stateOf = true ∧ kindOf stateOf = some .state)
      ∧ (headerOk (commandCell 14 []) = true ∧ kindOf (commandCell 14 []) = some .command)
      ∧ (let c := sealCell (mkCell [0x40] []); headerOk c = true ∧ kindOf c = some .reply)
      ∧ (let c := sealCell (mkCell [0x90] []); headerOk c = true ∧ kindOf c = none)
      ∧ (headerOk headCell = true ∧ kindOf headCell = some .tileHead)
      ∧ headerOk (dataCell 113) = true ∧ kindOf (dataCell 113) = some .tileData
      ∧ (let j : State := { joining 113 false with trunk := (faulted .run).trunk }
         (j.trunk.get .a).farFault = true ∧ j.mode = .run ∧ j.endsContext (dataCell 113) = true) := by
  decide +kernel

/-! ### Witnesses: selector and compositor -/

theorem witness_AStaleRecordShowsTheStaleLayouts :
    let s : State := { State.reset with vehicle := { Vehicle.reset with fresh := true, expiry := some 0 } }
    s.vehicle.fresh = true ∧ due s.nodeTime s.vehicle.expiry = true ∧ State.reset.vehicle.fresh = false := by
  decide

theorem witness_AHoldExpiryEvaluatesTheScreen :
    let s := ({ State.reset with nodeTime := 1000 } : State).withSelection 0 ⟨1, 2, 0, 1, some 1000⟩
    due s.nodeTime (s.selection[(0 : Screen)]).holdExpiry = true
      ∧ 1000 * (s.selection[(0 : Screen)]).hold ≤ (s.nodeTime - (s.selection[(0 : Screen)]).switchTime).toNat
      ∧ due State.reset.nodeTime (State.reset.selection[(0 : Screen)]).holdExpiry = false := by
  decide

theorem witness_AChimeRequestPulsesTheLine :
    let s : State := { State.reset with comp := { Compositor.reset with pulseEnd := some 0 } }
    due s.nodeTime s.comp.pulseEnd = true ∧ due State.reset.nodeTime State.reset.comp.pulseEnd = false
      ∧ heading.isHead = true ∧ (∃ t : State, exec .cabActiveFall heading = .next t ∧ t.isHead = false)
      ∧ (asked 17 []).runs .restart ⟨.a, commandCell 17 []⟩ ∧ ∃ t : State, exec .restart (asked 17 []) = .next t := by
  refine ⟨by decide, by decide, by decide, ⟨_, rfl, by decide +kernel⟩, ⟨rfl, by decide +kernel, fun e => by cases e⟩, _, rfl⟩

/-- Output 0 RUNNING with a frame. -/
def withFrame (f : ScreenFrame) (s : State) : State :=
  { s with comp := { Compositor.reset with outputs := Compositor.reset.outputs.set 0 ⟨true, some f⟩ } }

/-- Output 0 RUNNING with background only. -/
def running (s : State) : State := withFrame ⟨false, none, 0, [], []⟩ s

theorem witness_AFrameStartComposesOnAHead :
    ((running heading).comp.outputs[(0 : Screen)]).running = true ∧ (running heading).isHead = true
      ∧ (running State.reset).isHead = false ∧ (State.reset.comp.outputs[(0 : Screen)]).running = false := by
  decide

/-- The reset state with slot 1 shown in view 0 and door 1 on camera 0, OPENING. -/
def pictured : State := { State.reset with
  store := shown 0 false
  vehicle := { Vehicle.reset with doors := Vehicle.reset.doors.set 0 .opening }
  tables := { Tables.reset with door := Tables.reset.door.set 0 ⟨some 0, .one⟩ } }

/-- A DOOR_FOCUS pane of the first door of side 1 that is OPENING. -/
def focusPane : Pane := { Pane.reset with source := .doorFocus, focus := 4 }

theorem witness_APaneShowsItsView :
    let doors (s : State) (q : Pane) := (List.finRange 16).filter fun k : Fin 16 =>
      (q.side = 3 || (q.side = 1 && (s.tables.door[k]).side = .one) || (q.side = 2 && (s.tables.door[k]).side = .two))
        && q.focus.getLsbD (s.vehicle.doors[k]).code
    Pane.reset.source = .none ∧ focusPane.source = .doorFocus ∧ 1 ≤ focusPane.rank.toNat
      ∧ (doors pictured focusPane)[focusPane.rank.toNat - 1]? = some 0
      ∧ (pictured.tables.door[(0 : Fin 16)]).camera = some 0
      ∧ (doors State.reset focusPane).length < focusPane.rank.toNat ∧ focusPane.hasFallback = false
      ∧ pictured.store.viewMap[viewOf 0 0] = some 1 ∧ (pictured.store.slots[(1 : SlotNo)]).record = some record
      ∧ record.stamp = some ⟨0, .captured 0, .live, .clean, 0⟩
      ∧ pictured.store.viewMap[viewOf 1 0] = none ∧ pictured.underTest (viewOf 1 0) = false := by
  decide +kernel

/-- A FIXED pane of view 0, with ages that its tile does not reach, and a label of its own. -/
def fixedPane : Pane := { Pane.reset with
  source := .fixed, labelKind := .fixed, labelNumber := 7, staleAge := 5, blankAge := 9, x := 1279, y := 0 }

theorem witness_APaneIsDrawnWithItsOverlays :
    (pictured.drawPane 0 fixedPane).presentation = .live ∧ (pictured.drawPane 0 fixedPane).slot = some 1
      ∧ ((pictured.withNodeTime 50).drawPane 5 fixedPane).presentation = .stale
      ∧ ((pictured.withNodeTime 90).drawPane 5 fixedPane).presentation = .placeholder .noPicture
      ∧ (State.reset.drawPane 0 fixedPane).presentation = .placeholder .noPicture
      ∧ (State.reset.drawPane 0 fixedPane).slot = none ∧ (State.reset.drawPane 0 Pane.reset).presentation = .blank
      ∧ (pictured.store.slots[(1 : SlotNo)]).record = some record := by
  decide +kernel

theorem witness_AScreenFindsADamagedSlot :
    let s := withFrame ⟨true, none, 0, [], [1]⟩ State.reset
    (s.comp.outputs[(0 : Screen)]).frame = some ⟨true, none, 0, [], [1]⟩ ∧ (1 : SlotNo) ∈ ([1] : List SlotNo)
      ∧ (State.reset.comp.outputs[(0 : Screen)]).frame = none := by
  decide

/-! ### Witnesses: modes and the agent -/

theorem asked_runs (code : Byte) (args : List Byte) (n : CommandName)
    (h : (⟨.a, commandCell code args⟩ : AgentCommand).name = some n) :
    (asked code args).runs n ⟨.a, commandCell code args⟩ := ⟨rfl, h, fun e => by cases e⟩

theorem writing_writes (t : Table) (i : Nat) (args : List Byte)
    (h : (⟨.a, commandCell 2 args⟩ : AgentCommand).name = some .writeNext) (k : i < t.entries) :
    (writing t i args).writes ⟨.a, commandCell 2 args⟩ t := ⟨⟨rfl, h, fun e => by cases e⟩, rfl, k⟩

/-- A state whose agent is as in `writing`, outside BYPASS, has that write at the head of its queue. -/
theorem writes_of (t : Table) (i : Nat) (args : List Byte) (s : State) (a : s.agent = (writing t i args).agent)
    (m : s.mode ≠ .bypass) (h : (⟨.a, commandCell 2 args⟩ : AgentCommand).name = some .writeNext) (k : i < t.entries) :
    s.writes ⟨.a, commandCell 2 args⟩ t := by
  refine ⟨⟨?_, h, fun e => absurd e m⟩, ?_, ?_⟩ <;> rw [a]
  · rfl
  · rfl
  · exact k

/-- A state whose agent is as in `asked`, outside BYPASS, runs that command. -/
theorem runs_of (code : Byte) (args : List Byte) (n : CommandName) (s : State) (a : s.agent = (asked code args).agent)
    (m : s.mode ≠ .bypass) (h : (⟨.a, commandCell code args⟩ : AgentCommand).name = some n) :
    s.runs n ⟨.a, commandCell code args⟩ := by
  refine ⟨?_, h, fun e => absurd e m⟩
  rw [a]
  rfl

theorem witness_AlertLinesFollowTheirState :
    let e : NodeParams := { NodeParams.reset with lensPolarity := .lowTrue, chimePolarity := .lowTrue }
    let s : State := { heading with alarm := 1 }
    let r : State := { State.reset with straps := ⟨2, true, false⟩ }
    (s.straps.cabEnd = true ∧ s.isHead = true ∧ 0 < s.alarm ∧ s.cabActive = true)
      ∧ ((writing .nodeParams 0 e.bytes).writes ⟨.a, commandCell 2 e.bytes⟩ .nodeParams
        ∧ readNodeParams (payloadOf (commandCell 2 e.bytes)) = some e
        ∧ (writing .nodeParams 0 e.bytes).vehicle.fresh = false)
      ∧ (r.orient.candidate = false ∧ r.cabActive = false ∧ r.mode = .run ∧ r.orient.state = .none)
      ∧ ((asked 14 [2]).runs .setMode ⟨.a, commandCell 14 [2]⟩
        ∧ modeOf (byteAt (payloadOf (commandCell 14 [2])) 0).toNat = some .bypass ∧ (asked 14 [2]).mode = .run)
      ∧ ∃ t : State, exec (.resetLine ⟨0, true, false⟩) s = .next t :=
  ⟨by decide, ⟨writing_writes _ _ _ (by decide +kernel) (by decide), by decide +kernel, rfl⟩, by decide,
    ⟨asked_runs _ _ _ (by decide +kernel), by decide +kernel, rfl⟩, _, rfl⟩

/-- A node in RUN whose enabled port 0 has a tile in production. -/
def changing : State := producing.withTables
  { Tables.reset with cameraConfig := Tables.reset.cameraConfig.set 0 ⟨true, true, 1, false, 72⟩ }

/-- A node in STANDBY whose port 0 is enabled. -/
def asleep : State := { State.reset with mode := .standby, tables := changing.tables }

theorem witness_RestartKeepsTheTables : (asked 17 []).runs .restart ⟨.a, commandCell 17 []⟩ :=
  asked_runs _ _ _ (by decide +kernel)

theorem witness_SetModeIsCarriedOut :
    (∀ k : Fin 4, (asked 14 [byte k.val]).runs .setMode ⟨.a, commandCell 14 [byte k.val]⟩
        ∧ (byteAt (payloadOf (commandCell 14 [byte k.val])) 0).toNat = k.val ∧ (asked 14 [byte k.val]).mode = .run)
      ∧ [Mode.run, .standby, .bypass].idxOf Mode.run = 0 ∧ [Mode.run, .standby, .bypass].idxOf Mode.standby = 1
      ∧ [Mode.run, .standby, .bypass].idxOf Mode.bypass = 2
      ∧ (let s : State := { State.reset with straps := ⟨0, true, false⟩, mode := .standby }
         s.cabActive = false ∧ s.straps.cabEnd = true ∧ s.mode = .standby) := by
  have names : ∀ k : Fin 4, (⟨.a, commandCell 14 [byte k.val]⟩ : AgentCommand).name = some .setMode
      ∧ (byteAt (payloadOf (commandCell 14 [byte k.val])) 0).toNat = k.val := by decide +kernel
  exact ⟨fun k => ⟨asked_runs _ _ _ (names k).1, (names k).2, rfl⟩, by decide, by decide, by decide, by decide⟩

theorem witness_AModeChangeKeepsItsLaws : Mode.bypass ≠ State.reset.mode ∧ Mode.run ≠ asleep.mode := by decide

theorem witness_TheCameraPortsTakeAModeChange :
    (changing.powerOk ∧ changing.mode = .run ∧ (changing.cams[(0 : CamPort)]).link = .locked
        ∧ changing.wantsPowerIn .standby 0 = false)
      ∧ (asleep.powerOk ∧ asleep.mode = .standby ∧ (asleep.cams[(0 : CamPort)]).link = .off
        ∧ asleep.wantsPowerIn .run 0 = true) :=
  ⟨⟨⟨by decide, by decide, by decide⟩, by decide, by decide, by decide⟩, ⟨by decide, by decide, by decide⟩, by decide,
    by decide, by decide⟩

theorem witness_AModeChangeStopsTheWork :
    (changing.storeOk ∧ changing.outputsOk ∧ changing.modeOk ∧ changing.candidacyOk
        ∧ changing.engine.productions[(0 : PlanNo)] = some inHand)
      ∧ (asleep.storeOk ∧ asleep.outputsOk ∧ asleep.modeOk ∧ asleep.candidacyOk) :=
  ⟨⟨producing_store, witness_StepKeepsOutputs, ⟨fun h => absurd rfl h, fun h => by cases h⟩, by rfl, by decide +kernel⟩,
    witness_StepKeepsTheStore.1, witness_StepKeepsOutputs,
    ⟨fun _ => ⟨by decide +kernel, by decide +kernel, fun p e h => by cases p <;> cases h⟩, fun h => by cases h⟩, by rfl⟩

/-- A sleeping node 3 of an occupied cab: it hears no head, or follows head 1 and so yields as it becomes candidate. -/
theorem witness_AModeChangeTellsItsCauses :
    let cab : State := { asleep with straps := ⟨2, true, false⟩, cabActive := true }
    let follower : State := { cab with orient := ⟨.found, some 1, some .a, some 1, some 0, false, none, none⟩ }
    (changing.powerOk ∧ changing.candidacyOk) ∧ (cab.powerOk ∧ cab.candidacyOk ∧ cab.mode ≠ .run)
      ∧ (follower.powerOk ∧ follower.candidacyOk ∧ follower.orient.head = some 1
        ∧ 1 < follower.straps.node.toNat + 1) :=
  ⟨⟨⟨by decide, by decide, by decide⟩, by rfl⟩, ⟨⟨by decide, by decide, by decide⟩, by rfl, by decide⟩,
    ⟨by decide, by decide, by decide⟩, by rfl, rfl, by decide⟩

theorem witness_RefusedCommandsChangeNothing :
    (let s : State := { asked 3 [1] with mode := .bypass }
     s.agent.queue.head? = some ⟨.a, commandCell 3 [1]⟩ ∧ s.mode = .bypass
      ∧ (⟨.a, commandCell 3 [1]⟩ : AgentCommand).name = some .readNext)
      ∧ State.reset.agent.queue = []
      ∧ ((asked 2 []).runs .writeNext ⟨.a, commandCell 2 []⟩ ∧ (asked 2 []).agent.window = none)
      ∧ ((writing .door 16 []).runs .writeNext ⟨.a, commandCell 2 []⟩ ∧ Table.entries .door ≤ (writing .door 16 []).agent.pointer)
      ∧ ((writing .door 15 [32]).writes ⟨.a, commandCell 2 [32]⟩ .door
        ∧ entryPasses .door 15 (payloadOf (commandCell 2 [32])) = false) :=
  ⟨⟨rfl, rfl, by decide +kernel⟩, rfl, ⟨asked_runs _ _ _ (by decide +kernel), rfl⟩,
    ⟨⟨rfl, by decide +kernel, fun e => by cases e⟩, by decide⟩, writing_writes _ _ _ (by decide +kernel) (by decide), by decide +kernel⟩

/-- Entries at the ends of the ranges of R20, R58, R60, R130, R145 and R171, and one past them. -/
theorem witness_EntriesAreCheckedByTheirRules :
    entryPasses .door 0 [255, 2] = true ∧ entryPasses .door 0 [32, 2] = false
      ∧ entryPasses .cameraConfig 0 [1, 1, 255, 1, 96] = true ∧ entryPasses .cameraConfig 0 [1, 1, 0, 1, 96] = false
      ∧ entryPasses .reference 0 [15, 255] = true ∧ entryPasses .reference 0 [16, 0] = false
      ∧ entryPasses .weight 0 [3] = true ∧ entryPasses .weight 0 [4] = false
      ∧ entryPasses .layoutPending 10 [9] = true ∧ entryPasses .layoutPending 10 [10] = false
      ∧ entryPasses .outputConfig 0 [1, 5, 15, 15, 7] = true ∧ entryPasses .outputConfig 0 [1, 6, 15, 15, 7] = false
      ∧ entryPasses .nodeParams 0 [15, 250, 7, 208, 60, 1, 1] = true
      ∧ entryPasses .nodeParams 0 [15, 250, 7, 209, 60, 1, 1] = false := by
  decide +kernel

theorem witness_TheTableWindowIsSelectedAndRead :
    ((asked 1 [6, 0, 15]).runs .selectTable ⟨.a, commandCell 1 [6, 0, 15]⟩ ∧ tableOf 6 = some .door
        ∧ (halfAt (payloadOf (commandCell 1 [6, 0, 15])) 1).toNat < Table.entries .door
        ∧ Table.entries .door ≤ (halfAt (payloadOf (commandCell 1 [6, 0, 16])) 1).toNat
        ∧ 12 < (byteAt (payloadOf (commandCell 1 [13])) 0).toNat)
      ∧ (let c : AgentCommand := ⟨.a, commandCell 3 [4]⟩
         let s := State.reset.withAgent { Agent.reset with queue := [c], window := some .door, pointer := 12 }
         s.runs .readNext c ∧ (byteAt (payloadOf c.cell) 0).toNat = 4 ∧ s.agent.window = some .door
          ∧ s.agent.pointer + 4 ≤ Table.entries .door ∧ Table.entries .door < 13 + 4) :=
  ⟨⟨asked_runs _ _ _ (by decide +kernel), by decide, by decide +kernel, by decide +kernel, by decide +kernel⟩,
    ⟨rfl, by decide +kernel, fun e => by cases e⟩, by decide +kernel, rfl, by decide, by decide⟩

theorem witness_TableWritesStoreTheirEntry :
    ((writing .tilePlan 7 TilePlan.reset.bytes).writes ⟨.a, commandCell 2 TilePlan.reset.bytes⟩ .tilePlan
        ∧ readTilePlan (payloadOf (commandCell 2 TilePlan.reset.bytes)) = some TilePlan.reset)
      ∧ ((writing .layoutPending 150 [9]).writes ⟨.a, commandCell 2 [9]⟩ .layoutPending ∧ 150 % 10 = 0
        ∧ readLayoutHeader (payloadOf (commandCell 2 [9])) = some 9)
      ∧ ((writing .layoutPending 159 Pane.reset.bytes).writes ⟨.a, commandCell 2 Pane.reset.bytes⟩ .layoutPending
        ∧ 159 % 10 ≠ 0 ∧ readPane (payloadOf (commandCell 2 Pane.reset.bytes)) = some Pane.reset)
      ∧ ((writing .door 15 [31, 1]).writes ⟨.a, commandCell 2 [31, 1]⟩ .door
        ∧ (readDoor (payloadOf (commandCell 2 [31, 1]))).isSome = true)
      ∧ ((writing .rules0 15 Rule.reset.bytes).writes ⟨.a, commandCell 2 Rule.reset.bytes⟩ .rules0
        ∧ (writing .rules1 0 Rule.reset.bytes).writes ⟨.a, commandCell 2 Rule.reset.bytes⟩ .rules1
        ∧ readRule (payloadOf (commandCell 2 Rule.reset.bytes)) = some Rule.reset) :=
  ⟨⟨writing_writes _ _ _ (by decide +kernel) (by decide), by decide +kernel⟩,
    ⟨writing_writes _ _ _ (by decide +kernel) (by decide), by decide, by decide +kernel⟩,
    ⟨writing_writes _ _ _ (by decide +kernel) (by decide), by decide, by decide +kernel⟩,
    ⟨writing_writes _ _ _ (by decide +kernel) (by decide), by decide +kernel⟩,
    writing_writes _ _ _ (by decide +kernel) (by decide), writing_writes _ _ _ (by decide +kernel) (by decide),
    by decide +kernel⟩

theorem witness_AnOutputStopIsWritten :
    let e := OutputConfig.reset
    let s : State := { running (writing .outputConfig 0 e.bytes) with straps := ⟨0, true, false⟩ }
    s.writes ⟨.a, commandCell 2 e.bytes⟩ .outputConfig ∧ s.straps.cabEnd = true ∧ e.enabled = false
      ∧ readOutputConfig (payloadOf (commandCell 2 e.bytes)) = some e
      ∧ (s.comp.outputs[(0 : Screen)]).running = true :=
  ⟨writes_of _ _ _ _ rfl (fun h => by cases h) (by decide +kernel) (by decide), rfl, rfl, by decide +kernel, rfl⟩

theorem witness_OutputAndNodeWritesTakeEffect :
    let e : OutputConfig := { OutputConfig.reset with enabled := true }
    ((writing .outputConfig 1 e.bytes).writes ⟨.a, commandCell 2 e.bytes⟩ .outputConfig
        ∧ readOutputConfig (payloadOf (commandCell 2 e.bytes)) = some e
        ∧ (writing .outputConfig 1 e.bytes).straps.cabEnd = false
        ∧ (let s : State := { writing .outputConfig 0 e.bytes with straps := ⟨0, true, false⟩ }
           s.straps.cabEnd = true ∧ (s.comp.outputs[(0 : Screen)]).running = false ∧ e.enabled = true
            ∧ ((running s).comp.outputs[(0 : Screen)]).running = true))
      ∧ ((writing .nodeParams 0 NodeParams.reset.bytes).writes ⟨.a, commandCell 2 NodeParams.reset.bytes⟩ .nodeParams
        ∧ readNodeParams (payloadOf (commandCell 2 NodeParams.reset.bytes)) = some NodeParams.reset
        ∧ (let v : Vehicle := { Vehicle.reset with fresh := true, lastState := some 0 }
           v.fresh = true ∧ v.lastState = some 0 ∧ due (5000 : NodeTime) (some (0 + BitVec.ofNat 32 (10 * 500))) = true
            ∧ due (4999 : NodeTime) (some (0 + BitVec.ofNat 32 (10 * 500))) = false)) :=
  ⟨⟨writing_writes _ _ _ (by decide +kernel) (by decide), by decide +kernel, rfl, by decide⟩,
    writing_writes _ _ _ (by decide +kernel) (by decide), by decide +kernel, by decide⟩

/-- A CAMERA_CONFIG write for port 0, whose link state and the node mode are as given. -/
def configures (e : CameraConfig) (l : CameraLink) (m : Mode) : State :=
  { writing .cameraConfig 0 e.bytes with cams := State.reset.cams.set 0 { CameraPort.reset with link := l }, mode := m }

theorem witness_ACameraConfigWriteIsTakenByThePort :
    let on : CameraConfig := ⟨true, false, 25, false, 72⟩
    let e : CameraConfig := { on with enabled := false }
    (∀ l : CameraLink, (configures on l .run).writes ⟨.a, commandCell 2 on.bytes⟩ .cameraConfig)
      ∧ (∀ l : CameraLink, (configures e l .standby).writes ⟨.a, commandCell 2 e.bytes⟩ .cameraConfig)
      ∧ readCameraConfig (payloadOf (commandCell 2 on.bytes)) = some on
      ∧ readCameraConfig (payloadOf (commandCell 2 e.bytes)) = some e
      ∧ (configures on .off .run).mode = .run ∧ ((configures on .off .run).cams[(0 : CamPort)]).link = .off
      ∧ ((configures on .locked .run).cams[(0 : CamPort)]).power = true
      ∧ ((configures e .locked .standby).cams[(0 : CamPort)]).link = .locked
      ∧ ((configures e .lost .standby).cams[(0 : CamPort)]).link = .lost
      ∧ ((configures e .powerFault .standby).cams[(0 : CamPort)]).link = .powerFault
      ∧ ((configures e .testing .standby).cams[(0 : CamPort)]).link = .testing
      ∧ (configures e .locked .standby).survey.port ≠ some 0
      ∧ ((configures e .locked .standby).health[(0 : CamPort)]).relearnHold = false
      ∧ (∃ s : State, s = { configures e .waking .standby with survey := ⟨.waitLock, none, some 0, 0⟩ }
        ∧ s.survey.port = some 0 ∧ (s.cams[(0 : CamPort)]).power = true) :=
  ⟨fun _ => writes_of _ _ _ _ rfl (fun h => by cases h) (by decide +kernel) (by decide),
    fun _ => writes_of _ _ _ _ rfl (fun h => by cases h) (by decide +kernel) (by decide), by decide +kernel,
    by decide +kernel, rfl, by decide, by decide, by decide, by decide, by decide, by decide, by decide, by decide,
    _, rfl, rfl, by decide⟩

/-- A CABLE_CHECK or RELEARN of port 0, whose link state and the node mode are as given. -/
def checked (code : Byte) (l : CameraLink) (m : Mode) : State :=
  { asked code [0] with cams := State.reset.cams.set 0 { CameraPort.reset with link := l }, mode := m }

theorem witness_ACableCheckStarts :
    let s := { checked 9 .locked .standby with survey := ⟨.skip, none, some 0, 4⟩ }
    (∀ l : CameraLink, (checked 9 l .run).runs .cableCheck ⟨.a, commandCell 9 [0]⟩)
      ∧ State.runs s .cableCheck ⟨.a, commandCell 9 [0]⟩
      ∧ (byteAt (payloadOf (commandCell 9 [0])) 0).toNat = (0 : CamPort).val
      ∧ 3 < (byteAt (payloadOf (commandCell 9 [4])) 0).toNat
      ∧ ((checked 9 .testing .run).cams[(0 : CamPort)]).link = .testing
      ∧ ((checked 9 .locked .run).cams[(0 : CamPort)]).link = .locked
      ∧ ((checked 9 .powerFault .run).cams[(0 : CamPort)]).link = .powerFault
      ∧ (checked 9 .locked .run).survey.port ≠ some 0
      ∧ s.survey.port = some 0 ∧ s.mode = .standby ∧ (s.cams[(0 : CamPort)]).link ≠ .testing :=
  ⟨fun _ => runs_of _ _ _ _ rfl (fun h => by cases h) (by decide +kernel),
    runs_of _ _ _ _ rfl (fun h => by cases h) (by decide +kernel), by decide +kernel, by decide +kernel, by decide,
    by decide, by decide, by decide, rfl, rfl, by decide⟩

/-- Evidence position 3 holds slot 1, pinned, and no other position holds an entry. -/
def pinned (code : Byte) (args : List Byte) : State := { asked code args with
  store := { shown 0 true with evidence := Store.reset.evidence.set 3 (some ⟨1, 0, .smeared, 9, 0, false⟩) }
  controllerSide := some .a }

theorem witness_LearningStarts :
    (∀ l : CameraLink, (checked 8 l .run).runs .relearn ⟨.a, commandCell 8 [0]⟩)
      ∧ (∀ l : CameraLink, (checked 8 l .standby).runs .relearn ⟨.a, commandCell 8 [0]⟩)
      ∧ (byteAt (payloadOf (commandCell 8 [0])) 0).toNat = (0 : CamPort).val
      ∧ 3 < (byteAt (payloadOf (commandCell 8 [4])) 0).toNat
      ∧ ((checked 8 .off .run).health[(0 : CamPort)]).lens ≠ .learning
      ∧ ((checked 8 .off .run).cams[(0 : CamPort)]).power = false
      ∧ ((checked 8 .locked .run).cams[(0 : CamPort)]).power = true
      ∧ ((checked 8 .off .standby).cams[(0 : CamPort)]).link = .off
      ∧ ((checked 8 .lost .standby).cams[(0 : CamPort)]).power = true
      ∧ ((checked 8 .testing .standby).cams[(0 : CamPort)]).link = .testing
      ∧ (∀ k : Fin 4, (checked 8 .off .standby).store.evidence[k] = none)
      ∧ (((checked 8 .locked .run).withHealth 0 (live .learning)).health[(0 : CamPort)]).lens = .learning
      ∧ (let s : State := { pinned 8 [0] with cams := State.reset.cams.set 0 { CameraPort.reset with link := .locked } }
         s.runs .relearn ⟨.a, commandCell 8 [0]⟩ ∧ (s.cams[(0 : CamPort)]).power = true
          ∧ s.store.evidence[(3 : Fin 4)] = some ⟨1, 0, .smeared, 9, 0, false⟩ ∧ s.cameraId 0 = 0
          ∧ (s.store.slots[(1 : SlotNo)]).pinned = true) :=
  ⟨fun _ => runs_of _ _ _ _ rfl (fun h => by cases h) (by decide +kernel),
    fun _ => runs_of _ _ _ _ rfl (fun h => by cases h) (by decide +kernel), by decide +kernel, by decide +kernel,
    by decide, by decide, by decide, by decide, by decide, by decide, by decide +kernel, by decide,
    runs_of _ _ _ _ rfl (fun h => by cases h) (by decide +kernel), by decide, by decide +kernel, by decide,
    by decide +kernel⟩

theorem witness_LensWritesAreReevaluated :
    ((writing .lensParams 3 LensParams.reset.bytes).writes ⟨.a, commandCell 2 LensParams.reset.bytes⟩ .lensParams
        ∧ readLensParams (payloadOf (commandCell 2 LensParams.reset.bytes)) = some LensParams.reset)
      ∧ ((writing .weight 191 [3]).writes ⟨.a, commandCell 2 [3]⟩ .weight
        ∧ readWeight (payloadOf (commandCell 2 [3])) = some 3) :=
  ⟨⟨writing_writes _ _ _ (by decide +kernel) (by decide), by decide +kernel⟩,
    writing_writes _ _ _ (by decide +kernel) (by decide), by decide +kernel⟩

theorem witness_AReferenceWriteIsTaken :
    let l := referenceBytes (some 100)
    (writing .reference 47 l).writes ⟨.a, commandCell 2 l⟩ .reference
      ∧ readReference (payloadOf (commandCell 2 l)) = some (some 100)
      ∧ ((writing .reference 47 l).health[(0 : CamPort)]).lens = .noReference
      ∧ Fin.ofNat 4 (47 / 48) = (0 : CamPort) ∧ Fin.ofNat 48 (47 % 48) = (47 : ZoneNo)
      ∧ (∀ lens : LensCondition, ((writing .reference 47 l).withHealth 0 (live lens)).writes
          ⟨.a, commandCell 2 l⟩ .reference
        ∧ (((writing .reference 47 l).withHealth 0 (live lens)).health[(0 : CamPort)]).lens = lens)
      ∧ ¬ (∀ k : ZoneNo, (Tables.reset.reference.set (47 : Fin 192) (some 100))[zoneEntry 0 k] = none) :=
  ⟨writing_writes _ _ _ (by decide +kernel) (by decide), by decide +kernel, by decide, by decide, by decide,
    fun lens => ⟨writes_of _ _ _ _ rfl (fun h => by cases h) (by decide +kernel) (by decide), by cases lens <;> decide⟩,
    fun h => absurd (h 47) (by decide +kernel)⟩

/-- The table of the test of R108: streams 120, 180, 181 and 4,000. -/
theorem witness_AStreamHasTwoBuckets :
    (waysOf 120).map (·.val / 4) = [27, 27, 27, 27, 4, 4, 4, 4]
      ∧ (waysOf 180).map (·.val / 4) = [17, 17, 17, 17, 14, 14, 14, 14]
      ∧ (waysOf 181).map (·.val / 4) = [16, 16, 16, 16, 15, 15, 15, 15]
      ∧ (waysOf 4000).map (·.val / 4) = [30, 30, 30, 30, 1, 1, 1, 1] := by
  decide +kernel

theorem witness_RouteCommandsChangeTheTable :
    let l : List Byte := [15, 255, 1, 3]
    ((asked 4 l).runs .routeAdd ⟨.a, commandCell 4 l⟩ ∧ (halfAt (payloadOf (commandCell 4 l)) 0).toNat = 4095
        ∧ readFlag (byteAt (payloadOf (commandCell 4 l)) 2) = some true
        ∧ directionOf (byteAt (payloadOf (commandCell 4 l)) 3).toNat = some .both
        ∧ (∀ i : Fin 128, (asked 4 l).tables.route[i] = none))
      ∧ ((asked 5 l).runs .routeRemove ⟨.a, commandCell 5 l⟩
        ∧ 4095 < (halfAt (payloadOf (commandCell 5 [16, 0])) 0).toNat)
      ∧ (let s : State := { asked 4 l with mode := .bypass }
         s.mode = .bypass ∧ s.agent.queue.head? = some ⟨.a, commandCell 4 l⟩) :=
  ⟨⟨asked_runs _ _ _ (by decide +kernel), by decide +kernel, by decide +kernel, by decide +kernel, by decide +kernel⟩,
    ⟨asked_runs _ _ _ (by decide +kernel), by decide +kernel⟩, rfl, rfl⟩

theorem witness_LayoutBanksAreAppliedAndCopied :
    (asked 6 []).runs .applyLayouts ⟨.a, commandCell 6 []⟩ ∧ (asked 7 []).runs .copyLayouts ⟨.a, commandCell 7 []⟩
      ∧ (∀ sc : Screen, ((asked 6 []).comp.outputs[sc]).running = false)
      ∧ ((running (asked 6 [])).comp.outputs[(0 : Screen)]).running = true :=
  ⟨asked_runs _ _ _ (by decide +kernel), asked_runs _ _ _ (by decide +kernel), by decide, by decide⟩

theorem witness_TheStatusIsReadOut :
    (asked 11 []).runs .readStatus ⟨.a, commandCell 11 []⟩
      ∧ ({ asked 11 [] with mode := .bypass } : State).runs .readStatus ⟨.a, commandCell 11 []⟩ :=
  ⟨asked_runs _ _ _ (by decide +kernel), rfl, by decide +kernel, fun _ => .inr (.inl rfl)⟩

theorem witness_CausesAndCountersAreRead :
    (asked 10 []).runs .readCauses ⟨.a, commandCell 10 []⟩
      ∧ ((asked 12 [3, 1]).runs .readCounters ⟨.a, commandCell 12 [3, 1]⟩
        ∧ groupOf (byteAt (payloadOf (commandCell 12 [3, 1])) 0).toNat = some .engine
        ∧ byteAt (payloadOf (commandCell 12 [3, 1])) 1 = 1)
      ∧ ((asked 13 [4]).runs .clearCounters ⟨.a, commandCell 13 [4]⟩
        ∧ 3 < (byteAt (payloadOf (commandCell 13 [4])) 0).toNat) :=
  ⟨asked_runs _ _ _ (by decide +kernel),
    ⟨asked_runs _ _ _ (by decide +kernel), by decide +kernel, by decide +kernel⟩,
    asked_runs _ _ _ (by decide +kernel), by decide +kernel⟩

theorem pinned_runs (code : Byte) (args : List Byte) (n : CommandName)
    (h : (⟨.a, commandCell code args⟩ : AgentCommand).name = some n) :
    (pinned code args).runs n ⟨.a, commandCell code args⟩ := runs_of _ _ _ _ rfl (fun e => by cases e) h

theorem witness_EvidenceIsReleased :
    (∀ args : List Byte, args = [3] ∨ args = [255] ∨ args = [0] ∨ args = [4] →
        (pinned 15 args).runs .releaseEvidence ⟨.a, commandCell 15 args⟩)
      ∧ (byteAt (payloadOf (commandCell 15 [3])) 0).toNat = (3 : Fin 4).val
      ∧ (pinned 15 [3]).store.evidence[(3 : Fin 4)] ≠ none ∧ (pinned 15 [0]).store.evidence[(0 : Fin 4)] = none
      ∧ (byteAt (payloadOf (commandCell 15 [255])) 0).toNat = 255
      ∧ (byteAt (payloadOf (commandCell 15 [4])) 0).toNat = 4
      ∧ (byteAt (payloadOf (commandCell 15 [254])) 0).toNat = 254
      ∧ (let e : SendEntry := ⟨.fetch (some 3), 1, 5, false, none, 114⟩
         ((pinned 15 [3]).withTrunk .b { Trunk.reset with sendList := [e] }).trunk.b.sendList[0]? = some e) := by
  refine ⟨?_, by decide +kernel⟩
  rintro args (rfl | rfl | rfl | rfl) <;> exact pinned_runs _ _ _ (by decide +kernel)

theorem witness_EvidenceIsFetched :
    let v : Evidence := ⟨1, 0, .smeared, 9, 0, false⟩
    let s := pinned 16 [3, 0, 5]
    s.runs .fetchEvidence ⟨.a, commandCell 16 [3, 0, 5]⟩
      ∧ (byteAt (payloadOf (commandCell 16 [3, 0, 5])) 0).toNat = (3 : Fin 4).val
      ∧ (halfAt (payloadOf (commandCell 16 [3, 0, 5])) 1).toNat = 5
      ∧ 4095 < (halfAt (payloadOf (commandCell 16 [3, 16, 0])) 1).toNat
      ∧ s.store.evidence[(3 : Fin 4)] = some v ∧ s.store.evidence[(0 : Fin 4)] = none ∧ v.fetching = false
      ∧ s.controllerSide = some .a ∧ (asked 16 [3, 0, 5]).controllerSide = none
      ∧ (s.trunk.get .a).sendList.length < 8 ∧ (s.trunk.get .a).sendList = [] :=
  ⟨pinned_runs _ _ _ (by decide +kernel), by decide +kernel⟩


/-! ### One step of each command, against the figures of its rules -/

/-- The state after a command. -/
def after (c : Instr) (s : State) : State :=
  match exec c s with
  | .next t => t
  | .fault _ => s
  | .refused _ => s

theorem test_power_on_reset_latches_the_straps :
    (after (.powerOnReset ⟨2, true, false⟩) heading).nodeNumber = 3 ∧ (after (.powerOnReset ⟨2, true, true⟩) heading).mode = .bypass := by
  decide +kernel

theorem test_reset_line_keeps_node_time : (after (.resetLine ⟨0, false, false⟩) following).nodeTime = 500 := by
  decide +kernel

theorem test_cab_active_makes_node_3_head :
    (after .cabActiveRise ({ State.reset with straps := ⟨2, true, false⟩ } : State)).orient.head = some 3 := by
  decide +kernel

theorem test_cab_active_fall_forgets_the_head : (after .cabActiveFall heading).orient.state = .none := by
  decide +kernel

theorem test_frame_start_opens_a_frame :
    ((after (.frameStart 0 leastHead) (withLink .waking none)).cams[(0 : CamPort)]).openFrame
      = some ⟨leastHead.record, 64, 48, false, 0⟩ := by
  decide +kernel

theorem test_frame_start_of_odd_width_is_an_error :
    ((after (.frameStart 0 { leastHead with width := 65 }) (withLink .waking none)).cams[(0 : CamPort)]).counters[(2 : Fin 6)] = 1 := by
  decide +kernel

theorem test_first_good_frame_locks :
    ((after (.frameEnd 0 (flat 100)) (withLink .waking (some smallFrame))).cams[(0 : CamPort)]).link = .locked := by
  decide +kernel

theorem test_lock_timer_starts_the_retry_timer :
    ((after (.lockTimerExpiry 0) (State.reset.withCam 0 { CameraPort.reset with link := .waking, lockTimer := some 0 })).cams[(0 : CamPort)]).retryTimer
      = some 10000 := by
  decide +kernel

theorem test_stall_timer_loses_the_port :
    ((after (.stallTimerExpiry 0) (State.reset.withCam 0 { CameraPort.reset with link := .locked, stallTimer := some 0 })).cams[(0 : CamPort)]).link
      = .lost := by
  decide +kernel

theorem test_retry_timer_counts_a_retry :
    ((after (.retryTimerExpiry 0) (State.reset.withCam 0 { CameraPort.reset with link := .lost, retryTimer := some 0 })).cams[(0 : CamPort)]).counters[(3 : Fin 6)]
      = 1 := by
  decide +kernel

theorem test_overcurrent_adds_two_causes :
    (after (.overcurrentTrip 0) (withLink .lost none)).agent.causes
      = [⟨.powerFault, 0, false⟩, ⟨.cameraLink, 0, false⟩] := by
  decide +kernel

theorem test_probe_distance_is_held_at_120 :
    ((after (.probeEnd 0 ⟨.short, some 200⟩) (withLink .testing none)).cams[(0 : CamPort)]).cableResult
      = some ⟨.short, some 120⟩ := by
  decide +kernel

theorem test_probe_past_30_ms_is_inconclusive :
    ((after (.probeEnd 0 ⟨.short, some 7⟩) ((withLink .testing none).withCam 0
        { CameraPort.reset with link := .testing, probeLimit := some 300 } |>.withNodeTime 301)).cams[(0 : CamPort)]).cableResult
      = some ⟨.inconclusive, none⟩ := by
  decide +kernel

theorem test_twenty_fifth_equal_frame_freezes :
    ((after (.sameFrameRunFull 0 (flat 100)) (taking { live .noReference with
        sameRun := 24, prevSignature := some (smallFrame.statsOf (flat 100)).signature })).health[(0 : CamPort)]).picture
      = .frozen := by
  decide +kernel

theorem test_tenth_dark_frame_darkens :
    ((after (.darkRunFull 0 (flat 7)) (taking { live .noReference with darkRun := 9 })).health[(0 : CamPort)]).picture
      = .dark := by
  decide +kernel

theorem test_three_hundredth_unusable_sample_unrates :
    ((after (.unusableRunFull 0 (flat 8)) (taking { live .clean with unusableRun := 299 })).health[(0 : CamPort)]).lens
      = .unrated := by
  decide +kernel

theorem test_learning_completes_to_clean :
    ((after (.learningComplete 0 (flat 100)) (taking { live .learning with progress := 31 })).health[(0 : CamPort)]).lens
      = .clean := by
  decide +kernel

theorem test_learning_deadline_restores_the_condition :
    ((after (.learningDeadline 0) (State.reset.withHealth 0
        { live .learning with deadline := some 0, keptAside := some .unrated })).health[(0 : CamPort)]).lens = .unrated := by
  decide +kernel

theorem test_signal_starts_training : ((after (.signalDetected .b) State.reset).trunk.get .b).link = .training := by
  decide +kernel

theorem test_signal_loss_in_up_is_counted : ((after (.signalLoss .a) upA).trunk.get .a).counters[(3 : Fin 9)] = 1 := by
  decide +kernel

theorem test_eighth_good_header_brings_up :
    ((after (.trainingComplete .a (fillCell true)) (portA { Trunk.reset with link := .training, goodRun := 7 })).trunk.get .a).link = .up := by
  decide +kernel

theorem test_bad_header_clears_the_good_run :
    ((after (.cellReceivedTraining .a badCell) (portA { Trunk.reset with link := .training, goodRun := 7 })).trunk.get .a).goodRun = 0 := by
  decide +kernel

theorem test_bad_header_in_up_is_counted : ((after (.headerFailure .a badCell) upA).trunk.get .a).counters[(2 : Fin 9)] = 1 := by
  decide +kernel

theorem test_fourth_bad_header_trains :
    ((after (.failedHeaderRunFull .a badCell) (portA { Trunk.reset with link := .up, failedRun := 3 })).trunk.get .a).link
      = .training := by
  decide +kernel

theorem test_fill_with_fault_is_far_fault : ((after (.fill .a (fillCell true)) upA).trunk.get .a).farFault = true := by
  decide +kernel

theorem test_beacon_is_one_hop_further :
    (after (.beacon .a (beaconOf 4)) upA).orient = ⟨.found, some 4, some .a, some 2, some 0, false, none, none⟩ := by
  decide +kernel

theorem test_state_gives_speed_and_side :
    (after (.state .a stateOf) upA).vehicle.speed = 50 ∧ (after (.state .a stateOf) upA).controllerSide = some .a := by
  decide +kernel

theorem test_command_for_node_1_is_queued : (after (.command .a (commandCell 14 [])) upA).agent.queue.length = 1 := by
  decide +kernel

theorem test_reply_is_passed_on :
    ((after (.passReplyNotice .a (sealCell (mkCell [0x40] []))) upA).trunk.get .b).control.length = 1 := by
  decide +kernel

theorem test_kind_9_is_bad : (after (.badKind .a (sealCell (mkCell [0x90] []))) upA).router.counters[(1 : Fin 13)] = 1 := by
  decide +kernel

theorem test_consumed_head_opens_a_context :
    ((after (.tileHead .a headCell) (routed true .none)).router.contexts[(0 : ContextNo)]).map (·.cellCount) = some 114 := by
  decide +kernel

theorem test_data_cell_moves_the_context :
    ((after (.tileData .a (dataCell 0)) (joining 0 false)).router.contexts[(0 : ContextNo)]).map (·.next) = some 1 := by
  decide +kernel

theorem test_last_data_cell_publishes :
    (after (.contextEnd .a (dataCell 113)) (joining 113 false)).store.viewMap[(0 : ViewNo)] = some 0 := by
  decide +kernel

theorem test_bypass_passes_a_command_on :
    ((after (.bypassPass .a (commandCell 14 [])) ({ upA with mode := .bypass } : State)).trunk.get .b).bypassPath
      = [commandCell 14 []] := by
  decide +kernel

theorem test_idle_port_sends_fill : ((after (.cellTime ⟨none, none⟩) upA).trunk.get .a).line = fillCell false := by
  decide +kernel

theorem test_last_cell_ends_the_send_entry :
    ((after (.sendEntryEnd .a ⟨none, none⟩) (sending (entryOf true (some 113) 114) 0 [])).trunk.get .a).sendList = [] := by
  decide +kernel

theorem test_beacon_period_is_10_ms : (after .beaconPeriod (up heading)).orient.nextBeacon = some 100 := by
  decide +kernel

theorem test_failed_last_cell_is_padded_with_0s :
    (((after (.cellTime ⟨some (List.replicate 54 7), none⟩) (sending (entryOf true (some 113) 114) 0 [])).trunk.get .a).line.drop
        8).take 54 = List.replicate 42 7 ++ List.replicate 12 0 := by
  decide +kernel

theorem test_silent_head_is_forgotten : (after .orientationExpiry following).orient.head = none := by
  decide +kernel

theorem test_yielding_node_resumes : (after .resumeTime yielding).orient.head = some 3 := by
  decide +kernel

theorem test_context_expiry_counts_tile_timeout :
    (after (.contextExpiry 0) (joining 3 false)).router.counters[(12 : Fin 13)] = 1 := by
  decide +kernel

theorem test_staleness_clears_fresh :
    (after .stalenessExpiry ({ State.reset with vehicle := { Vehicle.reset with fresh := true, expiry := some 0 } } : State)).vehicle.fresh
      = false := by
  decide +kernel

theorem test_hold_expiry_takes_the_wanted_layout :
    ((after (.holdExpiry 0) (({ State.reset with nodeTime := 1000 } : State).withSelection 0 ⟨1, 2, 0, 1, some 1000⟩)).selection[(0 : Screen)]).layout
      = 0 := by
  decide +kernel

theorem test_pulse_end_ends_the_chime :
    (after .pulseEnd ({ State.reset with comp := { Compositor.reset with pulseEnd := some 0 } } : State)).comp.pulseEnd
      = none := by
  decide +kernel

theorem test_head_composes :
    ((after (.screenFrameStart 0) (running heading)).comp.outputs[(0 : Screen)]).frame.map (·.composed) = some true := by
  decide +kernel

theorem test_survey_start_takes_the_locked_member :
    (after .surveyStart (surveyed .locked ⟨.idle, some 0, none, 0⟩)).survey = ⟨.skip, none, some 0, 0⟩ := by
  decide +kernel

theorem test_eighth_skipped_frame_begins_the_burst :
    (after (.surveySkipDone 0 (flat 100)) (surveyed .locked ⟨.skip, some 0, some 0, 7⟩)).survey.phase = .burst := by
  decide +kernel

theorem test_sixteenth_burst_frame_ends_the_survey :
    (after (.surveyBurstDone 0 (flat 100)) (surveyed .locked ⟨.burst, some 0, some 0, 15⟩)).survey.phase = .idle := by
  decide +kernel

theorem test_sample_scores_a_poor_zone :
    let s := taking (live .clean)
    let t := s.withTables { s.tables with reference := Tables.reset.reference.set 0 (some 48) }
    (((after (.sample 0 (flat 100)) t).health[(0 : CamPort)]).zones[(0 : ZoneNo)]).score = 1 := by
  decide +kernel

theorem test_short_line_in_waking_is_an_error :
    ((after (.shortLine 0) (withLink .waking (some smallFrame))).cams[(0 : CamPort)]).counters[(2 : Fin 6)] = 1 := by
  decide +kernel

theorem test_draw_failure_damages_a_held_slot :
    ((after (.drawCheckFailure 0 1) (withFrame ⟨true, none, 0, [], [1]⟩ pictured)).store.slots[(1 : SlotNo)]).damaged
      = true := by
  decide +kernel

/-! ### The agent's commands -/

theorem test_select_table_sets_the_pointer :
    (after .selectTable (asked 1 [6, 0, 15])).agent.window = some .door
      ∧ (after .selectTable (asked 1 [6, 0, 15])).agent.pointer = 15 := by
  decide +kernel

theorem test_write_without_a_table_is_refused :
    ((after .writeNext (asked 2 [])).trunk.get .a).control = [mkCell [0x40, 1, 9, 3, 0, 1] []] := by
  decide +kernel

theorem test_write_door :
    (after .writeDoor (writing .door 15 [31, 1])).tables.door[(15 : Fin 16)] = ⟨some 31, .one⟩ := by
  decide +kernel

theorem test_write_weight : (after .writeWeight (writing .weight 191 [3])).tables.weight[(191 : Fin 192)] = 3 := by
  decide +kernel

theorem test_write_reference_leaves_no_reference :
    ((after .writeReference (writing .reference 47 (referenceBytes (some 100)))).health[(0 : CamPort)]).lens
      = .unrated := by
  decide +kernel

theorem test_write_tile_plan_moves_the_pointer :
    (after .writeTilePlan (writing .tilePlan 7 TilePlan.reset.bytes)).agent.pointer = 8 := by
  decide +kernel

theorem test_write_camera_config_powers_the_port :
    ((after .writeCameraConfig (writing .cameraConfig 0 [1, 0, 25, 0, 72])).cams[(0 : CamPort)]).link = .waking := by
  decide +kernel

theorem test_write_lens_params :
    ((after .writeLensParams (writing .lensParams 3 LensParams.reset.bytes)).agent.pointer) = 4 := by
  decide +kernel

theorem test_write_rules :
    (after .writeRules (writing .rules1 0 Rule.reset.bytes)).tables.rules[(1 : Screen)][(0 : Fin 16)] = Rule.reset := by
  decide +kernel

theorem test_write_layout_header :
    ((after .writeLayoutPending (writing .layoutPending 150 [9])).tables.pendingBank[(15 : Fin 16)]).count = 9 := by
  decide +kernel

theorem test_write_output_config_starts_the_output :
    let e : OutputConfig := { OutputConfig.reset with enabled := true }
    ((after .writeOutputConfig ({ writing .outputConfig 0 e.bytes with straps := ⟨0, true, false⟩ } : State)).comp.outputs[(0 : Screen)]).running
      = true := by
  decide +kernel

theorem test_write_node_params :
    (after .writeNodeParams (writing .nodeParams 0 { NodeParams.reset with share := 7 }.bytes)).tables.nodeParams.share
      = 7 := by
  decide +kernel

theorem test_read_next_moves_the_pointer :
    (after .readNext (State.reset.withAgent
      { Agent.reset with queue := [⟨.a, commandCell 3 [4]⟩], window := some .door, pointer := 12 })).agent.pointer = 16 := by
  decide +kernel

/-- R193, with the DOOR table (code 6) at pointer 12: the refused count 5, and the same command in BYPASS. -/
theorem test_refused_read_next_carries_the_pointer :
    ∀ m ∈ [Mode.run, .bypass], ((after .readNext { State.reset with
      mode := m
      agent := { Agent.reset with queue := [⟨.a, commandCell 3 [5]⟩], window := some .door, pointer := 12 } }).trunk.a.control.map
        payloadOf) = [padTo 54 [6, 0, 12]] := by
  decide +kernel

theorem test_route_add_takes_the_primary_bucket :
    (after .routeAdd (asked 4 [0, 5, 1, 3])).tables.route[(20 : Fin 128)] = some ⟨5, true, .both⟩ := by
  decide +kernel

theorem test_route_remove_empties_the_way :
    (after .routeRemove ({ asked 5 [0, 5] with tables := (routed true .none).tables } : State)).tables.route[(20 : Fin 128)]
      = none := by
  decide +kernel

theorem test_apply_layouts_answers_ok :
    (after .applyLayouts (asked 6 [])).trunk.a.control = [mkCell [0x40, 1, 9, 0, 0, 1] []] := by
  decide +kernel

theorem test_copy_layouts_answers_ok :
    (after .copyLayouts (asked 7 [])).trunk.a.control = [mkCell [0x40, 1, 9, 0, 0, 1] []] := by
  decide +kernel

theorem test_relearn_needs_power :
    ((after .relearn (asked 8 [0])).health[(0 : CamPort)]).lens = .noReference := by
  decide +kernel

theorem test_cable_check_gives_the_probe_30_ms :
    ((after .cableCheck (asked 9 [0])).cams[(0 : CamPort)]).link = .testing
      ∧ ((after .cableCheck (asked 9 [0])).cams[(0 : CamPort)]).probeLimit = some 300 := by
  decide +kernel

theorem test_read_causes_arms_notices :
    (after .readCauses ((asked 10 []).withAgent { (asked 10 []).agent with armed := false })).agent.armed = true := by
  decide +kernel

theorem test_read_status_answers_in_four_cells : (after .readStatus (asked 11 [])).trunk.a.control.length = 4 := by
  decide +kernel

theorem test_read_counters_keeps_them :
    (after .readCounters ({ asked 12 [0, 0] with trunk := ⟨{ Trunk.reset with counters := Vector.replicate 9 5 }, Trunk.reset⟩ } : State)).trunk.a.counters
      = Vector.replicate 9 5 := by
  decide +kernel

theorem test_clear_counters_clears_them :
    (after .clearCounters ({ asked 13 [0] with trunk := ⟨{ Trunk.reset with counters := Vector.replicate 9 5 }, Trunk.reset⟩ } : State)).trunk.a.counters
      = Vector.replicate 9 0 := by
  decide +kernel

theorem test_set_mode_to_standby : (after .setMode (asked 14 [1])).mode = .standby := by
  decide +kernel

theorem test_release_evidence_empties_the_position :
    (after .releaseEvidence (pinned 15 [3])).store.evidence[(3 : Fin 4)] = none := by
  decide +kernel

theorem test_fetch_evidence_takes_a_hold :
    ((after .fetchEvidence (pinned 16 [3, 0, 5])).store.slots[(1 : SlotNo)]).holders = 1 := by
  decide +kernel

theorem test_restart_answers_first :
    (after .restart (asked 17 [])).trunk.a.control = [mkCell [0x40, 1, 9, 0, 0, 1] []] := by
  decide +kernel

/-! ### Cells, against the worked case of chapter 11 and the published check values of the two CRCs -/

theorem test_worked_tile_head :
    let r : TileRecord := ⟨180, 407, 640, 360, true, 2210, none⟩
    let c := tileHeadCell 180 r ⟨36, .captured 0, .live, .clean, 2⟩ 32
    c.take 7 = [0x60, 0, 180, 151, 0, 0, 0]
      ∧ (payloadOf c).take 19 =
        [0, 180, 36, 1, 151, 2, 128, 1, 104, 1, 33, 86, 8, 162, 0, 32, 0, 3, 2] := by
  decide +kernel

theorem test_crc_check_values :
    crc8 [0x31, 0x32, 0x33, 0x34, 0x35, 0x36, 0x37, 0x38, 0x39] = 0xF4
      ∧ crc16 [0x31, 0x32, 0x33, 0x34, 0x35, 0x36, 0x37, 0x38, 0x39] = 0x29B1 := by
  decide +kernel

end Sys2Proof.Tests
end

