-- ==== Sys2Proof/Proofs/TileEngine.lean ====
section
/-! PROOF. The rounded mean and its use in the samples of a tile (R26 to R29, R192): every scaled plane is a table of
rectangle means, a mirrored plane is the same table read from the other end, and a tile is the concatenation of the
pixel pairs of its lines, four bytes each. -/

namespace Sys2Proof.Machine

/-! ### The rounded mean (R27) -/

theorem sumBytes_eq_sum (l : List Byte) : sumBytes l = (l.map BitVec.toNat).sum := by
  rw [List.sum_eq_foldl_nat, List.foldl_map, sumBytes]

theorem sumBytes_le (l : List Byte) : sumBytes l ≤ l.length * 255 := by
  have byte_le : ∀ n ∈ l.map BitVec.toNat, n ≤ 255 := by
    intro n hn
    obtain ⟨b, -, rfl⟩ := List.mem_map.mp hn
    have := b.isLt
    omega
  simpa [sumBytes_eq_sum] using List.sum_le_card_nsmul _ 255 byte_le

/-- A mean half-way between two integers is rounded up: the number of samples is even, so that its half is exact. -/
theorem roundedMean_halfway {sum n k : Nat} (hn : 0 < n) (half : 2 * sum = n * (2 * k + 1)) :
    roundedMean sum n = k + 1 := by
  have exact_half : sum + n / 2 = n * (k + 1) := by
    rw [Nat.mul_add, Nat.mul_left_comm] at half
    rw [Nat.mul_add]
    omega
  rw [roundedMean, exact_half, Nat.mul_div_cancel_left _ hn]

theorem roundedMean_le_255 {l : List Byte} (hl : l ≠ []) : roundedMean (sumBytes l) l.length ≤ 255 := by
  have hpos : 0 < l.length := List.length_pos_iff.mpr hl
  have hsum := sumBytes_le l
  refine Nat.le_of_lt_succ (Nat.div_lt_of_lt_mul ?_)
  omega

/-! ### Rectangles of a plane (R26, R28) -/

theorem take_drop_eq_map_getD {α : Type} (l : List α) (d : α) {a k : Nat} (h : a + k ≤ l.length) :
    (l.drop a).take k = (List.range' a k).map fun x => l.getD x d := by
  apply List.ext_getElem
  · simp
    omega
  · intro i h₁ h₂
    have hi : i < k := by simpa using h₂
    simp [List.getElem?_eq_getElem (show a + i < l.length by omega)]

theorem sumBytes_run {r : List Byte} {a k : Nat} (h : a + k ≤ r.length) :
    sumBytes ((r.drop a).take k) = ((List.range' a k).map fun x => (byteAt r x).toNat).sum := by
  rw [sumBytes_eq_sum, take_drop_eq_map_getD r 0 h, List.map_map]
  rfl

/-- The lines of a plane hold the crop that starts at column `c` and line `cy` and extends `cw` × `ch`. -/
def HoldsCrop (plane : List (List Byte)) (c cw cy ch : Nat) : Prop :=
  cy + ch ≤ plane.length ∧ ∀ l ∈ plane, c + cw ≤ l.length

/-- The sum that the box filter forms line by line is the sum over the rectangle. -/
theorem foldl_sumBytes_eq_boxSum {plane : List (List Byte)} {x0 x1 y0 y1 : Nat}
    (hx : x0 ≤ x1) (hy : y0 ≤ y1) (hlines : y1 ≤ plane.length) (hcols : ∀ l ∈ plane, x1 ≤ l.length) :
    ((plane.drop y0).take (y1 - y0)).foldl (fun t r => t + sumBytes ((r.drop x0).take (x1 - x0))) 0
      = boxSum plane x0 x1 y0 y1 := by
  have hrows := take_drop_eq_map_getD plane [] (show y0 + (y1 - y0) ≤ plane.length by omega)
  have hline : ∀ y ∈ List.range' y0 (y1 - y0), sumBytes (((plane.getD y []).drop x0).take (x1 - x0))
      = ((List.range' x0 (x1 - x0)).map fun x => (byteAt (plane.getD y []) x).toNat).sum := by
    intro y hmem
    obtain ⟨-, hlt⟩ := List.mem_range'_1.mp hmem
    have hin : y < plane.length := by omega
    have hlen := hcols _ (List.getElem_mem hin)
    rw [← List.getD_eq_getElem plane [] hin] at hlen
    exact sumBytes_run (by omega)
  rw [boxSum, ← List.map_congr_left hline, List.sum_eq_foldl_nat, hrows, List.foldl_map, List.foldl_map]

/-- The edges of the box of output sample `i` are in order and within the crop. -/
theorem box_edges (c cw : Nat) {ow i : Nat} (hi : i < ow) :
    c + i * cw / ow ≤ c + (i + 1) * cw / ow ∧ c + (i + 1) * cw / ow ≤ c + cw :=
  ⟨Nat.add_le_add_left (Nat.div_le_div_right (Nat.mul_le_mul_right cw i.le_succ)) c,
    Nat.add_le_add_left (Nat.div_le_of_le_mul (Nat.mul_le_mul_right cw hi)) c⟩

/-- A scaled plane is the table of the rounded means of its rectangles. -/
theorem scalePlane_eq_boxMeans {plane : List (List Byte)} {c cw cy ch : Nat} (h : HoldsCrop plane c cw cy ch)
    (ow oh : Nat) :
    scalePlane plane c cw ow cy ch oh
      = (List.range oh).map fun j => (List.range ow).map fun i => byte (boxMean plane c cw ow cy ch oh i j) := by
  obtain ⟨hlines, hcols⟩ := h
  refine List.map_congr_left fun j hj => List.map_congr_left fun i hi => ?_
  obtain ⟨hx, hright⟩ := box_edges c cw (List.mem_range.mp hi)
  obtain ⟨hy, hbottom⟩ := box_edges cy ch (List.mem_range.mp hj)
  have hsum := foldl_sumBytes_eq_boxSum hx hy (hbottom.trans hlines) fun l hl => hright.trans (hcols l hl)
  have hcount : ((plane.drop (cy + j * ch / oh)).take (cy + (j + 1) * ch / oh - (cy + j * ch / oh))).length
      = cy + (j + 1) * ch / oh - (cy + j * ch / oh) := by
    rw [List.length_take, List.length_drop]
    omega
  simp only [hsum, hcount, roundedMean, boxMean]

/-! ### Mirroring (R29) -/

/-- The sample of a line of `w` that stands at place `i` of the tile. -/
def mirrorIndex (mirror : Bool) (w i : Nat) : Nat := if mirror then w - 1 - i else i

theorem reverse_map_range {α : Type} (f : Nat → α) (w : Nat) :
    ((List.range w).map f).reverse = (List.range w).map fun i => f (w - 1 - i) := by
  apply List.ext_getElem <;> simp

theorem mirrorPlane_map_range (mirror : Bool) (f : Nat → Nat → Byte) (w h : Nat) :
    mirrorPlane mirror ((List.range h).map fun j => (List.range w).map (f j))
      = (List.range h).map fun j => (List.range w).map fun i => f j (mirrorIndex mirror w i) := by
  cases mirror with
  | false => rfl
  | true => simp [mirrorPlane, mirrorIndex, reverse_map_range]

/-! ### Tile byte order (R192) -/

theorem interleave_map_range {w k : Nat} (hw : w = 2 * k) (y u v : Nat → Byte) :
    interleave ((List.range w).map y) ((List.range k).map u) ((List.range k).map v)
      = (List.range k).flatMap fun m => [y (2 * m), u m, y (2 * m + 1), v m] := by
  subst hw
  induction k generalizing y u v with
  | zero => rfl
  | succ k ih =>
    have tail := ih (fun i => y (i + 2)) (fun i => u (i + 1)) (fun i => v (i + 1))
    simp only [Nat.mul_succ, List.range_succ_eq_map, List.map_cons, List.map_map, List.flatMap_cons,
      List.flatMap_map, interleave, List.cons_append, List.nil_append]
    exact congrArg (y 0 :: u 0 :: y 1 :: v 0 :: ·) tail

/-- The four bytes of pixel pair `m` of line `j` of a tile: luma, Cb, luma, Cr (R26 to R29, R192). -/
def tilePair (pic : Picture) (t : TilePlan) (c : Crop) (j m : Nat) : List Byte :=
  let luma (i : Nat) : Byte :=
    byte (boxMean pic.luma c.x c.w t.outW c.y c.h t.outH (mirrorIndex t.mirror t.outW i) j)
  let chroma (plane : List (List Byte)) : Byte :=
    byte (boxMean plane (c.x / 2) (c.w / 2) (t.outW / 2) c.y c.h t.outH (mirrorIndex t.mirror (t.outW / 2) m) j)
  [luma (2 * m), chroma pic.cb, luma (2 * m + 1), chroma pic.cr]

/-- The bytes of a tile are those of its pixel pairs, line after line. -/
theorem makeTile_eq_tilePairs {pic : Picture} {t : TilePlan} {c : Crop} (heven : t.outW % 2 = 0)
    (hluma : HoldsCrop pic.luma c.x c.w c.y c.h) (hcb : HoldsCrop pic.cb (c.x / 2) (c.w / 2) c.y c.h)
    (hcr : HoldsCrop pic.cr (c.x / 2) (c.w / 2) c.y c.h) :
    makeTile pic t c = (List.range t.outH).flatMap fun j => (List.range (t.outW / 2)).flatMap (tilePair pic t c j) := by
  have hwidth : t.outW = 2 * (t.outW / 2) := by omega
  simp only [makeTile, scalePlane_eq_boxMeans hluma, scalePlane_eq_boxMeans hcb, scalePlane_eq_boxMeans hcr,
    mirrorPlane_map_range, List.zip_map', List.flatMap_map, interleave_map_range hwidth]
  rfl

/-! ### Reading one block out of a run of equal blocks -/

/-- Bytes `r` to `r + s` of block `j` in a concatenation of blocks of `len` bytes. -/
theorem take_drop_flatMap {α β : Type} {F : α → List β} {len r s : Nat} (hrs : r + s ≤ len) :
    ∀ {l : List α} {j : Nat}, (∀ a ∈ l, (F a).length = len) → (hj : j < l.length) →
      ((l.flatMap F).drop (len * j + r)).take s = ((F l[j]).drop r).take s
  | a :: l, 0, hF, _ => by
    have ha : (F a).length = len := hF a List.mem_cons_self
    rw [Nat.mul_zero, Nat.zero_add, List.flatMap_cons, List.drop_append_of_le_length (by omega),
      List.take_append_of_le_length (by rw [List.length_drop]; omega), List.getElem_cons_zero]
  | a :: l, j + 1, hF, hj => by
    have ha : (F a).length = len := hF a List.mem_cons_self
    have hskip : len * (j + 1) + r = (F a).length + (len * j + r) := by rw [ha, Nat.mul_succ]; omega
    rw [List.flatMap_cons, hskip, List.drop_length_add_append, List.getElem_cons_succ]
    exact take_drop_flatMap hrs (fun b hb => hF b (List.mem_cons_of_mem a hb)) (Nat.lt_of_succ_lt_succ hj)

/-- Where pixel pair `m` of line `j` stands in the tile. -/
theorem makeTile_pair {pic : Picture} {t : TilePlan} {c : Crop} {j m : Nat} (heven : t.outW % 2 = 0)
    (hluma : HoldsCrop pic.luma c.x c.w c.y c.h) (hcb : HoldsCrop pic.cb (c.x / 2) (c.w / 2) c.y c.h)
    (hcr : HoldsCrop pic.cr (c.x / 2) (c.w / 2) c.y c.h) (hj : j < t.outH) (hm : m < t.outW / 2) :
    ((makeTile pic t c).drop (2 * t.outW * j + 4 * m)).take 4 = tilePair pic t c j m := by
  have line_length : ∀ i ∈ List.range t.outH,
      ((List.range (t.outW / 2)).flatMap (tilePair pic t c i)).length = 2 * t.outW := by
    intro i _
    simp only [List.length_flatMap, tilePair, List.length_cons, List.length_nil, List.map_const', List.length_range,
      List.sum_replicate, smul_eq_mul]
    omega
  calc ((makeTile pic t c).drop (2 * t.outW * j + 4 * m)).take 4
      = (((List.range (t.outW / 2)).flatMap (tilePair pic t c j)).drop (4 * m + 0)).take 4 := by
        rw [makeTile_eq_tilePairs heven hluma hcb hcr,
          take_drop_flatMap (by omega) line_length (by simpa using hj), List.getElem_range, Nat.add_zero]
    _ = tilePair pic t c j m := by
        rw [take_drop_flatMap (len := 4) (by omega) (fun _ _ => rfl) (by simpa using hm), List.getElem_range]
        rfl

/-- A chroma plane holds the halved crop when its lines reach to half the crop's right edge (R28). -/
theorem holdsCrop_chroma {plane : List (List Byte)} {c : Crop} (hlines : c.y + c.h ≤ plane.length)
    (hcols : ∀ l ∈ plane, (c.x + c.w) / 2 ≤ l.length) : HoldsCrop plane (c.x / 2) (c.w / 2) c.y c.h := by
  refine ⟨hlines, fun l hl => ?_⟩
  have := hcols l hl
  omega

/-! ### The obligation -/

/-- Settles O14: the rounding facts are arithmetic, and the samples are read off the tile pair by pair. -/
theorem meansRoundHalfUp : Obligations.MeansRoundHalfUp := by
  refine ⟨fun _ _ _ => rfl, fun _ _ _ => roundedMean_halfway, fun _ => roundedMean_le_255, ?_⟩
  intro pic plan c j m _ heven _ _ _ _ hlines hcbLines hcrLines hcols hcbCols hcrCols hj hm
  have hpair := makeTile_pair heven ⟨hlines, hcols⟩ (holdsCrop_chroma hcbLines hcbCols)
    (holdsCrop_chroma hcrLines hcrCols) hj hm
  have second : plan.outW - 1 - (2 * m + 1) = plan.outW - 2 - 2 * m := by omega
  rw [hpair]
  cases hmirror : plan.mirror with
  | false => simp [tilePair, mirrorIndex, hmirror]
  | true => simp [tilePair, mirrorIndex, hmirror, second]

end Sys2Proof.Machine
end

section
/-! PROOF. The coverage of a camera (R73): the sum of the weights of its obscured zones, and so at most 48 × 3. The law
reads the health records and the weights alone, so the frame lemmas carry it through every operation that touches
neither; the health monitor, the resets, the table writes and the layout banks have a lemma each. -/
namespace Sys2Proof.Machine

/-! ### The coverage of a port (R73) -/

/-- The coverage depends on the obscured flags of the zones and on the port's own weights alone. -/
theorem coverageOf_congr {v w : Vector Nat 192} {p : CamPort} {x y : Vector Zone 48}
    (weights : ∀ z : ZoneNo, v[zoneEntry p z] = w[zoneEntry p z])
    (flags : ∀ z : ZoneNo, (x[z]).obscured = (y[z]).obscured) : coverageOf v p x = coverageOf w p y := by
  simp only [coverageOf, weights, flags]

theorem coverageOf_eq_sum (w : Vector Nat 192) (p : CamPort) (x : Vector Zone 48) :
    coverageOf w p x = ((List.finRange 48).map fun z => if (x[z]).obscured then w[zoneEntry p z] else 0).sum := by
  rw [List.sum_eq_foldl_nat, List.foldl_map, coverageOf]

theorem coverageOf_eq_zero {w : Vector Nat 192} {p : CamPort} {x : Vector Zone 48}
    (clear : ∀ z : ZoneNo, (x[z]).obscured = false) : coverageOf w p x = 0 := by
  rw [coverageOf_eq_sum]
  exact List.sum_eq_zero fun n hn => by
    obtain ⟨z, -, rfl⟩ := List.mem_map.mp hn
    rw [clear z]
    rfl

/-- 48 zones with weights of at most 3 (R59) give a coverage of at most 144. -/
theorem coverageOf_le_144 {w : Vector Nat 192} (light : ∀ i : Fin 192, w[i] ≤ 3) (p : CamPort) (x : Vector Zone 48) :
    coverageOf w p x ≤ 144 := by
  have each : ∀ n ∈ (List.finRange 48).map (fun z => if (x[z]).obscured then w[zoneEntry p z] else 0), n ≤ 3 := by
    intro n hn
    obtain ⟨z, -, rfl⟩ := List.mem_map.mp hn
    split
    · exact light _
    · exact Nat.zero_le 3
  simpa [coverageOf_eq_sum] using List.sum_le_card_nsmul _ 3 each

/-- A weight belongs to the port its index falls to, index / 48 (R59): writing it leaves the other ports' coverage. -/
theorem coverageOf_set_other {w : Vector Nat 192} {n v : Nat} {q : CamPort} (other : q ≠ Fin.ofNat 4 (n / 48))
    (x : Vector Zone 48) : coverageOf (w.set (Fin.ofNat 192 n) v) q x = coverageOf w q x := by
  refine coverageOf_congr (fun z => getElem_set_ne w (fun e => other (Fin.ext ?_)) v) (fun _ => rfl)
  have := congrArg Fin.val e
  simp only [zoneEntry, Fin.ofNat] at this ⊢
  omega

/-! ### One health record -/

/-- A health record's coverage is the sum of the weights of its obscured zones (R73). -/
def Health.covers (h : Health) (w : Vector Nat 192) (p : CamPort) : Prop := h.coverage = coverageOf w p h.zones

section
variable {h k : Health} {w : Vector Nat 192} {p : CamPort}

/-- A record with the same coverage and the same flags meets the law as well. -/
theorem Health.covers.congr (hc : h.covers w p) (coverage : k.coverage = h.coverage)
    (flags : ∀ z : ZoneNo, (k.zones[z]).obscured = (h.zones[z]).obscured) : k.covers w p :=
  coverage.trans (hc.trans (coverageOf_congr (fun _ => rfl) fun z => (flags z).symm))

theorem Health.covers_of_clear (coverage : h.coverage = 0) (clear : ∀ z : ZoneNo, (h.zones[z]).obscured = false) :
    h.covers w p := coverage.trans (coverageOf_eq_zero clear).symm

theorem Health.covers_recovered (h : Health) (w : Vector Nat 192) (p : CamPort) : (h.recovered w p).covers w p := by
  simp only [covers, recovered]

theorem Health.covers_scored (h : Health) (e : LensParams) (st : FrameStats) (r : Vector (Option Nat) 192)
    (w : Vector Nat 192) (p : CamPort) : (h.scored e st r w p).covers w p := by
  simp only [covers, scored]

theorem Health.covers_wiped (h : Health) (w : Vector Nat 192) (p : CamPort) : h.wiped.covers w p :=
  covers_of_clear rfl fun z => by simp [wiped]

theorem Health.covers_reset (lens : LensCondition) (w : Vector Nat 192) (p : CamPort) :
    (Health.reset lens).covers w p :=
  covers_of_clear rfl fun z => by simp [reset, Zone.reset]

theorem Health.covers.moved (hc : h.covers w p) (e : LensParams) : (h.moved e).covers w p := by
  unfold Health.moved
  split
  · exact hc
  · exact hc

theorem Health.covers.learned (hc : h.covers w p) (e : LensParams) (st : FrameStats) : (h.learned e st).covers w p :=
  hc.congr (by simp only [Health.learned]) fun z => by
    simp only [Health.learned, Fin.getElem_fin, Vector.getElem_ofFn, apply_ite Zone.obscured, ite_self]

theorem Health.covers.runs (hc : h.covers w p) (st : FrameStats) (level : Nat) : (h.runs st level).covers w p :=
  hc.congr (by simp only [Health.runs]) fun z => by simp only [Health.runs]

theorem Health.covers.unusable (hc : h.covers w p) : h.unusable.covers w p :=
  hc.congr (by simp only [Health.unusable]) fun z => by simp only [Health.unusable]

theorem Health.covers.afterLink (hc : h.covers w p) (old new : CameraLink) : (h.afterLink old new).covers w p := by
  unfold Health.afterLink
  split
  · exact hc
  · split
    · exact hc
    · exact hc

/-- A REFERENCE write leaves the record wiped, or with its coverage recomputed (R60). -/
theorem Health.covers_afterReference (h : Health) (z : ZoneNo) (allAbsent : Bool) (e : LensParams)
    (w : Vector Nat 192) (p : CamPort) : (h.afterReference z allAbsent e w p).covers w p := by
  unfold Health.afterReference
  dsimp only
  split
  · exact covers_wiped _ w p
  · split
    · exact covers_wiped _ w p
    · exact (covers_recovered _ w p).moved e

end

/-! ### The law of R73 under the updates of State -/

section
variable {s t : State}

theorem State.coverageOk.covers (h : s.coverageOk) (p : CamPort) : (s.health[p]).covers s.tables.weight p := h.1 p

/-- A record put in for a port must cover its zones; the other ports' records must already. -/
theorem coverageOk_withHealth {p : CamPort} {k : Health} (light : ∀ i : Fin 192, s.tables.weight[i] ≤ 3)
    (own : k.covers s.tables.weight p) (others : ∀ q : CamPort, q ≠ p → (s.health[q]).covers s.tables.weight q) :
    (s.withHealth p k).coverageOk := by
  refine ⟨fun q => ?_, light⟩
  by_cases hq : q = p
  · subst hq
    rw [State.withHealth_health, getElem_set_same]
    exact own
  · rw [State.withHealth_health, getElem_set_ne _ (Ne.symm hq)]
    exact others q hq

theorem State.coverageOk.withHealth (h : s.coverageOk) {p : CamPort} {k : Health} (own : k.covers s.tables.weight p) :
    (s.withHealth p k).coverageOk :=
  coverageOk_withHealth h.2 own fun q _ => h.covers q

theorem State.coverageOk.withTables (h : s.coverageOk) {b : Tables} (same : b.weight = s.tables.weight) :
    (s.withTables b).coverageOk := by
  simpa only [State.coverageOk, State.withTables_health, State.withTables_tables, same] using h

/-- The parts that the law of R73 does not read. -/
def besideCoverage : List Part :=
  [.nodeTime, .cellCount, .straps, .cabActive, .mode, .cams, .engine, .store, .trunk, .orient, .controllerSide, .router,
    .vehicle, .selection, .alarm, .comp, .agent, .survey, .swapTies, .pending]

@[simp] theorem mem_besideCoverage (x : Part) : x ∈ besideCoverage ↔ x ≠ .health ∧ x ≠ .tables := by
  cases x <;> decide

/-- What changes other parts alone leaves the health records and the tables. -/
theorem health_tables_of_mask (e : t.mask besideCoverage = s.mask besideCoverage) :
    t.health = s.health ∧ t.tables = s.tables := by
  have same : SameBut besideCoverage s t := (sameBut_iff_mask _ s t).mpr e
  have health : s.health = t.health := same .health (by simp)
  have tables : s.tables = t.tables := same .tables (by simp)
  exact ⟨health.symm, tables.symm⟩

theorem State.coverageOk.of_mask (h : s.coverageOk) (e : t.mask besideCoverage = s.mask besideCoverage) :
    t.coverageOk := by
  obtain ⟨health, tables⟩ := health_tables_of_mask e
  rwa [State.coverageOk, health, tables]

/-- Whichever of two states a test gives, when both meet the law. -/
theorem coverageOk_ite {c : Prop} [Decidable c] (hs : s.coverageOk) (ht : t.coverageOk) :
    (if c then s else t).coverageOk := by
  split
  · exact hs
  · exact ht

/-- What keeps the law at one camera port keeps it when done for each in turn. -/
theorem State.coverageOk.eachPort (h : s.coverageOk) {f : CamPort → State → State}
    (hf : ∀ p u, u.coverageOk → (f p u).coverageOk) : (eachPort f s).coverageOk :=
  List.foldlRecOn _ _ h fun u hu p _ => hf p u hu

/-! ### The health monitor -/

theorem State.coverageOk.addCause (h : s.coverageOk) (k : CauseKind) (n : Nat) (e : Bool) :
    (addCause k n e s).coverageOk :=
  h.of_mask (by simp)

theorem State.coverageOk.lensEvent (h : s.coverageOk) (p : CamPort) (before : LensCondition) :
    (lensEvent p before s).coverageOk :=
  h.of_mask (by simp)

theorem State.coverageOk.completeLearning (h : s.coverageOk) (p : CamPort) : (completeLearning p s).coverageOk := by
  unfold Machine.completeLearning
  refine ((h.withTables (by rfl)).withHealth ?_).addCause _ _ _
  exact (Health.covers_wiped _ _ _).congr rfl fun _ => rfl

/-- A sample is scored with the coverage recomputed, or changes neither the flags nor the coverage, or ends a learning,
which wipes both (R66, R82). -/
theorem State.coverageOk.takeSample (h : s.coverageOk) (p : CamPort) (st : FrameStats) :
    (takeSample p st s).coverageOk := by
  have own := h.covers p
  have scored : (if s.usable p st = true then
      s.withHealth p ((s.health[p]).scored s.tables.lensParams[p] st s.tables.reference s.tables.weight p)
      else s.withHealth p (s.health[p]).unusable).coverageOk :=
    coverageOk_ite (h.withHealth (Health.covers_scored _ _ _ _ _ p)) (h.withHealth own.unusable)
  have learned := h.withHealth (own.learned s.tables.lensParams[p] st)
  cases lens : (s.health[p]).lens with
  | noReference => simpa only [Machine.takeSample, lens] using h
  | learning =>
    simp only [Machine.takeSample, lens]
    exact coverageOk_ite (coverageOk_ite (learned.completeLearning p) learned) h
  | unrated | clean | smeared | blocked => simpa only [Machine.takeSample, lens] using scored

theorem State.coverageOk.takeFrame (h : s.coverageOk) (p : CamPort) (st : FrameStats) :
    (takeFrame p st s).coverageOk := by
  have ran := h.withHealth ((h.covers p).runs st (s.tables.lensParams[p]).darkLevel)
  have counted : ∀ {u : State} (n : Nat), u.coverageOk →
      (u.withHealth p { u.health[p] with sampleCount := n }).coverageOk :=
    fun n hu => hu.withHealth ((hu.covers p).congr rfl fun _ => rfl)
  have reported := coverageOk_ite (c := ((s.withHealth p ((s.health[p]).runs st
    (s.tables.lensParams[p]).darkLevel)).health[p]).picture = (s.health[p]).picture)
    ran (ran.addCause .pictureChange p.val false)
  unfold Machine.takeFrame
  exact coverageOk_ite ((counted _ reported).takeSample p st) (counted _ reported)

/-- The coverage is recomputed by the weights as they stand, whatever it was at the port (R76). -/
theorem reevaluateLens_coverageOk {p : CamPort} (light : ∀ i : Fin 192, s.tables.weight[i] ≤ 3)
    (others : ∀ q : CamPort, q ≠ p → (s.health[q]).covers s.tables.weight q) : (reevaluateLens p s).coverageOk := by
  unfold reevaluateLens
  exact (coverageOk_withHealth light ((Health.covers_recovered _ _ p).moved _) others).lensEvent p _

theorem State.coverageOk.releaseAll (h : s.coverageOk) (ks : List (Fin 4)) : (releaseAll ks s).coverageOk :=
  h.of_mask (mask_releaseAll (by simp) (by simp))

theorem State.coverageOk.startLearning (h : s.coverageOk) (p : CamPort) : (startLearning p s).coverageOk := by
  unfold Machine.startLearning
  refine ((h.withHealth ?_).releaseAll _).lensEvent p _
  exact (h.covers p).congr rfl fun z => by simp

theorem State.coverageOk.failLearning (h : s.coverageOk) (p : CamPort) : (failLearning p s).coverageOk := by
  unfold Machine.failLearning
  refine ((h.withHealth (Health.covers.moved ?_ _)).addCause _ _ _).lensEvent p _
  exact (h.covers p).congr rfl fun _ => rfl

/-! ### Camera ports and the lens survey -/

theorem State.coverageOk.moveLink (h : s.coverageOk) (p : CamPort) (new : CameraLink)
    (extra : List (CauseKind × Nat)) : (moveLink p new extra s).coverageOk := by
  have ended : (if (s.cams[p]).link = .locked then endBadly p s else s).mask besideCoverage
      = s.mask besideCoverage := by
    split
    · exact mask_endBadly (by simp) (by simp)
    · rfl
  unfold Machine.moveLink
  refine State.coverageOk.of_mask (State.coverageOk.withHealth
    (h.of_mask ((mask_withCam (by simp)).trans ended)) ?_) (mask_addTogether (by simp) (by simp))
  rw [State.withCam_tables, (health_tables_of_mask ended).2]
  exact (h.covers p).afterLink _ _

theorem State.coverageOk.reevaluateDemand (h : s.coverageOk) (p : CamPort) : (reevaluateDemand p s).coverageOk := by
  have rise := coverageOk_ite (c := s.demand p = true) (h.moveLink p .waking []) h
  have fall := coverageOk_ite (c := s.demand p = true) h (h.moveLink p .off [])
  cases link : (s.cams[p]).link with
  | off => simpa only [Machine.reevaluateDemand, link] using rise
  | waking | locked | lost => simpa only [Machine.reevaluateDemand, link] using fall
  | testing | powerFault => simpa only [Machine.reevaluateDemand, link] using h

theorem State.coverageOk.eachDemand (h : s.coverageOk) : (Machine.eachPort Machine.reevaluateDemand s).coverageOk :=
  h.eachPort fun p _ hu => hu.reevaluateDemand p

theorem State.coverageOk.withSurvey (h : s.coverageOk) (v : Survey) : (s.withSurvey v).coverageOk :=
  h.of_mask (mask_withSurvey (by simp))

theorem State.coverageOk.withCam (h : s.coverageOk) (p : CamPort) (c : CameraPort) : (s.withCam p c).coverageOk :=
  h.of_mask (mask_withCam (by simp))

theorem State.coverageOk.surveyTake (h : s.coverageOk) (ps : List CamPort) : (surveyTake ps s).coverageOk := by
  induction ps with
  | nil => exact h.withSurvey _
  | cons p ps later =>
    unfold Machine.surveyTake
    refine coverageOk_ite ?_ later
    cases (s.cams[p]).link with
    | powerFault | testing => exact later
    | locked | off | waking | lost => exact (h.withSurvey _).reevaluateDemand p

theorem State.coverageOk.surveyLeave (h : s.coverageOk) (p : CamPort) : (surveyLeave p s).coverageOk :=
  ((h.withSurvey _).reevaluateDemand p).surveyTake _

theorem State.coverageOk.surveyReacts (h : s.coverageOk) (p : CamPort) : (surveyReacts p s).coverageOk := by
  unfold Machine.surveyReacts
  refine coverageOk_ite ?_ h
  cases (s.cams[p]).link with
  | locked => exact coverageOk_ite (h.withSurvey _) h
  | waking => exact h
  | off | lost | testing | powerFault => exact h.surveyLeave p

theorem State.coverageOk.changeLink (h : s.coverageOk) (p : CamPort) (new : CameraLink)
    (extra : List (CauseKind × Nat)) : (changeLink p new extra s).coverageOk :=
  (h.moveLink p new extra).surveyReacts p

theorem State.coverageOk.surveyCount (h : s.coverageOk) (p : CamPort) : (surveyCount p s).coverageOk := by
  unfold Machine.surveyCount
  cases s.surveyPhaseOf p with
  | idle | waitLock => exact h
  | skip => exact coverageOk_ite (h.withSurvey _) (h.withSurvey _)
  | burst => exact coverageOk_ite (h.surveyLeave p) (h.withSurvey _)

theorem State.coverageOk.countCam (h : s.coverageOk) (p : CamPort) (k : PortCounter) : (countCam p k s).coverageOk :=
  h.of_mask (mask_countCam (by simp))

theorem State.coverageOk.failFrame (h : s.coverageOk) (p : CamPort) : (failFrame p s).coverageOk := by
  have counted := h.countCam p .frameErrors
  exact coverageOk_ite (counted.changeLink p _ _) (counted.withCam p _)

theorem State.coverageOk.takeFrameStart (h : s.coverageOk) (p : CamPort) (x : FrameHead) :
    (takeFrameStart p x s).coverageOk := by
  unfold Machine.takeFrameStart
  cases (s.cams[p]).link with
  | locked => exact coverageOk_ite (h.of_mask (mask_deliverStart (by simp) (by simp) (by simp))) (h.failFrame p)
  | waking => exact coverageOk_ite (h.of_mask (mask_openWaking (by simp))) (h.failFrame p)
  | off | lost | testing | powerFault => exact h

theorem State.coverageOk.completeTile (h : s.coverageOk) (p : CamPort) (rendition : Fin 2) (pic : Picture) :
    (completeTile p rendition pic s).coverageOk :=
  h.of_mask (by simp)

/-- Of a good frame end in LOCKED only the take of the frame (R62) can score the zones; the rest follows from it. -/
theorem State.coverageOk.goodEnd (h : s.coverageOk) (p : CamPort) (f : OpenFrame) (pic : Picture) :
    (goodEnd p f pic s).coverageOk := by
  have ended : ((endGood p f s).withSums p (gather pic.luma f.width f.height)).coverageOk := h.of_mask (by simp)
  have taken := ended.takeFrame p (frameStats f (gather pic.luma f.width f.height))
  have counted := (((taken.completeTile p 0 pic).completeTile p 1 pic).lensEvent p (s.health[p]).lens).surveyCount p
  exact coverageOk_ite (counted.reevaluateDemand p) counted

theorem State.coverageOk.lockPort (h : s.coverageOk) (p : CamPort) (f : OpenFrame) : (lockPort p f s).coverageOk :=
  ((h.moveLink p _ _).withCam p _).surveyReacts p

theorem State.coverageOk.frameEnd (h : s.coverageOk) (p : CamPort) (pic : Picture) : (frameEnd p pic s).coverageOk := by
  unfold Machine.frameEnd
  cases (s.cams[p]).openFrame with
  | none => exact h
  | some f =>
    exact coverageOk_ite (coverageOk_ite (coverageOk_ite (h.goodEnd p f pic) (h.lockPort p f)) (h.failFrame p)) h

theorem State.coverageOk.frameEndIf (h : s.coverageOk) (p : CamPort) (pic : Picture) (test : FrameStats → Bool) :
    (frameEndIf p pic test s).coverageOk := by
  unfold Machine.frameEndIf
  cases s.taken p pic with
  | none => exact h
  | some st => exact coverageOk_ite (h.frameEnd p pic) h

theorem State.coverageOk.startCheck (h : s.coverageOk) (p : CamPort) : (startCheck p s).coverageOk :=
  (h.withCam p _).changeLink p _ _

theorem State.coverageOk.endCheck (h : s.coverageOk) (p : CamPort) (f : ProbeFinding) : (endCheck p f s).coverageOk :=
  ((h.withCam p _).addCause _ _ _).changeLink p _ _

theorem State.coverageOk.cameraTakes (h : s.coverageOk) (p : CamPort) : (cameraTakes p s).coverageOk := by
  unfold Machine.cameraTakes
  cases (s.cams[p]).link with
  | off | waking | locked | lost => exact h.reevaluateDemand p
  | testing => exact h.withCam p _
  | powerFault => exact h.changeLink p _ _

/-! ### The compositor -/

theorem State.coverageOk.withComp (h : s.coverageOk) (v : Compositor) : (s.withComp v).coverageOk :=
  h.of_mask (mask_withComp (by simp))

theorem State.coverageOk.frameStart (h : s.coverageOk) (sc : Screen) : (frameStart sc s).coverageOk := by
  have released : (endFrameHolds sc s).coverageOk := h.of_mask (mask_endFrameHolds (by simp))
  have applied : (takeApply (endFrameHolds sc s)).coverageOk := by
    unfold takeApply
    cases (endFrameHolds sc s).comp.applyImage with
    | none => exact released
    | some image => exact (released.withTables (by rfl)).withComp _
  exact coverageOk_ite (applied.of_mask (by simp)) (applied.of_mask (by simp))

theorem State.coverageOk.outputTakes (h : s.coverageOk) (sc : Screen) (old new : OutputConfig) :
    (outputTakes sc old new s).coverageOk := by
  have stopped : (stopOutput sc s).coverageOk := h.of_mask (mask_stopOutput (by simp) (by simp))
  have started := h.frameStart sc
  exact coverageOk_ite (coverageOk_ite (coverageOk_ite (coverageOk_ite h started) stopped) (coverageOk_ite started h)) h

theorem State.coverageOk.startOutputs (h : s.coverageOk) : (startOutputs s).coverageOk := by
  have first := coverageOk_ite (c := (s.straps.cabEnd && (s.tables.outputConfig[(0 : Screen)]).enabled) = true)
    (h.frameStart 0) h
  exact coverageOk_ite (first.frameStart 1) first

/-! ### Modes and resets -/

theorem State.coverageOk.reevaluateCandidacy (h : s.coverageOk) : (reevaluateCandidacy s).coverageOk :=
  h.of_mask (by simp)

theorem State.coverageOk.orientMode (h : s.coverageOk) : (orientMode s).coverageOk :=
  h.of_mask (by simp)

theorem State.coverageOk.removeEntries (h : s.coverageOk) (p : TrunkPort) (f : SendEntry → Bool) :
    (removeEntries p f s).coverageOk :=
  h.of_mask (mask_removeEntries (by simp) (by simp))

theorem State.coverageOk.dropHold (h : s.coverageOk) (p : CamPort) : (dropHold p s).coverageOk :=
  h.withHealth ((h.covers p).congr rfl fun _ => rfl)

theorem State.coverageOk.enterMode (h : s.coverageOk) (m : Mode) : (enterMode m s).coverageOk := by
  cases m with
  | run => exact h
  | standby => exact h.withSurvey _
  | bypass =>
    unfold Machine.enterMode enterBypass
    exact ((h.removeEntries _ _).removeEntries _ _).eachPort fun p _ hu => hu.dropHold p

theorem State.coverageOk.changeMode (h : s.coverageOk) (m : Mode) : (changeMode m s).coverageOk := by
  have left : (leaveMode s.mode (s.withMode m)).coverageOk := h.of_mask (by simp)
  have entered := left.enterMode m
  exact coverageOk_ite entered.eachDemand.orientMode entered.orientMode.eachDemand

/-- A power-on reset and the reset line clear every record and put the default weights in (R59, R87). -/
theorem afterReset_coverageOk (s : State) (straps : Straps) (now : NodeTime) (cells : Nat) :
    (s.afterReset straps now cells).coverageOk := by
  refine ⟨fun p => ?_, ?_⟩
  · have cleared : (s.afterReset straps now cells).health[p] = Health.reset .noReference := by
      simp [State.afterReset, State.reset]
    rw [cleared]
    exact Health.covers_reset _ _ p
  · intro i
    simp [State.afterReset, State.reset, Tables.reset]

/-- RESTART clears every record and keeps the weights (R87, R173). -/
theorem State.coverageOk.afterRestart (h : s.coverageOk) : s.afterRestart.coverageOk := by
  refine ⟨fun p => ?_, h.2⟩
  have cleared : s.afterRestart.health[p] = s.restartHealth p := by simp [State.afterRestart]
  rw [cleared]
  exact Health.covers_reset _ _ p

theorem State.coverageOk.reply (h : s.coverageOk) (c : AgentCommand) (st : Status) (parts : List (List Byte)) :
    (reply c st parts s).coverageOk :=
  h.of_mask (mask_reply (by simp))

theorem State.coverageOk.replyStatus (h : s.coverageOk) (c : AgentCommand) (st : Status) :
    (replyStatus c st s).coverageOk :=
  h.of_mask (mask_replyStatus (by simp))

theorem State.coverageOk.restart (h : s.coverageOk) (c : AgentCommand) : (restart c s).coverageOk := by
  have kept : (keepCopy c s s.afterRestart).coverageOk := h.afterRestart.of_mask (mask_withTrunk (by simp))
  have replied := kept.replyStatus c .ok
  exact (coverageOk_ite replied.eachDemand.reevaluateCandidacy replied.reevaluateCandidacy.eachDemand).startOutputs

/-! ### The agent's commands -/

theorem State.coverageOk.disposeUnknown (h : s.coverageOk) (cs : List AgentCommand) : (disposeUnknown cs s).coverageOk :=
  h.of_mask (mask_disposeUnknown (by simp) (by simp))

/-- One execution step of a command keeps the law when its work does (R166). -/
theorem State.coverageOk.runCommand (h : s.coverageOk) {n : CommandName} {applies : State → Bool}
    {act : AgentCommand → State → State} (hact : ∀ c u, u.coverageOk → (act c u).coverageOk) :
    (runCommand n applies act s).coverageOk := by
  have known := h.disposeUnknown s.agent.queue
  have popped : ∀ {u : State}, u.coverageOk → (popCommand u).coverageOk :=
    fun hu => hu.of_mask (mask_popCommand (by simp))
  unfold Machine.runCommand
  dsimp only
  split
  · exact h
  · exact coverageOk_ite (popped (coverageOk_ite (hact _ _ known) (known.reply ..))) h

theorem State.coverageOk.withPointer (h : s.coverageOk) (n : Nat) : (s.withPointer n).coverageOk :=
  h.of_mask (mask_withPointer (by simp))

/-- A write keeps the law when the block's take of every entry that passes its checks does (R169). -/
theorem State.coverageOk.writeEntry (h : s.coverageOk) {α : Type} {entries : Nat} {read : List Byte → Option α}
    {busy : State → Bool} {take : α → State → State} (htake : ∀ l v, read l = some v → (take v s).coverageOk)
    (c : AgentCommand) : (writeEntry entries read busy take c s).coverageOk := by
  unfold Machine.writeEntry
  refine coverageOk_ite (h.replyStatus c _) ?_
  cases entry : read c.args with
  | none => exact h.replyStatus c _
  | some v =>
    have taken := htake _ v entry
    exact coverageOk_ite (h.replyStatus c _) ((taken.withPointer _).replyStatus c _)

theorem State.coverageOk.execWrite (h : s.coverageOk) {α : Type} {applies : State → Bool} {entries : Nat}
    {read : List Byte → Option α} {busy : State → Bool} {take : α → State → State}
    (htake : ∀ u l v, u.coverageOk → read l = some v → (take v u).coverageOk) :
    (Machine.runCommand .writeNext applies (Machine.writeEntry entries read busy take) s).coverageOk :=
  h.runCommand fun c u hu => hu.writeEntry (fun l v hv => htake u l v hu hv) c

theorem State.coverageOk.takeTilePlan (h : s.coverageOk) (e : TilePlan) : (takeTilePlan e s).coverageOk :=
  h.withTables (by rfl)

theorem State.coverageOk.takeCameraConfig (h : s.coverageOk) (e : CameraConfig) : (takeCameraConfig e s).coverageOk := by
  unfold Machine.takeCameraConfig
  exact (h.withTables (by rfl)).cameraTakes _

theorem State.coverageOk.takeLensParams (h : s.coverageOk) (e : LensParams) : (takeLensParams e s).coverageOk :=
  reevaluateLens_coverageOk h.2 fun q _ => h.covers q

theorem readWeight_le {l : List Byte} {n : Nat} (read : readWeight l = some n) : n ≤ 3 := by
  simp only [readWeight, Option.ite_none_right_eq_some] at read
  obtain ⟨le, value⟩ := read
  exact Option.some.inj value ▸ le

/-- A weight of at most 3 is written: the other ports' coverage does not read it, and its own port's is recomputed
(R59, R76). -/
theorem State.coverageOk.takeWeight (h : s.coverageOk) {n : Nat} (hn : n ≤ 3) : (takeWeight n s).coverageOk := by
  refine reevaluateLens_coverageOk (fun i => ?_) fun q hq => ?_
  · by_cases hi : Fin.ofNat 192 s.agent.pointer = i
    · subst hi
      rw [State.withTables_tables, getElem_set_same]
      exact hn
    · rw [State.withTables_tables, getElem_set_ne _ hi]
      exact h.2 i
  · exact (h.covers q).trans (coverageOf_set_other hq _).symm

theorem State.coverageOk.takeReference (h : s.coverageOk) (v : Option Nat) : (takeReference v s).coverageOk := by
  unfold Machine.takeReference
  exact ((h.withTables (by rfl)).withHealth (Health.covers_afterReference ..)).lensEvent _ _

theorem State.coverageOk.evaluate (h : s.coverageOk) (sc : Screen) : (evaluate sc s).coverageOk :=
  h.of_mask (mask_evaluate (by simp) (by simp))

theorem State.coverageOk.takeDoor (h : s.coverageOk) (e : DoorEntry) : (takeDoor e s).coverageOk := by
  unfold Machine.takeDoor evaluateBoth
  exact ((h.withTables (by rfl)).evaluate 0).evaluate 1

theorem State.coverageOk.takeRule (h : s.coverageOk) (sc : Screen) (r : Rule) : (takeRule sc r s).coverageOk := by
  unfold Machine.takeRule
  exact (h.withTables (by rfl)).evaluate sc

theorem State.coverageOk.takeLayoutEntry (h : s.coverageOk) (e : LayoutEntry) : (takeLayoutEntry e s).coverageOk :=
  h.withTables (by rfl)

theorem State.coverageOk.takeOutputConfig (h : s.coverageOk) (e : OutputConfig) : (takeOutputConfig e s).coverageOk := by
  have stored : (s.withTables { s.tables with
      outputConfig := s.tables.outputConfig.set (Fin.ofNat 2 s.agent.pointer) e }).coverageOk := h.withTables (by rfl)
  exact coverageOk_ite ((stored.evaluate _).outputTakes _ _ e) ((stored.outputTakes _ _ e).evaluate _)

theorem State.coverageOk.takeNodeParams (h : s.coverageOk) (e : NodeParams) : (takeNodeParams e s).coverageOk := by
  have stored : (s.withTables { s.tables with nodeParams := e }).coverageOk := h.withTables (by rfl)
  exact (coverageOk_ite (stored.withSurvey _) stored).of_mask (mask_retime (by simp) (by simp) (by simp))

theorem State.coverageOk.relearn (h : s.coverageOk) (c : AgentCommand) : (relearn c s).coverageOk := by
  unfold Machine.relearn
  cases portOf (byteAt c.args 0) with
  | none => exact h.replyStatus c _
  | some p =>
    have begun := h.startLearning p
    refine coverageOk_ite (h.replyStatus c _) (coverageOk_ite (h.replyStatus c _)
      (coverageOk_ite (h.replyStatus c _) ?_))
    exact (coverageOk_ite (begun.reevaluateDemand p) begun).replyStatus c _

theorem State.coverageOk.cableCheck (h : s.coverageOk) (c : AgentCommand) : (cableCheck c s).coverageOk := by
  unfold Machine.cableCheck
  cases portOf (byteAt c.args 0) with
  | none => exact h.replyStatus c _
  | some p => exact coverageOk_ite (h.replyStatus c _) ((h.startCheck p).replyStatus c _)

theorem State.coverageOk.setMode (h : s.coverageOk) (c : AgentCommand) : (setMode c s).coverageOk := by
  unfold Machine.setMode
  cases modeOf (byteAt c.args 0).toNat with
  | none => exact h.replyStatus c _
  | some m => exact (coverageOk_ite h (h.changeMode m)).replyStatus c _

theorem State.coverageOk.withRoute (h : s.coverageOk) (i : Fin 128) (e : Option RouteEntry) :
    (s.withRoute i e).coverageOk := h.withTables (by rfl)

theorem State.coverageOk.routeAdd (h : s.coverageOk) (c : AgentCommand) : (routeAdd c s).coverageOk := by
  unfold Machine.routeAdd
  dsimp only
  split
  · refine coverageOk_ite ?_ (h.replyStatus c _)
    split
    · exact (h.withRoute _ _).reply c _ _
    · exact h.replyStatus c _
  · exact h.replyStatus c _

theorem State.coverageOk.routeRemove (h : s.coverageOk) (c : AgentCommand) : (routeRemove c s).coverageOk := by
  unfold Machine.routeRemove
  refine coverageOk_ite ?_ (h.replyStatus c _)
  split
  · exact (h.withRoute _ _).reply c _ _
  · exact h.replyStatus c _

theorem State.coverageOk.applyLayouts (h : s.coverageOk) : (applyLayouts s).coverageOk :=
  coverageOk_ite (h.withComp _) ((h.withTables (by rfl)).withComp _)

theorem State.coverageOk.copyLayouts (h : s.coverageOk) : (copyLayouts s).coverageOk := h.withTables (by rfl)

/-! ### Cells that arrive -/

theorem State.coverageOk.handOn (h : s.coverageOk) (p : TrunkPort) : (handOn p s).coverageOk :=
  h.of_mask (mask_handOn (by simp) (by simp))

theorem State.coverageOk.takeControl (h : s.coverageOk) {act : State → State}
    (hact : ∀ u : State, (act u).mask besideCoverage = u.mask besideCoverage) (p : TrunkPort) (c : Cell) :
    (takeControl p c act s).coverageOk :=
  coverageOk_ite ((h.handOn p).of_mask (hact _)) ((h.handOn p).of_mask (mask_countRouter (by simp)))

theorem State.coverageOk.takeTile (h : s.coverageOk) {act : State → State}
    (hact : ∀ u : State, (act u).mask besideCoverage = u.mask besideCoverage) (p : TrunkPort) (c : Cell) :
    (takeTile p c act s).coverageOk := by
  have forwarded : (forwardTile p c (countPayload c (Machine.handOn p s))).coverageOk := h.of_mask (by simp)
  exact coverageOk_ite (forwarded.of_mask (hact _)) forwarded

/-! ### Every command -/

/-- Every command keeps the law of R73: by the lemma of its effect, or, where it touches neither the records nor the
tables, by the frame of its operations. -/
theorem State.coverageOk.exec {i : Instr} (h : s.coverageOk) (e : exec i s = .next t) : t.coverageOk := by
  cases i <;> cases e
  case powerOnReset | resetLine => exact (afterReset_coverageOk ..).reevaluateCandidacy
  case cabActiveRise =>
    have risen : (s.withCabActive true).coverageOk := h.of_mask (mask_withCabActive (by simp))
    exact coverageOk_ite h (coverageOk_ite (risen.changeMode _) risen.reevaluateCandidacy)
  case frameStart p x => exact (coverageOk_ite (h.failFrame p) h).takeFrameStart p x
  case frameEnd p pic => exact h.frameEnd p pic
  case sameFrameRunFull p pic | darkRunFull p pic | sample p pic | unusableRunFull p pic | learningComplete p pic
    | surveySkipDone p pic | surveyBurstDone p pic => exact h.frameEndIf p pic _
  case lockTimerExpiry p | stallTimerExpiry p => exact coverageOk_ite (h.changeLink p _ _) h
  case retryTimerExpiry p | overcurrentTrip p => exact coverageOk_ite ((h.countCam p _).changeLink p _ _) h
  case probeEnd p f => exact coverageOk_ite (h.endCheck p f) h
  case shortLine p => exact coverageOk_ite (h.failFrame p) h
  case learningDeadline p =>
    have failed := h.failLearning p
    exact coverageOk_ite (coverageOk_ite (failed.reevaluateDemand p) failed) h
  case surveyStart => exact coverageOk_ite ((h.withSurvey _).surveyTake _) h
  case signalLoss p =>
    cases (s.trunk.get p).link with
    | down => exact h
    | training => exact h.of_mask (by simp)
    | up => exact h.of_mask (by simp)
  case beacon p c | state p c | command p c | passReplyNotice p c =>
    exact coverageOk_ite (h.takeControl (fun _ => by simp) p c) h
  case tileHead p c | tileData p c | contextEnd p c => exact coverageOk_ite (h.takeTile (fun _ => by simp) p c) h
  case badKind | bypassPass | signalDetected | cellReceivedTraining | trainingComplete | headerFailure
    | failedHeaderRunFull | fill | sendEntryEnd | beaconPeriod | orientationExpiry | resumeTime | contextExpiry
    | stalenessExpiry | holdExpiry | pulseEnd | drawCheckFailure | cabActiveFall =>
    exact coverageOk_ite (h.of_mask (by simp)) h
  case cellTime => exact h.of_mask (mask_cellTime (by simp) (by simp) (by simp) (by simp))
  case screenFrameStart sc => exact coverageOk_ite (h.frameStart sc) h
  case selectTable | readNext | readCauses | readCounters | clearCounters | releaseEvidence | fetchEvidence =>
    exact h.runCommand fun c _ hu => hu.of_mask (by simp)
  case readStatus => exact h.runCommand fun c _ hu => hu.reply c _ _
  case writeNext => exact h.runCommand fun c _ hu => hu.replyStatus c _
  case writeTilePlan => exact h.execWrite fun _ _ _ hu _ => hu.takeTilePlan _
  case writeCameraConfig => exact h.execWrite fun _ _ e hu _ => hu.takeCameraConfig e
  case writeLensParams => exact h.execWrite fun _ _ e hu _ => hu.takeLensParams e
  case writeWeight => exact h.execWrite fun _ _ _ hu read => hu.takeWeight (readWeight_le read)
  case writeReference => exact h.execWrite fun _ _ v hu _ => hu.takeReference v
  case writeDoor => exact h.execWrite fun _ _ _ hu _ => hu.takeDoor _
  case writeRules => exact h.runCommand fun c _ hu => hu.writeEntry (fun _ r _ => hu.takeRule _ r) c
  case writeLayoutPending => exact h.runCommand fun c _ hu => hu.writeEntry (fun _ e _ => hu.takeLayoutEntry e) c
  case writeOutputConfig => exact h.execWrite fun _ _ e hu _ => hu.takeOutputConfig e
  case writeNodeParams => exact h.execWrite fun _ _ e hu _ => hu.takeNodeParams e
  case routeAdd => exact h.runCommand fun c _ hu => hu.routeAdd c
  case routeRemove => exact h.runCommand fun c _ hu => hu.routeRemove c
  case applyLayouts => exact h.runCommand fun c _ hu => hu.applyLayouts.replyStatus c _
  case copyLayouts => exact h.runCommand fun c _ hu => hu.copyLayouts.replyStatus c _
  case relearn => exact h.runCommand fun c _ hu => hu.relearn c
  case cableCheck => exact h.runCommand fun c _ hu => hu.cableCheck c
  case setMode => exact h.runCommand fun c _ hu => hu.setMode c
  case restart => exact h.runCommand fun c _ hu => hu.restart c

theorem State.coverageOk.idle (h : s.coverageOk) : (idle s).coverageOk :=
  h.of_mask (by simp [Machine.idle])

end

/-- Settles O6: every command keeps the law, and so does the unit of node time that passes when none waits; the range
is that of 48 weights of at most 3. -/
theorem stepKeepsCoverage : Obligations.StepKeepsCoverage := by
  intro s t h e
  have kept : t.coverageOk := by
    unfold step at e
    split at e
    · cases e
      exact h.idle
    · exact State.coverageOk.exec (h.of_mask (mask_withPending (by simp))) e
  refine ⟨kept, fun p => ?_⟩
  rw [kept.covers p]
  exact coverageOf_le_144 kept.2 p _

end Sys2Proof.Machine
end

section
/-! PROOF. The cause set and its notices (R91, R174, R175): what joining a cause does to a list, by whether the list
holds a cause alike, and what the two cells of a NOTICE do to the trunk port of the controller side. -/
namespace Sys2Proof.Machine

/-! ### Causes alike in kind and subject (R174) -/

theorem Cause.alike_iff (c d : Cause) : c.alike d = true ↔ d.kind = c.kind ∧ d.subject = c.subject := by
  rw [Cause.alike, Bool.and_eq_true, beq_iff_eq, beq_iff_eq, eq_comm, eq_comm (a := c.subject)]

theorem find?_alike_eq_none {c : Cause} {cs : List Cause} :
    cs.find? c.alike = none ↔ ∀ d ∈ cs, ¬ (d.kind = c.kind ∧ d.subject = c.subject) := by
  simp only [List.find?_eq_none, Cause.alike_iff]

/-- An entry of the set behind the arrival of `c` with its evidence flag set (R174). -/
def Cause.marked (c d : Cause) : Cause := if c.alike d then { d with evidence := true } else d

@[simp] theorem Cause.marked_kind (c d : Cause) : (c.marked d).kind = d.kind := by
  unfold Cause.marked
  split
  · rfl
  · rfl

@[simp] theorem Cause.marked_subject (c d : Cause) : (c.marked d).subject = d.subject := by
  unfold Cause.marked
  split
  · rfl
  · rfl

/-- An entry whose flag stands already is left as it is. -/
theorem Cause.marked_of_evidence {c d : Cause} (stands : c.alike d = true → d.evidence = true) : c.marked d = d := by
  unfold Cause.marked
  split
  next alike => rw [← stands alike]
  next => rfl

/-- No two entries of a set are alike in kind and subject. -/
abbrev NoTwoAlike (cs : List Cause) : Prop := cs.Pairwise fun d e => ¬ (d.kind = e.kind ∧ d.subject = e.subject)

/-- The entry alike to a cause is the only one. -/
theorem NoTwoAlike.eq_of_alike {cs : List Cause} (h : NoTwoAlike cs) {c d e : Cause} (hd : d ∈ cs) (he : e ∈ cs)
    (cd : c.alike d = true) (ce : c.alike e = true) : d = e := by
  obtain ⟨kindD, subjectD⟩ := (c.alike_iff d).mp cd
  obtain ⟨kindE, subjectE⟩ := (c.alike_iff e).mp ce
  by_contra ne
  have symmetric : Std.Symm fun x y : Cause => ¬ (x.kind = y.kind ∧ x.subject = y.subject) :=
    ⟨fun _ _ unlike alike => unlike ⟨alike.1.symm, alike.2.symm⟩⟩
  exact h.forall hd he ne ⟨kindD.trans kindE.symm, subjectD.trans subjectE.symm⟩

theorem NoTwoAlike.marked {cs : List Cause} (h : NoTwoAlike cs) (c : Cause) : NoTwoAlike (cs.map c.marked) :=
  List.pairwise_map.mpr (by simpa only [Cause.marked_kind, Cause.marked_subject] using h)

theorem NoTwoAlike.concat {cs : List Cause} (h : NoTwoAlike cs) {c : Cause} (unlike : cs.find? c.alike = none) :
    NoTwoAlike (cs ++ [c]) :=
  List.pairwise_append.mpr ⟨h, List.pairwise_singleton _ _, fun d hd _ he =>
    List.mem_singleton.mp he ▸ find?_alike_eq_none.mp unlike d hd⟩

/-! ### Joining a cause to a set (R174) -/

/-- A cause unlike all joins the end of the set while there is room, and sets the overflow mark otherwise. -/
theorem joinCause_of_unlike {c : Cause} {cs : List Cause} (overflow : Bool) (unlike : cs.find? c.alike = none) :
    joinCause c cs overflow = if cs.length < 24 then ⟨cs ++ [c], overflow, true⟩ else ⟨cs, true, !overflow⟩ := by
  simp only [joinCause, unlike]

theorem map_marked_eq_self_iff {c : Cause} {cs : List Cause} : cs.map c.marked = cs ↔ ∀ d ∈ cs, c.marked d = d := by
  simpa only [List.map_id, id_eq] using List.map_inj_left (f := c.marked) (g := id) (l := cs)

/-- Marking a set with an alike entry whose flag is clear makes another list of it. -/
theorem map_marked_ne {c old : Cause} {cs : List Cause} (found : cs.find? c.alike = some old)
    (clear : old.evidence = false) : cs.map c.marked ≠ cs := by
  intro same
  have kept : c.marked old = old := map_marked_eq_self_iff.mp same old (List.mem_of_find?_eq_some found)
  have alike : c.alike old = true := List.find?_some found
  rw [Cause.marked, if_pos alike] at kept
  have evident : old.evidence = true := (congrArg Cause.evidence kept).symm
  exact absurd (evident.symm.trans clear) (by decide)

/-- An addition is a change just when it leaves another set or another overflow mark. -/
theorem joinCause_changed_iff (c : Cause) (cs : List Cause) (overflow : Bool) :
    (joinCause c cs overflow).changed = true ↔
      (joinCause c cs overflow).causes ≠ cs ∨ (joinCause c cs overflow).overflow ≠ overflow := by
  obtain ⟨old, found, -, -, clear, e⟩ | ⟨-, -, -, e⟩ | ⟨-, -, e⟩ | ⟨-, -, rfl, e⟩ | ⟨-, -, rfl, e⟩ :=
    joinCause_cases c cs overflow
  · rw [e]
    exact iff_of_true rfl (.inl (map_marked_ne found clear))
  · simp [e]
  · simp [e]
  · simp [e]
  · simp [e]

/-- A cause alike to an entry makes no new one, and passes on the evidence flag of a LENS_CHANGE. -/
theorem joinCause_of_alike {c d : Cause} {cs : List Cause} (overflow : Bool) (hd : d ∈ cs) (cd : c.alike d = true)
    (h : NoTwoAlike cs) :
    (joinCause c cs overflow).overflow = overflow ∧ (joinCause c cs overflow).causes =
      if c.kind = .lensChange ∧ c.evidence = true then cs.map c.marked else cs := by
  have some_alike : cs.find? c.alike ≠ none := fun unlike => List.find?_eq_none.mp unlike d hd cd
  obtain ⟨old, -, kind, evidence, -, e⟩ | ⟨old, found, refused, e⟩ | ⟨unlike, -⟩ | ⟨unlike, -⟩ | ⟨unlike, -⟩ :=
    joinCause_cases c cs overflow
  · rw [e, if_pos ⟨kind, evidence⟩]
    exact ⟨rfl, rfl⟩
  · rw [e]
    refine ⟨rfl, ?_⟩
    split
    next passes =>
      have stands : old.evidence = true := by simpa [passes.1, passes.2] using refused
      have only (x : Cause) (hx : x ∈ cs) (cx : c.alike x = true) : x = old :=
        h.eq_of_alike hx (List.mem_of_find?_eq_some found) cx (List.find?_some found)
      have unmarked : cs.map c.marked = cs := map_marked_eq_self_iff.mpr fun x hx =>
        Cause.marked_of_evidence fun cx => only x hx cx ▸ stands
      exact unmarked.symm
    next => rfl
  · exact absurd unlike some_alike
  · exact absurd unlike some_alike
  · exact absurd unlike some_alike

/-- R174: the set keeps to 24 entries, no two alike. -/
theorem joinCause_keeps_set {c : Cause} {cs : List Cause} (overflow : Bool) (short : cs.length ≤ 24)
    (h : NoTwoAlike cs) :
    (joinCause c cs overflow).causes.length ≤ 24 ∧ NoTwoAlike (joinCause c cs overflow).causes := by
  obtain ⟨-, -, -, -, -, e⟩ | ⟨-, -, -, e⟩ | ⟨unlike, room, e⟩ | ⟨-, -, -, e⟩ | ⟨-, -, -, e⟩ :=
    joinCause_cases c cs overflow
  · rw [e]
    exact ⟨by simpa only [List.length_map] using short, h.marked c⟩
  · rw [e]
    exact ⟨short, h⟩
  · rw [e]
    exact ⟨by rw [List.length_append]; exact room, h.concat unlike⟩
  · rw [e]
    exact ⟨short, h⟩
  · rw [e]
    exact ⟨short, h⟩

/-- Marking the alike entries of a LENS_CHANGE with evidence, entry by entry. -/
theorem map_marked_eq (c : Cause) (cs : List Cause) :
    (if c.kind = .lensChange ∧ c.evidence = true then cs.map c.marked else cs) = cs.map fun d =>
      if d.kind = c.kind ∧ d.subject = c.subject ∧ c.kind = .lensChange ∧ c.evidence = true then
        { d with evidence := true } else d := by
  split
  next passes =>
    refine List.map_congr_left fun d _ => ?_
    simp only [Cause.marked, Cause.alike_iff, passes, and_true]
  next holds => simp only [holds, and_false, if_false, List.map_id']

theorem aCauseJoinsTheSet : Claim.ACauseJoinsTheSet := by
  intro c cs overflow
  refine ⟨joinCause_changed_iff c cs overflow, fun unlike => ?_, fun ⟨d, hd, kind, subject⟩ h => ?_,
    fun short h => joinCause_keeps_set overflow short h⟩
  · exact joinCause_of_unlike overflow (find?_alike_eq_none.mpr unlike)
  · rw [← map_marked_eq]
    exact joinCause_of_alike overflow hd ((c.alike_iff d).mpr ⟨kind, subject⟩) h

/-! ### Placing control cells (R91) -/

section
variable (p : TrunkPort) (c : Cell) (s : State)

@[simp] theorem placeControl_agent : (placeControl p c s).agent = s.agent := by
  obtain ⟨-, e⟩ | ⟨-, e⟩ := placeControl_cases p c s
  · rw [e, State.withTrunk_agent]
  · rw [e, countTrunk, State.withTrunk_agent]

@[simp] theorem placeControl_get_other : (placeControl p c s).trunk.get p.other = s.trunk.get p.other := by
  obtain ⟨-, e⟩ | ⟨-, e⟩ := placeControl_cases p c s
  · rw [e, State.withTrunk_trunk, Pair.get_set_other]
  · rw [e, countTrunk, State.withTrunk_trunk, Pair.get_set_other]

end

section
variable (p : TrunkPort)

@[simp] theorem placeAll_agent (cs : List Cell) (s : State) : (placeAll p cs s).agent = s.agent := by
  induction cs generalizing s with
  | nil => rfl
  | cons c cs ih => rw [placeAll_cons, ih, placeControl_agent]

@[simp] theorem placeAll_get_other (cs : List Cell) (s : State) :
    (placeAll p cs s).trunk.get p.other = s.trunk.get p.other := by
  induction cs generalizing s with
  | nil => rfl
  | cons c cs ih => rw [placeAll_cons, ih, placeControl_get_other]

/-- Cells for which the queue has room join its end in their order. -/
theorem placeAll_get_same (cs : List Cell) (s : State) (room : (s.trunk.get p).control.length + cs.length ≤ 32) :
    (placeAll p cs s).trunk.get p = { s.trunk.get p with control := (s.trunk.get p).control ++ cs } := by
  induction cs generalizing s with
  | nil => rw [placeAll_nil, List.append_nil]
  | cons c cs ih =>
    rw [List.length_cons] at room
    obtain ⟨-, e⟩ | ⟨full, -⟩ := placeControl_cases p c s
    · have placed : (placeControl p c s).trunk.get p =
          { s.trunk.get p with control := (s.trunk.get p).control ++ [c] } := by
        rw [e, State.withTrunk_trunk, Pair.get_set_same]
      rw [placeAll_cons, ih _ (by simp only [placed, List.length_append, List.length_singleton]; omega), placed]
      simp only [List.append_assoc, List.singleton_append]
    · have capacity : 32 ≤ (s.trunk.get p).control.length := full
      omega

end

/-! ### The NOTICE of a change (R175) -/

/-- The state with a cause joined to the set, before a NOTICE. -/
def State.joins (s : State) (j : Joined) : State :=
  s.withAgent { s.agent with causes := j.causes, overflow := j.overflow }

section
variable {kind : CauseKind} {subject : Nat} {evidence : Bool} {s : State} {j : Joined}

theorem addCause_of_unchanged (hj : joinCause ⟨kind, subject, evidence⟩ s.agent.causes s.agent.overflow = j)
    (same : j.changed = false) : addCause kind subject evidence s = s.joins j := by
  subst hj
  simp only [addCause, same, Bool.false_eq_true, if_false, State.joins]

theorem addCause_of_changed (hj : joinCause ⟨kind, subject, evidence⟩ s.agent.causes s.agent.overflow = j)
    (changed : j.changed = true) : addCause kind subject evidence s = sendNotice (s.joins j) := by
  subst hj
  simp only [addCause, changed, if_true, State.joins]

/-- The cells of a NOTICE list the entries 1 to 12 and 13 to 24 (R193). -/
theorem noticeCells_eq (s : State) : s.noticeCells =
    [noticeCell s.nodeNumber 0 (causePart (s.agent.causes.take 12) s.agent.overflow),
      noticeCell s.nodeNumber 1 (causePart ((s.agent.causes.drop 12).take 12) s.agent.overflow)] := rfl

/-- A NOTICE changes nothing of the agent but the arming. -/
theorem sendNotice_agent (s : State) : (sendNotice s).agent = { s.agent with armed := (sendNotice s).agent.armed } := by
  obtain ⟨p, -, -, e⟩ | ⟨-, e⟩ := sendNotice_cases s
  · rw [e, placeAll_agent, State.withAgent_agent]
  · rw [e]

theorem sendNotice_of_held (held : s.agent.armed = false ∨ s.controllerSide = none) : sendNotice s = s := by
  obtain ⟨p, side, armed, -⟩ | ⟨-, e⟩ := sendNotice_cases s
  · rcases held with disarmed | unknown
    · exact absurd (armed.symm.trans disarmed) (by decide)
    · exact absurd (side.symm.trans unknown) (Option.some_ne_none p)
  · exact e

theorem sendNotice_of_ready {p : TrunkPort} (armed : s.agent.armed = true) (side : s.controllerSide = some p) :
    sendNotice s = placeAll p s.noticeCells (s.withAgent { s.agent with armed := false }) := by
  simp only [sendNotice, side, armed, if_true]

/-- An addition leaves the joined set and its overflow mark with the agent, notice or not. -/
theorem addCause_set (hj : joinCause ⟨kind, subject, evidence⟩ s.agent.causes s.agent.overflow = j) :
    (addCause kind subject evidence s).agent.causes = j.causes
      ∧ (addCause kind subject evidence s).agent.overflow = j.overflow := by
  cases changed : j.changed with
  | false =>
    rw [addCause_of_unchanged hj changed]
    exact ⟨rfl, rfl⟩
  | true =>
    rw [addCause_of_changed hj changed, sendNotice_agent]
    exact ⟨rfl, rfl⟩

/-- Without a change, with notices disarmed or with no controller side known, an addition only joins the set. -/
theorem addCause_of_held (hj : joinCause ⟨kind, subject, evidence⟩ s.agent.causes s.agent.overflow = j)
    (held : j.changed = false ∨ s.agent.armed = false ∨ s.controllerSide = none) :
    addCause kind subject evidence s = s.joins j := by
  cases changed : j.changed with
  | false => exact addCause_of_unchanged hj changed
  | true =>
    have stays : s.agent.armed = false ∨ s.controllerSide = none := held.resolve_left (by simp [changed])
    rw [addCause_of_changed hj changed]
    exact sendNotice_of_held stays

/-- A change with notices armed and the controller side known places the NOTICE of the joined set there, and disarms. -/
theorem addCause_of_ready {p : TrunkPort}
    (hj : joinCause ⟨kind, subject, evidence⟩ s.agent.causes s.agent.overflow = j) (changed : j.changed = true)
    (armed : s.agent.armed = true) (side : s.controllerSide = some p) :
    addCause kind subject evidence s =
      placeAll p (s.joins j).noticeCells ((s.joins j).withAgent { (s.joins j).agent with armed := false }) := by
  rw [addCause_of_changed hj changed]
  exact sendNotice_of_ready armed side

end

theorem aNoticeFollowsAChangeOfTheSet : Claim.ANoticeFollowsAChangeOfTheSet := by
  intro kind subject evidence s j t cell
  have hj : joinCause ⟨kind, subject, evidence⟩ s.agent.causes s.agent.overflow = j := rfl
  obtain ⟨causes, overflow⟩ := addCause_set hj
  have frame : SameBut [.agent, .trunk] s t := (sameBut_iff_mask _ s t).mpr (mask_addCause (by simp) (by simp))
  refine ⟨causes, overflow, frame, fun held => ?_, fun p changed armed side => ?_⟩
  · have only : t = s.joins j := addCause_of_held hj held
    rw [only]
    exact ⟨rfl, rfl⟩
  · have notice := addCause_of_ready hj changed armed side
    have agent := congrArg State.agent notice
    rw [placeAll_agent] at agent
    refine ⟨congrArg Agent.armed agent, ?_, fun room => ?_⟩
    · exact (congrArg (·.trunk.get p.other) notice).trans (placeAll_get_other p _ _)
    · exact (congrArg (·.trunk.get p) notice).trans (placeAll_get_same p _ _ room)

/-- Settles O16: the set by the five cases of joining a cause, the NOTICE by whether a change meets an armed agent
that knows its controller side. -/
theorem causesJoinTheSetAndSendNotices : Obligations.CausesJoinTheSetAndSendNotices :=
  ⟨aCauseJoinsTheSet, aNoticeFollowsAChangeOfTheSet⟩

end Sys2Proof.Machine
end

section
/-! PROOF. The machine: a step runs the command in front, and the frame of every command, read off the frame lemmas
of the operations it is made of. -/

namespace Sys2Proof.Machine

/-- Settles O1: a step with a command in front is that command's effect by definition. -/
theorem stepRunsTheCommandInFront : Obligations.StepRunsTheCommandInFront := by
  intro c rest s h
  simp only [step, h, State.withPending]

section
variable {l : List Part} {s t : State}

/-- Whichever of two states a test gives agrees with a third outside a list of parts, when both do. -/
theorem mask_ite {c : Prop} [Decidable c] {u : State} (hs : s.mask l = u.mask l) (ht : t.mask l = u.mask l) :
    (if c then s else t).mask l = u.mask l := by
  split
  · exact hs
  · exact ht

/-- An execution step of a command of the agent changes the agent, the trunk ports, and what its work changes (R166). -/
theorem mask_runCommand {n : CommandName} {applies : State → Bool} {act : AgentCommand → State → State}
    (hA : Part.agent ∈ l) (hT : Part.trunk ∈ l) (hact : ∀ c u, (act c u).mask l = u.mask l) :
    (runCommand n applies act s).mask l = s.mask l := by
  have disposed : (disposeUnknown s.agent.queue s).mask l = s.mask l := mask_disposeUnknown hA hT
  unfold runCommand
  dsimp only
  split
  · rfl
  · refine mask_ite ((mask_popCommand hA).trans (mask_ite ((hact _ _).trans disposed) ?_)) rfl
    exact (mask_reply hT).trans disposed

/-- A write of a table changes the agent, the trunk ports, and what the block that takes the entry changes (R169). -/
theorem mask_writeEntry {α : Type} {entries : Nat} {read : List Byte → Option α} {busy : State → Bool}
    {take : α → State → State} {c : AgentCommand} (hA : Part.agent ∈ l) (hT : Part.trunk ∈ l)
    (htake : ∀ v, (take v s).mask l = s.mask l) : (writeEntry entries read busy take c s).mask l = s.mask l := by
  unfold writeEntry
  refine mask_ite (mask_replyStatus hT) ?_
  split
  · exact mask_replyStatus hT
  · exact mask_ite (mask_replyStatus hT)
      ((mask_replyStatus hT).trans ((mask_withPointer hA).trans (htake _)))

/-- A control cell that arrives changes the agent, the trunk ports, the router, and what its kind changes (R112). -/
theorem mask_takeControl {p : TrunkPort} {c : Cell} {act : State → State} (hA : Part.agent ∈ l) (hT : Part.trunk ∈ l)
    (hR : Part.router ∈ l) (hact : ∀ u, (act u).mask l = u.mask l) : (takeControl p c act s).mask l = s.mask l :=
  mask_ite ((hact _).trans (mask_handOn hA hT)) ((mask_countRouter hR).trans (mask_handOn hA hT))

/-- A tile cell that arrives changes the agent, the trunk ports, the router, and what its consume part changes (R113).
-/
theorem mask_takeTile {p : TrunkPort} {c : Cell} {consume : State → State} (hA : Part.agent ∈ l) (hT : Part.trunk ∈ l)
    (hR : Part.router ∈ l) (hact : ∀ u, (consume u).mask l = u.mask l) : (takeTile p c consume s).mask l = s.mask l := by
  have forwarded : (forwardTile p c (countPayload c (handOn p s))).mask l = s.mask l := by simp [hA, hT, hR]
  exact mask_ite ((hact _).trans forwarded) forwarded

end

/-- RESTART changes every part but node time, the count of cell times, the straps, the level of CAB_ACTIVE and the
model's own fields (R173). -/
theorem mask_restart (c : AgentCommand) (s : State) :
    (restart c s).mask (Instr.touched .restart) = s.mask (Instr.touched .restart) := by
  have cleared : s.afterRestart.mask (Instr.touched .restart) = s.mask (Instr.touched .restart) := by
    simp [State.mask, Instr.touched, State.afterRestart]
  have replied : (replyStatus c .ok (keepCopy c s s.afterRestart)).mask (Instr.touched .restart)
      = s.mask (Instr.touched .restart) := by
    rw [mask_replyStatus (by decide), keepCopy, mask_withTrunk (by decide), cleared]
  unfold restart
  rw [mask_startOutputs (by decide) (by decide) (by decide)]
  exact mask_ite (by simpa [Instr.touched] using replied) (by simpa [Instr.touched] using replied)

/-- The resets leave the level of CAB_ACTIVE and the model's own fields, and the reset line node time and the count of
cell times too (R180, R181). -/
theorem mask_afterReset {l : List Part} (s : State) (straps : Straps)
    (parts : ∀ x : Part, x ∉ l → x = .cabActive ∨ x = .swapTies ∨ x = .pending ∨ x = .nodeTime ∨ x = .cellCount)
    {now : NodeTime} {cells : Nat} (time : Part.nodeTime ∈ l ∨ now = s.nodeTime)
    (count : Part.cellCount ∈ l ∨ cells = s.cellCount) : (s.afterReset straps now cells).mask l = s.mask l := by
  refine (sameBut_iff_mask l s _).mp fun x hx => ?_
  rcases parts x hx with rfl | rfl | rfl | rfl | rfl
  · rfl
  · rfl
  · rfl
  · exact (time.resolve_left hx).symm
  · exact (count.resolve_left hx).symm

/-- Every command has a next state, which agrees with the state outside the parts listed for it: by the frame of the
operations it is made of. -/
theorem exec_mask (c : Instr) (s : State) :
    ∃ t : State, exec c s = .next t ∧ t.mask (Instr.touched c) = s.mask (Instr.touched c) := by
  cases c <;> refine ⟨_, rfl, ?_⟩ <;> dsimp only [Instr.touched]
  case powerOnReset straps | resetLine straps =>
    exact (mask_reevaluateCandidacy (by simp) (by simp) (by simp) (by simp) (by simp)).trans
      (mask_afterReset s straps (fun x => by cases x <;> simp) (by simp) (by simp))
  case cabActiveRise => exact mask_ite rfl (mask_ite (by simp) (by simp))
  case frameStart p x =>
    exact (mask_takeFrameStart (by simp) (by simp) (by simp) (by simp) (by simp) (by simp)
      (by simp)).trans (mask_ite (by simp) rfl)
  case learningDeadline =>
    exact mask_ite (mask_ite (by simp) (by simp)) rfl
  case signalLoss p => split <;> simp
  case beacon | state | command | passReplyNotice =>
    exact mask_ite (mask_takeControl (by simp) (by simp) (by simp) fun _ => by simp) rfl
  case tileHead | tileData | contextEnd =>
    exact mask_ite (mask_takeTile (by simp) (by simp) (by simp) fun _ => by simp) rfl
  case cellTime | frameEnd | sameFrameRunFull | darkRunFull | sample | unusableRunFull | learningComplete
    | surveySkipDone | surveyBurstDone => simp
  case cabActiveFall | lockTimerExpiry | stallTimerExpiry | retryTimerExpiry | overcurrentTrip | probeEnd | shortLine
    | signalDetected | cellReceivedTraining | trainingComplete | headerFailure | failedHeaderRunFull | fill | badKind
    | bypassPass | sendEntryEnd | beaconPeriod | orientationExpiry | resumeTime | contextExpiry | stalenessExpiry
    | holdExpiry | pulseEnd | screenFrameStart | surveyStart | drawCheckFailure =>
    exact mask_ite (by simp) rfl
  case writeTilePlan | writeCameraConfig | writeLensParams | writeWeight | writeReference | writeDoor | writeRules
    | writeLayoutPending | writeOutputConfig | writeNodeParams =>
    exact mask_runCommand (by simp) (by simp) fun _ _ =>
      mask_writeEntry (by simp) (by simp) fun _ => by simp
  case restart => exact mask_runCommand (by simp) (by simp) fun c u => mask_restart c u
  case selectTable | writeNext | readNext | routeAdd | routeRemove | applyLayouts | copyLayouts | relearn | cableCheck
    | readCauses | readStatus | readCounters | clearCounters | setMode | releaseEvidence | fetchEvidence =>
    exact mask_runCommand (by simp) (by simp) fun _ _ => by simp

/-- Settles O2, by the frame of every command. -/
theorem everyCommandKeepsToItsParts : Obligations.EveryCommandKeepsToItsParts := by
  intro c s
  obtain ⟨t, next, same⟩ := exec_mask c s
  exact ⟨t, next, (sameBut_iff_mask _ s t).mpr same⟩

/-- Every command has a next state. -/
theorem exec_next (c : Instr) (s : State) : ∃ t : State, exec c s = .next t :=
  (exec_mask c s).imp fun _ h => h.1

/-- A command leaves every part that is not listed for it. -/
theorem exec_same {c : Instr} {s t : State} (e : exec c s = .next t) {x : Part} (h : x ∉ Instr.touched c) :
    x.same s t := by
  obtain ⟨u, next, same⟩ := everyCommandKeepsToItsParts c s
  exact (Host.Outcome.next.inj (e.symm.trans next)) ▸ same x h

end Sys2Proof.Machine
end

section
/-! PROOF. The clock (notes/assumptions/5.md): what stands in the queue after a unit of node time is what is due, by the
node time reached, and at most the step of the agent. The laws at reset. -/

namespace Sys2Proof.Machine

theorem mem_dueIf {b : Bool} {c d : Instr} : c ∈ dueIf b d ↔ b = true ∧ c = d := by
  cases b <;> simp [dueIf]

/-- The rows that the agent's own step can be are none of those that time brings. -/
def Instr.timed : Instr → Bool
  | .lockTimerExpiry _ | .stallTimerExpiry _ | .retryTimerExpiry _ | .learningDeadline _ | .probeEnd _ _ | .beaconPeriod
  | .orientationExpiry | .resumeTime | .contextExpiry _ | .stalenessExpiry | .holdExpiry _ | .pulseEnd | .surveyStart =>
    true
  | _ => false

theorem writeRow_not_timed (w : Option Table) : Instr.timed (writeRow w) = false := by
  rcases w with _ | t
  · rfl
  · cases t <;> rfl

theorem commandRow_not_timed (w : Option Table) (n : CommandName) : Instr.timed (commandRow w n) = false := by
  cases n
  case writeNext => exact writeRow_not_timed w
  all_goals rfl

theorem agentStep_not_timed {s : State} {c : Instr} (h : c ∈ s.agentStep) : Instr.timed c = false := by
  unfold State.agentStep at h
  split at h
  · simp at h
  · split at h
    · simp at h
    · exact List.mem_singleton.mp h ▸ commandRow_not_timed _ _

/-- The node after a unit of node time, before what is due is queued. -/
def State.ticked (s : State) : State :=
  disposeUnknown s.agent.queue (s.withNodeTime (s.nodeTime + 1))

theorem ticked_mask (s : State) :
    s.ticked.mask [.nodeTime, .trunk, .agent] = s.mask [.nodeTime, .trunk, .agent] :=
  (mask_disposeUnknown (by simp) (by simp)).trans (mask_withNodeTime (by simp))

theorem ticked_same (s : State) {x : Part} (h : x ∉ [Part.nodeTime, .trunk, .agent]) : x.same s s.ticked :=
  (sameBut_iff_mask _ s _).mpr (ticked_mask s) x h

theorem ticked_nodeTime (s : State) : s.ticked.nodeTime = s.nodeTime + 1 := by
  have kept : SameBut [.trunk, .agent] (s.withNodeTime (s.nodeTime + 1)) s.ticked :=
    (sameBut_iff_mask _ _ _).mpr (mask_disposeUnknown (by simp) (by simp))
  exact (kept .nodeTime (by simp)).symm

/-- A step that time brings waits exactly when it is due. -/
theorem mem_idle_pending {s : State} {c : Instr} (timed : Instr.timed c = true) :
    c ∈ (idle s).pending ↔ c ∈ s.ticked.dueSteps := by
  have steps : c ∈ s.ticked.dueSteps ++ s.ticked.agentStep ↔ c ∈ s.ticked.dueSteps := by
    simp only [List.mem_append, or_iff_left_iff_imp]
    intro h
    exact absurd (agentStep_not_timed h) (by simp [timed])
  rw [← steps]
  show c ∈ (if s.swapTies = true then (s.ticked.dueSteps ++ s.ticked.agentStep).reverse
    else s.ticked.dueSteps ++ s.ticked.agentStep) ↔ _
  split
  · exact List.mem_reverse
  · rfl

section
variable (s : State)

theorem lockTimerExpiry_mem_dueSteps (p : CamPort) :
    .lockTimerExpiry p ∈ s.dueSteps ↔ due s.nodeTime (s.cams[p]).lockTimer = true := by
  simp [State.dueSteps, State.duePort, mem_dueIf]

theorem stallTimerExpiry_mem_dueSteps (p : CamPort) :
    .stallTimerExpiry p ∈ s.dueSteps ↔ due s.nodeTime (s.cams[p]).stallTimer = true := by
  simp [State.dueSteps, State.duePort, mem_dueIf]

theorem retryTimerExpiry_mem_dueSteps (p : CamPort) :
    .retryTimerExpiry p ∈ s.dueSteps ↔ due s.nodeTime (s.cams[p]).retryTimer = true := by
  simp [State.dueSteps, State.duePort, mem_dueIf]

theorem learningDeadline_mem_dueSteps (p : CamPort) :
    .learningDeadline p ∈ s.dueSteps ↔ due s.nodeTime (s.health[p]).deadline = true := by
  simp [State.dueSteps, State.duePort, mem_dueIf]

theorem probeEnd_mem_dueSteps (p : CamPort) (f : ProbeFinding) :
    .probeEnd p f ∈ s.dueSteps ↔ f = ⟨.inconclusive, none⟩ ∧ due s.nodeTime (s.cams[p]).probeLimit = true := by
  simp [State.dueSteps, State.duePort, mem_dueIf, and_comm]

theorem beaconPeriod_mem_dueSteps :
    .beaconPeriod ∈ s.dueSteps ↔ s.isHead = true ∧ due s.nodeTime s.orient.nextBeacon = true := by
  simp [State.dueSteps, State.duePort, mem_dueIf]

theorem orientationExpiry_mem_dueSteps : .orientationExpiry ∈ s.dueSteps ↔
    s.orient.state = .found ∧ s.isHead = false ∧ due s.nodeTime (s.orient.lastBeacon.map silenceEnd) = true := by
  simp [State.dueSteps, State.duePort, mem_dueIf, and_assoc]

theorem resumeTime_mem_dueSteps : .resumeTime ∈ s.dueSteps ↔ due s.nodeTime s.orient.resume = true := by
  simp [State.dueSteps, State.duePort, mem_dueIf]

theorem contextExpiry_mem_dueSteps (k : ContextNo) :
    .contextExpiry k ∈ s.dueSteps ↔ due s.nodeTime ((s.router.contexts[k]).map (·.expiry)) = true := by
  simp [State.dueSteps, State.duePort, mem_dueIf]

theorem stalenessExpiry_mem_dueSteps :
    .stalenessExpiry ∈ s.dueSteps ↔ s.vehicle.fresh = true ∧ due s.nodeTime s.vehicle.expiry = true := by
  simp [State.dueSteps, State.duePort, mem_dueIf]

theorem holdExpiry_mem_dueSteps (sc : Screen) :
    .holdExpiry sc ∈ s.dueSteps ↔ due s.nodeTime (s.selection[sc]).holdExpiry = true := by
  simp [State.dueSteps, State.duePort, mem_dueIf]

theorem pulseEnd_mem_dueSteps : .pulseEnd ∈ s.dueSteps ↔ due s.nodeTime s.comp.pulseEnd = true := by
  simp [State.dueSteps, State.duePort, mem_dueIf]

theorem surveyStart_mem_dueSteps :
    .surveyStart ∈ s.dueSteps ↔ s.mode = .standby ∧ due s.nodeTime s.survey.due = true := by
  simp [State.dueSteps, State.duePort, mem_dueIf]

end

/-- Settles O3: each step that time brings is in the queue exactly when it is due, by the parts that the unit of node
time leaves as they are. -/
theorem theClockBringsWhatIsDue : Obligations.TheClockBringsWhatIsDue := by
  intro s none
  refine ⟨idle s, by simp only [step, none], ticked_nodeTime s, ?_, ?_⟩
  · refine (sameBut_iff_mask _ _ _).mpr ?_
    simp [idle]
  have time := ticked_nodeTime s
  have cams : s.cams = s.ticked.cams := ticked_same s (x := .cams) (by simp)
  have health : s.health = s.ticked.health := ticked_same s (x := .health) (by simp)
  have orient : s.orient = s.ticked.orient := ticked_same s (x := .orient) (by simp)
  have head : s.isHead = s.ticked.isHead := by unfold State.isHead; rw [orient]
  have router : s.router = s.ticked.router := ticked_same s (x := .router) (by simp)
  have vehicle : s.vehicle = s.ticked.vehicle := ticked_same s (x := .vehicle) (by simp)
  have selection : s.selection = s.ticked.selection := ticked_same s (x := .selection) (by simp)
  have comp : s.comp = s.ticked.comp := ticked_same s (x := .comp) (by simp)
  have mode : s.mode = s.ticked.mode := ticked_same s (x := .mode) (by simp)
  have survey : s.survey = s.ticked.survey := ticked_same s (x := .survey) (by simp)
  rw [← time, cams, health, head, orient, router, vehicle, selection, comp, mode, survey]
  refine ⟨fun p => ⟨?_, ?_, ?_, ?_, fun f => ?_⟩, ?_, ?_, ?_, fun k => ?_, ?_, fun sc => ?_, ?_, ?_⟩ <;>
    rw [mem_idle_pending rfl]
  · exact lockTimerExpiry_mem_dueSteps _ p
  · exact stallTimerExpiry_mem_dueSteps _ p
  · exact retryTimerExpiry_mem_dueSteps _ p
  · exact learningDeadline_mem_dueSteps _ p
  · exact probeEnd_mem_dueSteps _ p f
  · exact beaconPeriod_mem_dueSteps _
  · exact orientationExpiry_mem_dueSteps _
  · exact resumeTime_mem_dueSteps _
  · exact contextExpiry_mem_dueSteps _ k
  · exact stalenessExpiry_mem_dueSteps _
  · exact holdExpiry_mem_dueSteps _ sc
  · exact pulseEnd_mem_dueSteps _
  · exact surveyStart_mem_dueSteps _

/-- Settles O4: each law is read off the reset values. -/
theorem resetMeetsTheLaws : Obligations.ResetMeetsTheLaws := by
  have planes : ∀ k : PlanNo, State.reset.engine.productions[k] = none := by decide
  have contexts : ∀ k : ContextNo, State.reset.router.contexts[k] = none := by decide
  have coverage : State.reset.coverageOk := afterReset_coverageOk State.reset ⟨0, false, false⟩ 0 0
  have slots : ∀ i : SlotNo, State.reset.store.slots[i] = Slot.reset := by
    intro i; simp [State.reset, Store.reset]
  have views : ∀ v : ViewNo, State.reset.store.viewMap[v] = none := by
    intro v; simp [State.reset, Store.reset]
  have places : ∀ k : Fin 4, State.reset.store.evidence[k] = none := by decide
  have map : State.reset.store.mapOk := fun i => by simp [slots, views, Slot.reset]
  have timers : State.reset.timersOk := by
    intro p; simp [State.reset, CameraPort.reset, CameraPort.timersOk]
  have lists : ∀ p : TrunkPort, State.reset.trunk.get p = Trunk.reset := by intro p; cases p <;> rfl
  refine ⟨?_, ?_, ?_, ?_, ?_, ?_, ?_, ?_, coverage, ?_, ⟨map, ?_⟩, timers, ?_, ?_, ?_, ?_, ?_⟩
  · simp [State.causesOk, State.reset, Agent.reset]
  · simp [State.windowOk, State.reset, Agent.reset]
  · exact ⟨fun p => by simp [lists, Trunk.reset], by simp [State.reset, Agent.reset]⟩
  · rfl
  · simp [State.headOk, State.isHead, State.reset, Orientation.reset]
  · exact fun p => by simp [lists, Trunk.sendsOk, Trunk.reset]
  · intro i e h; simp [State.reset, Tables.reset] at h
  · intro j k x y h; simp [contexts] at h
  · intro p
    simp [State.lensOk, State.reset, Tables.reset, LensParams.reset, LensParams.valid, Health.reset, Zone.reset]
  · simp [Store.alarmCount, Store.viewWarns, views]; rfl
  · intro p; simp [State.reset, CameraPort.reset, Health.reset]
  · simp [State.powerOk, State.demand, State.reset, CameraPort.reset, CameraPort.power, CameraLink.powered, Health.reset,
      Survey.reset, Tables.reset, CameraConfig.reset]
  · simp [State.modeOk, State.reset]
  · simp [State.outputsOk, State.reset, Compositor.reset]
  · refine ⟨fun i => ⟨?_, ?_, ?_⟩, ?_, ?_, ?_, map, timers⟩
    · simp [State.slotOk, slots, Slot.reset]
    · rw [slots]
      simp [Slot.reset, State.holdsOn, State.reset, Compositor.reset, Output.held, Trunk.reset]
    · simp [slots, places, Slot.reset]
    · intro p r pr h; simp [planes] at h
    · intro k c h; simp [contexts] at h
    · intro j k d e h; simp [places] at h

end Sys2Proof.Machine
end

section
/-! PROOF. What commands are made of. `Move` lists the single changes that the blocks make of a state, each with what
holds where it is made; the lemmas say, operation by operation, that the operations of the model are sequences of such
changes. A law that each single change keeps is then kept by every command. -/

namespace Sys2Proof.Machine

/-! ### Lens ratings of a health record -/

/-- R72: an obscured flag agrees with its counter. -/
def Zone.agrees (x : Zone) (e : LensParams) : Prop :=
  (x.obscured = true → e.sOff < x.score) ∧ (x.obscured = false → x.score < e.sOn)

theorem Zone.agrees_iff (x : Zone) (e : LensParams) :
    (if x.obscured then e.sOff < x.score else x.score < e.sOn) ↔ x.agrees e := by
  cases flag : x.obscured <;> simp [Zone.agrees, flag]

/-- R74: a rated lens condition agrees with a coverage. -/
def LensCondition.agrees (x : LensCondition) (e : LensParams) (c : Nat) : Prop :=
  (x = .clean → c < e.tWarn) ∧ (x = .smeared → e.tWarn - e.h < c ∧ c < e.tBlock) ∧ (x = .blocked → e.tBlock - e.h < c)

/-- R72 for one health record. -/
def Health.flagsOk (h : Health) (e : LensParams) : Prop := ∀ z : ZoneNo, (h.zones[z]).agrees e

/-- R72, R74 for one health record: the flags agree with their counters, and the condition with the coverage. -/
structure Health.ratingsOk (h : Health) (e : LensParams) : Prop where
  flags : h.flagsOk e
  lens : h.lens.agrees e h.coverage

theorem lensOk_iff (s : State) (p : CamPort) :
    s.lensOk p ↔ (s.tables.lensParams[p]).valid = true ∧ (s.health[p]).ratingsOk s.tables.lensParams[p] :=
  ⟨fun ⟨valid, flags, lens⟩ => ⟨valid, fun z => (Zone.agrees_iff _ _).mp (flags z), lens⟩,
    fun ⟨valid, ok⟩ => ⟨valid, fun z => (Zone.agrees_iff _ _).mpr (ok.flags z), ok.lens⟩⟩

/-! ### Single changes -/

/-- The parts that none of the laws reads which single changes keep. -/
def quietParts : List Part :=
  [.nodeTime, .cellCount, .cabActive, .controllerSide, .vehicle, .selection, .survey, .swapTies, .pending]

/-- Two camera ports have the same link state and timers. -/
def CameraPort.sameTimers (c d : CameraPort) : Prop :=
  c.link = d.link ∧ c.lockTimer = d.lockTimer ∧ c.stallTimer = d.stallTimer ∧ c.retryTimer = d.retryTimer
    ∧ c.probeLimit = d.probeLimit

/-- A single change of a state, with what holds where it is made. None changes the straps, the mode, the orientation
record or the table window. -/
inductive Move (s : State) : State → Prop
  | quiet {t : State} (same : t.mask quietParts = s.mask quietParts) : Move s t
  | tables (b : Tables) (route : b.route = s.tables.route) (lens : b.lensParams = s.tables.lensParams) :
    Move s (s.withTables b)
  | lens (p : CamPort) (e : LensParams) (k : Health) (valid : e.valid = true)
    (picture : k.picture = (s.health[p]).picture) (ratings : k.ratingsOk e) :
    Move s ((s.withTables { s.tables with lensParams := s.tables.lensParams.set p e }).withHealth p k)
  | route (i : Fin 128) (r : Option RouteEntry)
    (lies : ∀ x : RouteEntry, r = some x → s.tables.placeFor x.stream = some i) : Move s (s.withRoute i r)
  | health (p : CamPort) (k : Health) (picture : k.picture = (s.health[p]).picture)
    (ratings : (s.tables.lensParams[p]).valid = true → (s.health[p]).ratingsOk s.tables.lensParams[p] →
      k.ratingsOk s.tables.lensParams[p]) : Move s (s.withHealth p k)
  | cause (c : Cause) : Move s (s.withAgent { s.agent with
      causes := (joinCause c s.agent.causes s.agent.overflow).causes
      overflow := (joinCause c s.agent.causes s.agent.overflow).overflow })
  | agent (a : Agent) (causes : a.causes = s.agent.causes ∨ a.causes = []) (window : a.window = s.agent.window)
    (pointer : a.pointer = s.agent.pointer) (queue : a.queue.length ≤ s.agent.queue.length ∨ a.queue.length ≤ 4) :
    Move s (s.withAgent a)
  | trunk (p : TrunkPort) (x : Trunk)
    (control : x.control.length ≤ (s.trunk.get p).control.length ∨ x.control.length ≤ 32)
    (pass : x.pass.length ≤ (s.trunk.get p).pass.length ∨ x.pass.length ≤ 1024)
    (sendList : x.sendList = (s.trunk.get p).sendList) : Move s (s.withTrunk p x)
  | front (p : TrunkPort) (e d : SendEntry) (rest : List SendEntry) (list : (s.trunk.get p).sendList = e :: rest)
    (slot : d.slot = e.slot) (kind : d.kind = e.kind) (stream : d.stream = e.stream)
    (started : e.started = true → d.started = true) : Move s (s.withSendList p (d :: rest))
  | drop (p : TrunkPort) (before : List SendEntry) (e : SendEntry) (rest : List SendEntry)
    (list : (s.trunk.get p).sendList = before ++ e :: rest) :
    Move s (releaseEntry e (s.withSendList p (before ++ rest)))
  | hand (p : TrunkPort) (e : SendEntry) (rest : List SendEntry) (list : (s.trunk.get p).sendList = e :: rest)
    (waits : e.started = false) (tile : e.kind = .tile) : Move s (takeHanded p.other e (s.withSendList p rest))
  | fetch (p : TrunkPort) (k : Fin 4) (x : Evidence) (sid : StreamId) (entry : s.store.evidence[k] = some x)
    (room : (s.trunk.get p).refusesFetch sid = false) (awake : s.mode ≠ .bypass) : Move s (startFetch p k x.slot sid s)
  | release (k : Fin 4) : Move s (releasePosition k s)
  | storeCounters (c : Vector Counter 2) : Move s (s.withStore { s.store with counters := c })
  | damage (i : SlotNo) (held : 0 < s.holdsOn i) :
    Move s (s.withStore (s.store.setSlot i { s.store.slots[i] with damaged := true }))
  | pin (v : ViewNo) (i : SlotNo) (k : Fin 4) (x : Evidence) (view : s.store.viewMap[v] = some i)
    (unpinned : (s.store.slots[i]).pinned = false) (empty : s.store.evidence[k] = none) (slot : x.slot = i) :
    Move s (s.withStore { s.store.setSlot i { s.store.slots[i] with pinned := true } with
      evidence := s.store.evidence.set k (some x) })
  | engine (x : Engine) (productions : x.productions = s.engine.productions) : Move s (s.withEngine x)
  | abandonProduction (k : PlanNo) : Move s (abandonProduction k s)
  | deliver (p : CamPort) (x : FrameHead) (locked : (s.cams[p]).link = .locked)
    (closed : (s.cams[p]).openFrame = none) : Move s (deliverStart p x s)
  | abandonContext (k : ContextNo) (counter : RouterCounter) : Move s (abandonContext k counter s)
  | openContext (f : TileHeadFields) (sid : StreamId) (run : s.mode = .run) : Move s (openContext f sid s)
  | write (k : ContextNo) (x : Context) (bytes : List Byte) (isOpen : s.router.contexts[k] = some x) :
    Move s (s.withStore (s.store.writeBytes x.slot bytes))
  | context (k : ContextNo) (x y : Context) (isOpen : s.router.contexts[k] = some x) (slot : y.slot = x.slot)
    (stream : y.stream = x.stream) : Move s (s.withContext k (some y))
  | publish (k : ContextNo) (x : Context) (isOpen : s.router.contexts[k] = some x) :
    Move s (publishTile x.slot x.view (s.withContext k none))
  | routerCounters (c : Vector Counter 13) : Move s (s.withRouter { s.router with counters := c })
  | comp (c : Compositor) (outputs : c.outputs = s.comp.outputs) : Move s (s.withComp c)
  | output (sc : Screen) (o : Output)
    (cab : o.running = true → s.straps.cabEnd = true ∨ (s.comp.outputs[sc]).running = true)
    (frame : ((s.comp.outputs[sc]).running = true ↔ (s.comp.outputs[sc]).frame ≠ none) →
      (o.running = true ↔ o.frame ≠ none))
    (composed : ∀ f : ScreenFrame, o.frame = some f →
      (f.composed = true → s.isHead = true) ∧ (f.composed = false → f.panes = [] ∧ f.held = []))
    (held : ∀ i ∈ o.held, ∃ v : ViewNo, s.store.viewMap[v] = some i) :
    Move s ((s.withStore ((s.store.endHolds (s.comp.outputs[sc]).held).takeHolds o.held)).withOutput sc o)
  | cam (p : CamPort) (c : CameraPort) (timers : c.sameTimers s.cams[p])
    (frame : c.openFrame = (s.cams[p]).openFrame) : Move s (s.withCam p c)
  | frame (p : CamPort) (c : CameraPort) (timers : c.sameTimers s.cams[p]) (unlocked : (s.cams[p]).link ≠ .locked)
    (listens : c.openFrame ≠ none → c.listens = true) : Move s (s.withCam p c)
  | enter (p : CamPort) (new : CameraLink)
    (idle : (s.cams[p]).link = .locked → ∀ r : Fin 2, s.engine.productions[planOf p r] = none) :
    Move s ((s.withCam p ((s.cams[p]).newly new s.nodeTime)).withHealth p
      ((s.health[p]).afterLink (s.cams[p]).link new))

/-- A sequence of single changes. -/
abbrev Moves : State → State → Prop := Relation.ReflTransGen Move

theorem Move.moves {s t : State} (h : Move s t) : Moves s t := .single h

section
variable {s t u : State}

/-- Whichever of two states a test gives, when both are reached. -/
theorem moves_ite {c : Prop} [Decidable c] (ht : Moves s t) (hu : Moves s u) : Moves s (if c then t else u) := by
  split
  · exact ht
  · exact hu

/-- A test that says where the first of two states is reached. -/
theorem moves_dite {c : Prop} [Decidable c] (ht : c → Moves s t) (hu : ¬c → Moves s u) :
    Moves s (if c then t else u) := by
  split
  · exact ht ‹_›
  · exact hu ‹_›

theorem moves_foldl {α : Type} {f : State → α → State} (h : ∀ u a, Moves u (f u a)) (as : List α) (s : State) :
    Moves s (as.foldl f s) :=
  List.foldlRecOn (motive := fun t => Moves s t) as f .refl fun u hu a _ => hu.trans (h u a)

theorem moves_quiet (same : t.mask quietParts = s.mask quietParts) : Moves s t := .single (.quiet same)

theorem moves_withComp {c : Compositor} (outputs : c.outputs = s.comp.outputs) : Moves s (s.withComp c) :=
  .single (.comp c outputs)

theorem moves_withTables {b : Tables} (route : b.route = s.tables.route) (lens : b.lensParams = s.tables.lensParams) :
    Moves s (s.withTables b) :=
  .single (.tables b route lens)

theorem moves_eachPort {f : CamPort → State → State} (h : ∀ p u, Moves u (f p u)) : Moves s (eachPort f s) :=
  moves_foldl (fun u p => h p u) _ s

/-! ### Counters, the control queue, causes, replies -/

theorem CameraPort.sameTimers.refl (c : CameraPort) : c.sameTimers c := ⟨rfl, rfl, rfl, rfl, rfl⟩

theorem moves_countCam (p : CamPort) (k : PortCounter) : Moves s (countCam p k s) :=
  .single (Move.cam p _ ⟨rfl, rfl, rfl, rfl, rfl⟩ rfl)

theorem moves_countEngine (k : EngineCounter) : Moves s (countEngine k s) := .single (Move.engine _ rfl)

theorem moves_countStore (k : StoreCounter) : Moves s (countStore k s) := .single (Move.storeCounters _)

theorem moves_countRouter (k : RouterCounter) : Moves s (countRouter k s) := .single (Move.routerCounters _)

/-- A trunk port whose three queues stand. -/
theorem moves_withTrunk {p : TrunkPort} {x : Trunk} (control : x.control = (s.trunk.get p).control)
    (pass : x.pass = (s.trunk.get p).pass) (sendList : x.sendList = (s.trunk.get p).sendList) :
    Moves s (s.withTrunk p x) :=
  .single (Move.trunk p x (.inl (by rw [control])) (.inl (by rw [pass])) sendList)

theorem moves_countTrunk (p : TrunkPort) (k : TrunkCounter) : Moves s (countTrunk p k s) :=
  moves_withTrunk rfl rfl rfl

theorem moves_placeControl (p : TrunkPort) (c : Cell) : Moves s (placeControl p c s) := by
  rcases placeControl_cases p c s with ⟨room, e⟩ | ⟨-, e⟩
  · exact e ▸ .single (Move.trunk p _ (.inr (by simpa using Nat.succ_le_of_lt room)) (.inl le_rfl) rfl)
  · exact e ▸ moves_countTrunk p _

theorem moves_placeAll (p : TrunkPort) (cs : List Cell) : Moves s (placeAll p cs s) :=
  moves_foldl (fun _ c => moves_placeControl p c) cs s

theorem moves_sendNotice : Moves s (sendNotice s) := by
  rcases sendNotice_cases s with ⟨p, -, -, e⟩ | ⟨-, e⟩
  · rw [e]
    exact .head (Move.agent { s.agent with armed := false } (.inl rfl) rfl rfl (.inl le_rfl)) (moves_placeAll p _)
  · rw [e]

theorem moves_addCause (k : CauseKind) (n : Nat) (e : Bool) : Moves s (addCause k n e s) := by
  have joined := (Move.cause (s := s) ⟨k, n, e⟩).moves
  exact moves_ite (joined.trans moves_sendNotice) joined

theorem moves_addTogether (cs : List (CauseKind × Nat)) : Moves s (addTogether cs s) :=
  moves_foldl (f := fun t (c : CauseKind × Nat) => addCause c.1 c.2 false t) (fun _ _ => moves_addCause _ _ _) _ s

theorem moves_setControllerSide (p : TrunkPort) : Moves s (setControllerSide p s) := by
  have sided : Moves s (s.withControllerSide (some p)) := moves_quiet (by simp [quietParts])
  rcases setControllerSide_cases p s with ⟨-, -, e⟩ | ⟨-, e⟩
  · exact e ▸ sided.trans moves_sendNotice
  · exact e ▸ sided

theorem moves_reply (c : AgentCommand) (st : Status) (parts : List (List Byte)) : Moves s (reply c st parts s) :=
  moves_placeAll _ _

theorem moves_replyStatus (c : AgentCommand) (st : Status) : Moves s (replyStatus c st s) := moves_reply _ _ _

/-! ### The tile store, the selector, the compositor -/

theorem moves_releaseAll (ks : List (Fin 4)) : Moves s (releaseAll ks s) :=
  moves_foldl (fun _ k => .single (.release k)) ks s

theorem emptyPosition_some {st : Store} {k : Fin 4} (h : st.emptyPosition = some k) : st.evidence[k] = none := by
  simpa using List.find?_some h

theorem moves_pinRequest (c : CameraId) (x : LensCondition) (n : Nat) : Moves s (pinRequest c x n s).1 := by
  rcases pinRequest_cases c x n s with ⟨e, -⟩ | ⟨i, -, -, e⟩ | ⟨i, k, view, unpinned, -, position, e⟩
  · exact e ▸ moves_countStore _
  · exact e ▸ .refl
  · exact e ▸ .single (Move.pin _ i k _ view unpinned (emptyPosition_some position) rfl)

theorem moves_memoryError {i : SlotNo} (held : 0 < s.holdsOn i) : Moves s (memoryError i s) :=
  ((Move.damage i held).moves.trans (moves_countStore _)).trans (moves_addCause _ _ _)

theorem moves_requestChime : Moves s (requestChime s) := .single (Move.comp _ rfl)

theorem moves_evaluate (sc : Screen) : Moves s (evaluate sc s) := by
  have selected : ∀ x : Selection, Moves s (s.withSelection sc x) := fun x => moves_quiet (by simp [quietParts])
  exact moves_ite (selected _) (moves_ite (moves_ite ((selected _).trans moves_requestChime) (selected _)) .refl)

theorem moves_evaluateBoth : Moves s (evaluateBoth s) := (moves_evaluate 0).trans (moves_evaluate 1)

theorem moves_clearFresh : Moves s (clearFresh s) :=
  (moves_quiet (t := s.withVehicle _) (by simp [quietParts])).trans moves_evaluateBoth

theorem moves_takeState (x : List Byte) : Moves s (takeState x s) := by
  have taken : Moves s (s.withVehicle (s.vehicleFrom x)) := moves_quiet (by simp [quietParts])
  exact moves_ite (taken.trans moves_evaluateBoth) taken

/-- The holds of a frame that composes nothing. -/
theorem takeHolds_nil (st : Store) : st.takeHolds [] = st := rfl

theorem moves_stopOutput (sc : Screen) : Moves s (stopOutput sc s) :=
  .single (Move.output sc ⟨false, none⟩ (by simp) (by simp) (by simp) (by simp [Output.held]))

theorem moves_stopFrame (sc : Screen) : Moves s (stopFrame sc s) := by
  unfold stopFrame
  split
  · exact .refl
  · rename_i f drawn
    refine .single (Move.output sc ⟨(s.comp.outputs[sc]).running, some (backgroundFrame f.background)⟩ .inr ?_ ?_ ?_)
    · intro runs
      exact ⟨fun _ => by simp, fun _ => runs.mpr (by rw [drawn]; simp)⟩
    · intro g h
      obtain rfl : backgroundFrame f.background = g := Option.some.inj h
      simp [backgroundFrame]
    · simp [Output.held, backgroundFrame]

theorem moves_stopComposing : Moves s (stopComposing s) := (moves_stopFrame 0).trans (moves_stopFrame 1)

theorem takeApply_endFrameHolds (sc : Screen) (s : State) :
    takeApply (endFrameHolds sc s) = (takeApply s).withStore (s.store.endHolds (s.comp.outputs[sc]).held) := by
  unfold takeApply endFrameHolds
  rw [State.withStore_comp]
  split <;> rfl

theorem moves_takeApply : Moves s (takeApply s) := by
  unfold takeApply
  split
  · exact .refl
  · exact .trans (moves_withTables (by rfl) (by rfl)) (moves_withComp (by rfl))

theorem takeApply_store (s : State) : (takeApply s).store = s.store := by
  unfold takeApply; split <;> rfl

theorem takeApply_outputs (s : State) : (takeApply s).comp.outputs = s.comp.outputs := by
  unfold takeApply; split <;> rfl

theorem endHold_viewMap (st : Store) (i : SlotNo) : (st.endHold i).viewMap = st.viewMap := rfl

theorem endHolds_viewMap (st : Store) (is : List SlotNo) : (st.endHolds is).viewMap = st.viewMap := by
  induction is generalizing st with
  | nil => rfl
  | cons i is ih => exact (ih _).trans (endHold_viewMap st i)

/-- A pane is given a slot only as the LATEST tile of its view (R156). -/
theorem drawPane_slot {mode : Nat} {p : Pane} {i : SlotNo} (h : (s.drawPane mode p).slot = some i) :
    ∃ v : ViewNo, s.store.viewMap[v] = some i := by
  unfold State.drawPane at h
  split at h
  · cases h
  · cases h
  · rename_i v door _
    dsimp only at h
    split at h
    · cases h
    · rename_i j shown
      obtain rfl : j = i := Option.some.inj h
      exact ⟨v, shown⟩

theorem composedFrame_held {sc : Screen} {i : SlotNo} (h : i ∈ (s.composedFrame sc).held) :
    ∃ v : ViewNo, s.store.viewMap[v] = some i := by
  obtain ⟨pane, drawn, slot⟩ := List.mem_filterMap.mp (List.mem_dedup.mp h)
  obtain ⟨p, -, rfl⟩ := List.mem_map.mp drawn
  exact drawPane_slot slot

/-- A frame start on a node where the output may run (R146, R147, R152). -/
theorem moves_frameStart {sc : Screen} (may : s.straps.cabEnd = true ∨ (s.comp.outputs[sc]).running = true) :
    Moves s (frameStart sc s) := by
  refine moves_takeApply.trans (Move.moves ?_)
  have outputs := takeApply_outputs s
  have store := takeApply_store s
  have straps : (takeApply s).straps = s.straps := by unfold takeApply; split <;> rfl
  have cab : ∀ o : Output, o.running = true → (takeApply s).straps.cabEnd = true
      ∨ ((takeApply s).comp.outputs[sc]).running = true := fun _ _ => by rw [straps, outputs]; exact may
  have ended : takeApply (endFrameHolds sc s)
      = (takeApply s).withStore ((takeApply s).store.endHolds ((takeApply s).comp.outputs[sc]).held) := by
    rw [takeApply_endFrameHolds, outputs, store]
  unfold frameStart
  rw [ended]
  generalize takeApply s = u at cab ⊢
  dsimp only
  split
  next head =>
    refine Move.output sc ⟨true, some _⟩ (cab _) (by simp) ?_ ?_
    · intro f h
      obtain rfl := Option.some.inj h
      exact ⟨fun _ => head, fun h => by cases h⟩
    · intro i hi
      obtain ⟨v, hv⟩ := composedFrame_held (s := u.withStore _) hi
      exact ⟨v, by simpa [endHolds_viewMap] using hv⟩
  next =>
    refine Move.output sc ⟨true, some (backgroundFrame _)⟩ (cab _) (by simp) ?_ (by simp [Output.held, backgroundFrame])
    intro f h
    obtain rfl := Option.some.inj h
    simp [backgroundFrame]

theorem moves_outputTakes (sc : Screen) (old new : OutputConfig) : Moves s (outputTakes sc old new s) :=
  moves_dite (fun cab => moves_ite (moves_ite (moves_ite .refl (moves_frameStart (.inl cab))) (moves_stopOutput sc))
    (moves_ite (moves_frameStart (.inl cab)) .refl)) fun _ => .refl

theorem moves_startOutputs : Moves s (startOutputs s) := by
  have start : ∀ (sc : Screen) (u : State), Moves u (if (u.straps.cabEnd
      && (u.tables.outputConfig[sc]).enabled) = true then frameStart sc u else u) := fun sc u =>
    moves_dite (fun h => moves_frameStart (.inl (Bool.and_eq_true_iff.mp h).1)) fun _ => .refl
  exact (start 0 s).trans (start 1 _)

/-! ### Orientation -/

theorem moves_placeBeacon (p : TrunkPort) (h n : Nat) : Moves s (placeBeacon p h n s) :=
  moves_ite (moves_placeControl _ _) .refl

theorem moves_beaconBoth : Moves s (beaconBoth s) := (moves_placeBeacon _ _ _).trans (moves_placeBeacon _ _ _)

theorem moves_reportOrientation (o : Orientation) : Moves s (reportOrientation o s) :=
  moves_ite (moves_addCause _ _ _) .refl

end

end Sys2Proof.Machine
end

section
/-! PROOF. What commands are made of, continued: the trunk links, the health monitor, camera ports and the survey. -/

namespace Sys2Proof.Machine

section
variable {s t u : State}

/-! ### Trunk links -/

theorem moves_moveTrunk (p : TrunkPort) (x : TrunkLink) : Moves s (moveTrunk p x s) := by
  unfold moveTrunk
  refine .trans (moves_withTrunk ?_ ?_ ?_) (moves_addCause _ _ _) <;> cases x <;> rfl

theorem moves_setFarFault (p : TrunkPort) (b : Bool) : Moves s (setFarFault p b s) :=
  moves_ite .refl (.trans (b := s.withTrunk p { s.trunk.get p with farFault := b }) (moves_withTrunk rfl rfl rfl)
    (moves_addCause _ _ _))

theorem moves_clearFailedRun (p : TrunkPort) : Moves s (clearFailedRun p s) := moves_withTrunk rfl rfl rfl

theorem moves_handOn (p : TrunkPort) : Moves s (handOn p s) :=
  ((moves_clearFailedRun p).trans (moves_setFarFault p _)).trans (moves_countTrunk p _)

theorem moves_failHeader (p : TrunkPort) : Moves s (failHeader p s) := by
  have counted : Moves s (countTrunk p .headerError (s.withTrunk p
      { s.trunk.get p with failedRun := (s.trunk.get p).failedRun + 1 })) :=
    .trans (moves_withTrunk (by rfl) (by rfl) (by rfl)) (moves_countTrunk p _)
  exact moves_ite ((counted.trans (moves_countTrunk p _)).trans (moves_moveTrunk p _)) counted

theorem moves_trainCell (p : TrunkPort) (c : Cell) : Moves s (trainCell p c s) := by
  have counted : ∀ n, Moves s (s.withTrunk p { s.trunk.get p with goodRun := n }) :=
    fun n => moves_withTrunk rfl rfl rfl
  exact moves_ite (moves_ite ((counted _).trans (moves_moveTrunk p _)) (counted _)) (counted _)

theorem withSendList_get (p : TrunkPort) (l : List SendEntry) (s : State) :
    ((s.withSendList p l).trunk.get p).sendList = l := by simp [State.withSendList]

theorem withSendList_withSendList (p : TrunkPort) (l m : List SendEntry) (s : State) :
    (s.withSendList p l).withSendList p m = s.withSendList p m := by
  cases p <;> rfl

theorem withSendList_self (p : TrunkPort) (s : State) : s.withSendList p (s.trunk.get p).sendList = s := by
  cases p <;> rfl

/-- A fetch's end and a hold's end leave the trunk ports. -/
theorem endFetch_trunk (k : SendKind) (s : State) : (endFetch k s).trunk = s.trunk := by
  unfold endFetch; split <;> rfl

theorem releaseEntry_trunk (e : SendEntry) (s : State) : (releaseEntry e s).trunk = s.trunk := by
  unfold releaseEntry; rw [endFetch_trunk]; rfl

theorem releaseEntry_withSendList (e : SendEntry) (p : TrunkPort) (l : List SendEntry) (s : State) :
    releaseEntry e (s.withSendList p l) = (releaseEntry e s).withSendList p l := by
  unfold releaseEntry endFetch; split <;> rfl

theorem releaseEntry_of_tile {e : SendEntry} (tile : e.kind = .tile) (s : State) :
    releaseEntry e s = s.endHold e.slot := by
  unfold releaseEntry endFetch; rw [tile]

/-- The front entries that do not start leave their list, one after another (R95). -/
theorem eq_other_of_ne {p q : TrunkPort} : p ≠ q → p = q.other := by
  cases p <;> cases q <;> decide

theorem moves_settleFront (p : TrunkPort) (n : Nat) : Moves s (settleFront p n s) := by
  induction n generalizing s with
  | zero => exact .refl
  | succ n later =>
    unfold settleFront
    split
    · exact .refl
    · rename_i e rest list
      split
      · exact .refl
      rename_i front
      have waits : e.started = false := by simpa using fun h => front (.inl h)
      have tile : e.kind = .tile := by simpa using fun h => front (.inr h)
      have dropped : Moves s (countTrunk p .sendCancelled ((s.withSendList p rest).endHold e.slot)) := by
        rw [← releaseEntry_of_tile tile]
        exact .trans (.single (.drop p [] e rest list)) (moves_countTrunk p _)
      cases s.sendRoute e.stream with
      | both => exact .refl
      | one q =>
        refine moves_dite (fun _ => .refl) fun other => ?_
        obtain rfl : q = p.other := eq_other_of_ne other
        exact .trans (.single (.hand p e rest list waits tile)) later
      | noHead | selfHead | noController | nowhere => exact dropped.trans later

/-- Entries taken off a list, each with its hold, and its fetch. -/
theorem moves_removing (p : TrunkPort) (gone : SendEntry → Bool) (l : List SendEntry) :
    ∀ (s : State) (kept : List SendEntry), (s.trunk.get p).sendList = kept ++ l →
      Moves s ((l.filter gone).foldl (fun t e => releaseEntry e t)
        (s.withSendList p (kept ++ l.filter fun e => !gone e))) := by
  induction l with
  | nil =>
    intro s kept list
    rw [List.append_nil] at list
    simpa [← list, withSendList_self] using Relation.ReflTransGen.refl
  | cons e l later =>
    intro s kept list
    cases h : gone e with
    | false =>
      have := later s (kept ++ [e]) (by simpa using list)
      simpa [List.filter, h] using this
    | true =>
      have := later (releaseEntry e (s.withSendList p (kept ++ l))) kept (by
        rw [releaseEntry_trunk, withSendList_get])
      rw [releaseEntry_withSendList, withSendList_withSendList, ← releaseEntry_withSendList] at this
      simpa [List.filter, h] using Relation.ReflTransGen.head (.drop p kept e l list)
        (by simpa [releaseEntry_withSendList] using this)

theorem moves_removeEntries (p : TrunkPort) (gone : SendEntry → Bool) : Moves s (removeEntries p gone s) :=
  moves_removing p gone _ s [] rfl

/-- A slot that an entry of a send list reads is held (R45). -/
theorem holdsOn_pos {p : TrunkPort} {e : SendEntry} (h : e ∈ (s.trunk.get p).sendList) : 0 < s.holdsOn e.slot := by
  have counted : 0 < (((s.trunk.get p).sendList).map (·.slot)).count e.slot :=
    List.count_pos_iff.mpr (List.mem_map_of_mem h)
  unfold State.holdsOn
  cases p <;> simp only [Pair.get] at counted <;> omega

/-- Adding a cause leaves the send lists. -/
theorem placeControl_sendList (p q : TrunkPort) (c : Cell) (s : State) :
    ((placeControl p c s).trunk.get q).sendList = (s.trunk.get q).sendList := by
  rcases placeControl_cases p c s with ⟨-, e⟩ | ⟨-, e⟩ <;> rw [e] <;> cases p <;> cases q <;> rfl

theorem placeAll_sendList (p q : TrunkPort) (cs : List Cell) (s : State) :
    ((placeAll p cs s).trunk.get q).sendList = (s.trunk.get q).sendList := by
  induction cs generalizing s with
  | nil => rfl
  | cons c cs ih => rw [placeAll_cons, ih, placeControl_sendList]

theorem addCause_sendList (k : CauseKind) (n : Nat) (e : Bool) (q : TrunkPort) (s : State) :
    ((addCause k n e s).trunk.get q).sendList = (s.trunk.get q).sendList := by
  unfold addCause
  dsimp only
  split
  · generalize joined : s.withAgent _ = u
    have trunk : u.trunk = s.trunk := joined ▸ rfl
    rcases sendNotice_cases u with ⟨p, -, -, e⟩ | ⟨-, e⟩
    · rw [e, placeAll_sendList, State.withAgent_trunk, trunk]
    · rw [e, trunk]
  · rfl

theorem memoryError_sendList (i : SlotNo) (q : TrunkPort) (s : State) :
    ((memoryError i s).trunk.get q).sendList = (s.trunk.get q).sendList := addCause_sendList ..

/-- The front entry sends its next cell: it starts, moves on, or with its last cell leaves the list (R54, R96). -/
theorem moves_sendFront {p : TrunkPort} {read : Option (List Byte)} {e : SendEntry} {rest : List SendEntry}
    (list : (s.trunk.get p).sendList = e :: rest) : Moves s (sendFront p read e rest s).1 := by
  unfold sendFront
  split
  · exact .single (.front p e _ rest list rfl rfl rfl fun _ => rfl)
  · rename_i i _
    dsimp only
    have readTo : Moves s (match (generalizing := false) read with
        | none => s
        | some _ => memoryError e.slot s) := by
      cases read with
      | none => exact .refl
      | some _ => exact moves_memoryError (holdsOn_pos (p := p) (by simp [list]))
    have list' : ((match (generalizing := false) read with
        | none => s
        | some _ => memoryError e.slot s : State).trunk.get p).sendList = e :: rest := by
      cases read with
      | none => exact list
      | some _ => rw [memoryError_sendList, list]
    split
    · exact readTo.tail (.drop p [] e rest list')
    · exact readTo.tail (.front p e _ rest list' rfl rfl rfl id)

theorem moves_withShare (p : TrunkPort) (n : Nat) : Moves s (s.withShare p n) := moves_withTrunk rfl rfl rfl

theorem moves_takePass (p : TrunkPort) : Moves s (takePass p s).1 := by
  unfold takePass
  split
  · exact .refl
  · rename_i x rest pass
    exact .single (.trunk p _ (.inl le_rfl) (.inl (by simp [pass])) rfl)

theorem moves_takeSend (p : TrunkPort) (read : Option (List Byte)) : Moves s (takeSend p read s).1 := by
  unfold takeSend
  dsimp only
  have settled := moves_settleFront (s := s) p (s.trunk.get p).sendList.length
  split
  · exact settled.trans (moves_takePass p)
  · rename_i e rest list
    exact (settled.trans (moves_sendFront list)).trans (moves_withShare p 0)

theorem moves_takeShared (p : TrunkPort) (read : Option (List Byte)) : Moves s (takeShared p read s).1 := by
  unfold takeShared
  dsimp only
  split
  · exact moves_takePass p
  · split
    · exact moves_takeSend p read
    · exact (moves_withShare p _).trans (moves_takePass p)

theorem moves_arbitrate (p : TrunkPort) (read : Option (List Byte)) : Moves s (arbitrate p read s).1 := by
  unfold arbitrate
  dsimp only
  split
  · exact moves_withTrunk rfl rfl rfl
  · rename_i c rest _ control
    exact .single (.trunk p _ (.inl (by simp [control])) (.inl le_rfl) rfl)
  · split
    · exact moves_takePass p
    · exact moves_takeShared p read

theorem moves_putOnLine (p : TrunkPort) (c : Option Cell) : Moves s (putOnLine p c s) := by
  have lined : ∀ x, Moves s (s.withTrunk p { s.trunk.get p with line := x }) := fun _ => moves_withTrunk rfl rfl rfl
  unfold putOnLine
  dsimp only
  cases c with
  | none => exact moves_ite (lined _) (lined _)
  | some c => exact moves_ite ((lined _).trans (moves_countTrunk p _)) ((lined _).trans (moves_countTrunk p _))

theorem moves_servePort (p : TrunkPort) (reads : MemoryReads) : Moves s (servePort p reads s) :=
  (moves_arbitrate p _).trans (moves_putOnLine p _)

theorem moves_cellTime (reads : MemoryReads) : Moves s (cellTime reads s) := by
  have counted : Moves s (s.withCellCount (s.cellCount + 1)) := moves_quiet (by simp [quietParts])
  exact moves_ite ((counted.trans (moves_servePort _ _)).trans (moves_servePort _ _))
    ((counted.trans (moves_servePort _ _)).trans (moves_servePort _ _))

/-! ### The health monitor -/

section
variable {h k : Health} {e : LensParams}

/-- Ratings are read off the zones' flags and counters, the condition and the coverage. -/
theorem Health.ratingsOk.congr (ok : h.ratingsOk e)
    (zones : ∀ z : ZoneNo, (h.zones[z]).agrees e → (k.zones[z]).agrees e) (lens : k.lens = h.lens)
    (coverage : k.coverage = h.coverage) : k.ratingsOk e :=
  ⟨fun z => zones z (ok.flags z), by rw [lens, coverage]; exact ok.lens⟩

/-- A condition that is not rated agrees with every coverage. -/
theorem LensCondition.agrees_of_not_rated {x : LensCondition} (unrated : x.rated = false) (c : Nat) :
    x.agrees e c := by
  refine ⟨?_, ?_, ?_⟩ <;> intro is <;> simp [is, LensCondition.rated] at unrated

theorem LensParams.valid_iff (e : LensParams) : e.valid = true ↔ e.dmin < e.dmax ∧ e.qLow < e.qHigh ∧ e.sOff < e.sOn
    ∧ 1 ≤ e.tWarn ∧ e.tWarn < e.tBlock ∧ e.tBlock ≤ 144 ∧ 1 ≤ e.h ∧ e.h < e.tWarn ∧ 1 ≤ e.minTexture
    ∧ e.minTexture ≤ 4095 := by
  simp [LensParams.valid, and_assoc]

theorem LensParams.off_lt_on (valid : e.valid = true) : e.sOff < e.sOn := by
  obtain ⟨-, -, order, -⟩ := e.valid_iff.mp valid
  exact order

theorem rateFromClean_agrees (valid : e.valid = true) (c : Nat) : (rateFromClean e c).agrees e c := by
  obtain ⟨-, -, -, warn, block, -, hyst, less, -⟩ := e.valid_iff.mp valid
  unfold rateFromClean LensCondition.agrees
  split
  · simp; omega
  · split
    · simp; omega
    · simp; omega

theorem moveLens_agrees (valid : e.valid = true) (c : Nat) (x : LensCondition) : (moveLens e c x).agrees e c := by
  obtain ⟨-, -, -, warn, block, -, hyst, less, -⟩ := e.valid_iff.mp valid
  cases x with
  | clean => exact rateFromClean_agrees valid c
  | smeared =>
    simp only [moveLens, LensCondition.agrees]
    split
    · simp; omega
    · split
      · simp; omega
      · simp; omega
  | blocked =>
    simp only [moveLens, LensCondition.agrees]
    split
    · split
      · simp; omega
      · simp; omega
    · simp; omega
  | noReference | learning | unrated => simp [moveLens, LensCondition.agrees]

/-- A counter and a flag agree once the flag is judged from the counter, whatever they were (R72). -/
theorem judgeFlag_agrees (valid : e.valid = true) (x : Zone) :
    ({ x with obscured := judgeFlag e x.score x.obscured } : Zone).agrees e := by
  have order := LensParams.off_lt_on valid
  simp only [Zone.agrees, judgeFlag]
  split
  · simp; omega
  · split
    · simp; omega
    · exact ⟨fun _ => by omega, fun _ => by omega⟩

theorem Health.moved_ratingsOk (valid : e.valid = true) (flags : h.flagsOk e) : (h.moved e).ratingsOk e := by
  unfold Health.moved
  split
  · exact ⟨flags, moveLens_agrees valid h.coverage h.lens⟩
  · rename_i other
    exact ⟨flags, LensCondition.agrees_of_not_rated (by simpa using other) _⟩

/-- A zone that begins anew has its flag clear and its counter at 0 (R60, R82). -/
theorem Zone.agrees_of_cleared (valid : e.valid = true) {x : Zone} (score : x.score = 0) (clear : x.obscured = false) :
    x.agrees e := by
  simpa [Zone.agrees, score, clear] using lt_of_le_of_lt (Nat.zero_le _) (LensParams.off_lt_on valid)

theorem Health.wiped_zone (h : Health) (z : ZoneNo) :
    h.wiped.zones[z] = { h.zones[z] with score := 0, obscured := false } := by
  simp only [Health.wiped, Fin.getElem_fin, Vector.getElem_ofFn]

theorem Health.wiped_flagsOk (valid : e.valid = true) (h : Health) : h.wiped.flagsOk e := by
  intro z
  rw [Health.wiped_zone]
  exact Zone.agrees_of_cleared valid rfl rfl

end

end

end Sys2Proof.Machine
end

section
/-! PROOF. What commands are made of, continued: the health records, camera ports and the survey, the router, modes,
and the agent's commands. -/

namespace Sys2Proof.Machine

section
variable {s t u : State}

/-! ### Ratings under the steps of the health monitor (R60, R68 to R76, R80 to R83) -/

section
variable {h : Health} {e : LensParams}

theorem Health.wiped_ratingsOk (valid : e.valid = true) {k : Health} (zones : k.zones = h.wiped.zones)
    (coverage : k.coverage = 0) (lens : k.lens = .clean ∨ k.lens.rated = false) : k.ratingsOk e := by
  have flags : k.flagsOk e := by
    intro z
    rw [zones]
    exact Health.wiped_flagsOk valid h z
  obtain ⟨-, -, -, warn, -⟩ := e.valid_iff.mp valid
  rcases lens with lens | lens
  · exact ⟨flags, by rw [lens, coverage]; exact ⟨fun _ => warn, by simp, by simp⟩⟩
  · exact ⟨flags, LensCondition.agrees_of_not_rated lens _⟩

theorem Health.rejudged_flagsOk (valid : e.valid = true) (h : Health) : (h.rejudged e).flagsOk e := by
  intro z
  have zone : (h.rejudged e).zones[z]
      = { h.zones[z] with obscured := judgeFlag e (h.zones[z]).score (h.zones[z]).obscured } := by
    simp [Health.rejudged]
  rw [zone]
  exact judgeFlag_agrees valid _

theorem scoreZone_agrees (valid : e.valid = true) (mean texture : Nat) (r : Option Nat) {x : Zone}
    (was : x.agrees e) : (scoreZone e mean texture r x).agrees e := by
  cases r with
  | none => exact was
  | some r =>
    simp only [scoreZone]
    split
    · exact judgeFlag_agrees valid { x with score := _ }
    · exact was

theorem Health.ratingsOk.scored (ok : h.ratingsOk e) (valid : e.valid = true) (st : FrameStats)
    (references : Vector (Option Nat) 192) (weights : Vector Nat 192) (p : CamPort) :
    (h.scored e st references weights p).ratingsOk e := by
  refine ⟨fun z => ?_, moveLens_agrees valid _ _⟩
  have zone : (h.scored e st references weights p).zones[z]
      = scoreZone e st.mean[z] st.texture[z] references[zoneEntry p z] h.zones[z] := by simp [Health.scored]
  rw [zone]
  exact scoreZone_agrees valid _ _ _ (ok.flags z)

theorem Health.ratingsOk.unusable (ok : h.ratingsOk e) : h.unusable.ratingsOk e := by
  by_cases full : min 300 (h.unusableRun + 1) = 300 ∧ h.lens.rated = true
  · refine ⟨ok.flags, ?_⟩
    simp only [Health.unusable, if_pos full]
    exact LensCondition.agrees_of_not_rated rfl _
  · exact ok.congr (by exact fun _ => id) (by exact if_neg full) (by rfl)

theorem Health.ratingsOk.learned (ok : h.ratingsOk e) (st : FrameStats) (e' : LensParams) :
    (h.learned e' st).ratingsOk e := by
  refine ok.congr (fun z was => ?_) (by simp only [Health.learned]) (by simp only [Health.learned])
  simp only [Health.learned, Fin.getElem_fin, Vector.getElem_ofFn]
  split
  · exact was
  · exact was

theorem Health.ratingsOk.runs (ok : h.ratingsOk e) (st : FrameStats) (level : Nat) : (h.runs st level).ratingsOk e :=
  ok.congr (by exact fun _ => id) (by rfl) (by rfl)

theorem Health.ratingsOk.afterLink (ok : h.ratingsOk e) (old new : CameraLink) : (h.afterLink old new).ratingsOk e := by
  unfold Health.afterLink
  split
  · exact ok.congr (by exact fun _ => id) (by rfl) (by rfl)
  · split
    · exact ok.congr (by exact fun _ => id) (by rfl) (by rfl)
    · exact ok

theorem Health.ratingsOk.afterReference (ok : h.ratingsOk e) (valid : e.valid = true) (z : ZoneNo) (absent : Bool)
    (weights : Vector Nat 192) (p : CamPort) : (h.afterReference z absent e weights p).ratingsOk e := by
  unfold Health.afterReference
  dsimp only
  split
  · exact Health.wiped_ratingsOk valid rfl rfl (.inr rfl)
  · split
    · exact Health.wiped_ratingsOk valid rfl rfl (.inr rfl)
    · refine Health.moved_ratingsOk valid fun y => ?_
      by_cases same : z = y
      · subst same
        simp only [Health.recovered, getElem_set_same]
        exact Zone.agrees_of_cleared valid rfl rfl
      · simp only [Health.recovered, getElem_set_ne _ same]
        exact ok.flags y

theorem Health.reset_ratingsOk (valid : e.valid = true) {lens : LensCondition} (unrated : lens.rated = false) :
    (Health.reset lens).ratingsOk e := by
  refine ⟨fun z => ?_, LensCondition.agrees_of_not_rated unrated _⟩
  have zone : (Health.reset lens).zones[z] = Zone.reset := by simp [Health.reset]
  rw [zone]
  exact Zone.agrees_of_cleared valid rfl rfl

end

/-! ### The health monitor -/

theorem moves_lensEvent (p : CamPort) (before : LensCondition) : Moves s (lensEvent p before s) :=
  moves_ite .refl (moves_ite ((moves_pinRequest _ _ _).trans (moves_addCause _ _ _)) (moves_addCause _ _ _))

/-- A health record put in with its picture condition as it was. -/
theorem moves_withHealth {p : CamPort} {k : Health} (picture : k.picture = (s.health[p]).picture)
    (ratings : (s.tables.lensParams[p]).valid = true → (s.health[p]).ratingsOk s.tables.lensParams[p] →
      k.ratingsOk s.tables.lensParams[p]) : Moves s (s.withHealth p k) :=
  .single (.health p k picture ratings)

theorem moved_picture (h : Health) (e : LensParams) : (h.moved e).picture = h.picture := by
  unfold Health.moved; split <;> rfl

theorem reevaluated_picture (h : Health) (e : LensParams) (w : Vector Nat 192) (p : CamPort) :
    (((h.rejudged e).recovered w p).moved e).picture = h.picture := by
  rw [moved_picture]
  simp only [Health.recovered, Health.rejudged]

theorem recovered_zones (h : Health) (w : Vector Nat 192) (p : CamPort) : (h.recovered w p).zones = h.zones := rfl

theorem reevaluated_ratingsOk {e : LensParams} (valid : e.valid = true) (h : Health) (w : Vector Nat 192)
    (p : CamPort) : (((h.rejudged e).recovered w p).moved e).ratingsOk e := by
  refine Health.moved_ratingsOk valid fun z => ?_
  rw [recovered_zones]
  exact Health.rejudged_flagsOk valid h z

theorem moves_reevaluateLens (p : CamPort) : Moves s (reevaluateLens p s) := by
  exact .trans (moves_withHealth (reevaluated_picture _ _ _ _) fun valid _ => reevaluated_ratingsOk valid _ _ _)
    (moves_lensEvent p _)

/-- A write of LENS_PARAMS judges every flag of its port anew (R76). -/
theorem moves_takeLensParams {e : LensParams} (valid : e.valid = true) : Moves s (takeLensParams e s) := by
  have entry : (s.tables.lensParams.set (Fin.ofNat 4 s.agent.pointer) e)[(Fin.ofNat 4 s.agent.pointer : CamPort)] = e :=
    getElem_set_same _ _ _
  refine .trans (.single (.lens (Fin.ofNat 4 s.agent.pointer) e _ valid ?_ ?_)) (moves_lensEvent _ _)
  · rw [State.withTables_tables, entry, reevaluated_picture, State.withTables_health]
  · rw [State.withTables_tables, entry]
    exact reevaluated_ratingsOk valid _ _ _

theorem afterReference_picture (h : Health) (z : ZoneNo) (absent : Bool) (e : LensParams) (w : Vector Nat 192)
    (p : CamPort) : (h.afterReference z absent e w p).picture = h.picture := by
  unfold Health.afterReference
  dsimp only
  split
  · rfl
  · split
    · rfl
    · exact moved_picture _ _

theorem moves_takeReference (v : Option Nat) : Moves s (takeReference v s) := by
  refine .trans (moves_withTables (by rfl) (by rfl)) (.trans (moves_withHealth ?_ fun valid ok => ?_) (moves_lensEvent _ _))
  · exact afterReference_picture ..
  · exact ok.afterReference valid _ _ _ _

theorem moves_startLearning (p : CamPort) : Moves s (startLearning p s) := by
  refine .trans (moves_withHealth ?_ fun valid ok => ?_) (.trans (moves_releaseAll _) (moves_lensEvent _ _))
  · rfl
  · refine ⟨fun z => ?_, LensCondition.agrees_of_not_rated rfl _⟩
    have zone := ok.flags z
    simp only [Fin.getElem_fin, Vector.getElem_ofFn]
    exact zone

theorem moves_failLearning (p : CamPort) : Moves s (failLearning p s) := by
  refine .trans (moves_withHealth ?_ fun valid ok => ?_) (.trans (moves_addCause _ _ _) (moves_lensEvent _ _))
  · exact moved_picture _ _
  · exact Health.moved_ratingsOk valid ok.flags

theorem moves_dropHold (p : CamPort) : Moves s (dropHold p s) :=
  moves_withHealth (by rfl) fun _ ok => ok.congr (by exact fun _ => id) (by rfl) (by rfl)

/-! ### Camera ports and the survey -/

theorem moves_withSums (p : CamPort) (x : Vector ZoneSums 48) : Moves s (s.withSums p x) := .single (.engine _ rfl)

theorem moves_endBadly (p : CamPort) : Moves s (endBadly p s) :=
  .trans (.single (.abandonProduction _)) (.trans (.single (.abandonProduction _)) (moves_withSums _ _))

/-- An abandoned production is gone, and the others stand. -/
theorem abandonProduction_productions (k : PlanNo) (s : State) :
    (abandonProduction k s).engine.productions = s.engine.productions.set k none := by
  unfold abandonProduction
  split
  next idle =>
    refine Vector.ext fun i hi => ?_
    by_cases same : k.val = i
    · subst same
      simpa using idle
    · simp [Vector.getElem_set_ne, same]
  next => rfl

theorem planOf_ne (p : CamPort) : planOf p 1 ≠ planOf p 0 := by revert p; decide

theorem endBadly_productions (p : CamPort) (r : Fin 2) (s : State) :
    (endBadly p s).engine.productions[planOf p r] = none := by
  have gone : (endBadly p s).engine.productions
      = (s.engine.productions.set (planOf p 0) none).set (planOf p 1) none := by
    unfold endBadly State.withSums
    rw [State.withEngine_engine, abandonProduction_productions, abandonProduction_productions]
  rw [gone]
  match r with
  | 1 => exact getElem_set_same _ _ _
  | 0 =>
    rw [getElem_set_ne _ (planOf_ne p)]
    exact getElem_set_same _ _ _

theorem endBadly_mask {l : List Part} (engine : Part.engine ∈ l) (store : Part.store ∈ l) (p : CamPort) (s : State) :
    SameBut l s (endBadly p s) := (sameBut_iff_mask _ _ _).mpr (mask_endBadly engine store)

theorem cams_endBadly_ite (p : CamPort) (c : Prop) [Decidable c] (s : State) :
    (if c then endBadly p s else s).cams = s.cams := by
  split
  · exact (endBadly_mask (l := [.engine, .store]) (by simp) (by simp) p s .cams (by simp)).symm
  · rfl

/-- What a change of link state does before it adds its causes: a frame delivered to the engine ends badly, and the
port and its health record take the new state (R9, R61). -/
def movedLink (p : CamPort) (new : CameraLink) (s : State) : State :=
  ((if (s.cams[p]).link = .locked then endBadly p s else s).withCam p ((s.cams[p]).newly new s.nodeTime)).withHealth p
    ((s.health[p]).afterLink (s.cams[p]).link new)

theorem moveLink_eq (p : CamPort) (new : CameraLink) (extra : List (CauseKind × Nat)) (s : State) :
    moveLink p new extra s = addTogether (extra ++ [(.cameraLink, p.val)]
      ++ if ((s.health[p]).afterLink (s.cams[p]).link new).picture = (s.health[p]).picture then []
        else [(.pictureChange, p.val)]) (movedLink p new s) := by
  unfold moveLink movedLink
  dsimp only
  rw [cams_endBadly_ite, entering_eq_newly]

theorem moves_movedLink (p : CamPort) (new : CameraLink) : Moves s (movedLink p new s) := by
  unfold movedLink
  split
  next locked =>
    have same := endBadly_mask (l := [.engine, .store]) (by simp) (by simp) p s
    have cams : s.cams = (endBadly p s).cams := same .cams (by simp)
    have health : s.health = (endBadly p s).health := same .health (by simp)
    have time : s.nodeTime = (endBadly p s).nodeTime := same .nodeTime (by simp)
    have entered := Move.enter (s := endBadly p s) p new fun _ r => endBadly_productions p r s
    rw [← health, ← cams, ← time] at entered
    exact (moves_endBadly p).tail entered
  next unlocked => exact .single (.enter p new fun locked => absurd locked unlocked)

theorem moves_moveLink (p : CamPort) (new : CameraLink) (extra : List (CauseKind × Nat)) :
    Moves s (moveLink p new extra s) := by
  rw [moveLink_eq]
  exact (moves_movedLink p new).trans (moves_addTogether _)

theorem moves_reevaluateDemand (p : CamPort) : Moves s (reevaluateDemand p s) := by
  unfold reevaluateDemand
  split
  · exact moves_ite (moves_moveLink ..) .refl
  · exact moves_ite .refl (moves_moveLink ..)
  · exact moves_ite .refl (moves_moveLink ..)
  · exact moves_ite .refl (moves_moveLink ..)
  · exact .refl
  · exact .refl

theorem moves_withSurvey (v : Survey) : Moves s (s.withSurvey v) := moves_quiet (by simp [quietParts])

theorem moves_surveyTake (ps : List CamPort) : Moves s (surveyTake ps s) := by
  induction ps with
  | nil => exact moves_withSurvey _
  | cons p ps later =>
    unfold surveyTake
    refine moves_ite ?_ later
    cases (s.cams[p]).link with
    | powerFault | testing => exact later
    | locked | off | waking | lost => exact (moves_withSurvey _).trans (moves_reevaluateDemand p)

theorem moves_surveyLeave (p : CamPort) : Moves s (surveyLeave p s) :=
  ((moves_withSurvey _).trans (moves_reevaluateDemand p)).trans (moves_surveyTake _)

theorem moves_surveyReacts (p : CamPort) : Moves s (surveyReacts p s) := by
  unfold surveyReacts
  refine moves_ite ?_ .refl
  cases (s.cams[p]).link with
  | locked => exact moves_ite (moves_withSurvey _) .refl
  | waking => exact .refl
  | off | lost | testing | powerFault => exact moves_surveyLeave p

theorem moves_changeLink (p : CamPort) (new : CameraLink) (extra : List (CauseKind × Nat)) :
    Moves s (changeLink p new extra s) := (moves_moveLink ..).trans (moves_surveyReacts p)

theorem moves_surveyCount (p : CamPort) : Moves s (surveyCount p s) := by
  unfold surveyCount
  cases s.surveyPhaseOf p with
  | idle | waitLock => exact .refl
  | skip => exact moves_ite (moves_withSurvey _) (moves_withSurvey _)
  | burst => exact moves_ite (moves_surveyLeave p) (moves_withSurvey _)

theorem moves_startSurvey : Moves s (startSurvey s) := (moves_withSurvey _).trans (moves_surveyTake _)

/-- A camera port put in with its link state, timers and open frame as they were. -/
theorem moves_withCam {p : CamPort} {c : CameraPort} (timers : c.sameTimers s.cams[p])
    (frame : c.openFrame = (s.cams[p]).openFrame) : Moves s (s.withCam p c) := .single (.cam p c timers frame)

theorem countCam_cam (p : CamPort) (k : PortCounter) (s : State) :
    (countCam p k s).cams[p] = { s.cams[p] with counters := bump k.place (s.cams[p]).counters } := by
  simp [countCam]

theorem moves_failFrame (p : CamPort) : Moves s (failFrame p s) := by
  have cam := countCam_cam p .frameErrors s
  unfold failFrame
  split
  · exact (moves_countCam p _).trans (moves_changeLink ..)
  · rename_i unlocked
    refine (moves_countCam p .frameErrors).tail (.frame p _ ⟨rfl, rfl, rfl, rfl, rfl⟩ ?_ ?_)
    · rw [cam]; exact unlocked
    · exact fun h => absurd rfl h

theorem addTogether_cams (cs : List (CauseKind × Nat)) (s : State) : (addTogether cs s).cams = s.cams :=
  ((sameBut_iff_mask [.agent, .trunk] s _).mpr (by simp) .cams (by simp)).symm

/-- The camera ports that a change of link state leaves (R3). -/
theorem moveLink_cams (p : CamPort) (new : CameraLink) (extra : List (CauseKind × Nat)) (s : State) :
    (moveLink p new extra s).cams = s.cams.set p ((s.cams[p]).newly new s.nodeTime) := by
  rw [moveLink_eq, addTogether_cams, movedLink, State.withHealth_cams, State.withCam_cams, cams_endBadly_ite]

theorem closed_moveLink {q : CamPort} (closed : (s.cams[q]).openFrame = none) (p : CamPort) (new : CameraLink)
    (extra : List (CauseKind × Nat)) : ((moveLink p new extra s).cams[q]).openFrame = none := by
  rw [moveLink_cams]
  by_cases same : p = q
  · subst same
    rw [getElem_set_same]
    rfl
  · rw [getElem_set_ne _ same]
    exact closed

theorem closed_reevaluateDemand {q : CamPort} (closed : (s.cams[q]).openFrame = none) (p : CamPort) :
    ((reevaluateDemand p s).cams[q]).openFrame = none := by
  have moved := fun new => closed_moveLink closed p new []
  cases link : (s.cams[p]).link with
  | off => simp only [reevaluateDemand, link]; split <;> simp only [closed, moved]
  | waking | locked | lost => simp only [reevaluateDemand, link]; split <;> simp only [closed, moved]
  | testing | powerFault => simpa only [reevaluateDemand, link] using closed

theorem closed_surveyTake {q : CamPort} (closed : (s.cams[q]).openFrame = none) (ps : List CamPort) :
    ((surveyTake ps s).cams[q]).openFrame = none := by
  induction ps with
  | nil => exact closed
  | cons p ps later =>
    have taken : ∀ v, ((reevaluateDemand p (s.withSurvey v)).cams[q]).openFrame = none :=
      fun v => closed_reevaluateDemand (by exact closed) p
    cases link : (s.cams[p]).link <;> simp only [surveyTake, link] <;> split <;> simp only [later, taken]

theorem closed_ite {q : CamPort} {c : Prop} [Decidable c] (hs : (s.cams[q]).openFrame = none)
    (ht : (t.cams[q]).openFrame = none) : ((if c then s else t).cams[q]).openFrame = none := by
  split
  · exact hs
  · exact ht

theorem closed_surveyReacts {q : CamPort} (closed : (s.cams[q]).openFrame = none) (p : CamPort) :
    ((surveyReacts p s).cams[q]).openFrame = none := by
  have left : ((surveyLeave p s).cams[q]).openFrame = none :=
    closed_surveyTake (closed_reevaluateDemand (by exact closed) p) _
  have kept : ∀ v, ((s.withSurvey v).cams[q]).openFrame = none := fun _ => closed
  cases link : (s.cams[p]).link with
  | waking => simp only [surveyReacts, link]; split <;> exact closed
  | locked => simp only [surveyReacts, link]; exact closed_ite (closed_ite (kept _) closed) closed
  | off | lost | testing | powerFault =>
    simp only [surveyReacts, link]; exact closed_ite left closed

/-- A port whose frame has failed has no frame open. -/
theorem closed_failFrame (p : CamPort) (s : State) : ((failFrame p s).cams[p]).openFrame = none := by
  by_cases locked : (s.cams[p]).link = .locked
  · rw [failFrame, if_pos locked]
    refine closed_surveyReacts ?_ p
    rw [moveLink_cams, getElem_set_same]
    rfl
  · rw [failFrame, if_neg locked, State.withCam_cams, getElem_set_same]

/-- A frame start is taken where no frame stands open in LOCKED. -/
theorem moves_takeFrameStart {p : CamPort} (x : FrameHead)
    (closed : (s.cams[p]).link = .locked → (s.cams[p]).openFrame = none) : Moves s (takeFrameStart p x s) := by
  unfold takeFrameStart
  split
  next locked => exact moves_ite (.single (.deliver p x locked (closed locked))) (moves_failFrame p)
  next waking =>
    have listens : (s.cams[p]).listens = true := by rw [CameraPort.listens, waking]; rfl
    exact moves_ite (.single (.frame p _ ⟨rfl, rfl, rfl, rfl, rfl⟩ (by rw [waking]; decide) fun _ => listens))
      (moves_failFrame p)
  all_goals exact .refl

theorem moves_lockPort (p : CamPort) (f : OpenFrame) : Moves s (lockPort p f s) :=
  .trans ((moves_moveLink p .locked []).trans (moves_withCam (by exact ⟨rfl, rfl, rfl, rfl, rfl⟩) (by rfl)))
    (moves_surveyReacts p)

theorem moves_startCheck (p : CamPort) : Moves s (startCheck p s) :=
  .trans (moves_withCam (by exact ⟨rfl, rfl, rfl, rfl, rfl⟩) (by rfl)) (moves_changeLink ..)

theorem moves_endCheck (p : CamPort) (f : ProbeFinding) : Moves s (endCheck p f s) :=
  .trans (.trans (moves_withCam (by exact ⟨rfl, rfl, rfl, rfl, rfl⟩) (by rfl)) (moves_addCause _ _ _))
    (moves_changeLink ..)

theorem moves_cameraTakes (p : CamPort) : Moves s (cameraTakes p s) := by
  unfold cameraTakes
  cases (s.cams[p]).link with
  | off | waking | locked | lost => exact moves_reevaluateDemand p
  | testing => exact moves_withCam ⟨rfl, rfl, rfl, rfl, rfl⟩ rfl
  | powerFault => exact moves_changeLink ..

end

end Sys2Proof.Machine
end

section
/-! PROOF. What commands are made of, continued: the router, the modes and the commands of the agent. -/

namespace Sys2Proof.Machine

section
variable {s t u : State}

/-! ### The router -/

theorem moves_passOn (p : TrunkPort) (c : Cell) : Moves s (passOn p c s) := moves_placeControl _ _

theorem moves_countPayload (c : Cell) : Moves s (countPayload c s) := moves_ite .refl (moves_countRouter _)

/-- The agent with another queue, not longer than the agent's or within its capacity. -/
theorem moves_withQueue {q : List AgentCommand} (h : q.length ≤ s.agent.queue.length ∨ q.length ≤ 4) :
    Moves s (s.withAgent { s.agent with queue := q }) :=
  .single (.agent _ (.inl rfl) rfl rfl h)

theorem moves_queueCommand (p : TrunkPort) (c : Cell) : Moves s (queueCommand p c s) :=
  moves_dite (fun room => moves_withQueue (.inr (by simpa using Nat.succ_le_of_lt room)))
    fun _ => moves_replyStatus _ _

theorem moves_routeState (p : TrunkPort) (c : Cell) : Moves s (routeState p c s) :=
  ((moves_setControllerSide p).trans (moves_takeState _)).trans (moves_passOn p c)

theorem moves_routeCommand (p : TrunkPort) (c : Cell) : Moves s (routeCommand p c s) := by
  unfold routeCommand
  dsimp only
  have passed : Moves s (if commandDestination c = s.nodeNumber then setControllerSide p s
      else passOn p c (setControllerSide p s)) :=
    moves_ite (moves_setControllerSide p) ((moves_setControllerSide p).trans (moves_passOn p c))
  exact moves_ite (passed.trans (moves_queueCommand p c)) passed

theorem moves_takeControl {p : TrunkPort} {c : Cell} {act : State → State} (h : ∀ u, Moves u (act u)) :
    Moves s (takeControl p c act s) :=
  moves_ite ((moves_handOn p).trans (h _)) ((moves_handOn p).trans (moves_countRouter _))

theorem moves_joinPass (p : TrunkPort) (c : Cell) : Moves s (joinPass p c s) :=
  moves_dite (fun room => .single (.trunk p _ (.inl le_rfl) (.inr (by simpa using Nat.succ_le_of_lt room)) rfl))
    fun _ => moves_countTrunk p _

theorem moves_forwardTile (p : TrunkPort) (c : Cell) : Moves s (forwardTile p c s) := by
  unfold forwardTile
  split
  · exact moves_joinPass _ c
  · exact .refl
  · exact moves_ite .refl (moves_countRouter _)

theorem moves_breakStream (sid : StreamId) : Moves s (breakStream sid s) := by
  unfold breakStream
  split
  · exact .refl
  · exact .single (.abandonContext _ _)

theorem moves_consumeHead (run : s.mode = .run) (c : Cell) : Moves s (consumeHead c s) := by
  unfold consumeHead
  split
  · exact .single (.openContext _ _ run)
  · exact (moves_countRouter _).trans (moves_breakStream _)

theorem Context.taking_slot (x : Context) (c : Cell) : (x.taking c).slot = x.slot := by
  unfold Context.taking; split <;> rfl

theorem Context.taking_stream (x : Context) (c : Cell) : (x.taking c).stream = x.stream := by
  unfold Context.taking; split <;> rfl

theorem withContext_same (k : ContextNo) (x : Option Context) (s : State) : (s.withContext k x).router.contexts[k] = x :=
  getElem_set_same _ _ _

theorem moves_endContext {k : ContextNo} {x : Context} (isOpen : s.router.contexts[k] = some x) (damaged : Bool) :
    Moves s (endContext k x damaged s) :=
  moves_ite (.single (.abandonContext k _)) (.trans (.single (.publish k x isOpen)) (moves_countRouter _))

theorem moves_takeData {k : ContextNo} {x : Context} (isOpen : s.router.contexts[k] = some x) (c : Cell) :
    Moves s (takeData k x c s) := by
  have written : Moves s (if x.matches c then s.withStore (s.store.writeBytes x.slot (x.bytesOf c)) else s) :=
    moves_ite (.single (.write k x _ isOpen)) .refl
  have isOpen' : (if x.matches c then s.withStore (s.store.writeBytes x.slot (x.bytesOf c)) else s : State).router.contexts[k]
      = some x := by
    split
    · exact isOpen
    · exact isOpen
  have marked := written.tail (.context k x (x.taking c) isOpen' (x.taking_slot c) (x.taking_stream c))
  exact moves_ite (marked.trans (moves_endContext (withContext_same _ _ _) _)) marked

theorem moves_consumeData (c : Cell) : Moves s (consumeData c s) := by
  unfold consumeData
  split
  · exact moves_countRouter _
  · split
    · exact .refl
    · rename_i isOpen
      exact moves_takeData isOpen c

theorem moves_takeTile {p : TrunkPort} {c : Cell} {consume : State → State}
    (h : ∀ u : State, u.mode = .run → Moves u (consume u)) : Moves s (takeTile p c consume s) := by
  have forwarded : Moves s (forwardTile p c (countPayload c (handOn p s))) :=
    ((moves_handOn p).trans (moves_countPayload c)).trans (moves_forwardTile p c)
  have mode : s.mode = (forwardTile p c (countPayload c (handOn p s))).mode :=
    (sameBut_iff_mask [.agent, .trunk, .router] s _).mpr (by simp) .mode (by simp)
  refine moves_dite (fun consumed => forwarded.trans (h _ (mode ▸ ?_))) fun _ => forwarded
  exact eq_of_beq (Bool.and_eq_true_iff.mp consumed).1

theorem moves_joinBypass (p : TrunkPort) (c : Cell) : Moves s (joinBypass p c s) := moves_withTrunk rfl rfl rfl

theorem moves_bypassActs (p : TrunkPort) (c : Cell) : Moves s (bypassActs p c s) := by
  unfold bypassActs
  split
  · exact moves_ite (moves_setControllerSide p) (moves_countRouter _)
  · exact moves_ite (moves_ite ((moves_setControllerSide p).trans (moves_queueCommand p c))
      (moves_setControllerSide p)) (moves_countRouter _)
  · exact .refl

/-! ### Modes -/

theorem moves_abandonProductions : Moves s (abandonProductions s) :=
  moves_foldl (fun _ k => .single (.abandonProduction k)) _ s

theorem moves_abandonContexts : Moves s (abandonContexts s) :=
  moves_foldl (fun _ k => .single (.abandonContext k _)) _ s

theorem moves_clearSends : Moves s (clearSends s) :=
  (((moves_removeEntries _ _).trans (moves_removeEntries _ _)).trans (moves_withShare _ _)).trans (moves_withShare _ _)

theorem moves_stopRun : Moves s (stopRun s) :=
  (moves_abandonProductions.trans moves_abandonContexts).trans moves_clearSends

theorem moves_enterBypass : Moves s (enterBypass s) :=
  ((moves_removeEntries _ _).trans (moves_removeEntries _ _)).trans (moves_eachPort fun p _ => moves_dropHold p)

theorem moves_enterMode (m : Mode) : Moves s (enterMode m s) := by
  cases m with
  | run => exact .refl
  | standby => exact moves_withSurvey _
  | bypass => exact moves_enterBypass

theorem moves_leaveMode (m : Mode) : Moves s (leaveMode m s) := by
  cases m with
  | run => exact moves_stopRun
  | standby => exact moves_withSurvey _
  | bypass => exact .refl

/-! ### The agent's commands -/

theorem replyStatus_agent (c : AgentCommand) (st : Status) (s : State) : (replyStatus c st s).agent = s.agent :=
  ((sameBut_iff_mask [.trunk] s _).mpr (by simp) .agent (by simp)).symm

theorem moves_disposing (cs : List AgentCommand) :
    ∀ s : State, cs.length ≤ s.agent.queue.length → Moves s (disposeUnknown cs s) := by
  induction cs with
  | nil => exact fun s h => moves_withQueue (.inl h)
  | cons c cs later =>
    intro s h
    unfold disposeUnknown
    split
    · exact (moves_replyStatus _ _).trans (later _ (by rw [replyStatus_agent]; exact Nat.le_of_succ_le h))
    · exact moves_withQueue (.inl h)

theorem moves_disposeUnknown : Moves s (disposeUnknown s.agent.queue s) := moves_disposing _ s le_rfl

theorem moves_popCommand : Moves s (popCommand s) := moves_withQueue (.inl (by simp))

theorem moves_retime : Moves s (retime s) := by
  unfold retime
  split
  · split
    · exact .refl
    · exact moves_ite moves_clearFresh (moves_quiet (by simp [quietParts]))
  · exact .refl

theorem moves_takeTilePlan (e : TilePlan) : Moves s (takeTilePlan e s) := moves_withTables rfl rfl

theorem moves_takeCameraConfig (e : CameraConfig) : Moves s (takeCameraConfig e s) :=
  .trans (moves_withTables (by rfl) (by rfl)) (moves_cameraTakes _)

theorem moves_takeWeight (w : Nat) : Moves s (takeWeight w s) :=
  .trans (moves_withTables (by rfl) (by rfl)) (moves_reevaluateLens _)

theorem moves_takeDoor (e : DoorEntry) : Moves s (takeDoor e s) :=
  .trans (moves_withTables (by rfl) (by rfl)) moves_evaluateBoth

theorem moves_takeRule (sc : Screen) (r : Rule) : Moves s (takeRule sc r s) :=
  .trans (moves_withTables (by rfl) (by rfl)) (moves_evaluate sc)

theorem moves_takeLayoutEntry (e : LayoutEntry) : Moves s (takeLayoutEntry e s) := moves_withTables rfl rfl

theorem moves_takeOutputConfig (e : OutputConfig) : Moves s (takeOutputConfig e s) := by
  refine .trans (moves_withTables ?_ ?_) (moves_ite ((moves_evaluate _).trans (moves_outputTakes _ _ _))
    ((moves_outputTakes _ _ _).trans (moves_evaluate _)))
  · rfl
  · rfl

theorem moves_takeNodeParams (e : NodeParams) : Moves s (takeNodeParams e s) :=
  .trans (.trans (moves_withTables (by rfl) (by rfl)) (moves_ite (moves_withSurvey _) .refl)) moves_retime

theorem placeFor_of_findRoute {b : Tables} {sid : StreamId} {i : Fin 128} (h : b.findRoute sid = some i) :
    b.placeFor sid = some i := by
  rw [Tables.placeFor, h]

theorem moves_routeAdd (c : AgentCommand) : Moves s (routeAdd c s) := by
  unfold routeAdd
  dsimp only
  split
  · refine moves_ite ?_ (moves_replyStatus _ _)
    split
    · rename_i place
      exact .trans (.single (.route _ _ fun x h => by cases h; exact place)) (moves_reply _ _ _)
    · exact moves_replyStatus _ _
  · exact moves_replyStatus _ _

theorem moves_routeRemove (c : AgentCommand) : Moves s (routeRemove c s) := by
  unfold routeRemove
  refine moves_ite ?_ (moves_replyStatus _ _)
  split
  · exact .trans (.single (.route _ none fun x h => by cases h)) (moves_reply _ _ _)
  · exact moves_replyStatus _ _

theorem moves_applyLayouts : Moves s (applyLayouts s) :=
  moves_ite (moves_withComp (by rfl)) (.trans (moves_withTables (by rfl) (by rfl)) (moves_withComp (by rfl)))

theorem moves_copyLayouts : Moves s (copyLayouts s) := moves_withTables rfl rfl

theorem moves_relearn (c : AgentCommand) : Moves s (relearn c s) := by
  unfold relearn
  split
  · exact moves_replyStatus _ _
  · refine moves_ite (moves_replyStatus _ _) (moves_ite (moves_replyStatus _ _) (moves_ite (moves_replyStatus _ _) ?_))
    exact .trans (moves_ite ((moves_startLearning _).trans (moves_reevaluateDemand _)) (moves_startLearning _))
      (moves_replyStatus _ _)

theorem moves_cableCheck (c : AgentCommand) : Moves s (cableCheck c s) := by
  unfold cableCheck
  split
  · exact moves_replyStatus _ _
  · exact moves_ite (moves_replyStatus _ _) ((moves_startCheck _).trans (moves_replyStatus _ _))

theorem moves_readCauses (c : AgentCommand) : Moves s (readCauses c s) :=
  .trans (.single (.agent _ (.inr (by rfl)) (by rfl) (by rfl) (.inl (by exact le_rfl)))) (moves_reply _ _ _)

theorem moves_clearPort (p : CamPort) : Moves s (clearPort p s) := moves_withCam ⟨rfl, rfl, rfl, rfl, rfl⟩ rfl

theorem moves_clearGroup (g : CounterGroup) : Moves s (clearGroup g s) := by
  have ports : Moves s (eachPort clearPort s) := moves_eachPort fun p _ => moves_clearPort p
  have same := (sameBut_iff_mask [.cams] s (eachPort clearPort s)).mpr
    (mask_foldl _ (fun u p => by simp [clearPort]) _ s)
  cases g with
  | trunk p => exact moves_withTrunk rfl rfl rfl
  | router => exact .single (.routerCounters _)
  | engine =>
    have engine : s.engine = (eachPort clearPort s).engine := same .engine (by simp)
    have store : s.store = (eachPort clearPort s).store := same .store (by simp)
    simp only [clearGroup, engine, store]
    exact .trans (ports.tail (.engine _ (by rfl))) (.single (.storeCounters _))

theorem moves_readCounters (c : AgentCommand) : Moves s (readCounters c s) := by
  unfold readCounters
  split
  · exact .trans (moves_ite (moves_clearGroup _) .refl) (moves_reply _ _ _)
  · exact moves_replyStatus _ _

theorem moves_clearCounters (c : AgentCommand) : Moves s (clearCounters c s) := by
  unfold clearCounters
  split
  · exact (moves_clearGroup _).trans (moves_replyStatus _ _)
  · exact moves_replyStatus _ _

theorem moves_releaseEvidence (c : AgentCommand) : Moves s (releaseEvidence c s) :=
  moves_ite ((moves_releaseAll _).trans (moves_replyStatus _ _))
    (moves_ite (moves_ite (moves_replyStatus _ _) (.trans (.single (.release _)) (moves_replyStatus _ _)))
      (moves_replyStatus _ _))

theorem moves_fetchEvidence (awake : s.mode ≠ .bypass) (c : AgentCommand) : Moves s (fetchEvidence c s) := by
  unfold fetchEvidence
  refine moves_ite ?_ (moves_replyStatus _ _)
  dsimp only
  split
  · exact moves_replyStatus _ _
  · rename_i x entry
    refine moves_ite (moves_replyStatus _ _) ?_
    split
    · exact moves_replyStatus _ _
    · rename_i p side
      exact moves_dite (fun _ => moves_replyStatus _ _) fun room =>
        .trans (.single (.fetch p _ x _ entry (by simpa using room) awake)) (moves_replyStatus _ _)

end

end Sys2Proof.Machine
end

section
/-! PROOF. What commands are made of, concluded: a good frame taken whole, the table window, the resets and the changes
of mode and orientation; every step is a sequence of such changes. -/

namespace Sys2Proof.Machine

/-! ### All parts but some -/

/-- The parts of State but those of a list. -/
def allBut (xs : List Part) : List Part :=
  [Part.nodeTime, .cellCount, .straps, .cabActive, .mode, .cams, .health, .engine, .store, .trunk, .orient,
    .controllerSide, .router, .vehicle, .selection, .alarm, .comp, .agent, .survey, .tables, .swapTies,
    .pending].filter fun x => decide (x ∉ xs)

@[simp] theorem mem_allBut {x : Part} {xs : List Part} : x ∈ allBut xs ↔ x ∉ xs := by
  cases x <;> simp [allBut]

section
variable {s t u : State}

/-- States that agree outside a list of parts agree outside a longer one. -/
theorem mask_mono {l m : List Part} (sub : ∀ x ∈ l, x ∈ m) (h : t.mask l = s.mask l) : t.mask m = s.mask m :=
  (sameBut_iff_mask m s t).mp fun x hx => (sameBut_iff_mask l s t).mpr h x fun hl => hx (sub x hl)

theorem same_of_mask {l : List Part} (h : t.mask l = s.mask l) (x : Part) (hx : x ∉ l) : x.same s t :=
  (sameBut_iff_mask l s t).mpr h x hx

/-- States that agree on some parts, from agreement outside all others. -/
theorem same_of_allBut {xs : List Part} (h : t.mask (allBut xs) = s.mask (allBut xs)) (x : Part) (hx : x ∈ xs) :
    x.same s t := same_of_mask h x (by simpa using hx)

theorem mask_of_quiet {xs : List Part} (h : t.mask quietParts = s.mask quietParts)
    (loud : ∀ x ∈ quietParts, x ∉ xs) : t.mask (allBut xs) = s.mask (allBut xs) :=
  mask_mono (fun x hx => mem_allBut.mpr (loud x hx)) h

/-! ### Work -/

/-- A good frame taken at its end (R6, R30, R62): the port and the statistics, the health monitor, and the tiles. -/
def frameTaken (p : CamPort) (f : OpenFrame) (pic : Picture) (s : State) : State :=
  let sums := gather pic.luma f.width f.height
  completeTile p 1 pic (completeTile p 0 pic (takeFrame p (frameStats f sums) ((endGood p f s).withSums p sums)))

/-- A single change, a good frame taken at its end, or a new table window within its range. -/
inductive Work (s : State) : State → Prop
  | move {t : State} (m : Move s t) : Work s t
  | takes (p : CamPort) (f : OpenFrame) (pic : Picture) (isOpen : (s.cams[p]).openFrame = some f)
    (locked : (s.cams[p]).link = .locked) : Work s (frameTaken p f pic s)
  | window (w : Option Table) (n : Nat) (inRange : ∀ t : Table, w = some t → n ≤ t.entries) :
    Work s (s.withAgent { s.agent with window := w, pointer := n })

/-- A sequence of such work. -/
abbrev Works : State → State → Prop := Relation.ReflTransGen Work

theorem Moves.works (h : Moves s t) : Works s t := by
  induction h with
  | refl => exact .refl
  | tail _ m ih => exact ih.tail (.move m)

theorem works_ite {c : Prop} [Decidable c] (ht : Works s t) (hu : Works s u) : Works s (if c then t else u) := by
  split
  · exact ht
  · exact hu

/-! ### Frame ends -/

theorem goodEnd_eq (p : CamPort) (f : OpenFrame) (pic : Picture) (s : State) :
    goodEnd p f pic s =
      let t := surveyCount p (lensEvent p (s.health[p]).lens (frameTaken p f pic s))
      if (s.health[p]).relearnHold && !(t.health[p]).relearnHold then reevaluateDemand p t else t := rfl

theorem works_goodEnd {p : CamPort} {f : OpenFrame} (isOpen : (s.cams[p]).openFrame = some f)
    (locked : (s.cams[p]).link = .locked) (pic : Picture) : Works s (goodEnd p f pic s) := by
  have taken : Works s (frameTaken p f pic s) := .single (.takes p f pic isOpen locked)
  have counted := (taken.trans (moves_lensEvent p (s.health[p]).lens).works).trans (moves_surveyCount p).works
  rw [goodEnd_eq]
  exact works_ite (counted.trans (moves_reevaluateDemand p).works) counted

theorem works_frameEnd (p : CamPort) (pic : Picture) : Works s (frameEnd p pic s) := by
  unfold frameEnd
  split
  · exact .refl
  · rename_i f isOpen
    split
    · split
      · split
        next locked => exact works_goodEnd isOpen locked pic
        next => exact (moves_lockPort p f).works
      · exact (moves_failFrame p).works
    · exact .refl

theorem works_frameEndIf (p : CamPort) (pic : Picture) (test : FrameStats → Bool) :
    Works s (frameEndIf p pic test s) := by
  unfold frameEndIf
  split
  · exact .refl
  · exact works_ite (works_frameEnd p pic) .refl

/-! ### The table window (R168 to R170) -/

/-- No single change moves the table window. -/
theorem Move.window (m : Move s t) : t.agent.window = s.agent.window ∧ t.agent.pointer = s.agent.pointer := by
  have keep (h : t.mask (allBut [.agent]) = s.mask (allBut [.agent])) :
      t.agent.window = s.agent.window ∧ t.agent.pointer = s.agent.pointer := by
    have agent : s.agent = t.agent := same_of_allBut h .agent (by simp)
    rw [agent]
    exact ⟨rfl, rfl⟩
  cases m with
  | quiet same => exact keep (mask_of_quiet same (by simp [quietParts]))
  | cause => exact ⟨rfl, rfl⟩
  | agent a _ window pointer => exact ⟨window, pointer⟩
  | _ => exact keep (by simp)

theorem Moves.window (h : Moves s t) : t.agent.window = s.agent.window ∧ t.agent.pointer = s.agent.pointer := by
  induction h with
  | refl => exact ⟨rfl, rfl⟩
  | tail _ m ih => exact ⟨m.window.1.trans ih.1, m.window.2.trans ih.2⟩

theorem works_withPointer {n : Nat} (inRange : ∀ t : Table, s.agent.window = some t → n ≤ t.entries) :
    Works s (s.withPointer n) :=
  .single (.window s.agent.window n inRange)

theorem works_selectTable (c : AgentCommand) : Works s (selectTable c s) := by
  unfold selectTable
  split
  · exact (moves_replyStatus _ _).works
  · rename_i t _
    dsimp only
    split
    next inside =>
      exact .trans (.single (.window (some t) _ fun u h => by cases h; exact inside.le)) (moves_replyStatus _ _).works
    next => exact (moves_replyStatus _ _).works

theorem works_readNext (c : AgentCommand) : Works s (readNext c s) := by
  unfold readNext
  dsimp only
  refine works_ite (moves_reply _ _ _).works ?_
  split
  · exact (moves_reply _ _ _).works
  · rename_i t selected
    split
    · exact (moves_reply _ _ _).works
    · rename_i inside
      refine .trans (works_withPointer fun u h => ?_) (moves_reply _ _ _).works
      obtain rfl : t = u := by simpa [selected] using h
      omega

/-- A write of a table whose entry count is the number tested (R169). -/
theorem works_writeEntry {α : Type} {entries : Nat} {read : List Byte → Option α} {busy : State → Bool}
    {take : α → State → State} {c : AgentCommand}
    (count : ∀ t : Table, s.agent.window = some t → t.entries = entries)
    (takes : ∀ v, read c.args = some v → Moves s (take v s)) : Works s (writeEntry entries read busy take c s) := by
  have replied : ∀ st, Works s (replyStatus c st s) := fun st => (moves_replyStatus c st).works
  unfold writeEntry
  split
  · exact replied _
  · rename_i inside
    split
    · exact replied _
    · rename_i v entry
      refine works_ite (replied _) ?_
      have taken := takes v entry
      refine .trans (taken.works.trans (works_withPointer fun t h => ?_)) (moves_replyStatus _ _).works
      have := count t (taken.window.1 ▸ h)
      omega

theorem works_runCommand {n : CommandName} {applies : State → Bool} {act : AgentCommand → State → State}
    (h : ∀ c u, applies u = true → allowedIn u.mode n = true → Works u (act c u)) :
    Works s (runCommand n applies act s) := by
  have disposed : Works s (disposeUnknown s.agent.queue s) := moves_disposeUnknown.works
  unfold runCommand
  dsimp only
  split
  · exact .refl
  · split
    next runs =>
      refine .trans ?_ moves_popCommand.works
      split
      next allowed => exact disposed.trans (h _ _ runs.2 allowed)
      next => exact disposed.trans (moves_reply _ _ _).works
    next => exact .refl

/-- A command of the agent that writes one table, or one of some with the same entry count. -/
theorem works_runWrite {α : Type} {n : CommandName} {applies : State → Bool} {entries : Nat}
    {read : State → List Byte → Option α} {busy : State → Bool} {take : State → α → State → State}
    (count : ∀ u : State, applies u = true → ∀ t : Table, u.agent.window = some t → t.entries = entries)
    (takes : ∀ u : State, ∀ l v, read u l = some v → Moves u (take u v u)) :
    Works s (runCommand n applies (fun c u => writeEntry entries (read u) busy (take u) c u) s) :=
  works_runCommand fun c u h _ => works_writeEntry (count u h) fun v => takes u c.args v

theorem selects_entries {w : Table} {u : State} (h : selects w u = true) {t : Table} (selected : u.agent.window = some t) :
    t.entries = w.entries := by
  obtain rfl : t = w := by simpa [selects, selected] using h
  rfl

theorem readLensParams_valid {l : List Byte} {e : LensParams} (h : readLensParams l = some e) : e.valid = true := by
  unfold readLensParams at h
  dsimp only at h
  split at h
  · cases h; assumption
  · cases h

/-- A slot that a screen's frame holds has a hold (R45). -/
theorem holdsOn_of_held {sc : Screen} {i : SlotNo} (h : i ∈ (s.comp.outputs[sc]).held) : 0 < s.holdsOn i := by
  have counted : 0 < ((s.comp.outputs[sc]).held).count i := List.count_pos_iff.mpr h
  unfold State.holdsOn
  match sc, counted with
  | 0, counted => omega
  | 1, counted => omega

/-! ### Commands that leave mode, head role and straps -/

/-- A frame start truncates a frame still open first, so that in LOCKED none stands open (R4, R6). -/
theorem moves_frameStart_camera (p : CamPort) (x : FrameHead) : Moves s (takeFrameStart p x
    (if (s.cams[p]).openFrame.isSome && (s.cams[p]).listens then failFrame p s else s)) := by
  split
  next => exact (moves_failFrame p).trans (moves_takeFrameStart x fun _ => closed_failFrame p s)
  next whole =>
    refine moves_takeFrameStart x fun locked => ?_
    have listens : (s.cams[p]).listens = true := by rw [CameraPort.listens, locked]; rfl
    rw [listens, Bool.and_true, Option.not_isSome_iff_eq_none] at whole
    exact whole

/-- A command that is not listed for the orientation record is a sequence of such work. -/
theorem exec_works {c : Instr} (s : State) (steady : Part.orient ∉ Instr.touched c) :
    ∃ t : State, exec c s = .next t ∧ Works s t := by
  cases c <;> refine ⟨_, rfl, ?_⟩
  case powerOnReset | resetLine | cabActiveRise | cabActiveFall | beacon | beaconPeriod | orientationExpiry | resumeTime
    | setMode | restart => exact absurd (by simp [Instr.touched]) steady
  case frameStart p x => exact (moves_frameStart_camera p x).works
  case frameEnd p pic => exact works_frameEnd p pic
  case sameFrameRunFull p pic | darkRunFull p pic | sample p pic | unusableRunFull p pic | learningComplete p pic
    | surveySkipDone p pic | surveyBurstDone p pic => exact works_frameEndIf p pic _
  case shortLine p => exact (moves_ite (moves_failFrame p) .refl).works
  case lockTimerExpiry p | stallTimerExpiry p => exact (moves_ite (moves_changeLink p _ _) .refl).works
  case retryTimerExpiry p | overcurrentTrip p =>
    exact (moves_ite ((moves_countCam p _).trans (moves_changeLink p _ _)) .refl).works
  case probeEnd p f => exact (moves_ite (moves_endCheck p f) .refl).works
  case learningDeadline p =>
    exact (moves_ite (moves_ite ((moves_failLearning p).trans (moves_reevaluateDemand p)) (moves_failLearning p))
      .refl).works
  case signalDetected p => exact (moves_ite (moves_moveTrunk p _) .refl).works
  case signalLoss p =>
    refine Moves.works ?_
    split
    · exact .refl
    · exact moves_moveTrunk p _
    · exact (moves_countTrunk p _).trans (moves_moveTrunk p _)
  case cellReceivedTraining p x | trainingComplete p x => exact (moves_ite (moves_trainCell p x) .refl).works
  case headerFailure p x | failedHeaderRunFull p x => exact (moves_ite (moves_failHeader p) .refl).works
  case fill p x => exact (moves_ite ((moves_clearFailedRun p).trans (moves_setFarFault p _)) .refl).works
  case state p x => exact (moves_ite (moves_takeControl fun _ => moves_routeState p x) .refl).works
  case command p x => exact (moves_ite (moves_takeControl fun _ => moves_routeCommand p x) .refl).works
  case passReplyNotice p x => exact (moves_ite (moves_takeControl fun _ => moves_passOn p x) .refl).works
  case badKind p x =>
    exact (moves_ite (((moves_handOn p).trans (moves_countRouter _)).trans (moves_countPayload x)) .refl).works
  case tileHead p x => exact (moves_ite (moves_takeTile fun _ run => moves_consumeHead run x) .refl).works
  case tileData p x | contextEnd p x => exact (moves_ite (moves_takeTile fun _ _ => moves_consumeData x) .refl).works
  case bypassPass p x =>
    exact (moves_ite (((moves_handOn p).trans (moves_joinBypass p x)).trans (moves_bypassActs p x)) .refl).works
  case cellTime reads => exact (moves_cellTime reads).works
  case sendEntryEnd p reads => exact (moves_ite (moves_cellTime reads) .refl).works
  case contextExpiry k => exact (moves_ite (.single (.abandonContext k _)) .refl).works
  case stalenessExpiry => exact (moves_ite moves_clearFresh .refl).works
  case holdExpiry sc =>
    exact (moves_ite ((moves_quiet (t := s.withSelection sc _) (by simp [quietParts])).trans (moves_evaluate sc))
      .refl).works
  case pulseEnd => exact (moves_ite (moves_withComp (by rfl)) .refl).works
  case screenFrameStart sc => exact (moves_dite (fun runs => moves_frameStart (.inr runs)) fun _ => .refl).works
  case drawCheckFailure sc i =>
    refine (moves_dite (fun held => moves_memoryError ?_) fun _ => .refl).works
    exact holdsOn_of_held held
  case surveyStart => exact (moves_ite moves_startSurvey .refl).works
  case selectTable => exact works_runCommand fun c _ _ _ => works_selectTable c
  case writeNext => exact works_runCommand fun c _ _ _ => (moves_replyStatus c _).works
  case writeTilePlan => exact works_runWrite (fun _ h _ => selects_entries h) fun _ _ v _ => moves_takeTilePlan v
  case writeCameraConfig =>
    exact works_runWrite (fun _ h _ => selects_entries h) fun _ _ v _ => moves_takeCameraConfig v
  case writeLensParams =>
    exact works_runWrite (fun _ h _ => selects_entries h) fun _ _ _ entry =>
      moves_takeLensParams (readLensParams_valid entry)
  case writeWeight => exact works_runWrite (fun _ h _ => selects_entries h) fun _ _ v _ => moves_takeWeight v
  case writeReference => exact works_runWrite (fun _ h _ => selects_entries h) fun _ _ v _ => moves_takeReference v
  case writeDoor => exact works_runWrite (fun _ h _ => selects_entries h) fun _ _ v _ => moves_takeDoor v
  case writeRules =>
    refine works_runWrite (fun u h t w => ?_) fun _ _ v _ => moves_takeRule _ v
    rcases Bool.or_eq_true_iff.mp h with h | h
    · exact selects_entries h w
    · exact selects_entries h w
  case writeLayoutPending =>
    exact works_runWrite (fun _ h _ => selects_entries h) fun _ _ v _ => moves_takeLayoutEntry v
  case writeOutputConfig =>
    exact works_runWrite (fun _ h _ => selects_entries h) fun _ _ v _ => moves_takeOutputConfig v
  case writeNodeParams => exact works_runWrite (fun _ h _ => selects_entries h) fun _ _ v _ => moves_takeNodeParams v
  case readNext => exact works_runCommand fun c _ _ _ => works_readNext c
  case routeAdd => exact works_runCommand fun c _ _ _ => (moves_routeAdd c).works
  case routeRemove => exact works_runCommand fun c _ _ _ => (moves_routeRemove c).works
  case applyLayouts => exact works_runCommand fun c _ _ _ => Moves.works (moves_applyLayouts.trans (moves_replyStatus c _))
  case copyLayouts => exact works_runCommand fun c _ _ _ => Moves.works (moves_copyLayouts.trans (moves_replyStatus c _))
  case relearn => exact works_runCommand fun c _ _ _ => (moves_relearn c).works
  case cableCheck => exact works_runCommand fun c _ _ _ => (moves_cableCheck c).works
  case readCauses => exact works_runCommand fun c _ _ _ => (moves_readCauses c).works
  case readStatus => exact works_runCommand fun c _ _ _ => (moves_reply c _ _).works
  case readCounters => exact works_runCommand fun c _ _ _ => (moves_readCounters c).works
  case clearCounters => exact works_runCommand fun c _ _ _ => (moves_clearCounters c).works
  case releaseEvidence => exact works_runCommand fun c _ _ _ => (moves_releaseEvidence c).works
  case fetchEvidence =>
    exact works_runCommand fun c _ _ allowed => (moves_fetchEvidence (fun bypass => by rw [bypass] at allowed; cases allowed) c).works

/-- With no command waiting node time passes, unknown commands are answered, and steps are put in the queue. -/
theorem moves_idle : Moves s (idle s) := by
  have ticked : Moves s (s.withNodeTime (s.nodeTime + 1)) := moves_quiet (by simp [quietParts])
  exact (ticked.trans moves_disposeUnknown).tail (.quiet (mask_withPending (by simp [quietParts])))

/-! ### Every step -/

/-- Work, a new mode or orientation record, a reset, or what RESTART puts in. -/
inductive Change (s : State) : State → Prop
  | work {t : State} (w : Work s t) : Change s t
  | mode (m : Mode) : Change s (s.withMode m)
  | orient (o : Orientation) : Change s (s.withOrient o)
  | reset (straps : Straps) (now : NodeTime) (cells : Nat) : Change s (s.afterReset straps now cells)
  | restart (c : AgentCommand) : Change s (keepCopy c s s.afterRestart)

/-- A sequence of such changes. -/
abbrev Changes : State → State → Prop := Relation.ReflTransGen Change

theorem Works.changes (h : Works s t) : Changes s t := by
  induction h with
  | refl => exact .refl
  | tail _ w ih => exact ih.tail (.work w)

theorem Moves.changes (h : Moves s t) : Changes s t := h.works.changes

theorem changes_ite {c : Prop} [Decidable c] (ht : Changes s t) (hu : Changes s u) :
    Changes s (if c then t else u) := by
  split
  · exact ht
  · exact hu

/-- Work, or a new orientation record: what a command does that changes no mode and resets nothing. -/
inductive Turn (s : State) : State → Prop
  | work {t : State} (w : Work s t) : Turn s t
  | orient (o : Orientation) : Turn s (s.withOrient o)

/-- A sequence of such changes. -/
abbrev Turns : State → State → Prop := Relation.ReflTransGen Turn

theorem Works.turns (h : Works s t) : Turns s t := by
  induction h with
  | refl => exact .refl
  | tail _ w ih => exact ih.tail (.work w)

theorem Moves.turns (h : Moves s t) : Turns s t := h.works.turns

theorem Turns.changes (h : Turns s t) : Changes s t := by
  induction h with
  | refl => exact .refl
  | tail _ w ih =>
    cases w with
    | work w => exact ih.tail (.work w)
    | orient o => exact ih.tail (.orient o)

theorem turns_ite {c : Prop} [Decidable c] (ht : Turns s t) (hu : Turns s u) : Turns s (if c then t else u) := by
  split
  · exact ht
  · exact hu

theorem turns_withOrient (o : Orientation) : Turns s (s.withOrient o) := .single (.orient o)

theorem turns_becomeHead : Turns s (becomeHead s) :=
  (turns_withOrient _).trans (moves_beaconBoth.turns.trans (moves_reportOrientation _).turns)

theorem turns_beginCandidacy : Turns s (beginCandidacy s) := by
  unfold beginCandidacy
  split
  · exact (turns_withOrient _).trans (moves_addTogether _).turns
  · exact turns_becomeHead

theorem turns_endCandidacy : Turns s (endCandidacy s) :=
  have reset := (turns_withOrient (s := s) Orientation.reset).trans (moves_reportOrientation s.orient).turns
  turns_ite ((turns_withOrient _).trans (moves_reportOrientation _).turns)
    (reset.trans moves_stopComposing.turns)

theorem turns_reevaluateCandidacy : Turns s (reevaluateCandidacy s) :=
  turns_ite .refl (turns_ite turns_beginCandidacy turns_endCandidacy)

theorem turns_forgetHead : Turns s (forgetHead s) :=
  (turns_withOrient _).trans (moves_reportOrientation _).turns

theorem turns_takeBeacon (p : TrunkPort) (h n : Nat) : Turns s (takeBeacon p h n s) := by
  refine turns_ite (turns_ite ?_ .refl) (turns_ite ?_ .refl)
  · exact (((turns_withOrient _).trans (moves_placeBeacon _ _ _).turns).trans (moves_addTogether _).turns).trans
      moves_stopComposing.turns
  · exact ((turns_withOrient _).trans (moves_placeBeacon _ _ _).turns).trans (moves_reportOrientation _).turns

theorem turns_routeBeacon (p : TrunkPort) (c : Cell) : Turns s (routeBeacon p c s) := by
  unfold routeBeacon
  split
  · exact .refl
  · exact turns_takeBeacon _ _ _

theorem turns_orientMode : Turns s (orientMode s) :=
  turns_ite (turns_reevaluateCandidacy.trans turns_forgetHead) turns_reevaluateCandidacy

theorem changes_changeMode (m : Mode) : Changes s (changeMode m s) := by
  have entered : Changes s (enterMode m (leaveMode s.mode (s.withMode m))) :=
    .trans (.single (.mode m)) ((moves_leaveMode _).changes.trans (moves_enterMode m).changes)
  have ports : ∀ u, Changes u (eachPort reevaluateDemand u) := fun u =>
    (moves_eachPort fun p _ => moves_reevaluateDemand p).changes
  exact changes_ite ((entered.trans (ports _)).trans turns_orientMode.changes)
    ((entered.trans turns_orientMode.changes).trans (ports _))

theorem changes_restart (c : AgentCommand) : Changes s (restart c s) := by
  have replied : Changes s (replyStatus c .ok (keepCopy c s s.afterRestart)) :=
    .trans (.single (.restart c)) (moves_replyStatus c _).changes
  have ports : ∀ u, Changes u (eachPort reevaluateDemand u) := fun u =>
    (moves_eachPort fun p _ => moves_reevaluateDemand p).changes
  refine .trans (changes_ite ?_ ?_) moves_startOutputs.changes
  · exact (replied.trans (ports _)).trans turns_reevaluateCandidacy.changes
  · exact (replied.trans turns_reevaluateCandidacy.changes).trans (ports _)

theorem changes_runCommand {n : CommandName} {applies : State → Bool} {act : AgentCommand → State → State}
    (h : ∀ c u, Changes u (act c u)) : Changes s (runCommand n applies act s) := by
  have disposed : Changes s (disposeUnknown s.agent.queue s) := moves_disposeUnknown.changes
  unfold runCommand
  dsimp only
  split
  · exact .refl
  · refine changes_ite (.trans ?_ moves_popCommand.changes) .refl
    exact changes_ite (disposed.trans (h _ _)) (disposed.trans (moves_reply _ _ _).changes)

theorem changes_setMode (c : AgentCommand) : Changes s (setMode c s) := by
  unfold setMode
  split
  · exact (moves_replyStatus _ _).changes
  · exact (changes_ite .refl (changes_changeMode _)).trans (moves_replyStatus _ _).changes

theorem turns_takeControl {p : TrunkPort} {c : Cell} {act : State → State} (h : ∀ u, Turns u (act u)) :
    Turns s (takeControl p c act s) :=
  turns_ite ((moves_handOn p).turns.trans (h _)) ((moves_handOn p).turns.trans (moves_countRouter _).turns)

/-- A command that is not listed for the mode and resets nothing is a sequence of such turns. -/
theorem exec_turns {c : Instr} (s : State) (steady : Part.mode ∉ Instr.touched c) :
    ∃ t : State, exec c s = .next t ∧ Turns s t := by
  by_cases still : Part.orient ∉ Instr.touched c
  · exact (exec_works s still).imp fun t h => ⟨h.1, h.2.turns⟩
  cases c
  case cabActiveFall =>
    have fallen : Turns s (s.withCabActive false) := (moves_quiet (by simp [quietParts])).turns
    exact ⟨_, rfl, turns_ite (fallen.trans turns_reevaluateCandidacy) .refl⟩
  case beacon p x => exact ⟨_, rfl, turns_ite (turns_takeControl fun _ => turns_routeBeacon p x) .refl⟩
  case beaconPeriod => exact ⟨_, rfl, turns_ite ((turns_withOrient _).trans moves_beaconBoth.turns) .refl⟩
  case orientationExpiry => exact ⟨_, rfl, turns_ite turns_forgetHead .refl⟩
  case resumeTime => exact ⟨_, rfl, turns_ite turns_becomeHead .refl⟩
  case powerOnReset | resetLine | cabActiveRise | setMode | restart => exact absurd (by simp [Instr.touched]) steady
  all_goals exact absurd (by simp [Instr.touched]) still

/-- Every command is a sequence of such changes. -/
theorem exec_changes (c : Instr) (s : State) : ∃ t : State, exec c s = .next t ∧ Changes s t := by
  by_cases steady : Part.mode ∉ Instr.touched c
  · exact (exec_turns s steady).imp fun t h => ⟨h.1, h.2.changes⟩
  cases c
  case powerOnReset straps | resetLine straps =>
    exact ⟨_, rfl, .trans (.single (.reset straps _ _)) turns_reevaluateCandidacy.changes⟩
  case cabActiveRise =>
    have risen : Changes s (s.withCabActive true) := (moves_quiet (by simp [quietParts])).changes
    exact ⟨_, rfl, changes_ite .refl (changes_ite (risen.trans (changes_changeMode _))
      (risen.trans turns_reevaluateCandidacy.changes))⟩
  case setMode => exact ⟨_, rfl, changes_runCommand fun c _ => changes_setMode c⟩
  case restart => exact ⟨_, rfl, changes_runCommand fun c _ => changes_restart c⟩
  all_goals exact absurd (by simp [Instr.touched]) steady

/-- A step is the command in front with the rest of the queue, or node time passing with what falls due (notes/
assumptions/5.md). -/
theorem step_cases (e : step s = .next t) :
    (s.pending = [] ∧ t = idle s) ∨ ∃ c rest, s.pending = c :: rest ∧ exec c (s.withPending rest) = .next t := by
  unfold step at e
  split at e
  next none => exact .inl ⟨none, (Host.Outcome.next.inj e).symm⟩
  next c rest front => exact .inr ⟨c, rest, front, e⟩

/-- A law that every single change keeps is kept by every step. -/
theorem step_keeps {law : State → Prop} (change : ∀ s t : State, Change s t → law s → law t) (e : step s = .next t)
    (h : law s) : law t := by
  have changes : ∀ {s t : State}, Changes s t → law s → law t := fun reached h => by
    induction reached with
    | refl => exact h
    | tail _ c ih => exact change _ _ c ih
  rcases step_cases e with ⟨-, rfl⟩ | ⟨c, rest, -, done⟩
  · exact changes moves_idle.changes h
  · obtain ⟨u, next, reached⟩ := exec_changes c (s.withPending rest)
    obtain rfl := Host.Outcome.next.inj (done.symm.trans next)
    exact changes (.trans (moves_quiet (by simp [quietParts])).changes reached) h

end

end Sys2Proof.Machine
end

section
/-! PROOF. What a good frame is made of for a law that reads neither camera ports, health records, the tile engine, the
tile store nor the alarm count: changes of those parts, single changes, and send requests. -/

namespace Sys2Proof.Machine

/-- The parts that a good frame changes as it is taken, beside the causes and the send lists. -/
def frameParts : List Part := [.cams, .health, .engine, .store, .alarm]

/-- A change of a frame's own parts, a single change, or a send request. -/
inductive FrameStep (s : State) : State → Prop
  | beside {t : State} (same : t.mask frameParts = s.mask frameParts) : FrameStep s t
  | move {t : State} (m : Move s t) : FrameStep s t
  | request (p : TrunkPort) (i : SlotNo) (sid : StreamId) : FrameStep s (requestSend p i sid s)

/-- A sequence of such steps. -/
abbrev FrameSteps : State → State → Prop := Relation.ReflTransGen FrameStep

section
variable {s t u : State}

theorem Moves.frameSteps (h : Moves s t) : FrameSteps s t := by
  induction h with
  | refl => exact .refl
  | tail _ m ih => exact ih.tail (.move m)

theorem frameSteps_beside (same : t.mask frameParts = s.mask frameParts) : FrameSteps s t := .single (.beside same)

theorem frameSteps_withHealth (p : CamPort) (h : Health) : FrameSteps s (s.withHealth p h) :=
  frameSteps_beside (by simp [frameParts])

theorem frameSteps_ite {c : Prop} [Decidable c] (ht : FrameSteps s t) (hu : FrameSteps s u) :
    FrameSteps s (if c then t else u) := by
  split
  · exact ht
  · exact hu

theorem frameSteps_completeLearning (p : CamPort) : FrameSteps s (completeLearning p s) := by
  have learned : ∀ r, Moves s (s.withTables { s.tables with reference := r }) := fun _ => moves_withTables rfl rfl
  exact ((learned _).frameSteps.trans (frameSteps_withHealth p _)).trans (moves_addCause _ _ _).frameSteps

theorem frameSteps_takeSample (p : CamPort) (st : FrameStats) : FrameSteps s (takeSample p st s) := by
  unfold takeSample
  dsimp only
  split
  · exact .refl
  · exact frameSteps_ite (frameSteps_ite ((frameSteps_withHealth p _).trans (frameSteps_completeLearning p))
      (frameSteps_withHealth p _)) .refl
  all_goals exact frameSteps_ite (frameSteps_withHealth p _) (frameSteps_withHealth p _)

theorem frameSteps_takeFrame (p : CamPort) (st : FrameStats) : FrameSteps s (takeFrame p st s) := by
  unfold takeFrame
  dsimp only
  refine frameSteps_ite (.trans ?_ (frameSteps_takeSample p st)) ?_ <;>
    exact .trans (frameSteps_ite (frameSteps_withHealth p _) ((frameSteps_withHealth p _).trans
      (moves_addCause _ _ _).frameSteps)) (frameSteps_withHealth p _)

theorem frameSteps_publishTile (i : SlotNo) (v : ViewNo) : FrameSteps s (publishTile i v s) := by
  have published : FrameSteps s (s.withStore (s.store.publish i v)) := frameSteps_beside (by simp [frameParts])
  exact frameSteps_ite published ((published.trans (frameSteps_beside (by simp [frameParts]))).trans
    moves_evaluateBoth.frameSteps)

theorem frameSteps_placeRequests (i : SlotNo) (sid : StreamId) : FrameSteps s (placeRequests i sid s) := by
  unfold placeRequests
  split
  · exact .single (.request _ i sid)
  · exact .trans (.single (.request _ i sid)) (.single (.request _ i sid))
  · exact (moves_countEngine _).frameSteps
  · exact (moves_countEngine _).frameSteps
  · exact .refl
  · exact .refl

theorem frameSteps_completeTile (p : CamPort) (r : Fin 2) (pic : Picture) : FrameSteps s (completeTile p r pic s) := by
  unfold completeTile
  dsimp only
  split
  · exact .refl
  · rename_i pr _
    have made : FrameSteps s (countEngine .tilesMade (publishTile pr.slot (s.stampFor p r).view
        ((s.withStore (s.store.complete pr.slot (s.stampFor p r) (makeTile pic pr.plan pr.crop))).withProduction
          (planOf p r) none))) :=
      ((frameSteps_beside (by simp [frameParts])).trans (frameSteps_publishTile _ _)).trans
        (moves_countEngine _).frameSteps
    exact frameSteps_ite (made.trans (frameSteps_placeRequests _ _)) made

theorem frameSteps_frameTaken (p : CamPort) (f : OpenFrame) (pic : Picture) : FrameSteps s (frameTaken p f pic s) :=
  (((frameSteps_beside (by simp [frameParts])).trans (frameSteps_takeFrame p _)).trans
    (frameSteps_completeTile p 0 pic)).trans (frameSteps_completeTile p 1 pic)

/-- A law that such steps keep is kept as a good frame is taken. -/
theorem frameTaken_keeps {law : State → Prop} (step : ∀ s t : State, FrameStep s t → law s → law t) (p : CamPort)
    (f : OpenFrame) (pic : Picture) (h : law s) : law (frameTaken p f pic s) := by
  have keep : ∀ t : State, FrameSteps s t → law t := fun t reached => by
    induction reached with
    | refl => exact h
    | tail _ c ih => exact step _ _ c ih
  exact keep _ (frameSteps_frameTaken p f pic)

end

end Sys2Proof.Machine
end

section
/-! PROOF. The send lists (R94): how an entry joins one, and what every single change does to the queues of the trunk
ports. -/

namespace Sys2Proof.Machine

/-! ### One list -/

/-- R94 for one list: behind the front entries wait, and no two waiting entries have one stream. -/
def inTurn (l : List SendEntry) : Prop :=
  (∀ e ∈ l.tail, e.started = false)
    ∧ l.Pairwise fun d e => ¬ (d.started = false ∧ e.started = false ∧ d.stream = e.stream)

theorem sendsOk_iff (t : Trunk) : t.sendsOk ↔ inTurn t.sendList := Iff.rfl

/-- How a send list takes an entry: not at all, in the place of the one that waits for its stream, or at the tail. -/
inductive Joins (l : List SendEntry) : List SendEntry → Prop
  | same : Joins l l
  | place (e old : SendEntry) (waits : e.started = false) (found : l.find? (·.waitsFor e.stream) = some old) :
    Joins l (putWaiting e.stream e l)
  | tail (e : SendEntry) (waits : e.started = false) (room : l.length < 8)
    (new : l.find? (·.waitsFor e.stream) = none) : Joins l (l ++ [e])

section
variable {l m : List SendEntry}

theorem SendEntry.waitsFor_iff (e : SendEntry) (sid : StreamId) :
    e.waitsFor sid = true ↔ e.started = false ∧ e.stream = sid := by
  simp [SendEntry.waitsFor]

theorem inTurn.sublist (h : inTurn l) (sub : m.Sublist l) : inTurn m :=
  ⟨fun e he => h.1 e (sub.tail.subset he), h.2.sublist sub⟩

theorem inTurn.map (h : inTurn l) {f : SendEntry → SendEntry} (started : ∀ e, (f e).started = e.started)
    (stream : ∀ e, (f e).stream = e.stream) : inTurn (l.map f) := by
  refine ⟨fun e he => ?_, List.pairwise_map.mpr (by simpa only [started, stream] using h.2)⟩
  rw [← List.map_tail] at he
  obtain ⟨d, hd, rfl⟩ := List.mem_map.mp he
  rw [started, h.1 d hd]

theorem inTurn.front {e d : SendEntry} {rest : List SendEntry} (h : inTurn (e :: rest)) (stream : d.stream = e.stream)
    (started : e.started = true → d.started = true) : inTurn (d :: rest) := by
  obtain ⟨waits, apart⟩ := h
  obtain ⟨first, others⟩ := List.pairwise_cons.mp apart
  refine ⟨waits, List.pairwise_cons.mpr ⟨fun x hx both => first x hx ⟨?_, both.2.1, stream ▸ both.2.2⟩, others⟩⟩
  by_contra runs
  simp [started (by simpa using runs)] at both

theorem inTurn.putWaiting (h : inTurn l) {e : SendEntry} (waits : e.started = false) :
    inTurn (putWaiting e.stream e l) := by
  refine ⟨fun x hx => ?_, List.pairwise_map.mpr (h.2.imp fun {x y} apart both => apart ?_)⟩
  · unfold Machine.putWaiting at hx
    rw [← List.map_tail] at hx
    obtain ⟨d, hd, rfl⟩ := List.mem_map.mp hx
    split
    · exact waits
    · exact h.1 d hd
  · by_cases hx : x.waitsFor e.stream = true <;> by_cases hy : y.waitsFor e.stream = true
    · obtain ⟨waitsX, streamX⟩ := (x.waitsFor_iff _).mp hx
      obtain ⟨waitsY, streamY⟩ := (y.waitsFor_iff _).mp hy
      exact ⟨waitsX, waitsY, streamX.trans streamY.symm⟩
    · rw [if_pos hx, if_neg hy] at both
      exact absurd ((y.waitsFor_iff _).mpr ⟨both.2.1, both.2.2.symm⟩) hy
    · rw [if_neg hx, if_pos hy] at both
      exact absurd ((x.waitsFor_iff _).mpr ⟨both.1, both.2.2⟩) hx
    · rwa [if_neg hx, if_neg hy] at both

theorem inTurn.concat (h : inTurn l) {e : SendEntry} (waits : e.started = false)
    (new : l.find? (·.waitsFor e.stream) = none) : inTurn (l ++ [e]) := by
  refine ⟨fun x hx => ?_, List.pairwise_append.mpr ⟨h.2, List.pairwise_singleton _ _, fun x hx y hy both => ?_⟩⟩
  · cases l with
    | nil => simp at hx
    | cons d l =>
      have tail : x ∈ l ∨ x = e := by simpa using hx
      rcases tail with old | rfl
      · exact h.1 x old
      · exact waits
  · obtain rfl := List.mem_singleton.mp hy
    exact List.find?_eq_none.mp new x hx ((x.waitsFor_iff _).mpr ⟨both.1, both.2.2⟩)

theorem Joins.inTurn (j : Joins l m) (h : inTurn l) : inTurn m := by
  cases j with
  | same => exact h
  | place e _ waits => exact h.putWaiting waits
  | tail e waits _ new => exact h.concat waits new

theorem Joins.length (j : Joins l m) (h : l.length ≤ 8) : m.length ≤ 8 := by
  cases j with
  | same => exact h
  | place => simpa [Machine.putWaiting] using h
  | tail e _ room => simpa using room

end

/-! ### The lists of a state -/

section
variable {s t u : State}

/-- The list of one port takes an entry; the other's, and the queues of both, stand. -/
structure JoinsAt (p : TrunkPort) (s t : State) : Prop where
  control : ∀ q : TrunkPort, (t.trunk.get q).control = (s.trunk.get q).control
  pass : ∀ q : TrunkPort, (t.trunk.get q).pass = (s.trunk.get q).pass
  joins : Joins (s.trunk.get p).sendList (t.trunk.get p).sendList
  other : ∀ q : TrunkPort, q ≠ p → (t.trunk.get q).sendList = (s.trunk.get q).sendList

theorem JoinsAt.of_trunk {p : TrunkPort} (h : JoinsAt p s t) (trunk : u.trunk = t.trunk) : JoinsAt p s u := by
  obtain ⟨control, pass, joins, other⟩ := h
  constructor <;> simpa only [trunk]

theorem joinsAt_withSendList {p : TrunkPort} {l : List SendEntry} (j : Joins (s.trunk.get p).sendList l) :
    JoinsAt p s (s.withSendList p l) := by
  refine ⟨fun q => ?_, fun q => ?_, by rwa [withSendList_get], fun q other => ?_⟩
  · cases p <;> cases q <;> rfl
  · cases p <;> cases q <;> rfl
  · rw [State.withSendList, State.withTrunk_trunk, Pair.get_set_ne _ other]

theorem joinsAt_countTrunk (p q : TrunkPort) (k : TrunkCounter) : JoinsAt p s (countTrunk q k s) := by
  refine ⟨fun r => ?_, fun r => ?_, ?_, fun r _ => ?_⟩
  · cases q <;> cases r <;> rfl
  · cases q <;> cases r <;> rfl
  · have same : ((countTrunk q k s).trunk.get p).sendList = (s.trunk.get p).sendList := by cases q <;> cases p <;> rfl
    exact same ▸ .same
  · cases q <;> cases r <;> rfl

theorem joinsAt_joinList {p : TrunkPort} {kind : SendKind} {i : SlotNo} {sid : StreamId}
    (room : (s.trunk.get p).sendList.length < 8) (new : (s.trunk.get p).sendList.find? (·.waitsFor sid) = none) :
    JoinsAt p s (joinList p kind i sid s) :=
  (joinsAt_withSendList (.tail (s.newEntry kind i sid) rfl room new)).of_trunk rfl

/-- A send request joins the list of its port (R94). -/
theorem joinsAt_requestSend (p : TrunkPort) (i : SlotNo) (sid : StreamId) : JoinsAt p s (requestSend p i sid s) := by
  unfold requestSend
  dsimp only
  split
  · rename_i old found
    split
    · exact (joinsAt_withSendList (.place (s.newEntry .tile i sid) old rfl found)).of_trunk rfl
    · exact joinsAt_countTrunk p p _
  · rename_i new
    split
    next room => exact joinsAt_joinList room new
    next => exact joinsAt_countTrunk p p _

/-- An entry handed over joins the list of the other port (R95). -/
theorem joinsAt_takeHanded (p : TrunkPort) {e : SendEntry} (waits : e.started = false) :
    JoinsAt p s (takeHanded p e s) := by
  have counted : JoinsAt p s (countTrunk p .sendSkipped (s.endHold e.slot)) :=
    (joinsAt_countTrunk (s := s) p p .sendSkipped).of_trunk rfl
  unfold takeHanded
  dsimp only
  split
  · rename_i old found
    split
    · split
      · exact (joinsAt_withSendList (.place e old waits found)).of_trunk rfl
      · exact (joinsAt_withSendList .same).of_trunk (by rw [withSendList_self]; rfl)
    · exact counted
  · rename_i new
    split
    next room => exact joinsAt_withSendList (.tail e waits room new)
    next => exact counted

/-- A fetch joins the list of its port (R52). -/
theorem joinsAt_startFetch {p : TrunkPort} {k : Fin 4} {i : SlotNo} {sid : StreamId}
    (room : (s.trunk.get p).refusesFetch sid = false) : JoinsAt p s (startFetch p k i sid s) := by
  obtain ⟨short, new⟩ := Bool.or_eq_false_iff.mp room
  refine (joinsAt_joinList (by simpa using short) (List.find?_eq_none.mpr fun e he waits => ?_)).of_trunk rfl
  exact Bool.false_ne_true (new.symm.trans (List.any_eq_true.mpr ⟨e, he, waits⟩))

end

end Sys2Proof.Machine
end

section
/-! PROOF. The view map and the tiles it names (R41, R44, R135): what the operations of the tile store leave of them. -/

namespace Sys2Proof.Machine

section
variable {st st' st'' : Store} {i : SlotNo} {v : ViewNo}

/-! ### The view map -/

theorem Store.mapOk.latest_of_map (h : st.mapOk) (named : st.viewMap[v] = some i) :
    (st.slots[i]).state = .latest ∧ (st.slots[i]).view = some v := ((h i).1 v).mp named

theorem Store.mapOk.view_none (h : st.mapOk) (other : (st.slots[i]).state ≠ .latest) : (st.slots[i]).view = none := by
  by_contra view
  exact other ((h i).2.mpr view)

theorem Store.mapOk.not_named (h : st.mapOk) (other : (st.slots[i]).state ≠ .latest) (v : ViewNo) :
    st.viewMap[v] ≠ some i := fun named => other (h.latest_of_map named).1

/-- A slot in place of another: LATEST of the same view as before, or as before not LATEST and of no view. -/
def Slot.keepsView (x y : Slot) : Prop :=
  (x.state = .latest → y.state = .latest ∧ y.view = x.view) ∧
    (x.state ≠ .latest → x.view = none → y.state ≠ .latest ∧ y.view = none)

theorem Store.mapOk.congr (h : st.mapOk) (slots : st'.slots = st.slots) (viewMap : st'.viewMap = st.viewMap) :
    st'.mapOk := by
  unfold Store.mapOk; rwa [slots, viewMap]

theorem Store.mapOk.setSlot (h : st.mapOk) {x : Slot} (keeps : (st.slots[i]).keepsView x) : (st.setSlot i x).mapOk := by
  intro j
  by_cases here : j = i
  · subst here
    rw [setSlot_same]
    by_cases latest : (st.slots[j]).state = .latest
    · obtain ⟨state, view⟩ := keeps.1 latest
      have was := h j
      rw [latest] at was
      rw [state, view]
      exact was
    · have none := h.view_none latest
      obtain ⟨state, view⟩ := keeps.2 latest none
      exact ⟨fun v => iff_of_false (h.not_named latest v) fun both => state both.1,
        iff_of_false state fun some => some view⟩
  · rw [setSlot_other here]
    exact h j

theorem leaveLatest_state (x : Slot) : x.leaveLatest.state ≠ .latest ∧ x.leaveLatest.view = none := by
  unfold Slot.leaveLatest
  split
  · exact ⟨by simp, rfl⟩
  · rcases rest_cases { x with view := none } with ⟨-, e⟩ | ⟨-, e⟩
    · rw [e]; exact ⟨by simp, rfl⟩
    · rw [e]; exact ⟨by simp [Slot.reset], rfl⟩

/-- The slots and the map after a FILLING slot was published (R44). -/
theorem publish_filling (filling : (st.slots[i]).state = .filling) (map : st.mapOk) :
    (st.publish i v).viewMap = st.viewMap.set v (some i)
      ∧ (st.publish i v).slots[i] = (st.slots[i]).becomeLatest v
      ∧ ∀ j : SlotNo, j ≠ i → (st.publish i v).slots[j]
          = if st.viewMap[v] = some j then (st.slots[j]).leaveLatest else st.slots[j] := by
  rcases publish_cases st i v with ⟨other, -⟩ | ⟨-, view, e⟩ | ⟨p, -, view, e⟩
  · exact absurd filling other
  · rw [e, view]
    exact ⟨rfl, setSlot_same _ _ _, fun j other => by simpa using setSlot_other other st _⟩
  · have apart : p ≠ i := fun same => by
      have latest := (map.latest_of_map view).1
      rw [same, filling] at latest
      cases latest
    rw [e, view]
    refine ⟨rfl, ?_, fun j other => ?_⟩
    · show ((st.setSlot p _).setSlot i _).slots[i] = _
      rw [setSlot_same, setSlot_other apart.symm]
    · show ((st.setSlot p _).setSlot i _).slots[j] = _
      rw [setSlot_other other]
      by_cases prev : p = j
      · subst prev
        rw [setSlot_same, if_pos rfl]
      · rw [setSlot_other (Ne.symm prev), if_neg fun same => prev (Option.some.inj same)]

theorem Store.mapOk.publish (h : st.mapOk) (i : SlotNo) (v : ViewNo) : (st.publish i v).mapOk := by
  by_cases filling : (st.slots[i]).state = .filling
  case neg =>
    have none : st.publish i v = st := by simp only [Store.publish, filling, if_false]
    rwa [none]
  have unnamed : ∀ w : ViewNo, st.viewMap[w] ≠ some i := h.not_named (by rw [filling]; simp)
  obtain ⟨viewMap, new, others⟩ := publish_filling (v := v) filling h
  have named : ∀ w : ViewNo, (st.publish i v).viewMap[w] = if v = w then some i else st.viewMap[w] := fun w => by
    rw [viewMap]
    split
    next same => subst same; exact getElem_set_same _ _ _
    next other => exact getElem_set_ne _ other _
  intro j
  by_cases here : j = i
  · subst here
    rw [new]
    refine ⟨fun w => ?_, by simp [Slot.becomeLatest]⟩
    rw [named]
    by_cases same : v = w
    · simp [same, Slot.becomeLatest]
    · rw [if_neg same]
      exact iff_of_false (unnamed w) fun both => same (Option.some.inj both.2)
  · rw [others j here]
    by_cases prev : st.viewMap[v] = some j
    · obtain ⟨state, view⟩ := leaveLatest_state (st.slots[j])
      rw [if_pos prev]
      refine ⟨fun w => iff_of_false ?_ fun both => state both.1, iff_of_false state fun some => some view⟩
      rw [named]
      split
      · exact fun same => here (Option.some.inj same).symm
      · rename_i other
        intro elsewhere
        have one := (h.latest_of_map prev).2
        rw [(h.latest_of_map elsewhere).2] at one
        exact other (Option.some.inj one).symm
    · rw [if_neg prev]
      refine ⟨fun w => ?_, (h j).2⟩
      rw [named]
      split
      next same =>
        subst same
        refine iff_of_false (fun same => here (Option.some.inj same).symm) fun both => prev (((h j).1 v).mpr both)
      next => exact (h j).1 w

/-! ### The alarm count -/

/-- The alarm count reads the records of the slots that the map names. -/
theorem alarmCount_congr (viewMap : st'.viewMap = st.viewMap)
    (records : ∀ v : ViewNo, ∀ i : SlotNo, st.viewMap[v] = some i → (st'.slots[i]).record = (st.slots[i]).record) :
    st'.alarmCount = st.alarmCount := by
  have warns : ∀ v, st'.viewWarns v = st.viewWarns v := by
    intro v
    cases named : st.viewMap[v] with
    | none => simp only [Store.viewWarns, viewMap, named]
    | some i => simp only [Store.viewWarns, viewMap, named, records v i named]
  simp only [Store.alarmCount, warns]

/-- The store keeps the law of the view map, and with it the alarm count. -/
def Store.keepsTiles (st st' : Store) : Prop := st.mapOk → st'.mapOk ∧ st'.alarmCount = st.alarmCount

theorem Store.keepsTiles.refl (st : Store) : st.keepsTiles st := fun h => ⟨h, rfl⟩

theorem Store.keepsTiles.trans (a : st.keepsTiles st') (b : st'.keepsTiles st'') : st.keepsTiles st'' := fun h => by
  obtain ⟨map, count⟩ := a h
  obtain ⟨map', count'⟩ := b map
  exact ⟨map', count'.trans count⟩

/-- The store with the same slots and the same map. -/
theorem keepsTiles_congr (slots : st'.slots = st.slots) (viewMap : st'.viewMap = st.viewMap) : st.keepsTiles st' :=
  fun h => ⟨h.congr slots viewMap, alarmCount_congr viewMap fun _ _ _ => by rw [slots]⟩

theorem keepsTiles_setSlot {x : Slot} (keeps : (st.slots[i]).keepsView x)
    (record : (st.slots[i]).state = .latest → x.record = (st.slots[i]).record) : st.keepsTiles (st.setSlot i x) := by
  refine fun h => ⟨h.setSlot keeps, alarmCount_congr rfl fun v j named => ?_⟩
  by_cases here : j = i
  · subst here
    rw [setSlot_same, record (h.latest_of_map named).1]
  · rw [setSlot_other here]

/-! ### The operations of the store -/

theorem Slot.keepsView_of_eq {x y : Slot} (state : y.state = x.state) (view : y.view = x.view) : x.keepsView y :=
  ⟨fun latest => ⟨state.trans latest, view⟩, fun other none => ⟨state ▸ other, view.trans none⟩⟩

theorem keepsTiles_setSlot_of_eq {x : Slot} (state : x.state = (st.slots[i]).state) (view : x.view = (st.slots[i]).view)
    (record : x.record = (st.slots[i]).record) : st.keepsTiles (st.setSlot i x) :=
  keepsTiles_setSlot (Slot.keepsView_of_eq state view) fun _ => record

theorem Slot.keepsView_of_other {x y : Slot} (was : x.state ≠ .latest) (state : y.state ≠ .latest)
    (view : y.view = none) : x.keepsView y :=
  ⟨fun latest => absurd latest was, fun _ _ => ⟨state, view⟩⟩

theorem keepsTiles_endHold (st : Store) (i : SlotNo) : st.keepsTiles (st.endHold i) := by
  rcases endHold_cases (st.slots[i]) with ⟨-, e⟩ | ⟨-, retired, e⟩ | ⟨-, -, e⟩
  · exact keepsTiles_setSlot_of_eq (by rw [e]) (by rw [e]) (by rw [e])
  · have other : (st.slots[i]).state ≠ .latest := by rw [retired]; simp
    refine keepsTiles_setSlot ⟨fun latest => absurd latest other, fun _ none => ?_⟩ fun latest => absurd latest other
    rw [e]
    rcases rest_cases { st.slots[i] with holders := 0 } with ⟨-, r⟩ | ⟨-, r⟩
    · rw [r]; exact ⟨by simp, none⟩
    · rw [r]; exact ⟨by simp [Slot.reset], rfl⟩
  · exact keepsTiles_setSlot_of_eq (by rw [e]) (by rw [e]) (by rw [e])

theorem keepsTiles_endHolds (is : List SlotNo) (st : Store) : st.keepsTiles (st.endHolds is) := by
  induction is generalizing st with
  | nil => exact .refl st
  | cons i is ih => exact (keepsTiles_endHold st i).trans (ih _)

theorem keepsTiles_takeHold (st : Store) (i : SlotNo) : st.keepsTiles (st.takeHold i) := by
  unfold Store.takeHold
  dsimp only
  split
  · exact .refl st
  · exact .refl st
  all_goals exact keepsTiles_setSlot_of_eq rfl rfl rfl

theorem keepsTiles_takeHolds (is : List SlotNo) (st : Store) : st.keepsTiles (st.takeHolds is) := by
  induction is generalizing st with
  | nil => exact .refl st
  | cons i is ih => exact (keepsTiles_takeHold st i).trans (ih _)

theorem keepsTiles_giveBack (st : Store) (i : SlotNo) : st.keepsTiles (st.giveBack i) := by
  unfold Store.giveBack
  split
  next filling =>
    have other : (st.slots[i]).state ≠ .latest := by rw [filling]; simp
    exact keepsTiles_setSlot (Slot.keepsView_of_other other (by simp [Slot.reset]) rfl) fun latest => absurd latest other
  next => exact .refl st

theorem keepsTiles_allocate {o : Owner} {r : TileRecord} {x : SlotNo × Store} (h : st.allocate o r = some x) :
    st.keepsTiles x.2 := by
  rcases allocate_cases st o r with ⟨i, free, e⟩ | ⟨-, e⟩
  · obtain rfl : _ = x := Option.some.inj (e.symm.trans h)
    have other : (st.slots[i]).state ≠ .latest := by rw [(lowestFree_some free).1]; simp
    exact keepsTiles_setSlot (Slot.keepsView_of_other other (by simp [Slot.filling]) rfl) fun latest => absurd latest other
  · rw [e] at h
    cases h

theorem keepsTiles_release (st : Store) (k : Fin 4) : st.keepsTiles (st.release k) := by
  rcases release_cases st k with ⟨-, e⟩ | ⟨x, -, e⟩
  · rw [e]
    exact .refl st
  · rw [e]
    refine .trans (st' := st.setSlot x.slot (st.slots[x.slot]).unpin) ?_ (keepsTiles_congr rfl rfl)
    unfold Slot.unpin
    split
    next evidence =>
      have other : (st.slots[x.slot]).state ≠ .latest := by rw [evidence]; simp
      refine keepsTiles_setSlot ⟨fun latest => absurd latest other, fun _ none => ?_⟩ fun latest => absurd latest other
      split
      · exact ⟨by simp [Slot.reset], rfl⟩
      · exact ⟨by simp, none⟩
    next => exact keepsTiles_setSlot_of_eq rfl rfl rfl

theorem keepsTiles_setFetching (st : Store) (k : Fin 4) (b : Bool) : st.keepsTiles (st.setFetching k b) :=
  keepsTiles_congr rfl rfl

end

end Sys2Proof.Machine
end

section
/-! PROOF. The queues, the cause set, the table window, the send lists, the route table and the contexts: every change
that a step is made of keeps them to their rules. -/

namespace Sys2Proof.Machine

section
variable {s t u : State}

/-- A law that reads only parts which neither frames, nor the table window, nor modes, nor orientation change: every
step keeps it when single changes, send requests, resets and RESTART do. -/
theorem change_keeps {law : State → Prop} (xs : List Part)
    (free : ∀ x ∈ xs, x ∉ frameParts ∧ x ≠ .agent ∧ x ≠ .mode ∧ x ≠ .orient)
    (of_mask : ∀ s t : State, t.mask (allBut xs) = s.mask (allBut xs) → law s → law t)
    (move : ∀ s t : State, Move s t → law s → law t)
    (request : ∀ (s : State) p i sid, law s → law (requestSend p i sid s))
    (reset : ∀ (s : State) straps now cells, law (s.afterReset straps now cells))
    (restart : ∀ (s : State) c, law s → law (keepCopy c s s.afterRestart)) :
    ∀ s t : State, Change s t → law s → law t := by
  have outside : ∀ x : Part, x ∈ frameParts ∨ x = .agent ∨ x = .mode ∨ x = .orient → x ∉ xs := fun x h inside => by
    obtain ⟨frame, agent, mode, orient⟩ := free x inside
    rcases h with h | h | h | h <;> contradiction
  intro s t c h
  cases c with
  | work w =>
    cases w with
    | move m => exact move _ _ m h
    | takes p f pic =>
      refine frameTaken_keeps (law := law) (fun s t step h => ?_) p f pic h
      cases step with
      | beside same => exact of_mask _ _ (mask_mono (fun x hx => mem_allBut.mpr (outside x (.inl hx))) same) h
      | move m => exact move _ _ m h
      | request => exact request _ _ _ _ h
    | window => exact of_mask _ _ (mask_withAgent (mem_allBut.mpr (outside _ (.inr (.inl rfl))))) h
  | mode => exact of_mask _ _ (mask_withMode (mem_allBut.mpr (outside _ (.inr (.inr (.inl rfl)))))) h
  | orient => exact of_mask _ _ (mask_withOrient (mem_allBut.mpr (outside _ (.inr (.inr (.inr rfl)))))) h
  | reset => exact reset _ _ _ _
  | restart => exact restart _ _ h

/-! ### The queues of the trunk ports and the send lists -/

/-- R91, R92, R94 for the queues of both ports. -/
def State.lengthsOk (s : State) : Prop :=
  ∀ p : TrunkPort, (s.trunk.get p).control.length ≤ 32 ∧ (s.trunk.get p).pass.length ≤ 1024
    ∧ (s.trunk.get p).sendList.length ≤ 8

/-- The queues of both ports, and the send lists by R94. -/
def State.trunksOk (s : State) : Prop := s.lengthsOk ∧ s.sendsOk

theorem trunk_of_mask (same : t.mask (allBut [.trunk]) = s.mask (allBut [.trunk])) : t.trunk = s.trunk :=
  (same_of_allBut same .trunk (by simp) : s.trunk = t.trunk).symm

theorem lengthsOk_congr (trunk : t.trunk = s.trunk) (h : s.lengthsOk) : t.lengthsOk := by
  unfold State.lengthsOk; rwa [trunk]

theorem sendsOk_congr (trunk : t.trunk = s.trunk) (h : s.sendsOk) : t.sendsOk := by
  unfold State.sendsOk; rwa [trunk]

theorem JoinsAt.lengthsOk {p : TrunkPort} (j : JoinsAt p s t) (h : s.lengthsOk) : t.lengthsOk := by
  intro q
  obtain ⟨control, pass, list⟩ := h q
  rw [j.control, j.pass]
  refine ⟨control, pass, ?_⟩
  by_cases other : q = p
  · exact other ▸ j.joins.length (other ▸ list)
  · rwa [j.other q other]

theorem JoinsAt.sendsOk {p : TrunkPort} (j : JoinsAt p s t) (h : s.sendsOk) : t.sendsOk := by
  intro q
  by_cases other : q = p
  · exact other ▸ j.joins.inTurn (other ▸ h q)
  · have list := h q
    rwa [sendsOk_iff, ← j.other q other] at list

theorem lengthsOk_withTrunk {p : TrunkPort} {x : Trunk} (h : s.lengthsOk)
    (hx : x.control.length ≤ 32 ∧ x.pass.length ≤ 1024 ∧ x.sendList.length ≤ 8) : (s.withTrunk p x).lengthsOk := by
  intro q
  by_cases other : q = p
  · subst other; simpa using hx
  · simpa [Pair.get_set_ne _ other] using h q

theorem sendsOk_withTrunk {p : TrunkPort} {x : Trunk} (h : s.sendsOk) (hx : inTurn x.sendList) :
    (s.withTrunk p x).sendsOk := by
  intro q
  by_cases other : q = p
  · subst other; simpa [sendsOk_iff] using hx
  · simpa [Pair.get_set_ne _ other] using h q

theorem lengthsOk_withSendList {p : TrunkPort} {l : List SendEntry} (h : s.lengthsOk)
    (short : l.length ≤ (s.trunk.get p).sendList.length) : (s.withSendList p l).lengthsOk :=
  lengthsOk_withTrunk h ⟨(h p).1, (h p).2.1, short.trans (h p).2.2⟩

/-- A released position leaves the lists but for the name that fetches lose (R51). -/
theorem releasePosition_trunk (k : Fin 4) (p : TrunkPort) (s : State) :
    (releasePosition k s).trunk.get p
      = { s.trunk.get p with sendList := (s.trunk.get p).sendList.map (SendEntry.forget k) } := by
  cases p <;> rfl

theorem SendEntry.forget_started (k : Fin 4) (e : SendEntry) : (e.forget k).started = e.started := by
  unfold SendEntry.forget; split <;> rfl

theorem SendEntry.forget_stream (k : Fin 4) (e : SendEntry) : (e.forget k).stream = e.stream := by
  unfold SendEntry.forget; split <;> rfl

theorem Move.lengthsOk (m : Move s t) (h : s.lengthsOk) : t.lengthsOk := by
  have keep (same : t.mask (allBut [.trunk]) = s.mask (allBut [.trunk])) : t.lengthsOk :=
    lengthsOk_congr (trunk_of_mask same) h
  cases m with
  | quiet same => exact keep (mask_of_quiet same (by simp [quietParts]))
  | trunk p x control pass list =>
    obtain ⟨control', pass', list'⟩ := h p
    exact lengthsOk_withTrunk h ⟨control.elim (le_trans · control') id, pass.elim (le_trans · pass') id, list ▸ list'⟩
  | front p e d rest list => exact lengthsOk_withSendList h (by simp [list])
  | drop p before e rest list =>
    exact lengthsOk_congr (releaseEntry_trunk _ _) (lengthsOk_withSendList h (by simp [list]))
  | hand p e rest list waits =>
    exact (joinsAt_takeHanded p.other waits).lengthsOk (lengthsOk_withSendList h (by simp [list]))
  | fetch p k x sid _ room => exact (joinsAt_startFetch room).lengthsOk h
  | release k => exact fun p => by simpa [releasePosition_trunk] using h p
  | _ => exact keep (by simp)

theorem Move.sendsOk (m : Move s t) (h : s.sendsOk) : t.sendsOk := by
  have keep (same : t.mask (allBut [.trunk]) = s.mask (allBut [.trunk])) : t.sendsOk :=
    sendsOk_congr (trunk_of_mask same) h
  cases m with
  | quiet same => exact keep (mask_of_quiet same (by simp [quietParts]))
  | trunk p x control pass list => exact sendsOk_withTrunk h (list ▸ h p)
  | front p e d rest list slot kind stream started =>
    exact sendsOk_withTrunk h (inTurn.front (list ▸ h p) stream started)
  | drop p before e rest list =>
    refine sendsOk_congr (releaseEntry_trunk _ _) (sendsOk_withTrunk h (inTurn.sublist (h p) ?_))
    rw [list]
    exact (List.sublist_cons_self e rest).append_left before
  | hand p e rest list waits =>
    refine (joinsAt_takeHanded p.other waits).sendsOk (sendsOk_withTrunk h (inTurn.sublist (h p) ?_))
    rw [list]
    exact List.sublist_cons_self e rest
  | fetch p k x sid _ room => exact (joinsAt_startFetch room).sendsOk h
  | release k =>
    intro p
    rw [sendsOk_iff, releasePosition_trunk]
    exact inTurn.map (h p) (SendEntry.forget_started k) (SendEntry.forget_stream k)
  | _ => exact keep (by simp)

/-- RESTART keeps one copy of a command in a control queue, and empties the other queues (R107, R173). -/
theorem keepCopy_restart_trunk (c : AgentCommand) (s : State) (p : TrunkPort) :
    (((keepCopy c s s.afterRestart).trunk.get p).control.length ≤ 1)
      ∧ ((keepCopy c s s.afterRestart).trunk.get p).pass = []
      ∧ ((keepCopy c s s.afterRestart).trunk.get p).sendList = [] := by
  have cleared : ∀ q, (s.afterRestart.trunk.get q).control = [] ∧ (s.afterRestart.trunk.get q).pass = []
      ∧ (s.afterRestart.trunk.get q).sendList = [] := fun q => by cases q <;> exact ⟨rfl, rfl, rfl⟩
  unfold keepCopy
  by_cases other : p = c.arrival.other
  · subst other
    simp [cleared]
  · simp [Pair.get_set_ne _ other, cleared]

theorem change_lengthsOk : ∀ s t : State, Change s t → s.lengthsOk → t.lengthsOk :=
  change_keeps [.trunk] (by simp [frameParts]) (fun _ _ same => lengthsOk_congr (trunk_of_mask same))
    (fun _ _ m => m.lengthsOk) (fun _ p i sid => (joinsAt_requestSend p i sid).lengthsOk)
    (fun s straps now cells p => by
      have empty : (s.afterReset straps now cells).trunk.get p = Trunk.reset := by cases p <;> rfl
      simp [empty, Trunk.reset])
    (fun s c _ p => by
      obtain ⟨control, pass, list⟩ := keepCopy_restart_trunk c s p
      rw [pass, list]
      exact ⟨by omega, by simp, by simp⟩)

theorem change_sendsOk : ∀ s t : State, Change s t → s.sendsOk → t.sendsOk :=
  change_keeps [.trunk] (by simp [frameParts]) (fun _ _ same => sendsOk_congr (trunk_of_mask same))
    (fun _ _ m => m.sendsOk) (fun _ p i sid => (joinsAt_requestSend p i sid).sendsOk)
    (fun s straps now cells p => by
      have empty : (s.afterReset straps now cells).trunk.get p = Trunk.reset := by cases p <;> rfl
      simp [empty, Trunk.reset, Trunk.sendsOk])
    (fun s c _ p => by
      obtain ⟨-, -, list⟩ := keepCopy_restart_trunk c s p
      simp [Trunk.sendsOk, list])

/-! ### The cause set, the table window, the agent's queue -/

/-- R165, R168, R174 for the agent. -/
def Agent.inRange (a : Agent) : Prop :=
  (a.causes.length ≤ 24 ∧ NoTwoAlike a.causes) ∧ (∀ t : Table, a.window = some t → a.pointer ≤ t.entries)
    ∧ a.queue.length ≤ 4

theorem Move.agent_inRange (m : Move s t) (h : s.agent.inRange) : t.agent.inRange := by
  have keep (same : t.mask (allBut [.agent]) = s.mask (allBut [.agent])) : t.agent.inRange := by
    have agent : s.agent = t.agent := same_of_allBut same .agent (by simp)
    exact agent ▸ h
  cases m with
  | quiet same => exact keep (mask_of_quiet same (by simp [quietParts]))
  | cause c =>
    obtain ⟨⟨short, apart⟩, window, queue⟩ := h
    exact ⟨joinCause_keeps_set _ short apart, window, queue⟩
  | agent a causes window pointer queue =>
    obtain ⟨set, inside, short⟩ := h
    refine ⟨?_, ?_, queue.elim (le_trans · short) id⟩
    · rcases causes with e | e
      · rw [State.withAgent_agent, e]; exact set
      · rw [State.withAgent_agent, e]; exact ⟨by simp, .nil⟩
    · rw [State.withAgent_agent, window, pointer]
      exact inside
  | _ => exact keep (by simp)

theorem change_agent_inRange (s t : State) (c : Change s t) (h : s.agent.inRange) : t.agent.inRange := by
  have keep {s t : State} (same : t.mask (allBut [.agent]) = s.mask (allBut [.agent])) (h : s.agent.inRange) :
      t.agent.inRange := by
    have agent : s.agent = t.agent := same_of_allBut same .agent (by simp)
    exact agent ▸ h
  cases c with
  | work w =>
    cases w with
    | move m => exact m.agent_inRange h
    | takes p f pic =>
      refine frameTaken_keeps (law := fun s => s.agent.inRange) (fun s t step h => ?_) p f pic h
      cases step with
      | beside same => exact keep (mask_mono (by simp [frameParts]) same) h
      | move m => exact m.agent_inRange h
      | request => exact keep (by simp) h
    | window w n inRange => exact ⟨h.1, inRange, h.2.2⟩
  | mode => exact keep (mask_withMode (by simp)) h
  | orient => exact keep (mask_withOrient (by simp)) h
  | reset | restart => exact ⟨⟨by simp [State.afterReset, State.afterRestart, keepCopy, State.reset, Agent.reset],
      .nil⟩, by simp [State.afterReset, State.afterRestart, keepCopy, State.reset, Agent.reset],
      by simp [State.afterReset, State.afterRestart, keepCopy, State.reset, Agent.reset]⟩

theorem stepKeepsCapacities : Claim.StepKeepsCapacities := by
  intro s t causes window queues e
  obtain ⟨lengths, queue⟩ := queues
  obtain ⟨set, inside, short⟩ := step_keeps (law := fun s => s.agent.inRange) change_agent_inRange e
    ⟨causes, window, queue⟩
  exact ⟨set, inside, step_keeps change_lengthsOk e lengths, short⟩

theorem stepKeepsSendLists : Claim.StepKeepsSendLists := fun _ _ sends e => step_keeps change_sendsOk e sends

end

end Sys2Proof.Machine
end

section
/-! PROOF. The route table (R108) and the contexts (section 6.3): a stream has one entry, in one of its buckets, and one
open context. -/

namespace Sys2Proof.Machine

/-! ### The route table -/

section
variable {b : Tables} {sid : StreamId} {i : Fin 128}

theorem findRoute_some (h : b.findRoute sid = some i) :
    i ∈ waysOf sid ∧ ∃ e : RouteEntry, b.route[i] = some e ∧ e.stream = sid := by
  refine ⟨List.mem_of_find?_eq_some h, ?_⟩
  have found := List.find?_some h
  split at found
  · cases found
  · rename_i e entry
    exact ⟨e, entry, eq_of_beq found⟩

theorem findRoute_none (h : b.findRoute sid = none) {j : Fin 128} (way : j ∈ waysOf sid) {e : RouteEntry}
    (entry : b.route[j] = some e) : e.stream ≠ sid := by
  have missed := List.find?_eq_none.mp h j way
  rw [entry] at missed
  simpa using missed

theorem emptyWay_some {ways : List (Fin 128)} (h : b.emptyWay ways = some i) : i ∈ ways ∧ b.route[i] = none :=
  ⟨List.mem_of_find?_eq_some h, by simpa using List.find?_some h⟩

/-- ROUTE_ADD places a stream in a way of its own buckets: the one it has, or an empty one when it has none (R109). -/
theorem placeFor_some (h : b.placeFor sid = some i) :
    i ∈ waysOf sid ∧ ((∃ e : RouteEntry, b.route[i] = some e ∧ e.stream = sid)
      ∨ ∀ j ∈ waysOf sid, ∀ e : RouteEntry, b.route[j] = some e → e.stream ≠ sid) := by
  unfold Tables.placeFor at h
  split at h
  next k found =>
    obtain rfl := Option.some.inj h
    exact ⟨(findRoute_some found).1, .inl (findRoute_some found).2⟩
  next missed => exact ⟨(emptyWay_some h).1, .inr fun j way e entry => findRoute_none missed way entry⟩

end

section
variable {s t : State}

theorem routesOk_congr (route : t.tables.route = s.tables.route) (h : s.routesOk) : t.routesOk := by
  unfold State.routesOk; rwa [route]

theorem withRoute_same (i : Fin 128) (r : Option RouteEntry) (s : State) : (s.withRoute i r).tables.route[i] = r :=
  getElem_set_same _ _ _

theorem withRoute_other {i j : Fin 128} (other : j ≠ i) (r : Option RouteEntry) (s : State) :
    (s.withRoute i r).tables.route[j] = s.tables.route[j] := getElem_set_ne _ (Ne.symm other) _

/-- Where ROUTE_ADD places a stream, no other way holds it. -/
theorem State.routesOk.alone (h : s.routesOk) {i : Fin 128} {sid : StreamId} (place : s.tables.placeFor sid = some i)
    {j : Fin 128} (other : j ≠ i) {e : RouteEntry} (entry : s.tables.route[j] = some e) : e.stream ≠ sid := by
  rintro rfl
  rcases (placeFor_some place).2 with ⟨d, own, stream⟩ | free
  · exact other ((h i d own).2 j e entry stream.symm)
  · exact free j (h j e entry).1 e entry rfl

theorem State.routesOk.withRoute (h : s.routesOk) {i : Fin 128} {r : Option RouteEntry}
    (lies : ∀ x : RouteEntry, r = some x → s.tables.placeFor x.stream = some i) : (s.withRoute i r).routesOk := by
  intro j e entry
  by_cases here : j = i
  · subst here
    rw [withRoute_same] at entry
    have place := lies e entry
    refine ⟨(placeFor_some place).1, fun k d other stream => ?_⟩
    by_contra apart
    rw [withRoute_other apart] at other
    exact h.alone place apart other stream
  · rw [withRoute_other here] at entry
    refine ⟨(h j e entry).1, fun k d other stream => ?_⟩
    by_cases there : k = i
    · subst there
      rw [withRoute_same] at other
      exact absurd stream.symm (h.alone (lies d other) here entry)
    · rw [withRoute_other there] at other
      exact (h j e entry).2 k d other stream

/-! ### The contexts -/

theorem contextsOk_congr (contexts : t.router.contexts = s.router.contexts) (h : s.contextsOk) : t.contextsOk := by
  unfold State.contextsOk; rwa [contexts]

theorem withContext_other {j k : ContextNo} (other : j ≠ k) (x : Option Context) (s : State) :
    (s.withContext k x).router.contexts[j] = s.router.contexts[j] := getElem_set_ne _ (Ne.symm other) _

/-- A context replaced by one that no other is for. -/
theorem State.contextsOk.withContext (h : s.contextsOk) {k : ContextNo} {x : Option Context}
    (alone : ∀ y : Context, x = some y → ∀ j : ContextNo, j ≠ k → ∀ z : Context, s.router.contexts[j] = some z →
      z.stream ≠ y.stream) : (s.withContext k x).contextsOk := by
  intro i j y z hy hz stream
  by_cases hi : i = k <;> by_cases hj : j = k
  · rw [hi, hj]
  · subst hi
    rw [withContext_same] at hy
    rw [withContext_other hj] at hz
    exact absurd stream.symm (alone y hy j hj z hz)
  · subst hj
    rw [withContext_same] at hz
    rw [withContext_other hi] at hy
    exact absurd stream (alone z hz i hi y hy)
  · rw [withContext_other hi] at hy
    rw [withContext_other hj] at hz
    exact h i j y z hy hz stream

/-- An abandoned context is closed, and the others stand. -/
theorem abandonContext_contexts (k : ContextNo) (counter : RouterCounter) (s : State) :
    (abandonContext k counter s).router.contexts = s.router.contexts.set k none := by
  unfold abandonContext
  split
  next closed =>
    refine Vector.ext fun i hi => ?_
    by_cases same : k.val = i
    · subst same; simpa using closed
    · simp [Vector.getElem_set_ne, same]
  next => rfl

theorem State.contextsOk.abandonContext (h : s.contextsOk) (k : ContextNo) (counter : RouterCounter) :
    (abandonContext k counter s).contextsOk :=
  contextsOk_congr (abandonContext_contexts k counter s) (h.withContext (k := k) (x := none) fun _ e => by cases e)

theorem contextOf_some {r : Router} {sid : StreamId} {k : ContextNo} (h : r.contextOf sid = some k) :
    ∃ x : Context, r.contexts[k] = some x ∧ x.stream = sid := by
  have found := List.find?_some h
  split at found
  · cases found
  · rename_i x isOpen
    exact ⟨x, isOpen, eq_of_beq found⟩

theorem contextOf_none {r : Router} {sid : StreamId} (h : r.contextOf sid = none) {k : ContextNo} {x : Context}
    (isOpen : r.contexts[k] = some x) : x.stream ≠ sid := by
  have missed := List.find?_eq_none.mp h k (List.mem_finRange k)
  rw [isOpen] at missed
  simpa using missed

theorem State.contextsOk.breakStream (h : s.contextsOk) (sid : StreamId) : (breakStream sid s).contextsOk := by
  unfold Machine.breakStream
  split
  · exact h
  · exact h.abandonContext _ _

/-- A broken stream has no open context (R117). -/
theorem breakStream_closed (h : s.contextsOk) {sid : StreamId} {k : ContextNo} {x : Context}
    (isOpen : (breakStream sid s).router.contexts[k] = some x) : x.stream ≠ sid := by
  unfold breakStream at isOpen
  split at isOpen
  next none => exact contextOf_none none isOpen
  next j found =>
    obtain ⟨y, openJ, stream⟩ := contextOf_some found
    rw [abandonContext_contexts] at isOpen
    by_cases same : j = k
    · subst same
      rw [getElem_set_same] at isOpen
      cases isOpen
    · rw [getElem_set_ne _ same] at isOpen
      exact fun both => same (h j k y x openJ isOpen (stream.trans both.symm))

theorem State.contextsOk.openContext (h : s.contextsOk) (f : TileHeadFields) (sid : StreamId) :
    (openContext f sid s).contextsOk := by
  have broken := h.breakStream sid
  have closed := fun k x => breakStream_closed (sid := sid) (k := k) (x := x) h
  unfold Machine.openContext
  dsimp only
  split
  · exact contextsOk_congr rfl broken
  · split
    · exact contextsOk_congr rfl broken
    · rename_i i st _
      have put : ((Machine.breakStream sid s).withStore st).contextsOk := contextsOk_congr rfl broken
      refine put.withContext fun y hy j _ z hz => ?_
      obtain rfl := Option.some.inj hy
      exact closed j z hz

/-! ### Both -/

/-- R108 and section 6.3. -/
def State.streamsOk (s : State) : Prop := s.routesOk ∧ s.contextsOk

theorem streamsOk_of_mask
    (same : t.mask (allBut [.tables, .router]) = s.mask (allBut [.tables, .router])) (h : s.streamsOk) :
    t.streamsOk := by
  have tables : s.tables = t.tables := same_of_allBut same .tables (by simp)
  have router : s.router = t.router := same_of_allBut same .router (by simp)
  exact ⟨routesOk_congr (by rw [tables]) h.1, contextsOk_congr (by rw [router]) h.2⟩

theorem publishTile_router (i : SlotNo) (v : ViewNo) (s : State) : (publishTile i v s).router = s.router :=
  (same_of_mask (mask_publishTile (l := allBut [.router]) (by simp) (by simp) (by simp) (by simp)) .router
    (by simp)).symm

theorem Move.streamsOk (m : Move s t) (h : s.streamsOk) : t.streamsOk := by
  obtain ⟨routes, contexts⟩ := h
  cases m with
  | quiet same => exact streamsOk_of_mask (mask_of_quiet same (by simp [quietParts])) ⟨routes, contexts⟩
  | tables b route => exact ⟨routesOk_congr route routes, contextsOk_congr rfl contexts⟩
  | lens => exact ⟨routesOk_congr rfl routes, contextsOk_congr rfl contexts⟩
  | route i r lies => exact ⟨routes.withRoute lies, contextsOk_congr rfl contexts⟩
  | routerCounters => exact ⟨routesOk_congr rfl routes, contextsOk_congr rfl contexts⟩
  | abandonContext k counter =>
    exact ⟨routesOk_congr (by unfold Machine.abandonContext; split <;> rfl) routes, contexts.abandonContext k counter⟩
  | openContext f sid =>
    have tables : s.tables = (Machine.openContext f sid s).tables :=
      same_of_mask (mask_openContext (l := [.router, .store]) (by simp) (by simp)) .tables (by simp)
    exact ⟨routesOk_congr (by rw [tables]) routes, contexts.openContext f sid⟩
  | context k x y isOpen _ stream =>
    refine ⟨routesOk_congr rfl routes, contexts.withContext fun z hz j other w hw same => ?_⟩
    obtain rfl := Option.some.inj hz
    exact other (contexts j k w x hw isOpen (same.trans stream))
  | publish k x =>
    refine ⟨?_, contextsOk_congr (by rw [publishTile_router]) (contexts.withContext (k := k) (x := none) ?_)⟩
    · have tables : s.tables = (publishTile x.slot x.view (s.withContext k none)).tables :=
        same_of_mask (l := allBut [.tables]) (by simp) .tables (by simp)
      exact routesOk_congr (by rw [tables]) routes
    · exact fun _ e => by cases e
  | _ => exact streamsOk_of_mask (by simp) ⟨routes, contexts⟩

theorem change_streamsOk : ∀ s t : State, Change s t → s.streamsOk → t.streamsOk :=
  change_keeps [.tables, .router] (by simp [frameParts]) (fun _ _ => streamsOk_of_mask) (fun _ _ m => m.streamsOk)
    (fun s p i sid h => streamsOk_of_mask (by simp) h)
    (fun s straps now cells => by
      obtain ⟨-, -, -, -, -, -, routes, contexts, -⟩ := resetMeetsTheLaws
      exact ⟨routesOk_congr (s := State.reset) rfl routes, contextsOk_congr (s := State.reset) rfl contexts⟩)
    (fun s c h => by
      obtain ⟨-, -, -, -, -, -, -, contexts, -⟩ := resetMeetsTheLaws
      exact ⟨routesOk_congr rfl h.1, contextsOk_congr (s := State.reset) rfl contexts⟩)

theorem stepKeepsStreams : Claim.StepKeepsStreams :=
  fun _ _ routes contexts e => step_keeps change_streamsOk e ⟨routes, contexts⟩

end

/-- Settles O5: every change that a step is made of keeps each of the laws. -/
theorem stepKeepsTheQueuesAndTheStreams : Obligations.StepKeepsTheQueuesAndTheStreams :=
  ⟨stepKeepsCapacities, stepKeepsSendLists, stepKeepsStreams⟩

end Sys2Proof.Machine
end

section
/-! PROOF. Lens ratings (R58, R72, R74): every change that a step is made of keeps the flags to their counters and a
rated condition to its coverage. -/

namespace Sys2Proof.Machine

section
variable {s t : State}

/-- R58, R72, R74 for every camera port. -/
def State.lensesOk (s : State) : Prop := ∀ p : CamPort, s.lensOk p

theorem State.lensesOk.congr (h : s.lensesOk) (health : t.health = s.health)
    (lens : t.tables.lensParams = s.tables.lensParams) : t.lensesOk := by
  intro p
  have ok := h p
  rw [lensOk_iff] at ok ⊢
  rw [health, lens]
  exact ok

theorem State.lensesOk.of_mask (h : s.lensesOk)
    (same : t.mask (allBut [.health, .tables]) = s.mask (allBut [.health, .tables])) : t.lensesOk := by
  have health : s.health = t.health := same_of_allBut same .health (by simp)
  have tables : s.tables = t.tables := same_of_allBut same .tables (by simp)
  exact h.congr health.symm (by rw [tables])

theorem State.lensesOk.withHealth (h : s.lensesOk) {p : CamPort} {k : Health}
    (ratings : (s.tables.lensParams[p]).valid = true → (s.health[p]).ratingsOk s.tables.lensParams[p] →
      k.ratingsOk s.tables.lensParams[p]) : (s.withHealth p k).lensesOk := by
  intro q
  rw [lensOk_iff, State.withHealth_tables, State.withHealth_health]
  obtain ⟨valid, ok⟩ := (lensOk_iff s q).mp (h q)
  refine ⟨valid, ?_⟩
  by_cases same : p = q
  · subst same
    rw [getElem_set_same]
    exact ratings valid ok
  · rw [getElem_set_ne _ same]
    exact ok

theorem lensesOk_ite {c : Prop} [Decidable c] (hs : s.lensesOk) (ht : t.lensesOk) : (if c then s else t).lensesOk := by
  split
  · exact hs
  · exact ht

theorem State.lensesOk.completeLearning (h : s.lensesOk) (p : CamPort) : (completeLearning p s).lensesOk := by
  have tables : ∀ r, (s.withTables { s.tables with reference := r }).lensesOk := fun r => h.congr rfl rfl
  refine State.lensesOk.of_mask (State.lensesOk.withHealth (tables _) fun valid _ =>
    Health.wiped_ratingsOk (h := s.health[p]) valid ?_ ?_ (.inl ?_))
    (mask_addCause (l := allBut [.health, .tables]) (by simp) (by simp)) <;> rfl

theorem State.lensesOk.takeSample (h : s.lensesOk) (p : CamPort) (st : FrameStats) : (takeSample p st s).lensesOk := by
  have learned : (s.withHealth p ((s.health[p]).learned s.tables.lensParams[p] st)).lensesOk :=
    h.withHealth fun _ ok => ok.learned st _
  have scored : (s.withHealth p ((s.health[p]).scored s.tables.lensParams[p] st s.tables.reference s.tables.weight
      p)).lensesOk := h.withHealth fun valid ok => ok.scored valid st _ _ p
  have unusable : (s.withHealth p (s.health[p]).unusable).lensesOk := h.withHealth fun _ ok => ok.unusable
  unfold Machine.takeSample
  dsimp only
  split
  · exact h
  · split
    · split
      · exact learned.completeLearning p
      · exact learned
    · exact h
  all_goals
    split
    · exact scored
    · exact unusable

theorem State.lensesOk.takeFrame (h : s.lensesOk) (p : CamPort) (st : FrameStats) : (takeFrame p st s).lensesOk := by
  have ran : (s.withHealth p ((s.health[p]).runs st (s.tables.lensParams[p]).darkLevel)).lensesOk :=
    h.withHealth fun _ ok => ok.runs st _
  have counted : ∀ u : State, u.lensesOk → ∀ n, (u.withHealth p { u.health[p] with sampleCount := n }).lensesOk :=
    fun u hu n => hu.withHealth fun _ ok => ok.congr (by exact fun _ => id) (by rfl) (by rfl)
  unfold Machine.takeFrame
  dsimp only
  refine lensesOk_ite (State.lensesOk.takeSample ?_ p st) ?_ <;>
    exact counted _ (lensesOk_ite ran (ran.of_mask (mask_addCause (by simp) (by simp)))) _

theorem Move.lensesOk (m : Move s t) (h : s.lensesOk) : t.lensesOk := by
  cases m with
  | quiet same => exact h.of_mask (mask_of_quiet same (by simp [quietParts]))
  | tables b _ lens => exact h.congr rfl lens
  | route => exact h.congr rfl rfl
  | health p k _ ratings => exact h.withHealth ratings
  | lens p e k valid _ ratings =>
    intro q
    rw [lensOk_iff, State.withHealth_tables, State.withHealth_health, State.withTables_tables, State.withTables_health]
    obtain ⟨validq, ok⟩ := (lensOk_iff s q).mp (h q)
    by_cases same : p = q
    · subst same
      rw [getElem_set_same, getElem_set_same]
      exact ⟨valid, ratings⟩
    · rw [getElem_set_ne _ same, getElem_set_ne _ same]
      exact ⟨validq, ok⟩
  | enter p new =>
    refine State.lensesOk.withHealth (s := s.withCam p _) (h.congr rfl rfl) fun _ ok => ?_
    exact ok.afterLink _ new
  | _ => exact h.of_mask (by simp)

/-- The reset state with another time, straps and mode meets the law (R58, R72). -/
theorem lensesOk_afterReset (straps : Straps) (now : NodeTime) (cells : Nat) :
    (s.afterReset straps now cells).lensesOk := by
  obtain ⟨-, -, -, -, -, -, -, -, -, lens, -⟩ := resetMeetsTheLaws
  exact State.lensesOk.congr (s := State.reset) lens rfl rfl

theorem lensesOk_afterRestart (h : s.lensesOk) : s.afterRestart.lensesOk := by
  intro p
  have valid := ((lensOk_iff s p).mp (h p)).1
  rw [lensOk_iff]
  have health : s.afterRestart.health[p] = s.restartHealth p := by simp [State.afterRestart]
  rw [health]
  refine ⟨valid, Health.reset_ratingsOk valid ?_⟩
  split <;> rfl

theorem Work.lensesOk (w : Work s t) (h : s.lensesOk) : t.lensesOk := by
  cases w with
  | move m => exact m.lensesOk h
  | takes p f pic =>
    have ended : ((endGood p f s).withSums p (gather pic.luma f.width f.height)).lensesOk := h.of_mask (by simp)
    exact (ended.takeFrame p (frameStats f (gather pic.luma f.width f.height))).of_mask (by simp [frameTaken])
  | window => exact h.of_mask (by simp)

theorem Change.lensesOk (c : Change s t) (h : s.lensesOk) : t.lensesOk := by
  cases c with
  | work w => exact w.lensesOk h
  | mode => exact h.of_mask (by simp)
  | orient => exact h.of_mask (by simp)
  | reset => exact lensesOk_afterReset _ _ _
  | restart c => exact (lensesOk_afterRestart h).of_mask (mask_withTrunk (by simp))

end

/-- Settles O7: every change that a step is made of keeps the law. -/
theorem stepKeepsLensRatings : Obligations.StepKeepsLensRatings :=
  fun _ _ ok e => step_keeps (law := State.lensesOk) (fun _ _ c => c.lensesOk) e ok

end Sys2Proof.Machine
end

section
/-! PROOF. The alarm count (R41, R135): every change that a step is made of keeps the view map to the LATEST slots and
the alarm count to the tiles they hold. -/

namespace Sys2Proof.Machine

section
variable {s t u : State}

/-- The tile store keeps the law of the view map with its alarm count, and the count of the node stands. -/
def State.keepsTiles (s t : State) : Prop := s.store.keepsTiles t.store ∧ t.alarm = s.alarm

theorem State.keepsTiles.alarmOk (k : s.keepsTiles t) (h : s.alarmOk) : t.alarmOk := by
  obtain ⟨map, count⟩ := h
  obtain ⟨map', same⟩ := k.1 map
  exact ⟨map', by rw [k.2, same, count]⟩

theorem State.keepsTiles.refl (s : State) : s.keepsTiles s := ⟨.refl _, rfl⟩

theorem State.keepsTiles.trans (a : s.keepsTiles t) (b : t.keepsTiles u) : s.keepsTiles u :=
  ⟨a.1.trans b.1, b.2.trans a.2⟩

theorem keepsTiles_of_mask (same : t.mask (allBut [.store, .alarm]) = s.mask (allBut [.store, .alarm])) :
    s.keepsTiles t := by
  have store : s.store = t.store := same_of_allBut same .store (by simp)
  have alarm : s.alarm = t.alarm := same_of_allBut same .alarm (by simp)
  exact ⟨store ▸ .refl _, alarm.symm⟩

/-- The tile store put in, when it keeps its tiles. -/
theorem keepsTiles_withStore {st : Store} (k : s.store.keepsTiles st) : s.keepsTiles (s.withStore st) := ⟨k, rfl⟩

theorem keepsTiles_ite {c : Prop} [Decidable c] (ht : s.keepsTiles t) (hu : s.keepsTiles u) :
    s.keepsTiles (if c then t else u) := by
  split
  · exact ht
  · exact hu

/-! ### Holds, entries, productions and contexts -/

theorem keepsTiles_State_endHold (i : SlotNo) : s.keepsTiles (s.endHold i) :=
  keepsTiles_withStore (keepsTiles_endHold _ i)

theorem keepsTiles_endFetch (k : SendKind) : s.keepsTiles (endFetch k s) := by
  unfold endFetch
  split
  · exact .refl s
  · exact .refl s
  · exact keepsTiles_withStore (keepsTiles_setFetching _ _ _)

theorem keepsTiles_releaseEntry (e : SendEntry) : s.keepsTiles (releaseEntry e s) :=
  (keepsTiles_State_endHold e.slot).trans (keepsTiles_endFetch e.kind)

theorem keepsTiles_countTrunk (p : TrunkPort) (k : TrunkCounter) : s.keepsTiles (countTrunk p k s) := ⟨.refl _, rfl⟩

theorem keepsTiles_takeHanded (p : TrunkPort) (e : SendEntry) : s.keepsTiles (takeHanded p e s) := by
  have skipped : s.keepsTiles (countTrunk p .sendSkipped (s.endHold e.slot)) :=
    (keepsTiles_State_endHold _).trans (keepsTiles_countTrunk p _)
  unfold takeHanded
  dsimp only
  split
  · rename_i w _
    refine keepsTiles_ite (keepsTiles_ite ?_ (keepsTiles_State_endHold _)) skipped
    exact ⟨keepsTiles_endHold _ _, rfl⟩
  · exact keepsTiles_ite ⟨.refl _, rfl⟩ skipped

theorem keepsTiles_joinList (p : TrunkPort) (kind : SendKind) (i : SlotNo) (sid : StreamId) :
    s.keepsTiles (joinList p kind i sid s) := ⟨keepsTiles_takeHold _ _, rfl⟩

theorem keepsTiles_startFetch (p : TrunkPort) (k : Fin 4) (i : SlotNo) (sid : StreamId) :
    s.keepsTiles (startFetch p k i sid s) :=
  (keepsTiles_joinList p _ i sid).trans (keepsTiles_withStore (keepsTiles_setFetching _ _ _))

theorem keepsTiles_requestSend (p : TrunkPort) (i : SlotNo) (sid : StreamId) :
    s.keepsTiles (requestSend p i sid s) := by
  unfold requestSend
  dsimp only
  split
  · refine keepsTiles_ite ?_ (keepsTiles_countTrunk p _)
    exact .trans (t := (s.withSendList p _).takeHold i) ⟨keepsTiles_takeHold _ _, rfl⟩ (keepsTiles_State_endHold _)
  · exact keepsTiles_ite (keepsTiles_joinList p _ i sid) (keepsTiles_countTrunk p _)

theorem keepsTiles_State_giveBack (i : SlotNo) : s.keepsTiles (s.giveBack i) :=
  keepsTiles_withStore (keepsTiles_giveBack _ i)

theorem keepsTiles_abandonProduction (k : PlanNo) : s.keepsTiles (abandonProduction k s) := by
  unfold abandonProduction
  split
  · exact .refl s
  · exact ⟨keepsTiles_giveBack _ _, rfl⟩

theorem keepsTiles_beginTile (p : CamPort) (r : Fin 2) (f : OpenFrame) : s.keepsTiles (beginTile p r f s) := by
  unfold beginTile
  dsimp only
  refine keepsTiles_ite (keepsTiles_ite ?_ ⟨.refl _, rfl⟩) (.refl s)
  split
  · exact ⟨.refl _, rfl⟩
  · rename_i taken
    exact ⟨keepsTiles_allocate taken, rfl⟩

theorem keepsTiles_deliverStart (p : CamPort) (x : FrameHead) : s.keepsTiles (deliverStart p x s) := by
  unfold deliverStart
  dsimp only
  exact .trans (.trans (keepsTiles_of_mask (mask_withSums (by simp) |>.trans (mask_ite (by simp) (by simp))))
    (keepsTiles_beginTile p 0 _)) (keepsTiles_beginTile p 1 _)

theorem keepsTiles_abandonContext (k : ContextNo) (counter : RouterCounter) :
    s.keepsTiles (abandonContext k counter s) := by
  unfold abandonContext
  split
  · exact .refl s
  · exact ⟨keepsTiles_giveBack _ _, rfl⟩

theorem keepsTiles_breakStream (sid : StreamId) : s.keepsTiles (breakStream sid s) := by
  unfold breakStream
  split
  · exact .refl s
  · exact keepsTiles_abandonContext _ _

theorem keepsTiles_openContext (f : TileHeadFields) (sid : StreamId) : s.keepsTiles (openContext f sid s) := by
  unfold openContext
  dsimp only
  refine (keepsTiles_breakStream sid).trans ?_
  split
  · exact ⟨.refl _, rfl⟩
  · split
    · exact ⟨.refl _, rfl⟩
    · rename_i taken
      exact ⟨keepsTiles_allocate taken, rfl⟩

/-! ### Publishing -/

theorem evaluateBoth_store (s : State) : (evaluateBoth s).store = s.store :=
  (same_of_mask (mask_evaluateBoth (l := [.selection, .comp]) (by simp) (by simp)) .store (by simp)).symm

theorem evaluateBoth_alarm (s : State) : (evaluateBoth s).alarm = s.alarm :=
  (same_of_mask (mask_evaluateBoth (l := [.selection, .comp]) (by simp) (by simp)) .alarm (by simp)).symm

/-- A publish counts the alarms anew (R135). -/
theorem publishTile_alarmOk (map : s.store.mapOk) (i : SlotNo) (v : ViewNo) : (publishTile i v s).alarmOk := by
  have published : (s.store.publish i v).mapOk := map.publish i v
  unfold publishTile
  dsimp only
  split
  next same => exact ⟨published, same.symm⟩
  next =>
    unfold State.alarmOk
    rw [evaluateBoth_store, evaluateBoth_alarm]
    exact ⟨published, rfl⟩

/-- Completing a tile leaves its slot's state and view (R30). -/
theorem mapOk_complete {st : Store} (map : st.mapOk) (i : SlotNo) (x : Stamp) (data : List Byte) :
    (st.complete i x data).mapOk :=
  map.setSlot (Slot.keepsView_of_eq rfl rfl)

theorem alarmOk_placeRequests (h : s.alarmOk) (i : SlotNo) (sid : StreamId) : (placeRequests i sid s).alarmOk := by
  unfold placeRequests
  split
  · exact (keepsTiles_requestSend _ i sid).alarmOk h
  · exact ((keepsTiles_requestSend _ i sid).trans (keepsTiles_requestSend _ i sid)).alarmOk h
  all_goals exact h

theorem alarmOk_completeTile (h : s.alarmOk) (p : CamPort) (r : Fin 2) (pic : Picture) :
    (completeTile p r pic s).alarmOk := by
  unfold completeTile
  dsimp only
  split
  · exact h
  · rename_i pr _
    have published := publishTile_alarmOk (s := (s.withStore (s.store.complete pr.slot (s.stampFor p r)
      (makeTile pic pr.plan pr.crop))).withProduction (planOf p r) none) (mapOk_complete h.1 _ _ _) pr.slot
      (s.stampFor p r).view
    have counted : (countEngine .tilesMade _).alarmOk := published
    split
    · exact alarmOk_placeRequests counted _ _
    · exact counted

/-! ### Every change -/

theorem Move.alarmOk (m : Move s t) (h : s.alarmOk) : t.alarmOk := by
  have keep (same : t.mask (allBut [.store, .alarm]) = s.mask (allBut [.store, .alarm])) : t.alarmOk :=
    (keepsTiles_of_mask same).alarmOk h
  cases m with
  | quiet same => exact keep (mask_of_quiet same (by simp [quietParts]))
  | drop p before e rest => exact (keepsTiles_releaseEntry (s := s.withSendList p _) e).alarmOk h
  | hand p e rest => exact (keepsTiles_takeHanded (s := s.withSendList p rest) p.other e).alarmOk h
  | fetch p k x sid => exact (keepsTiles_startFetch p k x.slot sid).alarmOk h
  | release k => exact State.keepsTiles.alarmOk (s := s) ⟨keepsTiles_release _ _, rfl⟩ h
  | storeCounters => exact (keepsTiles_withStore (keepsTiles_congr rfl rfl)).alarmOk h
  | damage i =>
    have marked : s.store.keepsTiles (s.store.setSlot i { s.store.slots[i] with damaged := true }) :=
      keepsTiles_setSlot_of_eq rfl rfl rfl
    exact (keepsTiles_withStore marked).alarmOk h
  | pin v i k x =>
    have marked : s.store.keepsTiles (s.store.setSlot i { s.store.slots[i] with pinned := true }) :=
      keepsTiles_setSlot_of_eq rfl rfl rfl
    exact (keepsTiles_withStore (marked.trans (keepsTiles_congr rfl rfl))).alarmOk h
  | abandonProduction k => exact (keepsTiles_abandonProduction k).alarmOk h
  | deliver p x => exact (keepsTiles_deliverStart p x).alarmOk h
  | abandonContext k counter => exact (keepsTiles_abandonContext k counter).alarmOk h
  | openContext f sid => exact (keepsTiles_openContext f sid).alarmOk h
  | write k x bytes =>
    have written : s.store.keepsTiles (s.store.writeBytes x.slot bytes) := keepsTiles_setSlot_of_eq rfl rfl rfl
    exact (keepsTiles_withStore written).alarmOk h
  | publish k x => exact publishTile_alarmOk (s := s.withContext k none) h.1 _ _
  | output sc o =>
    have held : s.store.keepsTiles ((s.store.endHolds (s.comp.outputs[sc]).held).takeHolds o.held) :=
      (keepsTiles_endHolds _ _).trans (keepsTiles_takeHolds _ _)
    exact State.keepsTiles.alarmOk (s := s) ⟨held, rfl⟩ h
  | _ => exact keep (by simp)

theorem alarmOk_frameTaken (h : s.alarmOk) (p : CamPort) (f : OpenFrame) (pic : Picture) :
    (frameTaken p f pic s).alarmOk := by
  have taken : (takeFrame p (frameStats f (gather pic.luma f.width f.height))
      ((endGood p f s).withSums p (gather pic.luma f.width f.height))).alarmOk :=
    (keepsTiles_of_mask (by simp)).alarmOk h
  exact alarmOk_completeTile (alarmOk_completeTile taken p 0 pic) p 1 pic

theorem Change.alarmOk (c : Change s t) (h : s.alarmOk) : t.alarmOk := by
  have reset : State.reset.alarmOk := by
    obtain ⟨-, -, -, -, -, -, -, -, -, -, alarm, -⟩ := resetMeetsTheLaws
    exact alarm
  cases c with
  | work w =>
    cases w with
    | move m => exact m.alarmOk h
    | takes p f pic => exact alarmOk_frameTaken h p f pic
    | window => exact h
  | mode => exact h
  | orient => exact h
  | reset => exact reset
  | restart => exact reset

end

/-- Settles O8: every change that a step is made of keeps the law. -/
theorem stepKeepsTheAlarmCount : Obligations.StepKeepsTheAlarmCount :=
  fun _ _ h e => step_keeps (fun _ _ c => c.alarmOk) e h

end Sys2Proof.Machine
end

section
/-! PROOF. The camera ports (sections 1.3 and 1.6, R9, R61): every change that a step is made of keeps each link state
to its own timer, and the picture to NO_SIGNAL exactly outside LOCKED. -/

namespace Sys2Proof.Machine

section
variable {s t u : State}

/-! ### Timers -/

theorem timersOk_congr (cams : t.cams = s.cams) (h : s.timersOk) : t.timersOk := by
  unfold State.timersOk; rwa [cams]

theorem cams_of_mask (same : t.mask (allBut [.cams]) = s.mask (allBut [.cams])) : t.cams = s.cams :=
  (same_of_allBut same .cams (by simp) : s.cams = t.cams).symm

theorem State.timersOk.withCam (h : s.timersOk) {p : CamPort} {c : CameraPort} (ok : c.timersOk) :
    (s.withCam p c).timersOk := by
  intro q
  rw [State.withCam_cams]
  by_cases same : p = q
  · subst same; rwa [getElem_set_same]
  · rw [getElem_set_ne _ same]; exact h q

theorem CameraPort.listens_congr {c d : CameraPort} (link : c.link = d.link) : c.listens = d.listens := by
  rw [CameraPort.listens, CameraPort.listens, link]

/-- A port with the same link state and timers, whose open frame is one where frames are received. -/
theorem CameraPort.sameTimers.timersOk {c d : CameraPort} (same : c.sameTimers d) (h : d.timersOk)
    (frame : c.openFrame ≠ none → c.listens = true) : c.timersOk := by
  obtain ⟨link, lock, stall, retry, probe⟩ := same
  obtain ⟨lock', stall', retry', probe', -⟩ := h
  unfold CameraPort.timersOk
  rw [link, lock, stall, retry, probe]
  exact ⟨lock', stall', retry', probe', frame⟩

theorem CameraPort.listens_of_locked {c : CameraPort} (locked : c.link = .locked) : c.listens = true := by
  rw [CameraPort.listens, locked]; rfl

theorem beginTile_cams (p : CamPort) (r : Fin 2) (f : OpenFrame) (s : State) : (beginTile p r f s).cams = s.cams :=
  cams_of_mask (by simp)

theorem State.timersOk.deliverStart (h : s.timersOk) {p : CamPort} (locked : (s.cams[p]).link = .locked)
    (x : FrameHead) : (deliverStart p x s).timersOk := by
  have listens := CameraPort.listens_of_locked locked
  have opened : (s.withCam p { s.cams[p] with
      lastRecord := some x.record, openFrame := some ((s.cams[p]).deliver x) }).timersOk :=
    h.withCam (CameraPort.sameTimers.timersOk (by exact ⟨rfl, rfl, rfl, rfl, rfl⟩) (h p) fun _ => listens)
  unfold Machine.deliverStart
  dsimp only
  refine timersOk_congr ((beginTile_cams _ _ _ _).trans ((beginTile_cams _ _ _ _).trans (State.withEngine_cams ..))) ?_
  split
  · refine opened.withCam ?_
    rw [State.withCam_cams, getElem_set_same]
    exact CameraPort.sameTimers.timersOk (by exact ⟨rfl, rfl, rfl, rfl, rfl⟩) (h p) fun _ => listens
  · exact opened

theorem Move.timersOk (m : Move s t) (h : s.timersOk) : t.timersOk := by
  have keep (same : t.mask (allBut [.cams]) = s.mask (allBut [.cams])) : t.timersOk :=
    timersOk_congr (cams_of_mask same) h
  cases m with
  | quiet same => exact keep (mask_of_quiet same (by simp [quietParts]))
  | deliver p x locked => exact h.deliverStart locked x
  | cam p c timers frame =>
    refine h.withCam (timers.timersOk (h p) fun opened => ?_)
    rw [CameraPort.listens_congr timers.1]
    exact (h p).2.2.2.2 (frame ▸ opened)
  | frame p c timers _ listens => exact h.withCam (timers.timersOk (h p) listens)
  | enter p new => exact timersOk_congr rfl (h.withCam (newly_timersOk _ _ _))
  | _ => exact keep (by simp)

theorem countCam_timersOk (p : CamPort) (k : PortCounter) (h : s.timersOk) : (countCam p k s).timersOk :=
  h.withCam (CameraPort.sameTimers.timersOk (by exact ⟨rfl, rfl, rfl, rfl, rfl⟩) (h p) (h p).2.2.2.2)

theorem State.timersOk.endGood (h : s.timersOk) {p : CamPort} (locked : (s.cams[p]).link = .locked) (f : OpenFrame) :
    (endGood p f s).timersOk := by
  have ended : (s.withCam p ((s.cams[p]).ended f s)).timersOk := by
    obtain ⟨lock, -, retry, probe, -⟩ := h p
    exact h.withCam ⟨lock, iff_of_true (by simp [CameraPort.ended]) locked, retry, probe,
      fun opened => absurd rfl opened⟩
  unfold Machine.endGood
  dsimp only
  split
  · exact countCam_timersOk p _ (countCam_timersOk p _ ended)
  · exact countCam_timersOk p _ ended

theorem frameTaken_cams (p : CamPort) (f : OpenFrame) (pic : Picture) (s : State) :
    (frameTaken p f pic s).cams = (endGood p f s).cams :=
  cams_of_mask (by simp [frameTaken])

theorem Change.timersOk (c : Change s t) (h : s.timersOk) : t.timersOk := by
  have reset : State.reset.timersOk := by
    obtain ⟨-, -, -, -, -, -, -, -, -, -, -, timers, -⟩ := resetMeetsTheLaws
    exact timers
  cases c with
  | work w =>
    cases w with
    | move m => exact m.timersOk h
    | takes p f pic _ locked => exact timersOk_congr (frameTaken_cams p f pic s) (h.endGood locked f)
    | window => exact h
  | mode => exact h
  | orient => exact h
  | reset => exact reset
  | restart => exact reset

/-! ### The picture condition -/

/-- R9, R61 for one port and its health record. -/
def pictureFits (c : CameraPort) (h : Health) : Prop := h.picture = .noSignal ↔ c.link ≠ .locked

theorem pictureOk_of_mask (same : t.mask (allBut [.cams, .health]) = s.mask (allBut [.cams, .health]))
    (h : s.pictureOk) : t.pictureOk := by
  have cams : s.cams = t.cams := same_of_allBut same .cams (by simp)
  have health : s.health = t.health := same_of_allBut same .health (by simp)
  unfold State.pictureOk; rwa [← cams, ← health]

theorem State.pictureOk.withCam (h : s.pictureOk) {p : CamPort} {c : CameraPort} (fits : pictureFits c s.health[p]) :
    (s.withCam p c).pictureOk := by
  intro q
  rw [State.withCam_cams, State.withCam_health]
  by_cases same : p = q
  · subst same; rwa [getElem_set_same]
  · rw [getElem_set_ne _ same]; exact h q

theorem State.pictureOk.withHealth (h : s.pictureOk) {p : CamPort} {k : Health} (fits : pictureFits s.cams[p] k) :
    (s.withHealth p k).pictureOk := by
  intro q
  rw [State.withHealth_cams, State.withHealth_health]
  by_cases same : p = q
  · subst same; rwa [getElem_set_same]
  · rw [getElem_set_ne _ same]; exact h q

/-- A camera port with its link state as it was. -/
theorem State.pictureOk.withLink (h : s.pictureOk) {p : CamPort} {c : CameraPort} (link : c.link = (s.cams[p]).link) :
    (s.withCam p c).pictureOk :=
  h.withCam (by unfold pictureFits; rw [link]; exact h p)

/-- A health record with its picture condition as it was. -/
theorem State.pictureOk.withPicture (h : s.pictureOk) {p : CamPort} {k : Health}
    (picture : k.picture = (s.health[p]).picture) : (s.withHealth p k).pictureOk :=
  h.withHealth (by unfold pictureFits; rw [picture]; exact h p)

theorem countCam_pictureOk (p : CamPort) (k : PortCounter) (h : s.pictureOk) : (countCam p k s).pictureOk :=
  h.withLink rfl

theorem State.pictureOk.deliverStart (h : s.pictureOk) (p : CamPort) (x : FrameHead) :
    (deliverStart p x s).pictureOk := by
  have opened : (s.withCam p { s.cams[p] with
      lastRecord := some x.record, openFrame := some ((s.cams[p]).deliver x) }).pictureOk := h.withLink rfl
  have started : (if x.record.sensorFault then countCam p .sensorFaultFrames (s.withCam p { s.cams[p] with
      lastRecord := some x.record, openFrame := some ((s.cams[p]).deliver x) }) else s.withCam p { s.cams[p] with
      lastRecord := some x.record, openFrame := some ((s.cams[p]).deliver x) }).pictureOk := by
    split
    · exact countCam_pictureOk p _ opened
    · exact opened
  refine pictureOk_of_mask ?_ started
  unfold Machine.deliverStart
  dsimp only
  rw [mask_beginTile (by simp) (by simp), mask_beginTile (by simp) (by simp), mask_withSums (by simp)]

theorem afterLink_fits {c d : CameraPort} {k : Health} (fits : pictureFits c k) :
    pictureFits d (k.afterLink c.link d.link) := by
  unfold pictureFits Health.afterLink
  split
  next locked => simp [locked]
  next unlocked =>
    split
    next => simp [unlocked]
    next was => exact iff_of_true (fits.mpr was) unlocked

theorem State.pictureOk.enter (h : s.pictureOk) (p : CamPort) (new : CameraLink) :
    ((s.withCam p ((s.cams[p]).newly new s.nodeTime)).withHealth p
      ((s.health[p]).afterLink (s.cams[p]).link new)).pictureOk := by
  intro q
  rw [State.withHealth_cams, State.withHealth_health, State.withCam_cams, State.withCam_health]
  by_cases same : p = q
  · subst same
    rw [getElem_set_same, getElem_set_same]
    exact afterLink_fits (d := (s.cams[p]).newly new s.nodeTime) (h p)
  · rw [getElem_set_ne _ same, getElem_set_ne _ same]
    exact h q

theorem Move.pictureOk (m : Move s t) (h : s.pictureOk) : t.pictureOk := by
  have keep (same : t.mask (allBut [.cams, .health]) = s.mask (allBut [.cams, .health])) : t.pictureOk :=
    pictureOk_of_mask same h
  cases m with
  | quiet same => exact keep (mask_of_quiet same (by simp [quietParts]))
  | lens p e k _ picture => exact State.pictureOk.withPicture (s := s.withTables _) h picture
  | health p k picture => exact h.withPicture picture
  | deliver p x => exact h.deliverStart p x
  | cam p c timers => exact h.withLink timers.1
  | frame p c timers => exact h.withLink timers.1
  | enter p new => exact h.enter p new
  | _ => exact keep (by simp)

theorem pictureFrom_ne (m n : Nat) : pictureFrom m n ≠ .noSignal := by
  unfold pictureFrom
  split
  · simp
  · split <;> simp

end

end Sys2Proof.Machine
end

section
/-! PROOF. The picture condition as a good frame is taken, and power (R2, R3, R184 to R188): power follows demand at
every port, a relearn hold stands while its port is LEARNING, and the survey takes a powered port, in STANDBY only. -/

namespace Sys2Proof.Machine

section
variable {s t u : State}

/-! ### The picture condition, concluded -/

theorem pictureOk_ite {c : Prop} [Decidable c] (hs : s.pictureOk) (ht : t.pictureOk) :
    (if c then s else t).pictureOk := by
  split
  · exact hs
  · exact ht

theorem State.pictureOk.completeLearning (h : s.pictureOk) (p : CamPort) : (completeLearning p s).pictureOk := by
  have tabled : (s.withTables { s.tables with
      reference := learnedTable s.tables.reference p (s.health[p]).zones }).pictureOk :=
    pictureOk_of_mask (mask_withTables (by simp)) h
  unfold Machine.completeLearning
  refine pictureOk_of_mask (mask_addCause (by simp) (by simp)) (tabled.withPicture ?_)
  simp only [Health.wiped, State.withTables_health]

theorem State.pictureOk.takeSample (h : s.pictureOk) (p : CamPort) (st : FrameStats) : (takeSample p st s).pictureOk := by
  have learned : (s.withHealth p ((s.health[p]).learned s.tables.lensParams[p] st)).pictureOk :=
    h.withPicture (by simp only [Health.learned])
  have scored : (s.withHealth p ((s.health[p]).scored s.tables.lensParams[p] st s.tables.reference s.tables.weight
      p)).pictureOk := h.withPicture (by simp only [Health.scored])
  have unusable : (s.withHealth p (s.health[p]).unusable).pictureOk := h.withPicture (by simp only [Health.unusable])
  unfold Machine.takeSample
  dsimp only
  split
  · exact h
  · exact pictureOk_ite (pictureOk_ite (learned.completeLearning p) learned) h
  all_goals exact pictureOk_ite scored unusable

theorem State.pictureOk.takeFrame (h : s.pictureOk) {p : CamPort} (locked : (s.cams[p]).link = .locked)
    (st : FrameStats) : (takeFrame p st s).pictureOk := by
  have ran : (s.withHealth p ((s.health[p]).runs st (s.tables.lensParams[p]).darkLevel)).pictureOk :=
    h.withHealth (iff_of_false (pictureFrom_ne _ _) fun unlocked => unlocked locked)
  have counted : ∀ u : State, u.pictureOk → ∀ n, (u.withHealth p { u.health[p] with sampleCount := n }).pictureOk :=
    fun u hu n => hu.withPicture rfl
  have reported := pictureOk_ite (c := ((s.withHealth p ((s.health[p]).runs st
    (s.tables.lensParams[p]).darkLevel)).health[p]).picture = (s.health[p]).picture)
    ran (pictureOk_of_mask (mask_addCause (k := .pictureChange) (n := p.val) (e := false) (by simp) (by simp)) ran)
  unfold Machine.takeFrame
  exact pictureOk_ite ((counted _ reported _).takeSample p st) (counted _ reported _)

/-- What a good frame end does to the port leaves its link state (R6). -/
theorem endGood_link (p : CamPort) (f : OpenFrame) (s : State) (q : CamPort) :
    ((endGood p f s).cams[q]).link = (s.cams[q]).link := by
  have counted : ∀ (k : PortCounter) (u : State), ((countCam p k u).cams[q]).link = (u.cams[q]).link := fun k u => by
    unfold countCam
    rw [State.withCam_cams]
    by_cases same : p = q
    · subst same; rw [getElem_set_same]
    · rw [getElem_set_ne _ same]
  have ended : ((s.withCam p ((s.cams[p]).ended f s)).cams[q]).link = (s.cams[q]).link := by
    rw [State.withCam_cams]
    by_cases same : p = q
    · subst same; rw [getElem_set_same]; rfl
    · rw [getElem_set_ne _ same]
  unfold endGood
  dsimp only
  split
  · rw [counted, counted, ended]
  · rw [counted, ended]

theorem State.pictureOk.frameTaken (h : s.pictureOk) {p : CamPort} (locked : (s.cams[p]).link = .locked)
    (f : OpenFrame) (pic : Picture) : (frameTaken p f pic s).pictureOk := by
  have ended : ((endGood p f s).withSums p (gather pic.luma f.width f.height)).pictureOk := by
    intro q
    rw [State.withSums, State.withEngine_health, State.withEngine_cams, endGood_link]
    have health : s.health = (endGood p f s).health := same_of_mask (l := [.cams]) (by simp) .health (by simp)
    rw [← health]
    exact h q
  have locked' : (((endGood p f s).withSums p (gather pic.luma f.width f.height)).cams[p]).link = .locked := by
    rw [State.withSums, State.withEngine_cams, endGood_link, locked]
  exact pictureOk_of_mask (by simp [Machine.frameTaken])
    (ended.takeFrame locked' (frameStats f (gather pic.luma f.width f.height)))

theorem Change.pictureOk (c : Change s t) (h : s.pictureOk) : t.pictureOk := by
  cases c with
  | work w =>
    cases w with
    | move m => exact m.pictureOk h
    | takes p f pic _ locked => exact h.frameTaken locked f pic
    | window => exact h
  | mode => exact h
  | orient => exact h
  | reset =>
    obtain ⟨-, -, -, -, -, -, -, -, -, -, -, -, picture, -⟩ := resetMeetsTheLaws
    exact picture
  | restart c =>
    intro p
    have health : (keepCopy c s s.afterRestart).health[p] = s.restartHealth p := by
      simp [keepCopy, State.afterRestart]
    have cams : (keepCopy c s s.afterRestart).cams[p] = CameraPort.reset := by
      simp [keepCopy, State.afterRestart, State.reset]
    rw [health, cams]
    simp [State.restartHealth, Health.reset, CameraPort.reset]

theorem stepKeepsCameraPorts : Claim.StepKeepsCameraPorts :=
  fun _ _ timers picture e => ⟨step_keeps (fun _ _ c => c.timersOk) e timers, step_keeps (fun _ _ c => c.pictureOk) e picture⟩

/-! ### Power at one port -/

/-- R2, R3 for one port: power with demand only, OFF without it only. -/
def State.demandAt (s : State) (p : CamPort) : Prop :=
  ((s.cams[p]).power = true → s.demand p = true) ∧ ((s.cams[p]).link = .off → s.demand p = false)

/-- R184 for one port: a relearn hold stands while the port is LEARNING. -/
def State.holdAt (s : State) (p : CamPort) : Prop := (s.health[p]).relearnHold = true → (s.health[p]).lens = .learning

/-- R2, R184, R186 for one port. -/
structure State.powerAt (s : State) (p : CamPort) : Prop where
  demand : s.demandAt p
  hold : s.holdAt p
  survey : s.survey.port = some p → (s.cams[p]).power = true

/-- R186: the survey takes a port exactly while it is not IDLE, and in STANDBY only. -/
structure State.surveyOk (s : State) : Prop where
  idle : s.survey.phase = .idle ↔ s.survey.port = none
  standby : s.survey.port ≠ none → s.mode = .standby

theorem powerOk_iff (s : State) : s.powerOk ↔ (∀ p : CamPort, s.powerAt p) ∧ s.surveyOk := by
  constructor
  · rintro ⟨ports, idle, standby⟩
    refine ⟨fun p => ?_, idle, standby⟩
    obtain ⟨power, off, hold, survey⟩ := ports p
    exact ⟨⟨power, off⟩, hold, survey⟩
  · rintro ⟨ports, survey⟩
    exact ⟨fun p => ⟨(ports p).demand.1, (ports p).demand.2, (ports p).hold, (ports p).survey⟩, survey.idle,
      survey.standby⟩

/-- The law everywhere but for the power of one port. -/
structure State.powerAway (s : State) (p : CamPort) : Prop where
  others : ∀ q : CamPort, q ≠ p → s.powerAt q
  hold : s.holdAt p
  survey : s.surveyOk

theorem State.powerOk.away (h : s.powerOk) (p : CamPort) : s.powerAway p := by
  obtain ⟨ports, survey⟩ := (powerOk_iff s).mp h
  exact ⟨fun q _ => ports q, (ports p).hold, survey⟩

theorem State.powerOk.at (h : s.powerOk) (p : CamPort) : s.powerAt p := ((powerOk_iff s).mp h).1 p

theorem State.powerOk.surveyOk (h : s.powerOk) : s.surveyOk := ((powerOk_iff s).mp h).2

theorem State.powerAway.powerOk {p : CamPort} (h : s.powerAway p) (own : s.powerAt p) : s.powerOk :=
  (powerOk_iff s).mpr ⟨fun q => by
    by_cases same : q = p
    · exact same ▸ own
    · exact h.others q same, h.survey⟩

/-- What power at a port is read from. -/
structure samePower (s t : State) (p : CamPort) : Prop where
  mode : t.mode = s.mode
  link : (t.cams[p]).link = (s.cams[p]).link
  hold : (t.health[p]).relearnHold = (s.health[p]).relearnHold
  lens : (s.health[p]).relearnHold = true → (s.health[p]).lens = .learning → (t.health[p]).lens = .learning
  survey : t.survey.port = some p ↔ s.survey.port = some p
  enabled : (t.tables.cameraConfig[p]).enabled = (s.tables.cameraConfig[p]).enabled

theorem samePower.demand {p : CamPort} (h : samePower s t p) : t.demand p = s.demand p := by
  have port : (t.survey.port == some p) = (s.survey.port == some p) := by
    rw [Bool.eq_iff_iff, beq_iff_eq, beq_iff_eq, h.survey]
  simp only [State.demand, h.mode, h.hold, h.enabled, port]

theorem samePower.demandAt {p : CamPort} (h : samePower s t p) (own : s.demandAt p) : t.demandAt p := by
  unfold State.demandAt
  rw [h.demand, CameraPort.power, h.link]
  exact own

theorem samePower.powerAt {p : CamPort} (h : samePower s t p) (own : s.powerAt p) : t.powerAt p := by
  refine ⟨h.demandAt own.demand, fun hold => ?_, fun port => ?_⟩
  · rw [h.hold] at hold
    exact h.lens hold (own.hold hold)
  · rw [CameraPort.power, h.link]
    exact own.survey (h.survey.mp port)

/-- States that agree on what power is read from. -/
structure samePowers (s t : State) : Prop where
  ports : ∀ p, samePower s t p
  survey : t.survey.port = s.survey.port
  phase : t.survey.phase = s.survey.phase

theorem samePowers.surveyOk (h : samePowers s t) (own : s.surveyOk) : t.surveyOk := by
  constructor
  · rw [h.survey, h.phase]; exact own.idle
  · rw [h.survey, (h.ports 0).mode]; exact own.standby

theorem samePowers.powerOk (h : samePowers s t) (own : s.powerOk) : t.powerOk := by
  rw [powerOk_iff] at own ⊢
  exact ⟨fun p => (h.ports p).powerAt (own.1 p), h.surveyOk own.2⟩

end

end Sys2Proof.Machine
end

section
/-! PROOF. Power under the operations of the camera ports and the survey (R2, R3, R184 to R188). -/

namespace Sys2Proof.Machine

section
variable {s t u : State} {p q : CamPort}

theorem samePower.refl (s : State) (p : CamPort) : samePower s s p := ⟨rfl, rfl, rfl, fun _ => id, Iff.rfl, rfl⟩

theorem samePowers.refl (s : State) : samePowers s s := ⟨samePower.refl s, rfl, rfl⟩

/-- States that agree on the parts that power is read from. -/
theorem samePowers_of_parts (mode : t.mode = s.mode) (cams : t.cams = s.cams) (health : t.health = s.health)
    (survey : t.survey = s.survey) (config : t.tables.cameraConfig = s.tables.cameraConfig) : samePowers s t := by
  refine ⟨fun p => ⟨mode, by rw [cams], by rw [health], fun _ => ?_, by rw [survey], by rw [config]⟩, by rw [survey],
    by rw [survey]⟩
  rw [health]
  exact id

theorem samePowers_of_mask (same : t.mask (allBut [.mode, .cams, .health, .survey, .tables])
    = s.mask (allBut [.mode, .cams, .health, .survey, .tables])) : samePowers s t := by
  have mode : s.mode = t.mode := same_of_allBut same .mode (by simp)
  have cams : s.cams = t.cams := same_of_allBut same .cams (by simp)
  have health : s.health = t.health := same_of_allBut same .health (by simp)
  have survey : s.survey = t.survey := same_of_allBut same .survey (by simp)
  have tables : s.tables = t.tables := same_of_allBut same .tables (by simp)
  exact samePowers_of_parts mode.symm cams.symm health.symm survey.symm (by rw [tables])

theorem State.powerOk.of_mask (h : s.powerOk) (same : t.mask (allBut [.mode, .cams, .health, .survey, .tables])
    = s.mask (allBut [.mode, .cams, .health, .survey, .tables])) : t.powerOk :=
  (samePowers_of_mask same).powerOk h

theorem samePowers.away (h : samePowers s t) (own : s.powerAway p) : t.powerAway p :=
  ⟨fun q other => (h.ports q).powerAt (own.others q other), fun hold => by
    rw [(h.ports p).hold] at hold
    exact (h.ports p).lens hold (own.hold hold), h.surveyOk own.survey⟩

theorem powerOk_ite {c : Prop} [Decidable c] (hs : c → s.powerOk) (ht : ¬c → t.powerOk) :
    (if c then s else t).powerOk := by
  split
  · exact hs ‹_›
  · exact ht ‹_›

/-- A port record with its link state as it was. -/
theorem samePowers_withCam {c : CameraPort} (link : c.link = (s.cams[p]).link) : samePowers s (s.withCam p c) := by
  refine ⟨fun q => ⟨rfl, ?_, rfl, fun _ => id, Iff.rfl, rfl⟩, rfl, rfl⟩
  rw [State.withCam_cams]
  by_cases same : p = q
  · subst same; rw [getElem_set_same, link]
  · rw [getElem_set_ne _ same]

/-- A health record with its hold as it was, LEARNING where it was under a hold. -/
theorem samePowers_withHealth {k : Health} (hold : k.relearnHold = (s.health[p]).relearnHold)
    (lens : (s.health[p]).relearnHold = true → (s.health[p]).lens = .learning → k.lens = .learning) :
    samePowers s (s.withHealth p k) := by
  refine ⟨fun q => ?_, rfl, rfl⟩
  by_cases same : p = q
  · subst same
    refine ⟨rfl, rfl, ?_, fun was is => ?_, Iff.rfl, rfl⟩
    · rw [State.withHealth_health, getElem_set_same, hold]
    · rw [State.withHealth_health, getElem_set_same]
      exact lens was is
  · refine ⟨rfl, rfl, ?_, fun _ is => ?_, Iff.rfl, rfl⟩
    · rw [State.withHealth_health, getElem_set_ne _ same]
    · rw [State.withHealth_health, getElem_set_ne _ same]
      exact is

theorem samePower_withHealth_other {k : Health} (other : q ≠ p) : samePower s (s.withHealth p k) q := by
  have health : (s.withHealth p k).health[q] = s.health[q] := getElem_set_ne _ other.symm _
  refine ⟨rfl, rfl, by rw [health], fun _ => ?_, Iff.rfl, rfl⟩
  rw [health]
  exact id

/-! ### Changes of link state -/

theorem afterLink_relearnHold (h : Health) (old new : CameraLink) :
    (h.afterLink old new).relearnHold = h.relearnHold := by
  unfold Health.afterLink
  split
  · rfl
  · split <;> rfl

theorem afterLink_lens (h : Health) (old new : CameraLink) : (h.afterLink old new).lens = h.lens := by
  unfold Health.afterLink
  split
  · rfl
  · split <;> rfl

/-- What a change of link state leaves of the health records (R61). -/
theorem moveLink_health (p : CamPort) (new : CameraLink) (extra : List (CauseKind × Nat)) (s : State) :
    (moveLink p new extra s).health = s.health.set p ((s.health[p]).afterLink (s.cams[p]).link new) := by
  have added : ∀ cs u, (addTogether cs u).health = u.health := fun cs u =>
    (same_of_mask (mask_addTogether (l := [.agent, .trunk]) (by simp) (by simp)) .health (by simp)).symm
  have ended : (if (s.cams[p]).link = .locked then endBadly p s else s).health = s.health := by
    split
    · exact (same_of_mask (mask_endBadly (l := [.engine, .store]) (by simp) (by simp)) .health (by simp)).symm
    · rfl
  rw [moveLink_eq, added, movedLink, State.withHealth_health, State.withCam_health, ended]

theorem moveLink_same (p : CamPort) (new : CameraLink) (extra : List (CauseKind × Nat)) (s : State) :
    (moveLink p new extra s).mode = s.mode ∧ (moveLink p new extra s).survey = s.survey
      ∧ (moveLink p new extra s).tables = s.tables := by
  have same : SameBut [.cams, .health, .engine, .store, .agent, .trunk] s (moveLink p new extra s) :=
    (sameBut_iff_mask _ _ _).mpr (by simp)
  exact ⟨(same .mode (by simp)).symm, (same .survey (by simp)).symm, (same .tables (by simp)).symm⟩

/-- A change of a port's link state leaves power at the others. -/
theorem samePower_moveLink (other : q ≠ p) (new : CameraLink) (extra : List (CauseKind × Nat)) :
    samePower s (moveLink p new extra s) q := by
  obtain ⟨mode, survey, tables⟩ := moveLink_same p new extra s
  have health : (moveLink p new extra s).health[q] = s.health[q] := by
    rw [moveLink_health, getElem_set_ne _ other.symm]
  refine ⟨mode, ?_, by rw [health], fun _ => ?_, by rw [survey], by rw [tables]⟩
  · rw [moveLink_cams, getElem_set_ne _ other.symm]
  · rw [health]; exact id

theorem moveLink_link (p : CamPort) (new : CameraLink) (extra : List (CauseKind × Nat)) (s : State) :
    ((moveLink p new extra s).cams[p]).link = new := by
  rw [moveLink_cams, getElem_set_same]; rfl

theorem moveLink_demand (p : CamPort) (new : CameraLink) (extra : List (CauseKind × Nat)) (s : State) (q : CamPort) :
    (moveLink p new extra s).demand q = s.demand q := by
  obtain ⟨mode, survey, tables⟩ := moveLink_same p new extra s
  have hold : ((moveLink p new extra s).health[q]).relearnHold = (s.health[q]).relearnHold := by
    rw [moveLink_health]
    by_cases same : p = q
    · subst same; rw [getElem_set_same, afterLink_relearnHold]
    · rw [getElem_set_ne _ same]
  simp only [State.demand, mode, survey, tables, hold]

theorem State.holdAt.moveLink (h : s.holdAt q) (p : CamPort) (new : CameraLink) (extra : List (CauseKind × Nat)) :
    (moveLink p new extra s).holdAt q := by
  unfold State.holdAt
  rw [moveLink_health]
  by_cases same : p = q
  · subst same
    rw [getElem_set_same, afterLink_relearnHold, afterLink_lens]
    exact h
  · rw [getElem_set_ne _ same]
    exact h

theorem State.powerAway.moveLink (h : s.powerAway p) (new : CameraLink) (extra : List (CauseKind × Nat)) :
    (moveLink p new extra s).powerAway p := by
  obtain ⟨mode, survey, -⟩ := moveLink_same p new extra s
  refine ⟨fun q other => (samePower_moveLink other new extra).powerAt (h.others q other), h.hold.moveLink p new extra,
    ⟨?_, ?_⟩⟩
  · rw [survey]; exact h.survey.idle
  · rw [survey, mode]; exact h.survey.standby

/-! ### Power demand re-evaluated -/

/-- A port's power after its demand was re-evaluated (R2, R3). -/
theorem reevaluateDemand_at (hold : s.holdAt p)
    (survey : s.survey.port = some p → s.mode = .standby ∧ (s.cams[p]).link ≠ .testing ∧ (s.cams[p]).link ≠ .powerFault) :
    (reevaluateDemand p s).powerAt p := by
  have wanted : s.survey.port = some p → s.demand p = true := fun port => by
    simp [State.demand, (survey port).1, port]
  have moved : ∀ new : CameraLink, (new.powered = true → s.demand p = true) → (new = .off → s.demand p = false) →
      (s.survey.port = some p → new.powered = true) → (moveLink p new [] s).powerAt p := by
    intro new power off port
    refine ⟨⟨?_, ?_⟩, hold.moveLink p new [], ?_⟩
    · rw [CameraPort.power, moveLink_link, moveLink_demand]; exact power
    · rw [moveLink_link, moveLink_demand]; exact off
    · rw [CameraPort.power, moveLink_link, (moveLink_same p new [] s).2.1]; exact port
  have stands : ((s.cams[p]).link.powered = true → s.demand p = true) → ((s.cams[p]).link = .off → s.demand p = false) →
      (s.survey.port = some p → (s.cams[p]).link.powered = true) → s.powerAt p := fun power off port =>
    ⟨⟨power, off⟩, hold, port⟩
  cases link : (s.cams[p]).link with
  | off =>
    rw [link] at stands
    simp only [reevaluateDemand, link]
    split
    next demand => exact moved _ (fun _ => demand) (fun off => by cases off) fun _ => rfl
    next none =>
      have none : s.demand p = false := by simpa using none
      exact stands (fun on => by cases on) (fun _ => none) fun port => by rw [wanted port] at none; cases none
  | waking | locked | lost =>
    rw [link] at stands
    simp only [reevaluateDemand, link]
    split
    next demand => exact stands (fun _ => demand) (fun off => by cases off) fun _ => rfl
    next none =>
      have none : s.demand p = false := by simpa using none
      exact moved _ (fun on => by cases on) (fun _ => none) fun port => by rw [wanted port] at none; cases none
  | testing =>
    rw [link] at stands
    simp only [reevaluateDemand, link]
    exact stands (fun on => by cases on) (fun off => by cases off) fun port => absurd link (survey port).2.1
  | powerFault =>
    rw [link] at stands
    simp only [reevaluateDemand, link]
    exact stands (fun on => by cases on) (fun off => by cases off) fun port => absurd link (survey port).2.2

/-- Re-evaluating a port's demand is nothing, or one change of its link state. -/
theorem reevaluateDemand_cases (p : CamPort) (s : State) :
    reevaluateDemand p s = s ∨ ∃ new, reevaluateDemand p s = moveLink p new [] s := by
  unfold reevaluateDemand
  split
  · split
    · exact .inr ⟨_, rfl⟩
    · exact .inl rfl
  · split
    · exact .inl rfl
    · exact .inr ⟨_, rfl⟩
  · split
    · exact .inl rfl
    · exact .inr ⟨_, rfl⟩
  · split
    · exact .inl rfl
    · exact .inr ⟨_, rfl⟩
  · exact .inl rfl
  · exact .inl rfl

theorem samePower_reevaluateDemand (other : q ≠ p) : samePower s (reevaluateDemand p s) q := by
  rcases reevaluateDemand_cases p s with e | ⟨new, e⟩
  · rw [e]; exact .refl s q
  · rw [e]; exact samePower_moveLink other new []

theorem State.holdAt.reevaluateDemand (h : s.holdAt q) (p : CamPort) : (reevaluateDemand p s).holdAt q := by
  rcases reevaluateDemand_cases p s with e | ⟨new, e⟩
  · rw [e]; exact h
  · rw [e]; exact h.moveLink p new []

theorem reevaluateDemand_same (p : CamPort) (s : State) :
    (reevaluateDemand p s).mode = s.mode ∧ (reevaluateDemand p s).survey = s.survey := by
  rcases reevaluateDemand_cases p s with e | ⟨new, e⟩
  · rw [e]; exact ⟨rfl, rfl⟩
  · rw [e]; exact ⟨(moveLink_same p new [] s).1, (moveLink_same p new [] s).2.1⟩

/-- Re-evaluating a port's demand brings the law about at the port, where the survey does not stand on a port that is
TESTING or in POWER_FAULT. -/
theorem State.powerAway.reevaluateDemand (h : s.powerAway p)
    (link : s.survey.port = some p → (s.cams[p]).link ≠ .testing ∧ (s.cams[p]).link ≠ .powerFault) :
    (reevaluateDemand p s).powerOk := by
  obtain ⟨mode, survey⟩ := reevaluateDemand_same p s
  refine State.powerAway.powerOk ⟨fun q other => (samePower_reevaluateDemand other).powerAt (h.others q other),
    h.hold.reevaluateDemand p, ⟨?_, ?_⟩⟩ (reevaluateDemand_at h.hold fun port => ⟨?_, link port⟩)
  · rw [survey]; exact h.survey.idle
  · rw [survey, mode]; exact h.survey.standby
  · exact h.survey.standby (by rw [port]; simp)

theorem link_of_power {c : CameraPort} (power : c.power = true) : c.link ≠ .testing ∧ c.link ≠ .powerFault := by
  constructor <;> intro link <;> simp [CameraPort.power, link, CameraLink.powered] at power

theorem State.powerOk.reevaluateDemand (h : s.powerOk) (p : CamPort) : (reevaluateDemand p s).powerOk :=
  (h.away p).reevaluateDemand fun port => link_of_power ((h.at p).survey port)

/-! ### The survey -/

/-- The survey's part put in, where it takes or leaves one port only. -/
theorem samePower_withSurvey {v : Survey} (port : v.port = some q ↔ s.survey.port = some q) :
    samePower s (s.withSurvey v) q :=
  ⟨rfl, rfl, rfl, fun _ => id, port, rfl⟩

theorem powerOk_surveyTake (ps : List CamPort) (ports : ∀ q, s.powerAt q) (free : s.survey.port = none)
    (standby : s.mode = .standby) : (surveyTake ps s).powerOk := by
  induction ps with
  | nil =>
    have same : ∀ q, samePower s (s.withSurvey { s.survey with phase := .idle, port := none, count := 0 }) q :=
      fun q => samePower_withSurvey (by rw [free])
    exact (powerOk_iff _).mpr ⟨fun q => (same q).powerAt (ports q), ⟨iff_of_true rfl rfl, fun some => absurd rfl some⟩⟩
  | cons p ps later =>
    have taken : ∀ v : Survey, v.port = some p → v.phase ≠ .idle → (s.cams[p]).link ≠ .testing →
        (s.cams[p]).link ≠ .powerFault → (reevaluateDemand p (s.withSurvey v)).powerOk := by
      intro v port phase test fault
      refine State.powerAway.reevaluateDemand ⟨fun q other => ?_, (ports p).hold, ⟨?_, fun _ => standby⟩⟩
        fun _ => ⟨test, fault⟩
      · refine (samePower_withSurvey ?_).powerAt (ports q)
        rw [port, free]
        exact iff_of_false (fun same => other (Option.some.inj same).symm) (by simp)
      · rw [State.withSurvey_survey, port]
        exact iff_of_false phase (by simp)
    unfold surveyTake
    refine powerOk_ite (fun _ => ?_) fun _ => later
    split
    · exact later
    · exact later
    next link => exact taken _ rfl (by simp) (by rw [link]; simp) (by rw [link]; simp)
    next link => exact taken _ rfl (by simp) (by rw [link]; simp) (by rw [link]; simp)
    next link => exact taken _ rfl (by simp) (by rw [link]; simp) (by rw [link]; simp)
    next link => exact taken _ rfl (by simp) (by rw [link]; simp) (by rw [link]; simp)

/-- The survey leaves its port: the port's demand is re-evaluated without it, and the next port is taken (R186). -/
theorem State.powerAway.surveyLeave (h : s.powerAway p) (port : s.survey.port = some p) : (surveyLeave p s).powerOk := by
  have standby : s.mode = .standby := h.survey.standby (by rw [port]; simp)
  obtain ⟨mode, survey⟩ := reevaluateDemand_same p (s.withSurvey { s.survey with port := none })
  refine powerOk_surveyTake _ (fun q => ?_) (by rw [survey]; rfl) (by rw [mode]; exact standby)
  by_cases same : q = p
  · subst same
    exact reevaluateDemand_at h.hold fun port => by cases port
  · refine (samePower_reevaluateDemand same).powerAt ((samePower_withSurvey ?_).powerAt (h.others q same))
    rw [port]
    exact iff_of_false (by simp) fun e => same (Option.some.inj e).symm

/-- The survey's part put in with its port as it was, and IDLE as it was. -/
theorem samePowers_withSurvey {v : Survey} (port : v.port = s.survey.port) (phase : v.phase = s.survey.phase) :
    samePowers s (s.withSurvey v) :=
  ⟨fun q => samePower_withSurvey (by rw [port]), port, phase⟩

theorem State.powerOk.withSurvey (h : s.powerOk) {v : Survey} (port : v.port = s.survey.port)
    (phase : v.phase = .idle ↔ s.survey.phase = .idle) : (s.withSurvey v).powerOk := by
  rw [powerOk_iff] at h ⊢
  refine ⟨fun q => (samePower_withSurvey (by rw [port])).powerAt (h.1 q), ⟨?_, ?_⟩⟩
  · rw [State.withSurvey_survey, port, phase]; exact h.2.idle
  · rw [State.withSurvey_survey, port]; exact h.2.standby

/-- The survey's answer to a change of link state of a port brings the law about, where the new state fits the demand
of a port that the survey does not stand on (R186, R187). -/
theorem State.powerAway.surveyReacts (h : s.powerAway p) (fits : s.survey.port ≠ some p → s.demandAt p) :
    (surveyReacts p s).powerOk := by
  by_cases port : s.survey.port = some p
  case neg =>
    rw [Machine.surveyReacts, if_neg port]
    exact h.powerOk ⟨fits port, h.hold, fun e => absurd e port⟩
  have standby : s.mode = .standby := h.survey.standby (by rw [port]; simp)
  have wanted : s.demand p = true := by simp [State.demand, standby, port]
  have powered : (s.cams[p]).power = true → s.powerOk := fun power => by
    refine h.powerOk ⟨⟨fun _ => wanted, fun off => ?_⟩, h.hold, fun _ => power⟩
    rw [CameraPort.power, off] at power
    cases power
  rw [Machine.surveyReacts, if_pos port]
  cases link : (s.cams[p]).link with
  | locked =>
    have ok := powered (by rw [CameraPort.power, link]; rfl)
    simp only
    refine powerOk_ite (fun wait => ok.withSurvey rfl ?_) fun _ => ok
    rw [wait]
    exact iff_of_false (by simp) (by simp)
  | waking => exact powered (by rw [CameraPort.power, link]; rfl)
  | off | lost | testing | powerFault => exact h.surveyLeave port

/-- A change of link state with the survey's answer. -/
theorem State.powerAway.changeLink (h : s.powerAway p) {new : CameraLink}
    (fits : s.survey.port ≠ some p → (new.powered = true → s.demand p = true) ∧ (new = .off → s.demand p = false))
    (extra : List (CauseKind × Nat)) : (changeLink p new extra s).powerOk := by
  refine (h.moveLink new extra).surveyReacts fun port => ?_
  rw [(moveLink_same p new extra s).2.1] at port
  unfold State.demandAt
  rw [CameraPort.power, moveLink_link, moveLink_demand]
  exact fits port

/-- The survey counts a frame of its port: the law is brought about, or nothing that power is read from changes. -/
theorem State.powerAway.surveyCount (h : s.powerAway p) :
    (surveyCount p s).powerOk ∨ (∀ q, samePower s (surveyCount p s) q) ∧ (surveyCount p s).surveyOk := by
  by_cases port : s.survey.port = some p
  case neg =>
    rw [Machine.surveyCount, State.surveyPhaseOf, if_neg port]
    exact .inr ⟨.refl s, h.survey⟩
  have counted : ∀ v : Survey, v.port = some p → v.phase ≠ .idle →
      (∀ q, samePower s (s.withSurvey v) q) ∧ (s.withSurvey v).surveyOk := fun v taken phase =>
    ⟨fun q => samePower_withSurvey (by rw [taken, port]), iff_of_false phase (by simp [taken]), fun _ =>
      h.survey.standby (by rw [port]; simp)⟩
  rw [Machine.surveyCount, State.surveyPhaseOf, if_pos port]
  cases phase : s.survey.phase with
  | idle | waitLock => exact .inr ⟨.refl s, h.survey⟩
  | skip =>
    refine .inr ?_
    simp only
    split
    · exact counted _ port (by simp)
    · exact counted _ port (by rw [phase]; simp)
  | burst =>
    simp only
    split
    · exact .inl (h.surveyLeave port)
    · exact .inr (counted _ port (by rw [phase]; simp))

end

end Sys2Proof.Machine
end

section
/-! PROOF. Power under frames and the health monitor: a good frame can end a relearn hold at its own port only, and the
frame's end re-evaluates the demand then (R82, R184). -/

namespace Sys2Proof.Machine

section
variable {s t u : State} {p q : CamPort}

/-! ### A relearn hold that can only end -/

/-- Between two states nothing that power is read from changes, but that the relearn hold of one port may end. -/
structure powerButHold (s t : State) (p : CamPort) : Prop where
  others : ∀ q : CamPort, q ≠ p → samePower s t q
  mode : t.mode = s.mode
  link : (t.cams[p]).link = (s.cams[p]).link
  survey : t.survey = s.survey
  enabled : (t.tables.cameraConfig[p]).enabled = (s.tables.cameraConfig[p]).enabled
  hold : s.holdAt p → t.holdAt p
  falls : (t.health[p]).relearnHold = true → (s.health[p]).relearnHold = true

theorem samePower.trans (a : samePower s t q) (b : samePower t u q) : samePower s u q :=
  ⟨b.mode.trans a.mode, b.link.trans a.link, b.hold.trans a.hold,
    fun hold lens => b.lens (a.hold.trans hold) (a.lens hold lens), b.survey.trans a.survey, b.enabled.trans a.enabled⟩

theorem powerButHold.trans (a : powerButHold s t p) (b : powerButHold t u p) : powerButHold s u p :=
  ⟨fun q other => (a.others q other).trans (b.others q other), b.mode.trans a.mode, b.link.trans a.link,
    b.survey.trans a.survey, b.enabled.trans a.enabled, fun h => b.hold (a.hold h), fun h => a.falls (b.falls h)⟩

theorem powerButHold_of_parts (mode : t.mode = s.mode) (cams : ∀ q : CamPort, (t.cams[q]).link = (s.cams[q]).link)
    (health : t.health = s.health) (survey : t.survey = s.survey)
    (config : t.tables.cameraConfig = s.tables.cameraConfig) : powerButHold s t p := by
  refine ⟨fun q _ => ⟨mode, cams q, by rw [health], fun _ => ?_, by rw [survey], by rw [config]⟩, mode, cams p, survey,
    by rw [config], fun h => ?_, fun h => ?_⟩
  · rw [health]; exact id
  · unfold State.holdAt; rwa [health]
  · rwa [health] at h

theorem powerButHold_of_mask (same : t.mask (allBut [.mode, .cams, .health, .survey, .tables])
    = s.mask (allBut [.mode, .cams, .health, .survey, .tables])) : powerButHold s t p := by
  have mode : s.mode = t.mode := same_of_allBut same .mode (by simp)
  have cams : s.cams = t.cams := same_of_allBut same .cams (by simp)
  have health : s.health = t.health := same_of_allBut same .health (by simp)
  have survey : s.survey = t.survey := same_of_allBut same .survey (by simp)
  have tables : s.tables = t.tables := same_of_allBut same .tables (by simp)
  exact powerButHold_of_parts mode.symm (fun q => by rw [cams]) health.symm survey.symm (by rw [tables])

theorem powerButHold.refl (s : State) (p : CamPort) : powerButHold s s p := powerButHold_of_mask rfl

/-- A health record put in whose hold ends, or stands with the learning. -/
theorem powerButHold_withHealth {k : Health} (falls : k.relearnHold = true → (s.health[p]).relearnHold = true)
    (lens : k.relearnHold = true → (s.health[p]).lens = .learning → k.lens = .learning) :
    powerButHold s (s.withHealth p k) p := by
  have record : (s.withHealth p k).health[p] = k := getElem_set_same _ _ _
  refine ⟨fun q other => samePower_withHealth_other other, rfl, rfl, rfl, rfl, fun h hold => ?_, fun h => ?_⟩
  · rw [record] at hold ⊢
    exact lens hold (h (falls hold))
  · rw [record] at h
    exact falls h

theorem powerButHold_ite {c : Prop} [Decidable c] (ht : powerButHold s t p) (hu : powerButHold s u p) :
    powerButHold s (if c then t else u) p := by
  split
  · exact ht
  · exact hu

theorem powerButHold_withReferences (r : Vector (Option Nat) 192) :
    powerButHold s (s.withTables { s.tables with reference := r }) p :=
  powerButHold_of_parts rfl (fun _ => rfl) rfl rfl rfl

theorem powerButHold_completeLearning : powerButHold s (completeLearning p s) p := by
  have ended : ∀ (u : State) (k : Health), k.relearnHold = false → powerButHold u (u.withHealth p k) p :=
    fun u k none => powerButHold_withHealth (fun h => by rw [none] at h; cases h) fun h => by rw [none] at h; cases h
  unfold completeLearning
  refine (powerButHold_withReferences _).trans (.trans (ended _ _ ?_) (powerButHold_of_mask
    (mask_addCause (by simp) (by simp))))
  rfl

/-- A sample moves no hold but by completing the learning (R82, R184). -/
theorem powerButHold_takeSample (hold : s.holdAt p) (st : FrameStats) : powerButHold s (takeSample p st s) p := by
  have learned : powerButHold s (s.withHealth p ((s.health[p]).learned s.tables.lensParams[p] st)) p :=
    powerButHold_withHealth (by simp only [Health.learned]; exact id) (by simp only [Health.learned]; exact fun _ => id)
  have unheld : (s.health[p]).lens ≠ .learning → (s.health[p]).relearnHold = false := fun other => by
    cases held : (s.health[p]).relearnHold with
    | false => rfl
    | true => exact absurd (hold held) other
  have rated : (s.health[p]).lens ≠ .learning → ∀ k : Health, k.relearnHold = (s.health[p]).relearnHold →
      powerButHold s (s.withHealth p k) p := fun other k same => by
    have clear : k.relearnHold ≠ true := by rw [same, unheld other]; simp
    exact powerButHold_withHealth (fun h => absurd h clear) fun h => absurd h clear
  unfold takeSample
  dsimp only
  split
  · exact .refl s p
  · exact powerButHold_ite (powerButHold_ite (learned.trans powerButHold_completeLearning) learned) (.refl s p)
  all_goals
    rename_i lens
    refine powerButHold_ite (rated (by rw [lens]; simp) _ ?_) (rated (by rw [lens]; simp) _ ?_)
    · simp only [Health.scored]
    · simp only [Health.unusable]

theorem powerButHold_takeFrame (hold : s.holdAt p) (st : FrameStats) : powerButHold s (takeFrame p st s) p := by
  have ran : powerButHold s (s.withHealth p ((s.health[p]).runs st (s.tables.lensParams[p]).darkLevel)) p :=
    powerButHold_withHealth (by simp only [Health.runs]; exact id) (by simp only [Health.runs]; exact fun _ => id)
  have counted : ∀ u : State, ∀ n, powerButHold u (u.withHealth p { u.health[p] with sampleCount := n }) p :=
    fun u n => powerButHold_withHealth (by exact id) (by exact fun _ => id)
  have reported := powerButHold_ite (c := ((s.withHealth p ((s.health[p]).runs st
    (s.tables.lensParams[p]).darkLevel)).health[p]).picture = (s.health[p]).picture)
    ran (ran.trans (powerButHold_of_mask (mask_addCause (k := .pictureChange) (n := p.val) (e := false) (by simp)
      (by simp))))
  have sampled := fun n => reported.trans (counted _ n)
  unfold takeFrame
  exact powerButHold_ite ((sampled _).trans (powerButHold_takeSample ((sampled _).hold hold) st)) (sampled _)

theorem powerButHold_frameTaken (hold : s.holdAt p) (f : OpenFrame) (pic : Picture) :
    powerButHold s (frameTaken p f pic s) p := by
  have ended : powerButHold s ((endGood p f s).withSums p (gather pic.luma f.width f.height)) p := by
    have same : SameBut [.cams, .engine] s ((endGood p f s).withSums p (gather pic.luma f.width f.height)) :=
      (sameBut_iff_mask _ _ _).mpr (by simp)
    have tables : s.tables = _ := same .tables (by simp)
    refine powerButHold_of_parts (same .mode (by simp)).symm (fun q => ?_) (same .health (by simp)).symm
      (same .survey (by simp)).symm (by rw [← tables])
    rw [State.withSums, State.withEngine_cams, endGood_link]
  refine (ended.trans (powerButHold_takeFrame (ended.hold hold) (frameStats f (gather pic.luma f.width f.height)))).trans
    (powerButHold_of_mask ?_)
  simp [frameTaken]

/-- Where the hold stands as it did, nothing that power is read from changes. -/
theorem powerButHold.samePower (h : powerButHold s t p) (own : s.holdAt p)
    (hold : (t.health[p]).relearnHold = (s.health[p]).relearnHold) (q : CamPort) : samePower s t q := by
  by_cases same : q = p
  · subst same
    exact ⟨h.mode, h.link, hold, fun was _ => h.hold own (hold.trans was), by rw [h.survey], h.enabled⟩
  · exact h.others q same

theorem powerButHold.away (h : powerButHold s t p) (own : s.powerAway p) : t.powerAway p :=
  ⟨fun q other => (h.others q other).powerAt (own.others q other), h.hold own.hold, by
    rw [h.survey]; exact own.survey.idle, by rw [h.survey, h.mode]; exact own.survey.standby⟩

theorem powerButHold.powerOk (h : powerButHold s t p) (own : s.powerOk)
    (hold : (t.health[p]).relearnHold = (s.health[p]).relearnHold) : t.powerOk :=
  (powerOk_iff t).mpr ⟨fun q => (h.samePower (own.at p).hold hold q).powerAt (own.at q), (h.away (own.away p)).survey⟩

theorem State.powerOk.surveyCount (h : s.powerOk) (p : CamPort) : (surveyCount p s).powerOk := by
  rcases (h.away p).surveyCount with ok | ⟨same, survey⟩
  · exact ok
  · exact (powerOk_iff _).mpr ⟨fun q => (same q).powerAt (h.at q), survey⟩

/-- The end of a good frame re-evaluates the demand of its port when a relearn hold ended with it (R82, R184). -/
theorem State.powerOk.goodEnd (h : s.powerOk) (locked : (s.cams[p]).link = .locked) (f : OpenFrame) (pic : Picture) :
    (goodEnd p f pic s).powerOk := by
  have taken : powerButHold s (lensEvent p (s.health[p]).lens (frameTaken p f pic s)) p :=
    (powerButHold_frameTaken (h.at p).hold f pic).trans (powerButHold_of_mask (by simp))
  rw [goodEnd_eq]
  dsimp only
  generalize lensEvent p (s.health[p]).lens (frameTaken p f pic s) = u at taken
  by_cases hold : (u.health[p]).relearnHold = (s.health[p]).relearnHold
  · have counted := (taken.powerOk h hold).surveyCount p
    exact powerOk_ite (fun _ => counted.reevaluateDemand p) fun _ => counted
  · have away := taken.away (h.away p)
    rcases away.surveyCount with ok | ⟨same, survey⟩
    · exact powerOk_ite (fun _ => ok.reevaluateDemand p) fun _ => ok
    · have counted : (Machine.surveyCount p u).powerAway p :=
        ⟨fun q other => (same q).powerAt (away.others q other), fun held => by
          rw [(same p).hold] at held
          exact (same p).lens held (away.hold held), survey⟩
      have before : (s.health[p]).relearnHold = true := by
        cases was : (s.health[p]).relearnHold with
        | true => rfl
        | false =>
          refine absurd ?_ hold
          cases is : (u.health[p]).relearnHold with
          | false => exact was.symm
          | true => rw [taken.falls is] at was; cases was
      have after : ((Machine.surveyCount p u).health[p]).relearnHold = false := by
        rw [before] at hold
        rw [(same p).hold, Bool.eq_false_iff]
        exact hold
      rw [if_pos (by rw [before, after]; rfl)]
      refine counted.reevaluateDemand fun _ => ?_
      rw [(same p).link, taken.link, locked]
      exact ⟨by simp, by simp⟩

/-! ### Frames and timers -/

theorem samePowers_countCam (p : CamPort) (k : PortCounter) : samePowers s (countCam p k s) := samePowers_withCam rfl

/-- A port that has power wants it, also as it is lost (R2). -/
theorem State.powerOk.lose (h : s.powerOk) (power : (s.cams[p]).power = true) {new : CameraLink} (powered : new ≠ .off)
    (extra : List (CauseKind × Nat)) : (changeLink p new extra s).powerOk :=
  (h.away p).changeLink (fun _ => ⟨fun _ => (h.at p).demand.1 power, fun off => absurd off powered⟩) extra

theorem power_of_link {c : CameraPort} {x : CameraLink} (link : c.link = x) (on : x.powered = true) : c.power = true := by
  rw [CameraPort.power, link, on]

theorem State.powerOk.failFrame (h : s.powerOk) (p : CamPort) : (failFrame p s).powerOk := by
  have counted := (samePowers_countCam p .frameErrors).powerOk h
  refine powerOk_ite (fun locked => counted.lose ?_ (by simp) _) fun _ =>
    (samePowers_withCam (by rfl)).powerOk counted
  rw [countCam_cam]
  exact power_of_link locked rfl

theorem samePowers.trans (a : samePowers s t) (b : samePowers t u) : samePowers s u :=
  ⟨fun p => (a.ports p).trans (b.ports p), b.survey.trans a.survey, b.phase.trans a.phase⟩

theorem samePowers_ite {c : Prop} [Decidable c] (ht : samePowers s t) (hu : samePowers s u) :
    samePowers s (if c then t else u) := by
  split
  · exact ht
  · exact hu

theorem samePowers_deliverStart (p : CamPort) (x : FrameHead) : samePowers s (deliverStart p x s) := by
  have opened : samePowers s (s.withCam p { s.cams[p] with
      lastRecord := some x.record, openFrame := some ((s.cams[p]).deliver x) }) := samePowers_withCam (by rfl)
  have started := samePowers_ite (c := x.record.sensorFault = true)
    (opened.trans (samePowers_countCam p .sensorFaultFrames)) opened
  refine started.trans (samePowers_of_mask ?_)
  unfold deliverStart
  dsimp only
  rw [mask_beginTile (by simp) (by simp), mask_beginTile (by simp) (by simp), mask_withSums (by simp)]

theorem State.powerOk.takeFrameStart (h : s.powerOk) (p : CamPort) (x : FrameHead) :
    (takeFrameStart p x s).powerOk := by
  unfold Machine.takeFrameStart
  split
  · exact powerOk_ite (fun _ => (samePowers_deliverStart p x).powerOk h) fun _ => h.failFrame p
  · exact powerOk_ite (fun _ => (samePowers_withCam (by rfl)).powerOk h) fun _ => h.failFrame p
  all_goals exact h

theorem State.powerOk.lockPort (h : s.powerOk) (waking : (s.cams[p]).link = .waking) (f : OpenFrame) :
    (lockPort p f s).powerOk := by
  have away := (h.away p).moveLink .locked []
  have named : samePowers (Machine.moveLink p .locked [] s) ((Machine.moveLink p .locked [] s).withCam p
      { (Machine.moveLink p .locked [] s).cams[p] with prevNumber := some f.record.number }) :=
    samePowers_withCam (by rfl)
  refine State.powerAway.surveyReacts (named.away away) fun _ => (named.ports p).demandAt ⟨fun _ => ?_, ?_⟩
  · rw [moveLink_demand]
    exact (h.at p).demand.1 (power_of_link waking rfl)
  · rw [moveLink_link]
    exact fun off => by cases off

theorem State.powerOk.frameEnd (h : s.powerOk) (p : CamPort) (pic : Picture) : (frameEnd p pic s).powerOk := by
  unfold Machine.frameEnd
  split
  · exact h
  · rename_i f _
    refine powerOk_ite (fun listens => powerOk_ite (fun _ => powerOk_ite (fun locked => h.goodEnd locked f pic)
      fun unlocked => h.lockPort ?_ f) fun _ => h.failFrame p) fun _ => h
    rw [CameraPort.listens, Bool.or_eq_true, beq_iff_eq, beq_iff_eq] at listens
    exact listens.resolve_right unlocked

theorem State.powerOk.frameEndIf (h : s.powerOk) (p : CamPort) (pic : Picture) (test : FrameStats → Bool) :
    (frameEndIf p pic test s).powerOk := by
  unfold Machine.frameEndIf
  split
  · exact h
  · exact powerOk_ite (fun _ => h.frameEnd p pic) fun _ => h

theorem State.powerOk.retryPort (h : s.powerOk) (lost : (s.cams[p]).link = .lost) : (retryPort p s).powerOk := by
  refine ((samePowers_countCam p _).powerOk h).lose ?_ (by simp) []
  rw [countCam_cam]
  exact power_of_link lost rfl

theorem State.powerOk.trip (h : s.powerOk) (power : (s.cams[p]).power = true) : (trip p s).powerOk := by
  refine ((samePowers_countCam p _).powerOk h).lose ?_ (by simp) _
  rw [countCam_cam]
  exact power

theorem State.powerOk.startCheck (h : s.powerOk) (p : CamPort) : (startCheck p s).powerOk := by
  have kept := samePowers_withCam (s := s) (p := p)
    (c := { s.cams[p] with faultKept := decide ((s.cams[p]).link = .powerFault) }) (by rfl)
  exact State.powerAway.changeLink (new := .testing) ((kept.powerOk h).away p) (fun _ => ⟨nofun, nofun⟩) []

/-- The end of a probe takes the port where its demand wants it (R16). -/
theorem State.powerOk.endCheck (h : s.powerOk) (p : CamPort) (f : ProbeFinding) : (endCheck p f s).powerOk := by
  have stored : samePowers s (addCause .cableDone p.val false (s.withCam p { s.cams[p] with
      cableResult := some (ProbeFinding.result (s.found p f)), faultKept := false })) :=
    (samePowers_withCam (by rfl)).trans (samePowers_of_mask (mask_addCause (by simp) (by simp)))
  refine State.powerAway.changeLink (stored.away (h.away p)) (fun _ => ?_) []
  rw [(stored.ports p).demand]
  unfold State.afterCheck
  split
  · exact ⟨nofun, nofun⟩
  · split
    next demand => exact ⟨fun _ => demand, nofun⟩
    next none => exact ⟨nofun, fun _ => by simpa using none⟩

theorem State.powerOk.startSurvey (h : s.powerOk) (idle : s.survey.phase = .idle) (standby : s.mode = .standby) :
    (startSurvey s).powerOk := by
  have free : s.survey.port = none := h.surveyOk.idle.mp idle
  have due := samePowers_withSurvey (s := s) (v := { s.survey with due := s.surveyDue s.nodeTime }) rfl rfl
  exact powerOk_surveyTake _ (fun q => (due.ports q).powerAt (h.at q)) free standby

/-- A write of CAMERA_CONFIG is taken where only its own port's demand changed (R8). -/
theorem State.powerAway.cameraTakes (h : s.powerAway p) (powered : s.survey.port = some p → (s.cams[p]).power = true) :
    (cameraTakes p s).powerOk := by
  have link := fun port => link_of_power (powered port)
  unfold Machine.cameraTakes
  split
  · exact h.reevaluateDemand link
  · exact h.reevaluateDemand link
  · exact h.reevaluateDemand link
  · exact h.reevaluateDemand link
  next testing =>
    have off : (s.cams[p]).power ≠ true := by rw [CameraPort.power, testing]; simp [CameraLink.powered]
    refine (samePowers_withCam (by rfl)).powerOk (h.powerOk ⟨⟨fun on => absurd on off, fun is => ?_⟩, h.hold, powered⟩)
    rw [testing] at is
    cases is
  next =>
    refine h.changeLink (fun _ => ?_) []
    split
    next demand => exact ⟨fun _ => demand, nofun⟩
    next none => exact ⟨nofun, fun _ => by simpa using none⟩

/-! ### The health monitor's commands -/

theorem samePowers_lensEvent (p : CamPort) (before : LensCondition) : samePowers s (lensEvent p before s) :=
  samePowers_of_mask (by simp)

theorem powerOk_lensEvent (h : s.powerOk) (p : CamPort) (before : LensCondition) : (lensEvent p before s).powerOk :=
  (samePowers_lensEvent p before).powerOk h

theorem moved_relearnHold (h : Health) (e : LensParams) : (h.moved e).relearnHold = h.relearnHold := by
  unfold Health.moved; split <;> rfl

/-- The health record of a learning that has failed (R83). -/
def Health.failed (h : Health) (e : LensParams) : Health :=
  Health.moved { h with lens := h.restored, keptAside := none, deadline := none, relearnHold := false } e

theorem Health.failed_relearnHold (h : Health) (e : LensParams) : (h.failed e).relearnHold = false := by
  unfold Health.failed; rw [moved_relearnHold]

theorem failLearning_eq (p : CamPort) (s : State) : failLearning p s = lensEvent p .learning
    (addCause .learnFailed p.val false (s.withHealth p ((s.health[p]).failed s.tables.lensParams[p]))) := rfl

/-- A learning that fails ends its hold, and with it may end the demand of its port alone (R83, R184). -/
theorem powerButHold_failLearning : powerButHold s (failLearning p s) p := by
  have ended := (s.health[p]).failed_relearnHold s.tables.lensParams[p]
  rw [failLearning_eq]
  refine .trans (t := s.withHealth p ((s.health[p]).failed s.tables.lensParams[p])) ?_ (powerButHold_of_mask (by simp))
  exact powerButHold_withHealth (fun h => by rw [ended] at h; cases h) fun h => by rw [ended] at h; cases h

theorem failLearning_relearnHold (p : CamPort) (s : State) : ((failLearning p s).health[p]).relearnHold = false := by
  have health : (s.withHealth p ((s.health[p]).failed s.tables.lensParams[p])).health = (failLearning p s).health :=
    same_of_mask (l := [.agent, .trunk, .store]) (by rw [failLearning_eq]; simp) .health (by simp)
  rw [← health, State.withHealth_health, getElem_set_same, Health.failed_relearnHold]

theorem State.powerOk.learningDeadline (h : s.powerOk) (p : CamPort) : (if (s.health[p]).relearnHold
    then Machine.reevaluateDemand p (failLearning p s) else failLearning p s).powerOk := by
  have failed : powerButHold s (failLearning p s) p := powerButHold_failLearning
  refine powerOk_ite (fun _ => ?_) fun clear => failed.powerOk h ?_
  · refine (failed.away (h.away p)).reevaluateDemand fun port => ?_
    rw [failed.survey] at port
    rw [failed.link]
    exact link_of_power ((h.at p).survey port)
  · rw [failLearning_relearnHold]
    exact (by simpa using clear : (s.health[p]).relearnHold = false).symm

end

end Sys2Proof.Machine
end

section
/-! PROOF. Power under modes, resets and the commands of the agent, and every step. -/

namespace Sys2Proof.Machine

section
variable {s t u : State} {p q : CamPort}

/-! ### Tables and outputs -/

theorem samePowers_withTables {b : Tables} (config : b.cameraConfig = s.tables.cameraConfig) :
    samePowers s (s.withTables b) :=
  samePowers_of_parts rfl rfl rfl rfl config

theorem samePowers_takeApply : samePowers s (takeApply s) := by
  unfold takeApply
  split
  · exact .refl s
  · exact .trans (samePowers_withTables (by rfl)) (samePowers_of_mask (mask_withComp (by simp)))

theorem samePowers_frameStart (sc : Screen) : samePowers s (frameStart sc s) := by
  have applied : samePowers s (takeApply (endFrameHolds sc s)) :=
    .trans (samePowers_of_mask (by simp)) samePowers_takeApply
  exact samePowers_ite (applied.trans (samePowers_of_mask (by simp))) (applied.trans (samePowers_of_mask (by simp)))

theorem samePowers_outputTakes (sc : Screen) (old new : OutputConfig) : samePowers s (outputTakes sc old new s) :=
  samePowers_ite (samePowers_ite (samePowers_ite (samePowers_ite (.refl s) (samePowers_frameStart sc))
    (samePowers_of_mask (mask_stopOutput (by simp) (by simp)))) (samePowers_ite (samePowers_frameStart sc) (.refl s)))
    (.refl s)

theorem samePowers_startOutputs : samePowers s (startOutputs s) := by
  have start : ∀ (sc : Screen) (u : State), samePowers u (if (u.straps.cabEnd
      && (u.tables.outputConfig[sc]).enabled) = true then frameStart sc u else u) := fun sc u =>
    samePowers_ite (samePowers_frameStart sc) (.refl u)
  exact (start 0 s).trans (start 1 _)

/-! ### Modes and resets -/

/-- Every port's demand re-evaluated with no survey brings the law about (R2). -/
theorem foldl_reevaluateDemand_powerAt (ps : List CamPort) :
    ∀ s : State, (∀ q, s.holdAt q) → s.survey.port = none →
      (∀ q, q ∈ ps ∨ s.powerAt q → (ps.foldl (fun t p => reevaluateDemand p t) s).powerAt q)
        ∧ (ps.foldl (fun t p => reevaluateDemand p t) s).survey = s.survey := by
  induction ps with
  | nil => exact fun s _ _ => ⟨fun q h => h.resolve_left (by simp), rfl⟩
  | cons p ps later =>
    intro s holds free
    obtain ⟨-, survey⟩ := reevaluateDemand_same p s
    obtain ⟨ports, same⟩ := later (reevaluateDemand p s) (fun q => (holds q).reevaluateDemand p) (by rw [survey, free])
    refine ⟨fun q h => ports q ?_, by rw [List.foldl_cons, same, survey]⟩
    by_cases here : q = p
    · subst here
      exact .inr (reevaluateDemand_at (holds q) fun port => by rw [free] at port; cases port)
    · rcases h with h | h
      · exact .inl (by simpa [here] using h)
      · exact .inr ((samePower_reevaluateDemand here).powerAt h)

theorem powerOk_eachDemand (holds : ∀ q, s.holdAt q) (free : s.survey.port = none) (idle : s.survey.phase = .idle) :
    (eachPort reevaluateDemand s).powerOk := by
  obtain ⟨ports, survey⟩ := foldl_reevaluateDemand_powerAt (List.finRange 4) s holds free
  refine (powerOk_iff _).mpr ⟨fun q => ports q (.inl (List.mem_finRange q)), ?_⟩
  unfold eachPort
  constructor
  · rw [survey, free, idle]; simp
  · rw [survey, free]; exact fun some => absurd rfl some

/-- No survey stands and every relearn hold stands with its learning: a state where a change of mode, or RESTART, has
the demand of every port re-evaluated. -/
structure State.unsurveyed (s : State) : Prop where
  holds : ∀ q : CamPort, s.holdAt q
  free : s.survey.port = none
  idle : s.survey.phase = .idle

theorem State.unsurveyed.of_mask (h : s.unsurveyed) (same : t.mask (allBut [.health, .survey])
    = s.mask (allBut [.health, .survey])) : t.unsurveyed := by
  have health : s.health = t.health := same_of_allBut same .health (by simp)
  have survey : s.survey = t.survey := same_of_allBut same .survey (by simp)
  refine ⟨fun q => ?_, by rw [← survey, h.free], by rw [← survey, h.idle]⟩
  unfold State.holdAt
  rw [← health]
  exact h.holds q

theorem State.unsurveyed.dropHold (h : s.unsurveyed) (p : CamPort) : (dropHold p s).unsurveyed := by
  refine ⟨fun q => ?_, h.free, h.idle⟩
  by_cases same : p = q
  · subst same
    have record : (Machine.dropHold p s).health[p] = { s.health[p] with relearnHold := false } := getElem_set_same _ _ _
    unfold State.holdAt
    rw [record]
    exact nofun
  · have record : (Machine.dropHold p s).health[q] = s.health[q] := getElem_set_ne _ same _
    unfold State.holdAt
    rw [record]
    exact h.holds q

theorem State.unsurveyed.enterMode (h : s.unsurveyed) (m : Mode) : (enterMode m s).unsurveyed := by
  cases m with
  | run => exact h
  | standby => exact ⟨h.holds, h.free, h.idle⟩
  | bypass =>
    have removed : (removeEntries .b SendEntry.isFetch (removeEntries .a SendEntry.isFetch s)).unsurveyed :=
      h.of_mask (by simp)
    exact List.foldlRecOn (motive := State.unsurveyed) _ _ removed fun u hu p _ => hu.dropHold p

/-- A mode that is left ends the survey, or had none (R186, R188). -/
theorem State.powerOk.leaveMode (h : s.powerOk) (m : Mode) : (leaveMode s.mode (s.withMode m)).unsurveyed := by
  have holds : ∀ q : CamPort, s.holdAt q := fun q => (h.at q).hold
  have unsurveyed : s.mode ≠ .standby → (s.withMode m).unsurveyed := fun other => by
    have free : s.survey.port = none := by
      by_contra taken
      exact other (h.surveyOk.standby taken)
    exact ⟨holds, free, h.surveyOk.idle.mpr free⟩
  cases mode : s.mode with
  | run => exact (unsurveyed (by rw [mode]; simp)).of_mask (by simp [Machine.leaveMode])
  | standby => exact ⟨holds, rfl, rfl⟩
  | bypass => exact unsurveyed (by rw [mode]; simp)

theorem State.unsurveyed.eachDemand (h : s.unsurveyed) : (eachPort Machine.reevaluateDemand s).powerOk :=
  powerOk_eachDemand h.holds h.free h.idle

theorem State.powerOk.changeMode (h : s.powerOk) (m : Mode) : (changeMode m s).powerOk := by
  have entered := (h.leaveMode m).enterMode m
  refine powerOk_ite (fun _ => entered.eachDemand.of_mask (by simp)) fun _ => ?_
  exact State.unsurveyed.eachDemand (entered.of_mask (by simp))

theorem afterReset_powerOk (straps : Straps) (now : NodeTime) (cells : Nat) :
    (s.afterReset straps now cells).powerOk := by
  have cams : ∀ q : CamPort, (s.afterReset straps now cells).cams[q] = CameraPort.reset := fun q => by
    simp [State.afterReset, State.reset]
  have health : ∀ q : CamPort, (s.afterReset straps now cells).health[q] = Health.reset .noReference := fun q => by
    simp [State.afterReset, State.reset]
  have config : ∀ q : CamPort, (s.afterReset straps now cells).tables.cameraConfig[q] = CameraConfig.reset := fun q => by
    simp [State.afterReset, State.reset, Tables.reset]
  have demand : ∀ q, (s.afterReset straps now cells).demand q = false := fun q => by
    unfold State.demand
    rw [health, config]
    simp [State.afterReset, State.reset, Survey.reset, Health.reset, CameraConfig.reset]
  refine (powerOk_iff _).mpr ⟨fun q => ⟨⟨fun on => ?_, fun _ => demand q⟩, fun hold => ?_, fun port => by cases port⟩,
    ⟨iff_of_true rfl rfl, fun some => absurd rfl some⟩⟩
  · rw [cams] at on; cases on
  · rw [health] at hold; cases hold

theorem afterRestart_unsurveyed (s : State) : s.afterRestart.unsurveyed := by
  refine ⟨fun q hold => ?_, rfl, rfl⟩
  have health : s.afterRestart.health[q] = s.restartHealth q := by simp [State.afterRestart]
  rw [health] at hold
  cases hold

theorem restart_powerOk (c : AgentCommand) (s : State) : (restart c s).powerOk := by
  have replied : (replyStatus c .ok (keepCopy c s s.afterRestart)).unsurveyed :=
    (afterRestart_unsurveyed s).of_mask ((mask_replyStatus (by simp)).trans (mask_withTrunk (by simp)))
  refine samePowers_startOutputs.powerOk (powerOk_ite (fun _ => replied.eachDemand.of_mask (by simp)) fun _ => ?_)
  exact State.unsurveyed.eachDemand (replied.of_mask (by simp))

/-! ### The agent's commands -/

theorem State.powerOk.replyStatus (h : s.powerOk) (c : AgentCommand) (st : Status) : (replyStatus c st s).powerOk :=
  h.of_mask (mask_replyStatus (by simp))

theorem State.powerOk.runCommand (h : s.powerOk) {n : CommandName} {applies : State → Bool}
    {act : AgentCommand → State → State} (hact : ∀ c u, u.powerOk → (act c u).powerOk) :
    (runCommand n applies act s).powerOk := by
  have known : (disposeUnknown s.agent.queue s).powerOk := h.of_mask (mask_disposeUnknown (by simp) (by simp))
  have popped : ∀ u : State, u.powerOk → (popCommand u).powerOk := fun u hu => hu.of_mask (mask_popCommand (by simp))
  unfold Machine.runCommand
  dsimp only
  split
  · exact h
  · exact powerOk_ite (fun _ => popped _ (powerOk_ite (fun _ => hact _ _ known)
      fun _ => known.of_mask (mask_reply (by simp)))) fun _ => h

theorem State.powerOk.writeEntry (h : s.powerOk) {α : Type} {entries : Nat} {read : List Byte → Option α}
    {busy : State → Bool} {take : α → State → State} (htake : ∀ v, busy s = false → (take v s).powerOk)
    (c : AgentCommand) : (writeEntry entries read busy take c s).powerOk := by
  unfold Machine.writeEntry
  refine powerOk_ite (fun _ => h.replyStatus c _) fun _ => ?_
  split
  · exact h.replyStatus c _
  · rename_i v _
    refine powerOk_ite (fun _ => h.replyStatus c _) fun ready => State.powerOk.replyStatus ?_ c _
    exact (htake v (by simpa using ready)).of_mask (mask_withPointer (by simp))

/-- A write whose take changes nothing that power is read from. -/
theorem State.powerOk.execWrite (h : s.powerOk) {α : Type} {applies : State → Bool} {entries : Nat}
    {read : State → List Byte → Option α} {busy : State → Bool} {take : State → α → State → State}
    (htake : ∀ u v, u.powerOk → busy u = false → (take u v u).powerOk) :
    (Machine.runCommand .writeNext applies (fun c u => Machine.writeEntry entries (read u) busy (take u) c u) s).powerOk :=
  h.runCommand fun c u hu => hu.writeEntry (fun v ready => htake u v hu ready) c

theorem State.powerOk.takeCameraConfig (h : s.powerOk) (e : CameraConfig) : (takeCameraConfig e s).powerOk := by
  refine State.powerAway.cameraTakes ⟨fun q other => ?_, (h.at _).hold,
    ⟨h.surveyOk.idle, h.surveyOk.standby⟩⟩ (h.at _).survey
  exact samePower.powerAt (s := s) ⟨rfl, rfl, rfl, fun _ => id, Iff.rfl, by
    rw [State.withTables_tables, getElem_set_ne _ (Ne.symm other)]⟩ (h.at q)

theorem moved_learning (h : Health) (e : LensParams) (learning : h.lens = .learning) : (h.moved e).lens = .learning := by
  unfold Health.moved
  rw [if_neg (by rw [learning]; simp [LensCondition.rated])]
  exact learning

theorem samePowers_reevaluateLens (p : CamPort) : samePowers s (reevaluateLens p s) := by
  refine .trans (samePowers_withHealth ?_ fun _ lens => ?_) (samePowers_lensEvent p _)
  · rw [moved_relearnHold]
    simp only [Health.recovered, Health.rejudged]
  · exact moved_learning _ _ (by simp only [Health.recovered, Health.rejudged, lens])

theorem samePowers_takeLensParams (e : LensParams) : samePowers s (takeLensParams e s) :=
  .trans (samePowers_withTables (by rfl)) (samePowers_reevaluateLens _)

theorem samePowers_takeWeight (w : Nat) : samePowers s (takeWeight w s) :=
  .trans (samePowers_withTables (by rfl)) (samePowers_reevaluateLens _)

theorem afterReference_relearnHold (h : Health) (z : ZoneNo) (absent : Bool) (e : LensParams) (w : Vector Nat 192)
    (p : CamPort) : (h.afterReference z absent e w p).relearnHold = h.relearnHold := by
  unfold Health.afterReference
  dsimp only
  split
  · rfl
  · split
    · rfl
    · rw [moved_relearnHold]; rfl

theorem State.powerOk.takeReference (h : s.powerOk) (v : Option Nat) (ready : learningAtPointer s = false) :
    (takeReference v s).powerOk := by
  have unheld : (s.health[s.pointedPort]).relearnHold ≠ true := fun held => by
    have learning := (h.at _).hold held
    simp only [learningAtPointer, learning] at ready
    cases ready
  refine samePowers.powerOk (.trans (samePowers_withTables (b := { s.tables with
    reference := s.tables.reference.set (Fin.ofNat 192 s.agent.pointer) v }) rfl)
    (.trans (samePowers_withHealth ?_ fun held => absurd held unheld) (samePowers_lensEvent _ _))) h
  rw [afterReference_relearnHold]

theorem samePowers_takeOutputConfig (e : OutputConfig) : samePowers s (takeOutputConfig e s) := by
  refine .trans (samePowers_withTables ?_) (samePowers_ite (.trans (samePowers_of_mask (mask_evaluate ?_ ?_))
    (samePowers_outputTakes _ _ _)) (.trans (samePowers_outputTakes _ _ _) (samePowers_of_mask (mask_evaluate ?_ ?_))))
  · rfl
  all_goals simp

theorem samePowers_takeNodeParams (e : NodeParams) : samePowers s (takeNodeParams e s) := by
  refine .trans (samePowers_withTables ?_) (.trans (samePowers_ite (samePowers_withSurvey ?_ ?_) (.refl _))
    (samePowers_of_mask (mask_retime (by simp) (by simp) (by simp))))
  all_goals rfl

theorem samePowers_applyLayouts : samePowers s (applyLayouts s) :=
  samePowers_ite (samePowers_of_mask (mask_withComp (by simp)))
    (.trans (samePowers_withTables (by rfl)) (samePowers_of_mask (mask_withComp (by simp))))

/-- A port that starts learning holds its power in STANDBY (R80, R184). -/
theorem startLearning_record (p : CamPort) (s : State) :
    ((startLearning p s).health[p]).lens = .learning ∧
      ((startLearning p s).health[p]).relearnHold = (s.mode == .standby) := by
  have learned : ∀ (k : Health) (ks : List (Fin 4)) (b : LensCondition),
      (lensEvent p b (releaseAll ks (s.withHealth p k))).health[p] = k := fun k ks b => by
    have same : (s.withHealth p k).health = (lensEvent p b (releaseAll ks (s.withHealth p k))).health :=
      same_of_mask (l := [.agent, .trunk, .store]) (by simp) .health (by simp)
    rw [← same]
    exact getElem_set_same _ _ _
  unfold startLearning
  dsimp only
  rw [learned]
  exact ⟨rfl, rfl⟩

theorem startLearning_same (p : CamPort) (s : State) : SameBut [.health, .agent, .trunk, .store] s (startLearning p s) :=
  (sameBut_iff_mask _ _ _).mpr (by simp)

theorem samePower_startLearning_other (other : q ≠ p) : samePower s (startLearning p s) q := by
  have started : ∀ (k : Health) (ks : List (Fin 4)) (b : LensCondition),
      samePower s (lensEvent p b (releaseAll ks (s.withHealth p k))) q := fun k ks b =>
    (samePower_withHealth_other (k := k) other).trans ((samePowers_of_mask (by simp)).ports q)
  exact started _ _ _

theorem State.powerOk.relearn (h : s.powerOk) (c : AgentCommand) : (relearn c s).powerOk := by
  unfold Machine.relearn
  split
  · exact h.replyStatus c _
  · rename_i p _
    dsimp only
    refine powerOk_ite (fun _ => h.replyStatus c _) fun idle => powerOk_ite (fun _ => h.replyStatus c _) fun _ =>
      powerOk_ite (fun _ => h.replyStatus c _) fun _ => State.powerOk.replyStatus ?_ c _
    obtain ⟨lens, hold⟩ := startLearning_record p s
    have same := startLearning_same p s
    have mode : s.mode = (startLearning p s).mode := same .mode (by simp)
    have cams : s.cams = (startLearning p s).cams := same .cams (by simp)
    have survey : s.survey = (startLearning p s).survey := same .survey (by simp)
    have tables : s.tables = (startLearning p s).tables := same .tables (by simp)
    have away : (startLearning p s).powerAway p :=
      ⟨fun q other => (samePower_startLearning_other other).powerAt (h.at q), fun _ => lens,
        by rw [← survey]; exact h.surveyOk.idle, by rw [← survey, ← mode]; exact h.surveyOk.standby⟩
    refine powerOk_ite (fun _ => away.reevaluateDemand fun port => ?_) fun other => away.powerOk ?_
    · rw [← survey] at port
      rw [← cams]
      exact link_of_power ((h.at p).survey port)
    · have unheld : (s.health[p]).relearnHold ≠ true := fun held => idle ((h.at p).hold held)
      refine samePower.powerAt ⟨mode.symm, by rw [cams], ?_, fun held => absurd held unheld, by rw [survey],
        by rw [tables]⟩ (h.at p)
      rw [hold, Bool.eq_false_iff.mpr unheld]
      simpa using other

theorem State.powerOk.cableCheck (h : s.powerOk) (c : AgentCommand) : (cableCheck c s).powerOk := by
  unfold Machine.cableCheck
  split
  · exact h.replyStatus c _
  · exact powerOk_ite (fun _ => h.replyStatus c _) fun _ => State.powerOk.replyStatus (h.startCheck _) c _

theorem samePowers_clearGroup (g : CounterGroup) : samePowers s (clearGroup g s) := by
  cases g with
  | trunk => exact samePowers_of_mask (mask_withTrunk (by simp))
  | router => exact samePowers_of_mask (mask_withRouter (by simp))
  | engine =>
    have cleared : samePowers s (eachPort clearPort s) :=
      List.foldlRecOn (motive := samePowers s) _ _ (.refl s) fun u hu p _ =>
        hu.trans (samePowers_withCam (by rfl))
    exact cleared.trans (samePowers_of_mask ((mask_withStore (by simp)).trans (mask_withEngine (by simp))))

theorem State.powerOk.readCounters (h : s.powerOk) (c : AgentCommand) : (readCounters c s).powerOk := by
  unfold Machine.readCounters
  split
  · refine State.powerOk.of_mask (powerOk_ite (fun _ => (samePowers_clearGroup _).powerOk h) fun _ => h)
      (mask_reply (by simp))
  · exact h.replyStatus c _

theorem State.powerOk.clearCounters (h : s.powerOk) (c : AgentCommand) : (clearCounters c s).powerOk := by
  unfold Machine.clearCounters
  split
  · exact State.powerOk.replyStatus ((samePowers_clearGroup _).powerOk h) c _
  · exact h.replyStatus c _

theorem samePowers_withRoute (i : Fin 128) (r : Option RouteEntry) : samePowers s (s.withRoute i r) :=
  samePowers_withTables rfl

theorem State.powerOk.routeAdd (h : s.powerOk) (c : AgentCommand) : (routeAdd c s).powerOk := by
  unfold Machine.routeAdd
  dsimp only
  split
  · refine powerOk_ite (fun _ => ?_) fun _ => h.replyStatus c _
    split
    · exact State.powerOk.of_mask ((samePowers_withRoute _ _).powerOk h) (mask_reply (by simp))
    · exact h.replyStatus c _
  · exact h.replyStatus c _

theorem State.powerOk.routeRemove (h : s.powerOk) (c : AgentCommand) : (routeRemove c s).powerOk := by
  unfold Machine.routeRemove
  refine powerOk_ite (fun _ => ?_) fun _ => h.replyStatus c _
  split
  · exact State.powerOk.of_mask ((samePowers_withRoute _ _).powerOk h) (mask_reply (by simp))
  · exact h.replyStatus c _

theorem State.powerOk.setMode (h : s.powerOk) (c : AgentCommand) : (setMode c s).powerOk := by
  unfold Machine.setMode
  split
  · exact h.replyStatus c _
  · exact State.powerOk.replyStatus (powerOk_ite (fun _ => h) fun _ => h.changeMode _) c _

/-! ### Every step -/

/-- Every command keeps the law: by its frame where it touches nothing that power is read from. -/
theorem exec_powerOk {c : Instr} (h : s.powerOk) (e : exec c s = .next t) : t.powerOk := by
  by_cases calm : ∀ x ∈ [Part.mode, .cams, .health, .survey, .tables], x ∉ Instr.touched c
  · have same : ∀ x ∈ [Part.mode, .cams, .health, .survey, .tables], x.same s t := fun x hx =>
      exec_same e (calm x hx)
    have tables : s.tables = t.tables := same .tables (by simp)
    exact (samePowers_of_parts (same .mode (by simp)).symm (same .cams (by simp)).symm (same .health (by simp)).symm
      (same .survey (by simp)).symm (by rw [tables])).powerOk h
  suffices ∃ u : State, exec c s = .next u ∧ u.powerOk by
    obtain ⟨u, next, ok⟩ := this
    exact Host.Outcome.next.inj (next.symm.trans e) ▸ ok
  cases c
  case powerOnReset straps | resetLine straps =>
    exact ⟨_, rfl, (afterReset_powerOk straps _ _).of_mask
      (mask_reevaluateCandidacy (by simp) (by simp) (by simp) (by simp) (by simp))⟩
  case cabActiveRise =>
    have risen : (s.withCabActive true).powerOk := h.of_mask (mask_withCabActive (by simp))
    exact ⟨_, rfl, powerOk_ite (fun _ => h) fun _ => powerOk_ite (fun _ => risen.changeMode _)
      fun _ => risen.of_mask (by simp)⟩
  case frameStart p x =>
    exact ⟨_, rfl, State.powerOk.takeFrameStart (powerOk_ite (fun _ => h.failFrame p) fun _ => h) p x⟩
  case frameEnd p pic => exact ⟨_, rfl, h.frameEnd p pic⟩
  case sameFrameRunFull p pic | darkRunFull p pic | sample p pic | unusableRunFull p pic | learningComplete p pic
    | surveySkipDone p pic | surveyBurstDone p pic => exact ⟨_, rfl, h.frameEndIf p pic _⟩
  case shortLine p => exact ⟨_, rfl, powerOk_ite (fun _ => h.failFrame p) fun _ => h⟩
  case lockTimerExpiry p | stallTimerExpiry p =>
    exact ⟨_, rfl, powerOk_ite (fun due => h.lose (power_of_link due.1 rfl) (by simp) []) fun _ => h⟩
  case retryTimerExpiry p => exact ⟨_, rfl, powerOk_ite (fun due => h.retryPort due.1) fun _ => h⟩
  case overcurrentTrip p => exact ⟨_, rfl, powerOk_ite (fun power => h.trip power) fun _ => h⟩
  case probeEnd p f => exact ⟨_, rfl, powerOk_ite (fun _ => h.endCheck p f) fun _ => h⟩
  case learningDeadline p => exact ⟨_, rfl, powerOk_ite (fun _ => h.learningDeadline p) fun _ => h⟩
  case surveyStart => exact ⟨_, rfl, powerOk_ite (fun due => h.startSurvey due.2.1 due.1) fun _ => h⟩
  case screenFrameStart sc => exact ⟨_, rfl, powerOk_ite (fun _ => (samePowers_frameStart sc).powerOk h) fun _ => h⟩
  case writeTilePlan =>
    exact ⟨_, rfl, h.execWrite fun _ _ hu _ => (samePowers_withTables (by rfl)).powerOk hu⟩
  case writeCameraConfig => exact ⟨_, rfl, h.execWrite fun _ v hu _ => hu.takeCameraConfig v⟩
  case writeLensParams => exact ⟨_, rfl, h.execWrite fun _ v hu _ => (samePowers_takeLensParams v).powerOk hu⟩
  case writeWeight => exact ⟨_, rfl, h.execWrite fun _ v hu _ => (samePowers_takeWeight v).powerOk hu⟩
  case writeReference => exact ⟨_, rfl, h.execWrite fun _ v hu ready => hu.takeReference v ready⟩
  case writeDoor =>
    exact ⟨_, rfl, h.execWrite fun _ v hu _ => (samePowers.trans (samePowers_withTables (by rfl))
      (samePowers_of_mask (mask_evaluateBoth (by simp) (by simp)))).powerOk hu⟩
  case writeRules =>
    exact ⟨_, rfl, h.execWrite fun _ v hu _ => (samePowers.trans (samePowers_withTables (by rfl))
      (samePowers_of_mask (mask_evaluate (by simp) (by simp)))).powerOk hu⟩
  case writeLayoutPending =>
    exact ⟨_, rfl, h.execWrite fun _ _ hu _ => (samePowers_withTables (by rfl)).powerOk hu⟩
  case writeOutputConfig => exact ⟨_, rfl, h.execWrite fun _ v hu _ => (samePowers_takeOutputConfig v).powerOk hu⟩
  case writeNodeParams => exact ⟨_, rfl, h.execWrite fun _ v hu _ => (samePowers_takeNodeParams v).powerOk hu⟩
  case routeAdd => exact ⟨_, rfl, h.runCommand fun c _ hu => hu.routeAdd c⟩
  case routeRemove => exact ⟨_, rfl, h.runCommand fun c _ hu => hu.routeRemove c⟩
  case applyLayouts =>
    exact ⟨_, rfl, h.runCommand fun c _ hu => (samePowers_applyLayouts.powerOk hu).replyStatus c _⟩
  case copyLayouts =>
    exact ⟨_, rfl, h.runCommand fun c _ hu => State.powerOk.replyStatus ((samePowers_withTables (by rfl)).powerOk hu) c _⟩
  case relearn => exact ⟨_, rfl, h.runCommand fun c _ hu => hu.relearn c⟩
  case cableCheck => exact ⟨_, rfl, h.runCommand fun c _ hu => hu.cableCheck c⟩
  case readCounters => exact ⟨_, rfl, h.runCommand fun c _ hu => hu.readCounters c⟩
  case clearCounters => exact ⟨_, rfl, h.runCommand fun c _ hu => hu.clearCounters c⟩
  case setMode => exact ⟨_, rfl, h.runCommand fun c _ hu => hu.setMode c⟩
  case restart => exact ⟨_, rfl, h.runCommand fun c u _ => restart_powerOk c u⟩
  all_goals exact absurd (by simp [Instr.touched]) calm

theorem stepKeepsPower : Claim.StepKeepsPower := by
  intro s t h e
  rcases step_cases e with ⟨-, rfl⟩ | ⟨c, rest, -, done⟩
  · refine h.of_mask ((mask_withPending (by simp)).trans ((mask_disposeUnknown (by simp) (by simp)).trans ?_))
    exact mask_withNodeTime (by simp)
  · exact exec_powerOk (h.of_mask (mask_withPending (by simp))) done

end

/-- Settles O9: each change that a step is made of keeps the timers and the picture, and each command keeps power. -/
theorem stepKeepsPortsAndPower : Obligations.StepKeepsPortsAndPower := ⟨stepKeepsCameraPorts, stepKeepsPower⟩

end Sys2Proof.Machine
end

section
/-! PROOF. The head role (R97, R99 to R103): the candidacy flag and a head's record under the commands that move them;
every other command leaves what they are read from. -/

namespace Sys2Proof.Machine

section
variable {s t u : State}

/-- R97, both laws. -/
structure State.roleOk (s : State) : Prop where
  candidacy : s.candidacyOk
  head : s.headOk

theorem roleOk_congr (straps : t.straps = s.straps) (cab : t.cabActive = s.cabActive) (mode : t.mode = s.mode)
    (orient : t.orient = s.orient) (h : s.roleOk) : t.roleOk := by
  obtain ⟨candidacy, head⟩ := h
  constructor
  · unfold State.candidacyOk State.mayBeHead; rwa [straps, cab, mode, orient]
  · unfold State.headOk State.isHead State.nodeNumber; rwa [straps, orient]

theorem roleOk_of_mask (same : t.mask (allBut [.straps, .cabActive, .mode, .orient])
    = s.mask (allBut [.straps, .cabActive, .mode, .orient])) (h : s.roleOk) : t.roleOk :=
  roleOk_congr (same_of_allBut same .straps (by simp) : s.straps = t.straps).symm
    (same_of_allBut same .cabActive (by simp) : s.cabActive = t.cabActive).symm
    (same_of_allBut same .mode (by simp) : s.mode = t.mode).symm
    (same_of_allBut same .orient (by simp) : s.orient = t.orient).symm h

theorem roleOk_ite {c : Prop} [Decidable c] (hs : c → s.roleOk) (ht : ¬c → t.roleOk) : (if c then s else t).roleOk := by
  split
  · exact hs ‹_›
  · exact ht ‹_›

/-! ### Records put in -/

/-- A node whose record is no head's. -/
theorem roleOk_withOrient_follower {o : Orientation} (candidate : o.candidate = s.mayBeHead)
    (other : (o.candidate && o.state != .conflict) = false) : (s.withOrient o).roleOk :=
  ⟨candidate, fun head => by
    unfold State.isHead at head
    rw [State.withOrient_orient, other] at head
    cases head⟩

theorem roleOk_becomeHead (may : s.mayBeHead = true) : (becomeHead s).roleOk := by
  have put : (s.withOrient s.headRecord).roleOk := ⟨may.symm, fun _ => ⟨rfl, rfl, rfl, rfl⟩⟩
  exact roleOk_of_mask ((mask_reportOrientation (by simp) (by simp)).trans (mask_beaconBoth (by simp))) put

theorem roleOk_beginCandidacy (may : s.mayBeHead = true) : (beginCandidacy s).roleOk := by
  unfold beginCandidacy
  split
  · exact roleOk_of_mask (mask_addTogether (by simp) (by simp)) (roleOk_withOrient_follower may.symm rfl)
  · exact roleOk_becomeHead may

theorem roleOk_endCandidacy (may : s.mayBeHead = false) : (endCandidacy s).roleOk := by
  refine roleOk_ite (fun _ => ?_) fun _ => ?_
  · exact roleOk_of_mask (mask_reportOrientation (by simp) (by simp)) (roleOk_withOrient_follower may.symm rfl)
  · refine roleOk_of_mask ((mask_stopComposing (by simp) (by simp)).trans (mask_reportOrientation (by simp) (by simp)))
      (roleOk_withOrient_follower may.symm rfl)

/-- Candidacy re-evaluated agrees with its three conditions, and a head's record was a head's (R97). -/
theorem State.headOk.reevaluateCandidacy (h : s.headOk) : (reevaluateCandidacy s).roleOk := by
  refine roleOk_ite (fun same => ⟨same.symm, h⟩) fun _ => roleOk_ite roleOk_beginCandidacy fun none => ?_
  exact roleOk_endCandidacy (by simpa using none)

/-- The record of no head known is no head's, where the node is none (R103). -/
theorem State.roleOk.forgetHead (h : s.roleOk) (none : s.orient.candidate = false) : (forgetHead s).roleOk := by
  have follower : ({ Orientation.reset with candidate := s.orient.candidate }.candidate
      && { Orientation.reset with candidate := s.orient.candidate }.state != .conflict) = false := by
    show (s.orient.candidate && _) = false
    rw [none, Bool.false_and]
  exact roleOk_of_mask (mask_reportOrientation (by simp) (by simp))
    (roleOk_withOrient_follower h.candidacy follower)

theorem State.roleOk.takeBeacon (h : s.roleOk) (p : TrunkPort) (x n : Nat) : (takeBeacon p x n s).roleOk := by
  refine roleOk_ite (fun _ => roleOk_ite (fun _ => ?_) fun _ => h) fun other => roleOk_ite (fun _ => ?_) fun _ => h
  · refine roleOk_of_mask ((mask_stopComposing (by simp) (by simp)).trans ((mask_addTogether (by simp) (by simp)).trans
      (mask_placeBeacon (by simp)))) (roleOk_withOrient_follower h.candidacy ?_)
    exact Bool.and_false _
  · have put := roleOk_withOrient_follower (s := s) (o := s.following p x n) h.candidacy (by
      have none : (s.orient.candidate && s.orient.state != .conflict) = false := by simpa [State.isHead] using other
      by_cases conflict : s.orient.state = .conflict
      · simp [State.following, conflict]
      · simpa [State.following, conflict] using none)
    exact roleOk_of_mask ((mask_reportOrientation (by simp) (by simp)).trans (mask_placeBeacon (by simp))) put

/-! ### Modes and resets -/

theorem headOk_congr (straps : t.straps = s.straps) (orient : t.orient = s.orient) (h : s.headOk) : t.headOk := by
  unfold State.headOk State.isHead State.nodeNumber; rwa [straps, orient]

theorem State.headOk.orientMode (h : s.headOk) : (orientMode s).roleOk := by
  have taken := h.reevaluateCandidacy
  refine roleOk_ite (fun bypass => taken.forgetHead ?_) fun _ => taken
  have may : (Machine.reevaluateCandidacy s).mayBeHead = false := by
    have mode : s.mode = (Machine.reevaluateCandidacy s).mode :=
      same_of_mask (l := [.orient, .trunk, .agent, .store, .comp]) (by simp) .mode (by simp)
    simp [State.mayBeHead, ← mode, bypass]
  rw [taken.candidacy, may]

theorem State.headOk.changeMode (h : s.headOk) (m : Mode) : (changeMode m s).roleOk := by
  have entered : (enterMode m (leaveMode s.mode (s.withMode m))).headOk := by
    have same : SameBut (allBut [.straps, .orient]) s (enterMode m (leaveMode s.mode (s.withMode m))) :=
      (sameBut_iff_mask _ _ _).mpr (by simp)
    exact headOk_congr (same .straps (by simp)).symm (same .orient (by simp)).symm h
  have ports : ∀ u : State, SameBut (allBut [.straps, .cabActive, .mode, .orient]) u (eachPort reevaluateDemand u) :=
    fun u => (sameBut_iff_mask _ _ _).mpr (by simp)
  refine roleOk_ite (fun _ => State.headOk.orientMode ?_) fun _ => ?_
  · exact headOk_congr (ports _ .straps (by simp)).symm (ports _ .orient (by simp)).symm entered
  · exact roleOk_of_mask ((sameBut_iff_mask _ _ _).mp (ports _)) entered.orientMode

theorem headOk_of_no_candidate (none : s.orient.candidate = false) : s.headOk := fun head => by
  simp [State.isHead, none] at head

theorem restart_roleOk (c : AgentCommand) (s : State) : (restart c s).roleOk := by
  have replied : (replyStatus c .ok (keepCopy c s s.afterRestart)).headOk := by
    have orient : (keepCopy c s s.afterRestart).orient = (replyStatus c .ok (keepCopy c s s.afterRestart)).orient :=
      same_of_mask (l := [.trunk]) (by simp) .orient (by simp)
    exact headOk_of_no_candidate (by rw [← orient]; rfl)
  have ports : ∀ u : State, SameBut (allBut [.straps, .cabActive, .mode, .orient]) u (eachPort reevaluateDemand u) :=
    fun u => (sameBut_iff_mask _ _ _).mpr (by simp)
  refine roleOk_of_mask (mask_startOutputs (by simp) (by simp) (by simp)) (roleOk_ite (fun _ => ?_) fun _ => ?_)
  · exact State.headOk.reevaluateCandidacy
      (headOk_congr (ports _ .straps (by simp)).symm (ports _ .orient (by simp)).symm replied)
  · exact roleOk_of_mask ((sameBut_iff_mask _ _ _).mp (ports _)) replied.reevaluateCandidacy

theorem State.roleOk.runCommand (h : s.roleOk) {n : CommandName} {applies : State → Bool}
    {act : AgentCommand → State → State} (hact : ∀ c u, u.roleOk → (act c u).roleOk) :
    (runCommand n applies act s).roleOk := by
  have known : (disposeUnknown s.agent.queue s).roleOk := roleOk_of_mask (mask_disposeUnknown (by simp) (by simp)) h
  unfold Machine.runCommand
  dsimp only
  split
  · exact h
  · exact roleOk_ite (fun _ => roleOk_of_mask (mask_popCommand (by simp)) (roleOk_ite (fun _ => hact _ _ known)
      fun _ => roleOk_of_mask (mask_reply (by simp)) known)) fun _ => h

theorem State.roleOk.setMode (h : s.roleOk) (c : AgentCommand) : (setMode c s).roleOk := by
  unfold Machine.setMode
  split
  · exact roleOk_of_mask (mask_replyStatus (by simp)) h
  · exact roleOk_of_mask (mask_replyStatus (by simp)) (roleOk_ite (fun _ => h) fun _ => h.head.changeMode _)

/-! ### Every step -/

/-- Every command keeps the laws: by its frame where it is not listed for the orientation record. -/
theorem exec_roleOk {c : Instr} (h : s.roleOk) (e : exec c s = .next t) : t.roleOk := by
  by_cases steady : Part.orient ∉ Instr.touched c
  · have others : Part.straps ∉ Instr.touched c ∧ Part.cabActive ∉ Instr.touched c ∧ Part.mode ∉ Instr.touched c := by
      revert steady
      cases c <;> simp [Instr.touched]
    exact roleOk_congr (exec_same e others.1).symm (exec_same e others.2.1).symm (exec_same e others.2.2).symm
      (exec_same e steady).symm h
  suffices ∃ u : State, exec c s = .next u ∧ u.roleOk by
    obtain ⟨u, next, ok⟩ := this
    exact Host.Outcome.next.inj (next.symm.trans e) ▸ ok
  cases c
  case powerOnReset | resetLine =>
    exact ⟨_, rfl, State.headOk.reevaluateCandidacy (headOk_of_no_candidate rfl)⟩
  case cabActiveRise =>
    have risen : (s.withCabActive true).headOk := h.head
    exact ⟨_, rfl, roleOk_ite (fun _ => h) fun _ => roleOk_ite (fun _ => risen.changeMode _)
      fun _ => risen.reevaluateCandidacy⟩
  case cabActiveFall =>
    have fallen : (s.withCabActive false).headOk := h.head
    exact ⟨_, rfl, roleOk_ite (fun _ => fallen.reevaluateCandidacy) fun _ => h⟩
  case beacon p x =>
    have handed : (handOn p s).roleOk := roleOk_of_mask (mask_handOn (by simp) (by simp)) h
    refine ⟨_, rfl, roleOk_ite (fun _ => roleOk_ite (fun _ => ?_) fun _ =>
      roleOk_of_mask (mask_countRouter (by simp)) handed) fun _ => h⟩
    unfold routeBeacon
    split
    · exact handed
    · exact handed.takeBeacon _ _ _
  case beaconPeriod =>
    refine ⟨_, rfl, roleOk_ite (fun _ => roleOk_of_mask (mask_beaconBoth (by simp)) ?_) fun _ => h⟩
    exact ⟨h.candidacy, h.head⟩
  case orientationExpiry =>
    refine ⟨_, rfl, roleOk_ite (fun due => h.forgetHead ?_) fun _ => h⟩
    simp only [Bool.and_eq_true, decide_eq_true_eq, Bool.not_eq_true', State.isHead] at due
    simpa [due.1.1] using due.1.2
  case resumeTime =>
    refine ⟨_, rfl, roleOk_ite (fun due => roleOk_becomeHead ?_) fun _ => h⟩
    rw [← h.candidacy]
    simp only [Bool.and_eq_true] at due
    exact due.1.2
  case setMode => exact ⟨_, rfl, h.runCommand fun c _ hu => hu.setMode c⟩
  case restart => exact ⟨_, rfl, h.runCommand fun c u _ => restart_roleOk c u⟩
  all_goals exact absurd (by simp [Instr.touched]) steady

theorem stepKeepsHeadRole : Claim.StepKeepsHeadRole := by
  intro s t candidacy head e
  have ok : t.roleOk := by
    rcases step_cases e with ⟨-, rfl⟩ | ⟨c, rest, -, done⟩
    · refine roleOk_of_mask ((mask_withPending (by simp)).trans ((mask_disposeUnknown (by simp) (by simp)).trans ?_))
        ⟨candidacy, head⟩
      exact mask_withNodeTime (by simp)
    · exact exec_roleOk (roleOk_of_mask (mask_withPending (by simp)) ⟨candidacy, head⟩) done
  exact ⟨ok.candidacy, ok.head⟩

end

end Sys2Proof.Machine
end

section
/-! PROOF. What a mode has stopped stays stopped (R56, R103, R105, R122): outside RUN no work of RUN begins, and in
BYPASS no entry joins a send list. -/

namespace Sys2Proof.Machine

section
variable {s t u : State}

/-- Single changes leave the mode, the orientation record and the straps. -/
theorem Move.steady (m : Move s t) : t.mode = s.mode ∧ t.orient = s.orient ∧ t.straps = s.straps := by
  have keep (same : t.mask (allBut [.mode, .orient, .straps]) = s.mask (allBut [.mode, .orient, .straps])) :
      t.mode = s.mode ∧ t.orient = s.orient ∧ t.straps = s.straps :=
    ⟨(same_of_allBut same .mode (by simp) : s.mode = t.mode).symm,
      (same_of_allBut same .orient (by simp) : s.orient = t.orient).symm,
      (same_of_allBut same .straps (by simp) : s.straps = t.straps).symm⟩
  cases m with
  | quiet same => exact keep (mask_of_quiet same (by simp [quietParts]))
  | _ => exact keep (by simp)

theorem Work.steady (w : Work s t) : t.mode = s.mode ∧ t.orient = s.orient ∧ t.straps = s.straps := by
  cases w with
  | move m => exact m.steady
  | takes p f pic =>
    have same : SameBut (allBut [.mode, .orient, .straps]) s (frameTaken p f pic s) :=
      (sameBut_iff_mask _ _ _).mpr (by simp [frameTaken])
    exact ⟨(same .mode (by simp)).symm, (same .orient (by simp)).symm, (same .straps (by simp)).symm⟩
  | window => exact ⟨rfl, rfl, rfl⟩

/-! ### Nothing of RUN goes on -/

/-- R56, R105, R122: nothing is in production, no context is open and no TILE entry stands on a send list. -/
structure State.stopped (s : State) : Prop where
  productions : ∀ k : PlanNo, s.engine.productions[k] = none
  contexts : ∀ k : ContextNo, s.router.contexts[k] = none
  entries : ∀ p : TrunkPort, ∀ e ∈ (s.trunk.get p).sendList, e.kind ≠ .tile

/-- R105: both send lists are empty. -/
def State.silent (s : State) : Prop := ∀ p : TrunkPort, (s.trunk.get p).sendList = []

theorem stopped_congr (productions : t.engine.productions = s.engine.productions)
    (contexts : t.router.contexts = s.router.contexts)
    (lists : ∀ p, (t.trunk.get p).sendList = (s.trunk.get p).sendList) (h : s.stopped) : t.stopped :=
  ⟨fun k => by rw [productions]; exact h.productions k, fun k => by rw [contexts]; exact h.contexts k,
    fun p => by rw [lists]; exact h.entries p⟩

theorem stopped_of_mask (same : t.mask (allBut [.engine, .router, .trunk]) = s.mask (allBut [.engine, .router, .trunk]))
    (h : s.stopped) : t.stopped := by
  have engine : s.engine = t.engine := same_of_allBut same .engine (by simp)
  have router : s.router = t.router := same_of_allBut same .router (by simp)
  have trunk : s.trunk = t.trunk := same_of_allBut same .trunk (by simp)
  exact stopped_congr (by rw [engine]) (by rw [router]) (fun p => by rw [trunk]) h

/-- The send lists of two states, where the second has no entries but those of the first, kind by kind. -/
theorem State.stopped.withLists (h : s.stopped) (productions : t.engine.productions = s.engine.productions)
    (contexts : t.router.contexts = s.router.contexts)
    (entries : ∀ p, ∀ e ∈ (t.trunk.get p).sendList, e.kind = .tile → ∃ d ∈ (s.trunk.get p).sendList, d.kind = .tile) :
    t.stopped :=
  ⟨fun k => by rw [productions]; exact h.productions k, fun k => by rw [contexts]; exact h.contexts k,
    fun p e he tile => by
      obtain ⟨d, hd, kind⟩ := entries p e he tile
      exact h.entries p d hd kind⟩

theorem withSendList_entries {p : TrunkPort} {l : List SendEntry}
    (entries : ∀ e ∈ l, e.kind = .tile → ∃ d ∈ (s.trunk.get p).sendList, d.kind = .tile) (q : TrunkPort) :
    ∀ e ∈ ((s.withSendList p l).trunk.get q).sendList, e.kind = .tile → ∃ d ∈ (s.trunk.get q).sendList, d.kind = .tile := by
  by_cases same : q = p
  · subst same
    rw [withSendList_get]
    exact entries
  · have other : ((s.withSendList p l).trunk.get q).sendList = (s.trunk.get q).sendList := by
      rw [State.withSendList, State.withTrunk_trunk, Pair.get_set_ne _ same]
    rw [other]
    exact fun e he tile => ⟨e, he, tile⟩

theorem forget_kind (k : Fin 4) (e : SendEntry) : (e.forget k).kind = .tile ↔ e.kind = .tile := by
  unfold SendEntry.forget
  split
  next fetch => simp [fetch]
  next => exact Iff.rfl

/-- Outside RUN a delivered frame start begins no tile (R23). -/
theorem beginTile_outside_run (idle : s.mode ≠ .run) (p : CamPort) (r : Fin 2) (f : OpenFrame) :
    beginTile p r f s = s := by
  unfold beginTile State.wantsTile
  have off : (s.mode == .run) = false := by simpa using idle
  simp [off]

theorem State.stopped.deliverStart (h : s.stopped) (idle : s.mode ≠ .run) (p : CamPort) (x : FrameHead) :
    (deliverStart p x s).stopped := by
  have started : ∀ (u : State) (f : OpenFrame), u.mode = s.mode → u.engine.productions = s.engine.productions →
      u.router = s.router → u.trunk = s.trunk → (beginTile p 1 f (beginTile p 0 f u)).stopped :=
    fun u f mode engine router trunk => by
      have idle' : u.mode ≠ .run := mode ▸ idle
      rw [beginTile_outside_run idle' p 0 f, beginTile_outside_run idle' p 1 f]
      exact stopped_congr engine (by rw [router]) (fun p => by rw [trunk]) h
  unfold Machine.deliverStart
  dsimp only
  split
  · exact started _ _ rfl rfl rfl rfl
  · exact started _ _ rfl rfl rfl rfl

theorem Move.stopped (m : Move s t) (idle : s.mode ≠ .run) (h : s.stopped) : t.stopped := by
  have keep (same : t.mask (allBut [.engine, .router, .trunk]) = s.mask (allBut [.engine, .router, .trunk])) :
      t.stopped := stopped_of_mask same h
  cases m with
  | quiet same => exact keep (mask_of_quiet same (by simp [quietParts]))
  | trunk p x _ _ list =>
    refine stopped_congr (s := s) rfl rfl (fun q => ?_) h
    by_cases same : q = p
    · subst same; rw [State.withTrunk_trunk, Pair.get_set_same, list]
    · rw [State.withTrunk_trunk, Pair.get_set_ne _ same]
  | front p e d rest list _ kind =>
    refine h.withLists rfl rfl (withSendList_entries fun x hx tile => ?_)
    rw [list]
    rcases List.mem_cons.mp hx with rfl | hx
    · exact ⟨e, by simp, by rw [← kind, tile]⟩
    · exact ⟨x, by simp [hx], tile⟩
  | drop p before e rest list =>
    have left : (s.withSendList p (before ++ rest)).stopped := by
      refine h.withLists rfl rfl (withSendList_entries fun x hx tile => ⟨x, ?_, tile⟩)
      rw [list]
      exact ((List.sublist_cons_self e rest).append_left before).subset hx
    exact stopped_congr (by unfold releaseEntry endFetch; split <;> rfl) (by unfold releaseEntry endFetch; split <;> rfl)
      (fun q => by rw [releaseEntry_trunk]) left
  | hand p e rest list _ tile => exact absurd tile (h.entries p e (by simp [list]))
  | fetch p k x sid =>
    refine h.withLists rfl rfl (withSendList_entries fun y hy tile => ?_)
    rcases List.mem_append.mp hy with hy | hy
    · exact ⟨y, hy, tile⟩
    · rw [List.mem_singleton.mp hy] at tile
      cases tile
  | release k =>
    refine h.withLists rfl rfl fun p x hx tile => ?_
    rw [releasePosition_trunk] at hx
    obtain ⟨d, hd, rfl⟩ := List.mem_map.mp hx
    exact ⟨d, hd, (forget_kind k d).mp tile⟩
  | engine x productions => exact stopped_congr productions rfl (fun _ => rfl) h
  | abandonProduction k =>
    have same : Machine.abandonProduction k s = s := by unfold Machine.abandonProduction; rw [h.productions k]
    rw [same]
    exact h
  | deliver p x => exact h.deliverStart idle p x
  | abandonContext k counter =>
    have same : Machine.abandonContext k counter s = s := by unfold Machine.abandonContext; rw [h.contexts k]
    rw [same]
    exact h
  | openContext f sid run => exact absurd run idle
  | context k x y isOpen => rw [h.contexts k] at isOpen; cases isOpen
  | publish k x isOpen => rw [h.contexts k] at isOpen; cases isOpen
  | routerCounters => exact stopped_congr (s := s) rfl rfl (fun _ => rfl) h
  | _ => exact keep (by simp)

theorem Move.silent (m : Move s t) (bypass : s.mode = .bypass) (h : s.silent) : t.silent := by
  have keep (same : t.mask (allBut [.trunk]) = s.mask (allBut [.trunk])) : t.silent := by
    have trunk := trunk_of_mask same
    intro p
    rw [trunk]
    exact h p
  cases m with
  | quiet same => exact keep (mask_of_quiet same (by simp [quietParts]))
  | trunk p x _ _ list =>
    intro q
    by_cases same : q = p
    · subst same; rw [State.withTrunk_trunk, Pair.get_set_same, list, h]
    · rw [State.withTrunk_trunk, Pair.get_set_ne _ same, h]
  | front p e d rest list => rw [h p] at list; cases list
  | drop p before e rest list => simp [h p] at list
  | hand p e rest list => rw [h p] at list; cases list
  | fetch _ _ _ _ _ _ awake => exact absurd bypass awake
  | release k => intro p; rw [releasePosition_trunk, h p]; rfl
  | _ => exact keep (by simp)

/-! ### A good frame outside RUN completes no tile -/

theorem keeps_ite {law : State → Prop} {c : Prop} [Decidable c] (hs : law s) (ht : law t) :
    law (if c then s else t) := by
  split
  · exact hs
  · exact ht

/-- A frame taken by the health monitor changes health records and tables, and adds causes (R62). -/
theorem takeFrame_keeps {law : State → Prop} {p : CamPort} (health : ∀ u k, law u → law (u.withHealth p k))
    (tables : ∀ u b, law u → law (u.withTables b)) (cause : ∀ u k n e, law u → law (addCause k n e u))
    (st : FrameStats) (h : law s) : law (takeFrame p st s) := by
  have sampled : ∀ u, law u → law (takeSample p st u) := fun u hu => by
    unfold takeSample
    dsimp only
    split
    · exact hu
    · split
      · split
        · exact cause _ _ _ _ (health _ _ (tables _ _ (health _ _ hu)))
        · exact health _ _ hu
      · exact hu
    all_goals split <;> exact health _ _ hu
  have told : ∀ u, law u → law (if (u.health[p]).picture = (s.health[p]).picture then u
      else addCause .pictureChange p.val false u) := fun u hu => keeps_ite hu (cause _ _ _ _ hu)
  have judged := told _ (health _ ((s.health[p]).runs st (s.tables.lensParams[p]).darkLevel) h)
  exact keeps_ite (sampled _ (health _ _ judged)) (health _ _ judged)

/-- Without a tile in production a rendition completes none (R30). -/
theorem completeTile_none {p : CamPort} {r : Fin 2} (idle : s.engine.productions[planOf p r] = none) (pic : Picture) :
    completeTile p r pic s = s := by
  unfold completeTile
  dsimp only
  rw [idle]

/-- States that agree in what the laws of a stopped node are read from. -/
structure SameWork (s t : State) : Prop where
  mode : t.mode = s.mode
  productions : t.engine.productions = s.engine.productions
  router : t.router = s.router
  trunk : t.trunk = s.trunk

/-- A good frame of a node with no tile in production. -/
theorem frameTaken_keeps_stopped {law : State → Prop} {p : CamPort} (stops : ∀ u, law u → u.stopped)
    (beside : ∀ u t, SameWork u t → law u → law t) (cause : ∀ u k n e, law u → law (addCause k n e u)) (f : OpenFrame)
    (pic : Picture) (h : law s) : law (frameTaken p f pic s) := by
  have cam : ∀ u c, law u → law (u.withCam p c) := fun u c => beside u _ ⟨rfl, rfl, rfl, rfl⟩
  have ended : law (endGood p f s) := by
    unfold endGood
    dsimp only
    split
    · exact cam _ _ (cam _ _ (cam _ _ h))
    · exact cam _ _ (cam _ _ h)
  have taken := takeFrame_keeps (fun u k => beside u (u.withHealth p k) ⟨rfl, rfl, rfl, rfl⟩)
    (fun u b => beside u (u.withTables b) ⟨rfl, rfl, rfl, rfl⟩) cause
    (frameStats f (gather pic.luma f.width f.height))
    (beside (endGood p f s) ((endGood p f s).withSums p (gather pic.luma f.width f.height)) ⟨rfl, rfl, rfl, rfl⟩ ended)
  unfold frameTaken
  dsimp only
  rw [completeTile_none ((stops _ taken).productions _), completeTile_none ((stops _ taken).productions _)]
  exact taken

/-! ### Outside RUN what is stopped stays so -/

/-- Outside RUN, and stopped. -/
structure State.atRest (s : State) : Prop where
  idle : s.mode ≠ .run
  stopped : s.stopped

/-- At rest in BYPASS: no send entry at all. -/
structure State.asleep (s : State) : Prop where
  rests : s.atRest
  bypass : s.mode = .bypass
  silent : s.silent

theorem SameWork.atRest (same : SameWork s t) (h : s.atRest) : t.atRest :=
  ⟨by rw [same.mode]; exact h.idle,
    stopped_congr same.productions (by rw [same.router]) (fun p => by rw [same.trunk]) h.stopped⟩

theorem SameWork.asleep (same : SameWork s t) (h : s.asleep) : t.asleep :=
  ⟨same.atRest h.rests, by rw [same.mode]; exact h.bypass, fun p => by rw [same.trunk]; exact h.silent p⟩

theorem Moves.atRest (m : Moves s t) (h : s.atRest) : t.atRest := by
  induction m with
  | refl => exact h
  | tail _ m ih => exact ⟨by rw [m.steady.1]; exact ih.idle, m.stopped ih.idle ih.stopped⟩

theorem Moves.asleep (m : Moves s t) (h : s.asleep) : t.asleep := by
  induction m with
  | refl => exact h
  | tail _ m ih =>
    exact ⟨m.moves.atRest ih.rests, by rw [m.steady.1]; exact ih.bypass, m.silent ih.bypass ih.silent⟩

/-- What single changes, frames taken by a stopped node and changes of other parts keep, turns keep. -/
theorem Turns.keep_stopped {law : State → Prop} (stops : ∀ u, law u → u.stopped)
    (moves : ∀ u t, Moves u t → law u → law t) (beside : ∀ u t, SameWork u t → law u → law t) (m : Turns s t)
    (h : law s) : law t := by
  induction m with
  | refl => exact h
  | tail _ m ih =>
    cases m with
    | orient o => exact beside _ _ ⟨by rfl, by rfl, by rfl, by rfl⟩ ih
    | work w =>
      cases w with
      | move m => exact moves _ _ m.moves ih
      | window w n => exact beside _ _ ⟨by rfl, by rfl, by rfl, by rfl⟩ ih
      | takes p f pic =>
        exact frameTaken_keeps_stopped stops beside (fun u k n e => moves u _ (moves_addCause k n e)) f pic ih

theorem Turns.atRest (m : Turns s t) (h : s.atRest) : t.atRest :=
  m.keep_stopped (fun _ h => h.stopped) (fun _ _ => Moves.atRest) (fun _ _ => SameWork.atRest) h

theorem Turns.asleep (m : Turns s t) (h : s.asleep) : t.asleep :=
  m.keep_stopped (fun _ h => h.rests.stopped) (fun _ _ => Moves.asleep) (fun _ _ => SameWork.asleep) h

end

end Sys2Proof.Machine
end

section
/-! PROOF. What a mode has stopped stays stopped, concluded: the changes of mode, the resets and RESTART. -/

namespace Sys2Proof.Machine

section
variable {s t u : State}

/-! ### What leaving RUN and entering BYPASS empty -/

theorem getElem_foldl_clear {α : Type} {n : Nat} {get : State → Vector (Option α) n} {f : State → Fin n → State}
    (clear : ∀ u k, get (f u k) = (get u).set k none) {j : Fin n} (l : List (Fin n)) :
    ∀ s : State, j ∈ l ∨ (get s)[j] = none → (get (l.foldl f s))[j] = none := by
  induction l with
  | nil =>
    intro s h
    rcases h with h | h
    · cases h
    · exact h
  | cons k l ih =>
    intro s h
    rw [List.foldl_cons]
    refine ih _ ?_
    by_cases same : j = k
    · right; rw [clear, same]; exact getElem_set_same _ _ _
    · refine h.imp (fun h => (List.mem_cons.mp h).resolve_left same) fun h => ?_
      rw [clear, getElem_set_ne _ fun e => same e.symm]
      exact h

theorem abandonProductions_none (s : State) (k : PlanNo) : (abandonProductions s).engine.productions[k] = none := by
  have clear : ∀ (u : State) (k : PlanNo), (abandonProduction k u).engine.productions
      = u.engine.productions.set k none := fun u k => abandonProduction_productions k u
  have all := getElem_foldl_clear (get := fun u => u.engine.productions) clear (List.finRange 8) s
    (.inl (List.mem_finRange k))
  unfold abandonProductions
  rw [all]

theorem abandonContexts_none (s : State) (k : ContextNo) : (abandonContexts s).router.contexts[k] = none := by
  have clear : ∀ (u : State) (k : ContextNo), (abandonContext k .tileBroken u).router.contexts
      = u.router.contexts.set k none := fun u k => abandonContext_contexts k _ u
  have all := getElem_foldl_clear (get := fun u => u.router.contexts) clear (List.finRange 16) s
    (.inl (List.mem_finRange k))
  unfold abandonContexts
  rw [all]

theorem removeEntries_trunk (p : TrunkPort) (gone : SendEntry → Bool) (s : State) : (removeEntries p gone s).trunk
    = (s.withSendList p ((s.trunk.get p).sendList.filter fun e => !gone e)).trunk :=
  List.foldlRecOn (motive := fun t : State => t.trunk = _) _ _ rfl
    fun u hu e _ => (releaseEntry_trunk e u).trans hu

theorem removeEntries_sendList (p q : TrunkPort) (gone : SendEntry → Bool) (s : State) :
    ((removeEntries p gone s).trunk.get q).sendList = if q = p then (s.trunk.get p).sendList.filter fun e => !gone e
      else (s.trunk.get q).sendList := by
  rw [removeEntries_trunk]
  split
  next same => rw [same, withSendList_get]
  next other => rw [State.withSendList, State.withTrunk_trunk, Pair.get_set_ne _ other]

/-- Entries removed from both lists. -/
theorem removeBoth_sendList (gone : SendEntry → Bool) (p : TrunkPort) (s : State) :
    ((removeEntries .b gone (removeEntries .a gone s)).trunk.get p).sendList
      = (s.trunk.get p).sendList.filter fun e => !gone e := by
  rw [removeEntries_sendList, removeEntries_sendList, removeEntries_sendList]
  cases p <;> rfl

theorem clearSends_sendList (p : TrunkPort) (s : State) : ((clearSends s).trunk.get p).sendList = [] := by
  have shared : ((clearSends s).trunk.get p).sendList = ((removeEntries .b (fun _ => true)
      (removeEntries .a (fun _ => true) s)).trunk.get p).sendList := by
    cases p <;> rfl
  rw [shared, removeBoth_sendList]
  simp

theorem stopRun_stopped (s : State) : (stopRun s).stopped := by
  have cleared : ∀ u : State, SameBut (allBut [.engine, .router]) u (clearSends u) := fun u =>
    (sameBut_iff_mask _ _ _).mpr (by simp)
  have contexts : ∀ u : State, SameBut (allBut [.engine]) u (abandonContexts u) := fun u =>
    (sameBut_iff_mask _ _ _).mpr (by simp)
  refine ⟨fun k => ?_, fun k => ?_, fun p e he => ?_⟩
  · rw [stopRun, ← (cleared _ .engine (by simp)), ← (contexts _ .engine (by simp))]
    exact abandonProductions_none s k
  · rw [stopRun, ← (cleared _ .router (by simp))]
    exact abandonContexts_none _ k
  · rw [stopRun, clearSends_sendList] at he
    cases he

theorem stopRun_silent (s : State) : (stopRun s).silent := fun p => clearSends_sendList p _

/-- Entering BYPASS leaves no send entry where none is a TILE's (R105). -/
theorem State.stopped.enterBypass (h : s.stopped) : (enterBypass s).silent := by
  have held : SameBut (allBut [.trunk]) (removeEntries .b SendEntry.isFetch (removeEntries .a SendEntry.isFetch s))
      (Machine.enterBypass s) := by
    refine (sameBut_iff_mask _ _ _).mpr ?_
    unfold Machine.enterBypass eachPort
    exact mask_foldl _ (fun _ _ => by simp) _ _
  intro p
  rw [← (held .trunk (by simp)), removeBoth_sendList, List.filter_eq_nil_iff]
  intro e he
  have fetch : e.kind ≠ .tile := h.entries p e he
  simp [SendEntry.isFetch, fetch]

/-! ### The law -/

theorem modeOk_iff (s : State) : s.modeOk ↔ (s.mode ≠ .run → s.atRest)
    ∧ (s.mode = .bypass → s.orient.state = .none ∧ s.asleep) := by
  constructor
  · rintro ⟨rest, bypass⟩
    have atRest : s.mode ≠ .run → s.atRest := fun idle =>
      let ⟨productions, contexts, entries⟩ := rest idle
      ⟨idle, productions, contexts, entries⟩
    exact ⟨atRest, fun b => ⟨(bypass b).1, atRest (by rw [b]; decide), b, (bypass b).2⟩⟩
  · rintro ⟨rest, bypass⟩
    exact ⟨fun idle => ⟨(rest idle).stopped.productions, (rest idle).stopped.contexts, (rest idle).stopped.entries⟩,
      fun b => ⟨(bypass b).1, (bypass b).2.silent⟩⟩

theorem modeOk_run (run : s.mode = .run) : s.modeOk :=
  (modeOk_iff s).mpr ⟨fun idle => absurd run idle, fun bypass => by rw [run] at bypass; cases bypass⟩

theorem Turns.mode (m : Turns s t) : t.mode = s.mode := by
  induction m with
  | refl => rfl
  | tail _ m ih =>
    cases m with
    | orient => exact ih
    | work w => exact w.steady.1.trans ih

/-- Turns keep the law that leave no orientation state but NONE in BYPASS. -/
theorem State.modeOk.turns (h : s.modeOk) (m : Turns s t) (none : s.mode = .bypass → s.orient.state = .none →
    t.orient.state = .none) : t.modeOk := by
  obtain ⟨rest, bypass⟩ := (modeOk_iff s).mp h
  rw [modeOk_iff, m.mode]
  exact ⟨fun idle => m.atRest (rest idle), fun b => ⟨none b (bypass b).1, m.asleep (bypass b).2⟩⟩

theorem Works.steady (m : Works s t) : t.mode = s.mode ∧ t.orient = s.orient ∧ t.straps = s.straps := by
  induction m with
  | refl => exact ⟨rfl, rfl, rfl⟩
  | tail _ w ih =>
    obtain ⟨mode, orient, straps⟩ := w.steady
    exact ⟨mode.trans ih.1, orient.trans ih.2.1, straps.trans ih.2.2⟩

theorem State.modeOk.works (h : s.modeOk) (m : Works s t) : t.modeOk :=
  h.turns m.turns fun _ none => by rw [m.steady.2.1]; exact none

theorem State.modeOk.moves (h : s.modeOk) (m : Moves s t) : t.modeOk := h.works m.works

/-! ### Orientation in BYPASS -/

theorem not_mayBeHead_of_bypass (bypass : s.mode = .bypass) : s.mayBeHead = false := by
  simp [State.mayBeHead, bypass]

theorem forgetHead_state (s : State) : (forgetHead s).orient.state = .none := by
  have same : ∀ u : State, SameBut (allBut [.orient]) u (reportOrientation s.orient u) := fun u =>
    (sameBut_iff_mask _ _ _).mpr (by simp)
  rw [forgetHead, ← (same _ .orient (by simp))]
  rfl

/-- Candidacy re-evaluated in BYPASS leaves no head known (R97, R103). -/
theorem reevaluateCandidacy_bypass (bypass : s.mode = .bypass) (none : s.orient.state = .none) :
    (reevaluateCandidacy s).orient.state = .none := by
  have may := not_mayBeHead_of_bypass bypass
  have same : ∀ u : State, SameBut (allBut [.orient]) u (stopComposing (reportOrientation s.orient u)) := fun u =>
    (sameBut_iff_mask _ _ _).mpr ((mask_stopComposing (by simp) (by simp)).trans
      (mask_reportOrientation (by simp) (by simp)))
  have calm : ¬ s.orient.state = .conflict := by rw [none]; decide
  unfold reevaluateCandidacy
  rw [may, if_neg (by decide : ¬ (false = true))]
  split
  · exact none
  · rw [endCandidacy, if_neg calm, ← (same _ .orient (by simp))]
    rfl

theorem State.modeOk.reevaluateCandidacy (h : s.modeOk) : (reevaluateCandidacy s).modeOk :=
  h.turns turns_reevaluateCandidacy reevaluateCandidacy_bypass

/-! ### Changes of mode -/

/-- The work of RUN has stopped once a mode but RUN is entered (R56, R105, R122). -/
theorem State.modeOk.entered (h : s.modeOk) {m : Mode} (idle : m ≠ .run) :
    (enterMode m (leaveMode s.mode (s.withMode m))).atRest
      ∧ (m = .bypass → (enterMode m (leaveMode s.mode (s.withMode m))).asleep) := by
  have left : (leaveMode s.mode (s.withMode m)).atRest := by
    have mode : (leaveMode s.mode (s.withMode m)).mode = m :=
      ((sameBut_iff_mask (allBut [.mode]) _ _).mpr (by simp) .mode (by simp) :
        (s.withMode m).mode = _).symm
    refine ⟨by rw [mode]; exact idle, ?_⟩
    by_cases run : s.mode = .run
    · rw [run]
      exact stopRun_stopped _
    · have rests := ((modeOk_iff s).mp h).1 run
      have kept : (s.withMode m).atRest :=
        ⟨idle, rests.stopped.productions, rests.stopped.contexts, rests.stopped.entries⟩
      exact ((moves_leaveMode s.mode).atRest kept).stopped
  have entered := (moves_enterMode m).atRest left
  refine ⟨entered, ?_⟩
  rintro rfl
  have mode : (enterMode .bypass (leaveMode s.mode (s.withMode .bypass))).mode = .bypass :=
    ((sameBut_iff_mask (allBut [.mode]) _ _).mpr (by simp) .mode (by simp) : (s.withMode .bypass).mode = _).symm
  exact ⟨entered, mode, left.stopped.enterBypass⟩

theorem State.modeOk.changeMode (h : s.modeOk) (m : Mode) : (changeMode m s).modeOk := by
  have ports : ∀ u : State, Moves u (eachPort reevaluateDemand u) := fun u =>
    moves_eachPort fun p _ => moves_reevaluateDemand p
  have modeOf : ∀ u : State, Turns (enterMode m (leaveMode s.mode (s.withMode m))) u → u.mode = m := fun u reached =>
    reached.mode.trans ((sameBut_iff_mask (allBut [.mode]) _ _).mpr (by simp) .mode (by simp) :
      (s.withMode m).mode = _).symm
  have reached : Turns (enterMode m (leaveMode s.mode (s.withMode m))) (Machine.changeMode m s) :=
    turns_ite ((ports _).turns.trans turns_orientMode) (turns_orientMode.trans (ports _).turns)
  by_cases idle : m = .run
  · exact modeOk_run ((modeOf _ reached).trans idle)
  obtain ⟨rests, asleep⟩ := h.entered idle
  refine (modeOk_iff _).mpr ⟨fun _ => reached.atRest rests, fun b => ⟨?_, reached.asleep (asleep ?_)⟩⟩
  · have bypass : m = .bypass := (modeOf _ reached).symm.trans b
    have forgotten : ∀ u : State, Turns (enterMode m (leaveMode s.mode (s.withMode m))) u →
        (orientMode u).orient.state = .none := fun u hu => by
      have mode : u.mode = .bypass := (modeOf u hu).trans bypass
      rw [orientMode, if_pos mode]
      exact forgetHead_state _
    unfold Machine.changeMode
    dsimp only
    split
    · exact forgotten _ (ports _).turns
    · rw [(ports _).works.steady.2.1]
      exact forgotten _ .refl
  · exact (modeOf _ reached).symm.trans b

theorem afterReset_modeOk (s : State) (straps : Straps) (now : NodeTime) (cells : Nat) :
    (s.afterReset straps now cells).modeOk := by
  have productions : ∀ k : PlanNo, (s.afterReset straps now cells).engine.productions[k] = none :=
    fun k => Vector.getElem_replicate ..
  have contexts : ∀ k : ContextNo, (s.afterReset straps now cells).router.contexts[k] = none :=
    fun k => Vector.getElem_replicate ..
  have lists : (s.afterReset straps now cells).silent := fun p => by cases p <;> rfl
  refine ⟨fun _ => ⟨productions, contexts, fun p e he => ?_⟩, fun _ => ⟨rfl, lists⟩⟩
  rw [lists p] at he
  cases he

theorem restart_mode (c : AgentCommand) (s : State) : (restart c s).mode = .run := by
  have ports : ∀ u : State, Turns u (eachPort reevaluateDemand u) := fun u =>
    (moves_eachPort fun p _ => moves_reevaluateDemand p).turns
  have replied : Turns (keepCopy c s s.afterRestart) (replyStatus c .ok (keepCopy c s s.afterRestart)) :=
    (moves_replyStatus c _).turns
  have reached : Turns (keepCopy c s s.afterRestart) (restart c s) :=
    (turns_ite ((replied.trans (ports _)).trans turns_reevaluateCandidacy)
      ((replied.trans turns_reevaluateCandidacy).trans (ports _))).trans moves_startOutputs.turns
  exact reached.mode

theorem modeOk_ite {c : Prop} [Decidable c] (hs : c → s.modeOk) (ht : ¬c → t.modeOk) : (if c then s else t).modeOk := by
  split
  · exact hs ‹_›
  · exact ht ‹_›

theorem State.modeOk.runCommand (h : s.modeOk) {n : CommandName} {applies : State → Bool}
    {act : AgentCommand → State → State} (hact : ∀ c u, u.modeOk → (act c u).modeOk) :
    (runCommand n applies act s).modeOk := by
  have known : (disposeUnknown s.agent.queue s).modeOk := h.moves moves_disposeUnknown
  unfold Machine.runCommand
  dsimp only
  split
  · exact h
  · exact modeOk_ite (fun _ => (modeOk_ite (fun _ => hact _ _ known) fun _ => known.moves (moves_reply _ _ _)).moves
      moves_popCommand) fun _ => h

theorem State.modeOk.setMode (h : s.modeOk) (c : AgentCommand) : (setMode c s).modeOk := by
  unfold Machine.setMode
  split
  · exact h.moves (moves_replyStatus _ _)
  · exact (modeOk_ite (fun _ => h) fun _ => h.changeMode _).moves (moves_replyStatus _ _)

/-- A node in BYPASS routes no cell (R104). -/
theorem not_routes_of_bypass (bypass : s.mode = .bypass) (p : TrunkPort) (c : Cell) (k : Option CellKind) :
    s.routes p c k = false := by
  simp [State.routes, bypass]

/-- A command that is listed neither for the mode nor resets anything leaves no orientation state but NONE in BYPASS. -/
theorem exec_orient_bypass {c : Instr} (steady : Part.mode ∉ Instr.touched c) (e : exec c s = .next t)
    (bypass : s.mode = .bypass) (none : s.orient.state = .none) : t.orient.state = .none := by
  by_cases still : Part.orient ∉ Instr.touched c
  · have same : s.orient = t.orient := exec_same e still
    rw [← same]
    exact none
  suffices ∃ u : State, exec c s = .next u ∧ u.orient.state = .none by
    obtain ⟨u, next, ok⟩ := this
    exact Host.Outcome.next.inj (next.symm.trans e) ▸ ok
  cases c
  case cabActiveFall =>
    refine ⟨_, rfl, ?_⟩
    split
    · exact reevaluateCandidacy_bypass (s := s.withCabActive false) bypass none
    · exact none
  case beacon p x =>
    refine ⟨_, rfl, ?_⟩
    rw [not_routes_of_bypass bypass]
    exact none
  case beaconPeriod =>
    refine ⟨_, rfl, ?_⟩
    split
    · rw [(moves_beaconBoth.works).steady.2.1]
      exact none
    · exact none
  case orientationExpiry =>
    refine ⟨_, rfl, ?_⟩
    split
    · exact forgetHead_state s
    · exact none
  case resumeTime =>
    refine ⟨_, rfl, ?_⟩
    rw [none]
    exact none
  case powerOnReset | resetLine | cabActiveRise | setMode | restart => exact absurd (by simp [Instr.touched]) steady
  all_goals exact absurd (by simp [Instr.touched]) still

theorem exec_modeOk {c : Instr} (h : s.modeOk) (e : exec c s = .next t) : t.modeOk := by
  by_cases steady : Part.mode ∉ Instr.touched c
  · obtain ⟨u, next, reached⟩ := exec_turns s steady
    obtain rfl := Host.Outcome.next.inj (e.symm.trans next)
    exact h.turns reached (exec_orient_bypass steady e)
  suffices ∃ u : State, exec c s = .next u ∧ u.modeOk by
    obtain ⟨u, next, ok⟩ := this
    exact Host.Outcome.next.inj (next.symm.trans e) ▸ ok
  cases c
  case powerOnReset | resetLine => exact ⟨_, rfl, (afterReset_modeOk ..).reevaluateCandidacy⟩
  case cabActiveRise =>
    have risen : (s.withCabActive true).modeOk := h
    exact ⟨_, rfl, modeOk_ite (fun _ => h) fun _ => modeOk_ite (fun _ => risen.changeMode _)
      fun _ => risen.reevaluateCandidacy⟩
  case setMode => exact ⟨_, rfl, h.runCommand fun c _ hu => hu.setMode c⟩
  case restart => exact ⟨_, rfl, h.runCommand fun c u _ => modeOk_run (restart_mode c u)⟩
  all_goals exact absurd (by simp [Instr.touched]) steady

theorem stepKeepsTheModesRules : Claim.StepKeepsTheModesRules := by
  intro s t h e
  rcases step_cases e with ⟨-, rfl⟩ | ⟨c, rest, -, done⟩
  · exact h.moves moves_idle
  · exact exec_modeOk (h.moves (moves_quiet (by simp [quietParts]))) done

end

end Sys2Proof.Machine
end

section
/-! PROOF. The screen outputs (R146, R147): an output runs on a cab-end node only and has a frame exactly while it runs;
a frame is composed only while the node is head. -/

namespace Sys2Proof.Machine

section
variable {s t u : State}

/-! ### What is drawn, whoever is head -/

/-- R146, and R147 of a frame that is not composed. -/
structure Output.drawnOk (o : Output) (cabEnd : Bool) : Prop where
  cab : o.running = true → cabEnd = true
  frame : o.running = true ↔ o.frame ≠ none
  empty : ∀ f : ScreenFrame, o.frame = some f → f.composed = false → f.panes = [] ∧ f.held = []

/-- No output composes (R147). -/
def State.composesNothing (s : State) : Prop :=
  ∀ (sc : Screen) (f : ScreenFrame), (s.comp.outputs[sc]).frame = some f → f.composed = false

def State.drawnOk (s : State) : Prop := ∀ sc : Screen, (s.comp.outputs[sc]).drawnOk s.straps.cabEnd

/-- R147: only a head composes. -/
def State.composeOk (s : State) : Prop := s.isHead = false → s.composesNothing

theorem outputsOk_iff (s : State) : s.outputsOk ↔ s.drawnOk ∧ s.composeOk := by
  constructor
  · intro h
    refine ⟨fun sc => ?_, fun other sc f drawn => ?_⟩
    · obtain ⟨cab, frame, composed⟩ := h sc
      exact ⟨cab, frame, fun f drawn => (composed f drawn).2⟩
    · obtain ⟨-, -, composed⟩ := h sc
      by_contra! on
      have head := (composed f drawn).1 (by simpa using on)
      rw [other] at head
      cases head
  · rintro ⟨drawn, compose⟩ sc
    refine ⟨(drawn sc).cab, (drawn sc).frame, fun f hf => ⟨fun on => ?_, (drawn sc).empty f hf⟩⟩
    by_contra! other
    have off := compose (by simpa using other) sc f hf
    rw [on] at off
    cases off

theorem drawnOk_congr (straps : t.straps = s.straps) (outputs : t.comp.outputs = s.comp.outputs) (h : s.drawnOk) :
    t.drawnOk := fun sc => by rw [straps, outputs]; exact h sc

theorem drawnOk_of_mask (same : t.mask (allBut [.straps, .comp]) = s.mask (allBut [.straps, .comp])) (h : s.drawnOk) :
    t.drawnOk := by
  have comp : s.comp = t.comp := same_of_allBut same .comp (by simp)
  exact drawnOk_congr (same_of_allBut same .straps (by simp) : s.straps = t.straps).symm (by rw [comp]) h

theorem composesNothing_congr (outputs : t.comp.outputs = s.comp.outputs) (h : s.composesNothing) :
    t.composesNothing := fun sc => by rw [outputs]; exact h sc

theorem isHead_congr (orient : t.orient = s.orient) : t.isHead = s.isHead := by
  unfold State.isHead; rw [orient]

theorem composeOk_congr (orient : t.orient = s.orient) (outputs : t.comp.outputs = s.comp.outputs) (h : s.composeOk) :
    t.composeOk := fun other => composesNothing_congr outputs (h (isHead_congr orient ▸ other))

theorem composeOk_of_mask (same : t.mask (allBut [.orient, .comp]) = s.mask (allBut [.orient, .comp]))
    (h : s.composeOk) : t.composeOk := by
  have comp : s.comp = t.comp := same_of_allBut same .comp (by simp)
  exact composeOk_congr (same_of_allBut same .orient (by simp) : s.orient = t.orient).symm (by rw [comp]) h

/-! ### Single changes -/

/-- The outputs after a change of one of them. -/
theorem withOutput_outputs (sc q : Screen) (o : Output) (s : State) :
    (s.withOutput sc o).comp.outputs[q] = if q = sc then o else s.comp.outputs[q] := by
  split
  next same => rw [same]; exact getElem_set_same _ _ _
  next other => exact getElem_set_ne _ (fun e => other e.symm) _

theorem evaluate_outputs (sc : Screen) (s : State) : (evaluate sc s).comp.outputs = s.comp.outputs := by
  unfold evaluate
  dsimp only
  split
  · rfl
  · split
    · split <;> rfl
    · rfl

theorem publishTile_outputs (i : SlotNo) (v : ViewNo) (s : State) :
    (publishTile i v s).comp.outputs = s.comp.outputs := by
  unfold publishTile evaluateBoth
  dsimp only
  split
  · rfl
  · rw [evaluate_outputs, evaluate_outputs]
    rfl

theorem publishTile_same (i : SlotNo) (v : ViewNo) (s : State) :
    (publishTile i v s).straps = s.straps ∧ (publishTile i v s).orient = s.orient := by
  have same : SameBut (allBut [.straps, .orient]) s (publishTile i v s) := (sameBut_iff_mask _ _ _).mpr (by simp)
  exact ⟨(same .straps (by simp)).symm, (same .orient (by simp)).symm⟩

theorem Move.drawnOk (m : Move s t) (h : s.drawnOk) : t.drawnOk := by
  have keep (same : t.mask (allBut [.straps, .comp]) = s.mask (allBut [.straps, .comp])) : t.drawnOk :=
    drawnOk_of_mask same h
  cases m with
  | quiet same => exact keep (mask_of_quiet same (by simp [quietParts]))
  | comp c outputs => exact drawnOk_congr (s := s) rfl outputs h
  | publish k x isOpen => exact drawnOk_congr (s := s) (publishTile_same _ _ _).1 (publishTile_outputs _ _ _) h
  | output sc o cab frame composed held =>
    intro q
    rw [withOutput_outputs]
    split
    · refine ⟨fun runs => ?_, frame (h sc).frame, fun f hf => (composed f hf).2⟩
      exact (cab runs).elim id fun ran => (h sc).cab ran
    · exact h q
  | _ => exact keep (by simp)

theorem Move.composeOk (m : Move s t) (h : s.composeOk) : t.composeOk := by
  have keep (same : t.mask (allBut [.orient, .comp]) = s.mask (allBut [.orient, .comp])) : t.composeOk :=
    composeOk_of_mask same h
  cases m with
  | quiet same => exact keep (mask_of_quiet same (by simp [quietParts]))
  | comp c outputs => exact composeOk_congr (s := s) rfl outputs h
  | publish k x isOpen => exact composeOk_congr (s := s) (publishTile_same _ _ _).2 (publishTile_outputs _ _ _) h
  | output sc o cab frame composed held =>
    intro other q f drawn
    rw [withOutput_outputs] at drawn
    split at drawn
    · by_contra! on
      have head := (composed f drawn).1 (by simpa using on)
      have same : s.isHead = false := other
      rw [same] at head
      cases head
    · exact h other q f drawn
  | _ => exact keep (by simp)

/-! ### Work, and what every change keeps of the drawn frames -/

theorem FrameStep.drawnOk (m : FrameStep s t) (h : s.drawnOk) : t.drawnOk := by
  cases m with
  | beside same => exact drawnOk_of_mask (mask_mono (by simp [frameParts]) same) h
  | move m => exact m.drawnOk h
  | request p i sid => exact drawnOk_of_mask (by simp) h

theorem FrameStep.composeOk (m : FrameStep s t) (h : s.composeOk) : t.composeOk := by
  cases m with
  | beside same => exact composeOk_of_mask (mask_mono (by simp [frameParts]) same) h
  | move m => exact m.composeOk h
  | request p i sid => exact composeOk_of_mask (by simp) h

theorem Works.composeOk (m : Works s t) (h : s.composeOk) : t.composeOk := by
  induction m with
  | refl => exact h
  | tail _ w ih =>
    cases w with
    | move m => exact m.composeOk ih
    | takes p f pic => exact frameTaken_keeps (fun _ _ => FrameStep.composeOk) p f pic ih
    | window w n => exact ih

theorem Moves.composeOk (m : Moves s t) (h : s.composeOk) : t.composeOk := m.works.composeOk h

/-- Nothing runs and nothing is drawn after a reset. -/
theorem Compositor.reset_outputs (sc : Screen) : Compositor.reset.outputs[sc] = ⟨false, none⟩ :=
  Vector.getElem_replicate ..

theorem Change.drawnOk (m : Change s t) (h : s.drawnOk) : t.drawnOk := by
  have off : ∀ u : State, u.comp = Compositor.reset → u.drawnOk := fun u comp sc => by
    rw [comp, Compositor.reset_outputs]
    exact ⟨nofun, ⟨nofun, fun none => absurd rfl none⟩, nofun⟩
  cases m with
  | work w =>
    cases w with
    | move m => exact m.drawnOk h
    | takes p f pic => exact frameTaken_keeps (fun _ _ => FrameStep.drawnOk) p f pic h
    | window w n => exact h
  | mode | orient => exact h
  | reset straps now cells => exact off _ rfl
  | restart c => exact off _ rfl

/-! ### The head role -/

theorem composeOk_head (head : s.isHead = true) : s.composeOk := fun other => by rw [head] at other; cases other

theorem State.composesNothing.composeOk (h : s.composesNothing) : s.composeOk := fun _ => h

theorem stopFrame_composes {sc q : Screen} {f : ScreenFrame}
    (h : ((stopFrame sc s).comp.outputs[q]).frame = some f) : f.composed = false
      ∨ q ≠ sc ∧ (s.comp.outputs[q]).frame = some f := by
  unfold stopFrame at h
  split at h
  next idle =>
    by_cases same : q = sc
    · rw [same, idle] at h
      cases h
    · exact .inr ⟨same, h⟩
  next g drawn =>
    rw [withOutput_outputs] at h
    split at h
    · obtain rfl := Option.some.inj h
      exact .inl rfl
    next other => exact .inr ⟨other, h⟩

/-- Composing stopped, no output composes (R147). -/
theorem stopComposing_composes (s : State) : (stopComposing s).composesNothing := by
  intro sc f drawn
  rcases stopFrame_composes drawn with off | ⟨other, drawn⟩
  · exact off
  · rcases stopFrame_composes drawn with off | ⟨another, -⟩
    · exact off
    · match sc with
      | 0 => exact absurd rfl another
      | 1 => exact absurd rfl other

theorem composeOk_ite {c : Prop} [Decidable c] (hs : c → s.composeOk) (ht : ¬c → t.composeOk) :
    (if c then s else t).composeOk := by
  split
  · exact hs ‹_›
  · exact ht ‹_›

theorem composeOk_becomeHead (s : State) : (becomeHead s).composeOk := by
  refine composeOk_head ?_
  have reached : Moves (s.withOrient s.headRecord) (becomeHead s) := moves_beaconBoth.trans (moves_reportOrientation _)
  rw [isHead_congr reached.works.steady.2.1]
  rfl

/-- A node that begins its candidacy was no head (R97). -/
theorem State.composeOk.beginCandidacy (h : s.composeOk) (none : s.orient.candidate = false) :
    (beginCandidacy s).composeOk := by
  have nothing := h (by simp [State.isHead, none])
  unfold Machine.beginCandidacy
  split
  · exact (moves_addTogether _).composeOk (s := s.withOrient _) fun _ => nothing
  · exact composeOk_becomeHead s

theorem State.composeOk.endCandidacy (h : s.composeOk) : (endCandidacy s).composeOk := by
  refine composeOk_ite (fun conflict => ?_) fun _ => (stopComposing_composes _).composeOk
  have nothing := h (by simp [State.isHead, conflict])
  exact (moves_reportOrientation _).composeOk (s := s.withOrient _) fun _ => nothing

theorem State.composeOk.reevaluateCandidacy (h : s.composeOk) : (reevaluateCandidacy s).composeOk := by
  refine composeOk_ite (fun _ => h) fun changed => composeOk_ite (fun may => h.beginCandidacy ?_) fun _ =>
    h.endCandidacy
  rw [may] at changed
  simpa using Ne.symm changed

/-- Candidacy re-evaluated, the flag says whether the node may be head (R97). -/
theorem reevaluateCandidacy_candidate (s : State) : (reevaluateCandidacy s).orient.candidate = s.mayBeHead := by
  have begun : s.mayBeHead = true → (beginCandidacy s).orient.candidate = true := fun may => by
    unfold beginCandidacy
    split
    · rw [(moves_addTogether _).works.steady.2.1]; rfl
    · have reached : Moves (s.withOrient s.headRecord) (becomeHead s) :=
        moves_beaconBoth.trans (moves_reportOrientation _)
      rw [reached.works.steady.2.1]; rfl
  have ended : (endCandidacy s).orient.candidate = false := by
    unfold endCandidacy
    split
    · rw [(moves_reportOrientation _).works.steady.2.1]; rfl
    · rw [moves_stopComposing.works.steady.2.1, (moves_reportOrientation _).works.steady.2.1]; rfl
  unfold reevaluateCandidacy
  split
  next same => exact same.symm
  next =>
    split
    next may => rw [begun may, may]
    next none => rw [ended]; simpa using none

theorem State.composeOk.forgetHead (h : s.composeOk) (none : s.isHead = false) : (forgetHead s).composeOk := by
  have nothing := h none
  exact (moves_reportOrientation _).composeOk (s := s.withOrient _) fun _ => nothing

theorem State.composeOk.takeBeacon (h : s.composeOk) (p : TrunkPort) (x n : Nat) : (takeBeacon p x n s).composeOk := by
  refine composeOk_ite (fun _ => composeOk_ite (fun _ => (stopComposing_composes _).composeOk) fun _ => h)
    fun other => composeOk_ite (fun _ => ?_) fun _ => h
  have nothing := h (by simpa using other)
  have reached : Moves (s.withOrient (s.following p x n)) (followBeacon p x n s) :=
    (moves_placeBeacon _ _ _).trans (moves_reportOrientation _)
  exact reached.composeOk fun _ => nothing

theorem State.composeOk.orientMode (h : s.composeOk) : (orientMode s).composeOk := by
  refine composeOk_ite (fun bypass => h.reevaluateCandidacy.forgetHead ?_) fun _ => h.reevaluateCandidacy
  rw [State.isHead, reevaluateCandidacy_candidate, not_mayBeHead_of_bypass bypass]
  rfl

theorem State.composeOk.changeMode (h : s.composeOk) (m : Mode) : (changeMode m s).composeOk := by
  have ports : ∀ u : State, Moves u (eachPort reevaluateDemand u) := fun u =>
    moves_eachPort fun p _ => moves_reevaluateDemand p
  have entered : (enterMode m (leaveMode s.mode (s.withMode m))).composeOk :=
    (moves_enterMode m).composeOk ((moves_leaveMode _).composeOk (s := s.withMode m) h)
  exact composeOk_ite (fun _ => ((ports _).composeOk entered).orientMode)
    fun _ => (ports _).composeOk entered.orientMode

theorem restart_composeOk (c : AgentCommand) (s : State) : (restart c s).composeOk := by
  have ports : ∀ u : State, Moves u (eachPort reevaluateDemand u) := fun u =>
    moves_eachPort fun p _ => moves_reevaluateDemand p
  have cleared : (keepCopy c s s.afterRestart).composeOk := fun _ sc f drawn => by
    have off : ((keepCopy c s s.afterRestart).comp.outputs[sc]).frame = none := by
      show (Compositor.reset.outputs[sc]).frame = none
      rw [Compositor.reset_outputs]
    rw [off] at drawn
    cases drawn
  have replied := (moves_replyStatus c .ok).composeOk cleared
  exact moves_startOutputs.composeOk (composeOk_ite (fun _ => ((ports _).composeOk replied).reevaluateCandidacy)
    fun _ => (ports _).composeOk replied.reevaluateCandidacy)

theorem State.composeOk.runCommand (h : s.composeOk) {n : CommandName} {applies : State → Bool}
    {act : AgentCommand → State → State} (hact : ∀ c u, u.composeOk → (act c u).composeOk) :
    (runCommand n applies act s).composeOk := by
  have known : (disposeUnknown s.agent.queue s).composeOk := moves_disposeUnknown.composeOk h
  unfold Machine.runCommand
  dsimp only
  split
  · exact h
  · exact composeOk_ite (fun _ => moves_popCommand.composeOk (composeOk_ite (fun _ => hact _ _ known)
      fun _ => (moves_reply _ _ _).composeOk known)) fun _ => h

theorem State.composeOk.setMode (h : s.composeOk) (c : AgentCommand) : (setMode c s).composeOk := by
  unfold Machine.setMode
  split
  · exact (moves_replyStatus _ _).composeOk h
  · exact (moves_replyStatus _ _).composeOk (composeOk_ite (fun _ => h) fun _ => h.changeMode _)

theorem exec_composeOk {c : Instr} (h : s.composeOk) (e : exec c s = .next t) : t.composeOk := by
  by_cases steady : Part.orient ∉ Instr.touched c
  · obtain ⟨u, next, reached⟩ := exec_works s steady
    obtain rfl := Host.Outcome.next.inj (e.symm.trans next)
    exact reached.composeOk h
  suffices ∃ u : State, exec c s = .next u ∧ u.composeOk by
    obtain ⟨u, next, ok⟩ := this
    exact Host.Outcome.next.inj (next.symm.trans e) ▸ ok
  cases c
  case powerOnReset straps | resetLine straps =>
    refine ⟨_, rfl, State.composeOk.reevaluateCandidacy fun _ sc f drawn => ?_⟩
    have off : (Compositor.reset.outputs[sc]).frame = some f := drawn
    rw [Compositor.reset_outputs] at off
    cases off
  case cabActiveRise =>
    have risen : (s.withCabActive true).composeOk := h
    exact ⟨_, rfl, composeOk_ite (fun _ => h) fun _ => composeOk_ite (fun _ => risen.changeMode _)
      fun _ => risen.reevaluateCandidacy⟩
  case cabActiveFall =>
    have fallen : (s.withCabActive false).composeOk := h
    exact ⟨_, rfl, composeOk_ite (fun _ => fallen.reevaluateCandidacy) fun _ => h⟩
  case beacon p x =>
    have handed : (handOn p s).composeOk := (moves_handOn p).composeOk h
    refine ⟨_, rfl, composeOk_ite (fun _ => composeOk_ite (fun _ => ?_) fun _ =>
      (moves_countRouter _).composeOk handed) fun _ => h⟩
    unfold routeBeacon
    split
    · exact handed
    · exact handed.takeBeacon _ _ _
  case beaconPeriod =>
    refine ⟨_, rfl, composeOk_ite (fun _ => moves_beaconBoth.composeOk ?_) fun _ => h⟩
    exact h
  case orientationExpiry =>
    refine ⟨_, rfl, composeOk_ite (fun due => h.forgetHead ?_) fun _ => h⟩
    simp only [Bool.and_eq_true, decide_eq_true_eq, Bool.not_eq_true'] at due
    exact due.1.2
  case resumeTime => exact ⟨_, rfl, composeOk_ite (fun _ => composeOk_becomeHead s) fun _ => h⟩
  case setMode => exact ⟨_, rfl, h.runCommand fun c _ hu => hu.setMode c⟩
  case restart => exact ⟨_, rfl, h.runCommand fun c u _ => restart_composeOk c u⟩
  all_goals exact absurd (by simp [Instr.touched]) steady

theorem stepKeepsOutputs : Claim.StepKeepsOutputs := by
  intro s t h e
  obtain ⟨drawn, compose⟩ := (outputsOk_iff s).mp h
  refine (outputsOk_iff t).mpr ⟨step_keeps (fun _ _ => Change.drawnOk) e drawn, ?_⟩
  rcases step_cases e with ⟨-, rfl⟩ | ⟨c, rest, -, done⟩
  · exact moves_idle.composeOk compose
  · exact exec_composeOk ((moves_quiet (by simp [quietParts])).composeOk compose) done

end

/-- Settles O10: the candidacy flag and a head's record, what a mode has stopped, and the outputs, each with its own
invariant over the single changes of a command. -/
theorem stepKeepsTheHeadRoleAndTheModes : Obligations.StepKeepsTheHeadRoleAndTheModes :=
  ⟨stepKeepsHeadRole, stepKeepsTheModesRules, stepKeepsOutputs⟩

end Sys2Proof.Machine
end

section
/-! PROOF. The account of the tile store (R39 to R51) over a store alone, the slots its writers write and the holds
readers have on its slots: what each operation of the store leaves of it. -/

namespace Sys2Proof.Machine

/-- R39: a slot is as its state says, where `writes` says which slot an owner writes. -/
def Slot.fits (x : Slot) (writes : Owner → Option SlotNo) (i : SlotNo) : Prop :=
  match x.state with
  | .free => x = Slot.reset
  | .filling => x.holders = 0 ∧ x.pinned = false ∧ x.damaged = false ∧ x.view = none ∧ writes x.owner = some i
  | .latest => x.owner = .none
  | .retired => x.owner = .none ∧ 0 < x.holders
  | .evidence => x.owner = .none ∧ x.pinned = true

/-- A slot that may be held: LATEST, RETIRED or EVIDENCE (R45). -/
def Slot.readable (x : Slot) : Prop := x.state ≠ .free ∧ x.state ≠ .filling

/-- R39 to R51: the account of a store, by the slots that owners write and the holds on each slot. -/
structure Account (st : Store) (writes : Owner → Option SlotNo) (holds : SlotNo → Nat) : Prop where
  slot : ∀ i : SlotNo, (st.slots[i]).fits writes i
  holders : ∀ i : SlotNo, (st.slots[i]).holders = holds i
  pinned : ∀ i : SlotNo, (st.slots[i]).pinned = true ↔ ∃ k : Fin 4, ∃ e : Evidence, st.evidence[k] = some e ∧ e.slot = i
  writer : ∀ o i, writes o = some i → (st.slots[i]).state = .filling ∧ (st.slots[i]).owner = o
  distinct : ∀ j k : Fin 4, ∀ d e : Evidence, st.evidence[j] = some d → st.evidence[k] = some e → d.slot = e.slot → j = k
  map : st.mapOk

section
variable {st st' : Store} {writes writes' : Owner → Option SlotNo} {holds holds' : SlotNo → Nat} {i : SlotNo}

theorem Account.congr (h : Account st writes holds) (slots : st'.slots = st.slots) (viewMap : st'.viewMap = st.viewMap)
    (evidence : st'.evidence = st.evidence) : Account st' writes holds :=
  ⟨by rw [slots]; exact h.slot, by rw [slots]; exact h.holders, by rw [slots, evidence]; exact h.pinned,
    by rw [slots]; exact h.writer, by rw [evidence]; exact h.distinct, h.map.congr slots viewMap⟩

/-- The slots that other owners write are no matter to a slot. -/
theorem Slot.fits.congr {x : Slot} (h : x.fits writes i) (same : ∀ o, writes o = some i → writes' o = some i) :
    x.fits writes' i := by
  cases state : x.state with
  | free | latest | retired | evidence => simpa only [Slot.fits, state] using h
  | filling =>
    simp only [Slot.fits, state] at h ⊢
    obtain ⟨holders, pinned, damaged, view, own⟩ := h
    exact ⟨holders, pinned, damaged, view, same _ own⟩

/-- The same account, said with other functions that agree. -/
theorem Account.same (h : Account st writes holds) (same : ∀ j, holds' j = holds j) : Account st writes holds' := by
  obtain rfl : holds' = holds := funext same
  exact h

theorem Account.writesSame (h : Account st writes holds) (same : ∀ o, writes' o = writes o) :
    Account st writes' holds := by
  obtain rfl : writes' = writes := funext same
  exact h

/-- A slot that is not in the account with a hold, a pin mark or a view may be read. -/
theorem Account.readable_of_holds (h : Account st writes holds) (held : 0 < holds i) : (st.slots[i]).readable := by
  have fits := h.slot i
  rw [← h.holders i] at held
  constructor <;> intro state <;> simp only [Slot.fits, state] at fits
  · rw [fits] at held; exact absurd held (by decide)
  · omega

theorem Account.readable_of_pinned (h : Account st writes holds) (pin : (st.slots[i]).pinned = true) :
    (st.slots[i]).readable := by
  have fits := h.slot i
  constructor <;> intro state <;> simp only [Slot.fits, state] at fits
  · rw [fits] at pin; cases pin
  · rw [fits.2.1] at pin; cases pin

theorem Account.readable_of_latest (h : Account st writes holds) {v : ViewNo} (named : st.viewMap[v] = some i) :
    (st.slots[i]).readable := by
  have latest := (h.map.latest_of_map named).1
  exact ⟨by rw [latest]; decide, by rw [latest]; decide⟩

/-- A slot that may be read has no writer. -/
theorem Account.unwritten (h : Account st writes holds) (readable : (st.slots[i]).state ≠ .filling) (o : Owner) :
    writes o ≠ some i := fun w => readable (h.writer o i w).1

/-- One slot replaced, and what its writer writes, its holds, and the evidence list with it. -/
theorem Account.replace (h : Account st writes holds) {y : Slot} {evidence : Vector (Option Evidence) 4}
    (fits : y.fits writes' i) (view : (st.slots[i]).keepsView y) (holders : y.holders = holds' i)
    (held : ∀ j, j ≠ i → holds' j = holds j) (writer : ∀ o, writes' o = some i → y.state = .filling ∧ y.owner = o)
    (written : ∀ o j, j ≠ i → (writes' o = some j ↔ writes o = some j))
    (own : y.pinned = true ↔ ∃ k : Fin 4, ∃ e : Evidence, evidence[k] = some e ∧ e.slot = i)
    (others : ∀ j, j ≠ i → ((∃ k : Fin 4, ∃ e : Evidence, evidence[k] = some e ∧ e.slot = j)
      ↔ ∃ k : Fin 4, ∃ e : Evidence, st.evidence[k] = some e ∧ e.slot = j))
    (distinct : ∀ j k : Fin 4, ∀ d e : Evidence, evidence[j] = some d → evidence[k] = some e → d.slot = e.slot → j = k) :
    Account { st.setSlot i y with evidence := evidence } writes' holds' := by
  have slots : ∀ j, j ≠ i → (st.setSlot i y).slots[j] = st.slots[j] := fun j other => setSlot_other other _ _
  have here : (st.setSlot i y).slots[i] = y := setSlot_same _ _ _
  refine ⟨fun j => ?_, fun j => ?_, fun j => ?_, fun o j w => ?_, distinct,
    (h.map.setSlot view).congr rfl rfl⟩ <;> dsimp only <;> by_cases same : j = i
  · rw [same, here]; exact fits
  · rw [slots j same]; exact (h.slot j).congr fun o => (written o j same).mpr
  · rw [same, here, holders]
  · rw [slots j same, held j same]; exact h.holders j
  · rw [same, here]; exact own
  · rw [slots j same, h.pinned j]; exact (others j same).symm
  · rw [same] at w; rw [same, here]; exact writer o w
  · rw [slots j same]; exact h.writer o j ((written o j same).mp w)

/-- One slot replaced, its pin mark kept. -/
theorem Account.setSlot (h : Account st writes holds) {y : Slot} (fits : y.fits writes' i)
    (view : (st.slots[i]).keepsView y) (pinned : y.pinned = (st.slots[i]).pinned) (holders : y.holders = holds' i)
    (held : ∀ j, j ≠ i → holds' j = holds j) (writer : ∀ o, writes' o = some i → y.state = .filling ∧ y.owner = o)
    (written : ∀ o j, j ≠ i → (writes' o = some j ↔ writes o = some j)) : Account (st.setSlot i y) writes' holds' :=
  (h.replace (evidence := st.evidence) fits view holders held writer written (by rw [pinned]; exact h.pinned i)
    (fun _ _ => Iff.rfl) h.distinct).congr rfl rfl rfl

/-- A slot that may be read replaced, its writers none. -/
theorem Account.setReadable (h : Account st writes holds) {y : Slot} (readable : (st.slots[i]).readable)
    (fits : y.fits writes i) (view : (st.slots[i]).keepsView y) (pinned : y.pinned = (st.slots[i]).pinned)
    (holders : y.holders = holds' i) (held : ∀ j, j ≠ i → holds' j = holds j) : Account (st.setSlot i y) writes holds' :=
  h.setSlot fits view pinned holders held (fun o w => absurd w (h.unwritten readable.2 o)) fun _ _ _ => Iff.rfl

/-- A slot with other contents alone (record, bytes). -/
theorem Account.setContents (h : Account st writes holds) {y : Slot} (filling : (st.slots[i]).state = .filling)
    (state : y.state = (st.slots[i]).state) (owner : y.owner = (st.slots[i]).owner) (view : y.view = (st.slots[i]).view)
    (holders : y.holders = (st.slots[i]).holders) (pinned : y.pinned = (st.slots[i]).pinned)
    (damaged : y.damaged = (st.slots[i]).damaged) : Account (st.setSlot i y) writes holds := by
  have fits := h.slot i
  simp only [Slot.fits, filling] at fits
  have new : y.fits writes i := by
    simp only [Slot.fits, state, filling, owner, view, holders, pinned, damaged]
    exact fits
  refine h.setSlot new (Slot.keepsView_of_eq state view) pinned (by rw [holders, h.holders]) (fun _ _ => rfl)
    (fun o w => ?_) fun _ _ _ => Iff.rfl
  rw [state, owner]
  exact h.writer o i w

/-! ### Holds -/

theorem Account.takeHold (h : Account st writes holds) (readable : (st.slots[i]).readable)
    (count : ∀ j, holds' j = holds j + if j = i then 1 else 0) : Account (st.takeHold i) writes holds' := by
  have taken : st.takeHold i = st.setSlot i { st.slots[i] with holders := (st.slots[i]).holders + 1 } := by
    unfold Store.takeHold
    dsimp only
    split
    next free => exact absurd free readable.1
    next filling => exact absurd filling readable.2
    all_goals rfl
  rw [taken]
  refine h.setReadable readable ?_ (Slot.keepsView_of_eq rfl rfl) rfl (by rw [h.holders, count, if_pos rfl])
    fun j other => by simp [count, other]
  have fits := h.slot i
  cases state : (st.slots[i]).state with
  | free => exact absurd state readable.1
  | filling => exact absurd state readable.2
  | latest | evidence => simpa only [Slot.fits, state] using fits
  | retired =>
    simp only [Slot.fits, state] at fits ⊢
    exact ⟨fits.1, Nat.succ_pos _⟩

theorem Account.endHold (h : Account st writes holds) (count : ∀ j, holds j = holds' j + if j = i then 1 else 0) :
    Account (st.endHold i) writes holds' := by
  have held : 0 < holds i := by simp [count i]
  have readable := h.readable_of_holds held
  have fits := h.slot i
  have number := h.holders i
  have one : holds i = holds' i + 1 := by simp [count i]
  have others : ∀ j, j ≠ i → holds' j = holds j := fun j other => by simp [count j, other]
  rcases endHold_cases (st.slots[i]) with ⟨none, -⟩ | ⟨last, retired, e⟩ | ⟨some, more, e⟩
  · omega
  · unfold Store.endHold
    rw [e]
    simp only [Slot.fits, retired] at fits
    rcases rest_cases { st.slots[i] with holders := 0 } with ⟨pin, r⟩ | ⟨pin, r⟩
    · rw [r]
      refine h.setReadable readable ⟨fits.1, pin⟩ ⟨fun latest => ?_, fun _ view => ⟨by simp, view⟩⟩ rfl (by simp; omega)
        others
      rw [retired] at latest; cases latest
    · rw [r]
      refine h.setReadable readable rfl ⟨fun latest => ?_, fun _ _ => ⟨by simp [Slot.reset], rfl⟩⟩ ?_
        (by simp [Slot.reset]; omega) others
      · rw [retired] at latest; cases latest
      · exact pin.symm
  · unfold Store.endHold
    rw [e]
    refine h.setReadable readable ?_ (Slot.keepsView_of_eq rfl rfl) rfl (by rw [number, one]; rfl) others
    cases state : (st.slots[i]).state with
    | free => exact absurd state readable.1
    | filling => exact absurd state readable.2
    | latest | evidence => simpa only [Slot.fits, state] using fits
    | retired =>
      simp only [Slot.fits, state] at fits ⊢
      exact ⟨fits.1, by have : (st.slots[i]).holders ≠ 1 := fun last => more ⟨last, state⟩; omega⟩

theorem Account.endHolds (is : List SlotNo) : ∀ {st : Store} {holds : SlotNo → Nat}, Account st writes holds →
    (∀ j, holds j = holds' j + is.count j) → Account (st.endHolds is) writes holds' := by
  induction is with
  | nil => exact fun h count => h.same fun j => by simpa using (count j).symm
  | cons i is ih =>
    intro st holds h count
    refine ih (holds := fun j => holds' j + is.count j) (h.endHold (i := i) fun j => ?_) fun _ => rfl
    rw [count, List.count_cons]
    by_cases same : j = i
    · simp [same]; omega
    · simp [same, Ne.symm same]

theorem takeHold_viewMap (st : Store) (i : SlotNo) : (st.takeHold i).viewMap = st.viewMap := by
  unfold Store.takeHold
  dsimp only
  split <;> rfl

theorem Account.takeHolds (is : List SlotNo) : ∀ {st : Store} {holds : SlotNo → Nat}, Account st writes holds →
    (∀ i ∈ is, ∃ v : ViewNo, st.viewMap[v] = some i) → (∀ j, holds' j = holds j + is.count j) →
    Account (st.takeHolds is) writes holds' := by
  induction is with
  | nil => exact fun h _ count => h.same fun j => by simpa using count j
  | cons i is ih =>
    intro st holds h named count
    obtain ⟨v, view⟩ := named i (by simp)
    refine ih (holds := fun j => holds j + if j = i then 1 else 0)
      (h.takeHold (i := i) (h.readable_of_latest view) fun _ => rfl) (fun j hj => ?_) fun j => ?_
    · obtain ⟨w, view⟩ := named j (by simp [hj])
      exact ⟨w, by rw [takeHold_viewMap]; exact view⟩
    · rw [count, List.count_cons]
      by_cases same : j = i
      · simp [same]; omega
      · simp [same, Ne.symm same]

/-! ### Writers -/

/-- A FILLING slot is given back as its writer ends (R32, R43). -/
theorem Account.giveBack (h : Account st writes holds) {o : Owner} (own : writes o = some i)
    (ends : ∀ x, writes' x = if x = o then none else writes x) : Account (st.giveBack i) writes' holds := by
  obtain ⟨filling, owner⟩ := h.writer o i own
  have one : ∀ x, writes x = some i → x = o := fun x w => (h.writer x i w).2.symm.trans owner
  have fits := h.slot i
  simp only [Slot.fits, filling] at fits
  have back : st.giveBack i = st.setSlot i Slot.reset := by simp only [Store.giveBack, filling, if_true]
  rw [back]
  refine h.setSlot rfl (Slot.keepsView_of_other (by rw [filling]; decide) (by decide) rfl) fits.2.1.symm
    (fits.1.symm.trans (h.holders i)) (fun _ _ => rfl) (fun x w => ?_) fun x j other => ?_
  · rw [ends] at w
    split at w
    · cases w
    next ne => exact absurd (one x w) ne
  · rw [ends]
    split
    next same =>
      rw [same, own]
      exact iff_of_false nofun fun e => other (Option.some.inj e).symm
    next => exact Iff.rfl

/-- A FREE slot is taken by a writer that had none (R42). -/
theorem Account.allocate (h : Account st writes holds) {o : Owner} {r : TileRecord} {st' : Store}
    (taken : st.allocate o r = some (i, st')) (idle : writes o = none)
    (begins : ∀ x, writes' x = if x = o then some i else writes x) : Account st' writes' holds := by
  rcases allocate_cases st o r with ⟨k, free, e⟩ | ⟨-, e⟩
  · obtain ⟨rfl, rfl⟩ : k = i ∧ st.setSlot k (Slot.filling o r) = st' := by simpa using e.symm.trans taken
    have state := (lowestFree_some free).1
    have fits := h.slot k
    simp only [Slot.fits, state] at fits
    have unwritten : ∀ x, writes x ≠ some k := h.unwritten (by rw [state]; decide)
    refine h.setSlot ?_ (Slot.keepsView_of_other (by rw [state]; decide) (by simp [Slot.filling]) rfl) (by rw [fits]; rfl)
      ?_ (fun _ _ => rfl) (fun x w => ?_) fun x j other => ?_
    · have own : writes' o = some k := by rw [begins, if_pos rfl]
      exact ⟨rfl, rfl, rfl, rfl, own⟩
    · rw [← h.holders, fits]; rfl
    · rw [begins] at w
      split at w
      next same => exact ⟨rfl, same.symm⟩
      next => exact absurd w (unwritten x)
    · rw [begins]
      split
      next same =>
        rw [same, idle]
        exact iff_of_false (fun e => other (Option.some.inj e).symm) nofun
      next => exact Iff.rfl
  · rw [e] at taken; cases taken

theorem Account.writeBytes (h : Account st writes holds) {o : Owner} (own : writes o = some i) (bytes : List Byte) :
    Account (st.writeBytes i bytes) writes holds :=
  h.setContents (h.writer o i own).1 rfl rfl rfl rfl rfl rfl

theorem Account.complete (h : Account st writes holds) {o : Owner} (own : writes o = some i) (x : Stamp)
    (data : List Byte) : Account (st.complete i x data) writes holds :=
  h.setContents (h.writer o i own).1 rfl rfl rfl rfl rfl rfl

theorem publish_evidence (st : Store) (i : SlotNo) (v : ViewNo) : (st.publish i v).evidence = st.evidence := by
  rcases publish_cases st i v with ⟨-, e⟩ | ⟨-, -, e⟩ | ⟨p, -, -, e⟩ <;> rw [e] <;> rfl

/-- A slot that leaves LATEST keeps its holders, and its pin mark (R44). -/
theorem leaveLatest_keeps {x : Slot} (owner : x.owner = .none) (writes : Owner → Option SlotNo) (i : SlotNo) :
    x.leaveLatest.fits writes i ∧ x.leaveLatest.holders = x.holders ∧ x.leaveLatest.pinned = x.pinned := by
  unfold Slot.leaveLatest
  split
  next held => exact ⟨⟨owner, held⟩, rfl, rfl⟩
  next free =>
    have idle : x.holders = 0 := by omega
    rcases rest_cases { x with view := none } with ⟨pin, e⟩ | ⟨pin, e⟩
    · rw [e]; exact ⟨⟨owner, pin⟩, rfl, rfl⟩
    · rw [e]; exact ⟨rfl, idle.symm, pin.symm⟩

/-- A writer publishes its slot (R44). -/
theorem Account.publish (h : Account st writes holds) {o : Owner} (own : writes o = some i) (v : ViewNo)
    (ends : ∀ x, writes' x = if x = o then none else writes x) : Account (st.publish i v) writes' holds := by
  obtain ⟨filling, owner⟩ := h.writer o i own
  obtain ⟨-, new, others⟩ := publish_filling (v := v) filling h.map
  have written : ∀ x j, writes' x = some j → writes x = some j := fun x j w => by
    rw [ends] at w
    split at w
    · cases w
    · exact w
  have left : ∀ j, st.viewMap[v] = some j → (st.slots[j]).leaveLatest.fits writes' j
      ∧ (st.slots[j]).leaveLatest.holders = (st.slots[j]).holders
      ∧ (st.slots[j]).leaveLatest.pinned = (st.slots[j]).pinned := fun j named => by
    have fits := h.slot j
    simp only [Slot.fits, (h.map.latest_of_map named).1] at fits
    exact leaveLatest_keeps fits _ _
  refine ⟨fun j => ?_, fun j => ?_, fun j => ?_, fun x j w => ?_, ?_, h.map.publish i v⟩
  · by_cases here : j = i
    · rw [here, new]; exact rfl
    · rw [others j here]
      split
      next named => exact (left j named).1
      next =>
        refine (h.slot j).congr fun x w => ?_
        rw [ends, if_neg fun e => here ?_]
        · exact w
        · rw [e, own] at w
          exact (Option.some.inj w).symm
  · by_cases here : j = i
    · rw [here, new]; exact h.holders i
    · rw [others j here]
      split
      next named => rw [(left j named).2.1]; exact h.holders j
      next => exact h.holders j
  · rw [publish_evidence, ← h.pinned j]
    by_cases here : j = i
    · rw [here, new]; exact Iff.rfl
    · rw [others j here]
      split
      next named => rw [(left j named).2.2]
      next => exact Iff.rfl
  · have was := h.writer x j (written x j w)
    have other : j ≠ i := fun here => by
      rw [here] at was
      rw [ends, if_pos (was.2.symm.trans owner)] at w
      cases w
    rw [others j other, if_neg fun named => ?_]
    · exact was
    · rw [(h.map.latest_of_map named).1] at was
      cases was.1
  · rw [publish_evidence]
    exact h.distinct

/-! ### Marks and the evidence list -/

theorem Account.damage (h : Account st writes holds) (held : 0 < holds i) :
    Account (st.setSlot i { st.slots[i] with damaged := true }) writes holds := by
  have readable := h.readable_of_holds held
  refine h.setReadable readable ?_ (Slot.keepsView_of_eq rfl rfl) rfl (h.holders i) fun _ _ => rfl
  have fits := h.slot i
  cases state : (st.slots[i]).state with
  | free => exact absurd state readable.1
  | filling => exact absurd state readable.2
  | latest | evidence | retired => simpa only [Slot.fits, state] using fits

theorem Account.setFetching (h : Account st writes holds) (k : Fin 4) (b : Bool) :
    Account (st.setFetching k b) writes holds := by
  have entries : ∀ (j : Fin 4) (e : Evidence), (st.setFetching k b).evidence[j] = some e →
      ∃ d : Evidence, st.evidence[j] = some d ∧ d.slot = e.slot := fun j e found => by
    unfold Store.setFetching at found
    dsimp only at found
    by_cases same : k = j
    · subst same
      rw [getElem_set_same] at found
      obtain ⟨d, was, rfl⟩ := Option.map_eq_some_iff.mp found
      exact ⟨d, was, rfl⟩
    · rw [getElem_set_ne _ same] at found
      exact ⟨e, found, rfl⟩
  have back : ∀ (j : Fin 4) (d : Evidence), st.evidence[j] = some d →
      ∃ e : Evidence, (st.setFetching k b).evidence[j] = some e ∧ e.slot = d.slot := fun j d was => by
    unfold Store.setFetching
    dsimp only
    by_cases same : k = j
    · subst same
      exact ⟨{ d with fetching := b }, by rw [getElem_set_same, was]; rfl, rfl⟩
    · exact ⟨d, by rw [getElem_set_ne _ same, was], rfl⟩
  refine ⟨h.slot, h.holders, fun i => (h.pinned i).trans ⟨?_, ?_⟩, h.writer, ?_, h.map.congr rfl rfl⟩
  · rintro ⟨j, d, was, slot⟩
    obtain ⟨e, found, same⟩ := back j d was
    exact ⟨j, e, found, same.trans slot⟩
  · rintro ⟨j, e, found, slot⟩
    obtain ⟨d, was, same⟩ := entries j e found
    exact ⟨j, d, was, same.trans slot⟩
  · intro j l x y hx hy slot
    obtain ⟨d, wasX, sameX⟩ := entries j x hx
    obtain ⟨e, wasY, sameY⟩ := entries l y hy
    exact h.distinct j l d e wasX wasY (sameX.trans (slot.trans sameY.symm))

/-- A LATEST slot is pinned, with an entry in an empty position (R49, R50). -/
theorem Account.pin (h : Account st writes holds) {v : ViewNo} {k : Fin 4} {x : Evidence}
    (view : st.viewMap[v] = some i) (unpinned : (st.slots[i]).pinned = false) (empty : st.evidence[k] = none)
    (slot : x.slot = i) : Account { st.setSlot i { st.slots[i] with pinned := true } with
      evidence := st.evidence.set k (some x) } writes holds := by
  have latest := (h.map.latest_of_map view).1
  have fits := h.slot i
  simp only [Slot.fits, latest] at fits
  have unnamed : ∀ (j : Fin 4) (e : Evidence), st.evidence[j] = some e → e.slot ≠ i := fun j e found same => by
    rw [(h.pinned i).mpr ⟨j, e, found, same⟩] at unpinned
    cases unpinned
  have entries : ∀ (j : Fin 4) (e : Evidence), (st.evidence.set k (some x))[j] = some e ↔
      (j = k ∧ e = x) ∨ (j ≠ k ∧ st.evidence[j] = some e) := fun j e => by
    by_cases same : k = j
    · subst same
      rw [getElem_set_same]
      simp [eq_comm]
    · rw [getElem_set_ne _ same]
      simp [Ne.symm same]
  refine h.replace ?_ (Slot.keepsView_of_eq rfl rfl) (h.holders i) (fun _ _ => rfl)
    (fun o w => absurd w (h.unwritten (by rw [latest]; decide) o)) (fun _ _ _ => Iff.rfl)
    (iff_of_true rfl ⟨k, x, getElem_set_same _ _ _, slot⟩) (fun j other => ?_) fun j l d e hd he same => ?_
  · simp only [Slot.fits, latest]; exact fits
  · constructor
    · rintro ⟨l, e, found, at_⟩
      rcases (entries l e).mp found with ⟨-, rfl⟩ | ⟨-, found⟩
      · exact absurd (at_.symm.trans slot) other
      · exact ⟨l, e, found, at_⟩
    · rintro ⟨l, e, found, at_⟩
      refine ⟨l, e, (entries l e).mpr (.inr ⟨fun same => ?_, found⟩), at_⟩
      rw [same, empty] at found
      cases found
  · rcases (entries j d).mp hd with ⟨atJ, newD⟩ | ⟨-, wasD⟩ <;> rcases (entries l e).mp he with ⟨atL, newE⟩ | ⟨-, wasE⟩
    · rw [atJ, atL]
    · exact absurd (same.symm.trans (newD ▸ slot)) (unnamed l e wasE)
    · exact absurd (same.trans (newE ▸ slot)) (unnamed j d wasD)
    · exact h.distinct j l d e wasD wasE same

/-- A position is emptied, and its slot loses its pin mark (R51). -/
theorem Account.release (h : Account st writes holds) (k : Fin 4) : Account (st.release k) writes holds := by
  rcases release_cases st k with ⟨-, e⟩ | ⟨x, entry, e⟩
  · rw [e]; exact h
  rw [e]
  have pin : (st.slots[x.slot]).pinned = true := (h.pinned x.slot).mpr ⟨k, x, entry, rfl⟩
  have readable := h.readable_of_pinned pin
  have fits := h.slot x.slot
  have entries : ∀ (j : Fin 4) (y : Evidence), (st.evidence.set k none)[j] = some y ↔
      j ≠ k ∧ st.evidence[j] = some y := fun j y => by
    by_cases same : k = j
    · subst same
      rw [getElem_set_same]
      simp
    · rw [getElem_set_ne _ same]
      simp [Ne.symm same]
  have new : ((st.slots[x.slot]).unpin).fits writes x.slot
      ∧ (st.slots[x.slot]).keepsView (st.slots[x.slot]).unpin
      ∧ ((st.slots[x.slot]).unpin).holders = (st.slots[x.slot]).holders
      ∧ ((st.slots[x.slot]).unpin).pinned = false := by
    cases state : (st.slots[x.slot]).state with
    | free => exact absurd state readable.1
    | filling => exact absurd state readable.2
    | latest | retired =>
      have kept : (st.slots[x.slot]).unpin = { st.slots[x.slot] with pinned := false } :=
        if_neg (by rw [state]; decide)
      rw [kept]
      refine ⟨?_, Slot.keepsView_of_eq rfl rfl, rfl, rfl⟩
      simpa only [Slot.fits, state] using fits
    | evidence =>
      simp only [Slot.fits, state] at fits
      have other : (st.slots[x.slot]).state ≠ .latest := by rw [state]; decide
      by_cases free : (st.slots[x.slot]).holders = 0
      · have kept : (st.slots[x.slot]).unpin = Slot.reset := by simp only [Slot.unpin, state, free, if_true]
        rw [kept]
        exact ⟨rfl, Slot.keepsView_of_other other (by decide) rfl, free.symm, rfl⟩
      · have kept : (st.slots[x.slot]).unpin = { st.slots[x.slot] with state := .retired, pinned := false } := by
          simp only [Slot.unpin, state, free, if_true, if_false]
        rw [kept]
        exact ⟨⟨fits.1, Nat.pos_of_ne_zero free⟩, ⟨fun latest => absurd latest other, fun _ view => ⟨by simp, view⟩⟩, rfl, rfl⟩
  obtain ⟨fits', view, holders, unpinned⟩ := new
  refine h.replace fits' view (holders.trans (h.holders _)) (fun _ _ => rfl)
    (fun o w => absurd w (h.unwritten readable.2 o)) (fun _ _ _ => Iff.rfl)
    (iff_of_false (by rw [unpinned]; decide) ?_) (fun j other => ?_) fun j l d y hd hy same => ?_
  · rintro ⟨j, y, found, slot⟩
    obtain ⟨ne, was⟩ := (entries j y).mp found
    exact ne (h.distinct j k y x was entry slot)
  · constructor
    · rintro ⟨l, y, found, slot⟩
      exact ⟨l, y, ((entries l y).mp found).2, slot⟩
    · rintro ⟨l, y, found, slot⟩
      refine ⟨l, y, (entries l y).mpr ⟨fun same => other ?_, found⟩, slot⟩
      rw [same, entry] at found
      rw [← slot, ← Option.some.inj found]
  · exact h.distinct j l d y ((entries j d).mp hd).2 ((entries l y).mp hy).2 same

end

end Sys2Proof.Machine
end

section
/-! PROOF. The account of the tile store in a state: its writers are the productions and the open contexts, its holds
those of the screens' frames and of the send entries. -/

namespace Sys2Proof.Machine

section
variable {s t u : State}

/-- The slot that an owner writes (R25, R117). -/
def State.slotOf (s : State) : Owner → Option SlotNo
  | .none => none
  | .production k => (s.engine.productions[k]).map (·.slot)
  | .context k => (s.router.contexts[k]).map (·.slot)

def State.accountOk (s : State) : Prop := Account s.store s.slotOf s.holdsOn

/-- R25, R32: a camera port with a production has a frame open in LOCKED. -/
def State.portOk (s : State) (p : CamPort) : Prop :=
  ∀ r : Fin 2, s.engine.productions[planOf p r] ≠ none → (s.cams[p]).link = .locked ∧ (s.cams[p]).openFrame ≠ none

theorem planOf_onto (k : PlanNo) : ∃ p : CamPort, ∃ r : Fin 2, planOf p r = k := by revert k; decide

theorem planOf_port {p q : CamPort} {r u : Fin 2} (h : planOf p r = planOf q u) : p = q := by
  revert p q r u; decide

theorem fits_iff (s : State) (i : SlotNo) : (s.store.slots[i]).fits s.slotOf i ↔ s.slotOk i := by
  unfold Slot.fits State.slotOk
  dsimp only
  cases state : (s.store.slots[i]).state with
  | free | latest | retired | evidence => exact Iff.rfl
  | filling =>
    cases owner : (s.store.slots[i]).owner <;> simp only [State.slotOf, Option.map_eq_some_iff, reduceCtorEq]

theorem storeOk_iff (s : State) : s.storeOk ↔ s.accountOk ∧ (∀ p, s.portOk p) ∧ s.timersOk := by
  constructor
  · rintro ⟨slots, productions, contexts, distinct, map, timers⟩
    refine ⟨⟨fun i => (fits_iff s i).mpr (slots i).1, fun i => (slots i).2.1, fun i => (slots i).2.2, fun o i w => ?_,
      distinct, map⟩, fun p r some => ?_, timers⟩
    · cases o with
      | none => cases w
      | production k =>
        obtain ⟨pr, hpr, rfl⟩ := Option.map_eq_some_iff.mp w
        obtain ⟨p, r, rfl⟩ := planOf_onto k
        obtain ⟨filling, owner, -⟩ := productions p r pr hpr
        exact ⟨filling, owner⟩
      | context k =>
        obtain ⟨c, hc, rfl⟩ := Option.map_eq_some_iff.mp w
        exact contexts k c hc
    · obtain ⟨pr, hpr⟩ := Option.ne_none_iff_exists'.mp some
      obtain ⟨-, -, locked, isOpen⟩ := productions p r pr hpr
      exact ⟨locked, isOpen⟩
  · rintro ⟨account, ports, timers⟩
    refine ⟨fun i => ⟨(fits_iff s i).mp (account.slot i), account.holders i, account.pinned i⟩, fun p r pr hpr => ?_,
      fun k c hc => account.writer (.context k) c.slot (by simp only [State.slotOf, hc, Option.map_some]),
      account.distinct, account.map, timers⟩
    obtain ⟨filling, owner⟩ := account.writer (.production (planOf p r)) pr.slot
      (by simp only [State.slotOf, hpr, Option.map_some])
    obtain ⟨locked, isOpen⟩ := ports p r (by rw [hpr]; simp)
    exact ⟨filling, owner, locked, isOpen⟩

/-! ### What the account reads -/

theorem slotOf_congr (productions : t.engine.productions = s.engine.productions)
    (contexts : t.router.contexts = s.router.contexts) (o : Owner) : t.slotOf o = s.slotOf o := by
  cases o <;> simp only [State.slotOf, productions, contexts]

theorem holdsOn_congr (outputs : t.comp.outputs = s.comp.outputs)
    (lists : ∀ p, ((t.trunk.get p).sendList.map (·.slot)) = (s.trunk.get p).sendList.map (·.slot)) (i : SlotNo) :
    t.holdsOn i = s.holdsOn i := by
  have a := lists .a
  have b := lists .b
  simp only [Pair.get] at a b
  simp only [State.holdsOn, outputs, a, b]

theorem accountOk_congr (store : t.store = s.store) (productions : t.engine.productions = s.engine.productions)
    (contexts : t.router.contexts = s.router.contexts) (outputs : t.comp.outputs = s.comp.outputs)
    (lists : ∀ p, ((t.trunk.get p).sendList.map (·.slot)) = (s.trunk.get p).sendList.map (·.slot)) (h : s.accountOk) :
    t.accountOk := by
  unfold State.accountOk
  rw [store]
  exact (h.same (holdsOn_congr outputs lists)).writesSame (slotOf_congr productions contexts)

theorem accountOk_of_mask (same : t.mask (allBut [.store, .engine, .router, .comp, .trunk])
    = s.mask (allBut [.store, .engine, .router, .comp, .trunk])) (h : s.accountOk) : t.accountOk := by
  have store : s.store = t.store := same_of_allBut same .store (by simp)
  have engine : s.engine = t.engine := same_of_allBut same .engine (by simp)
  have router : s.router = t.router := same_of_allBut same .router (by simp)
  have comp : s.comp = t.comp := same_of_allBut same .comp (by simp)
  have trunk : s.trunk = t.trunk := same_of_allBut same .trunk (by simp)
  exact accountOk_congr store.symm (by rw [engine]) (by rw [router]) (by rw [comp]) (fun p => by rw [trunk]) h

/-- The store alone replaced. -/
theorem State.accountOk.withStore {st : Store} (h : Account st s.slotOf s.holdsOn) : (s.withStore st).accountOk := h

/-! ### Holds of the send entries -/

/-- The holds on a slot beside those of one send list. -/
def State.holdsBeside (s : State) (p : TrunkPort) (i : SlotNo) : Nat :=
  (s.comp.outputs[(0 : Screen)]).held.count i + (s.comp.outputs[(1 : Screen)]).held.count i
    + ((s.trunk.get p.other).sendList.map (·.slot)).count i

theorem holdsOn_eq (s : State) (p : TrunkPort) (i : SlotNo) :
    s.holdsOn i = s.holdsBeside p i + ((s.trunk.get p).sendList.map (·.slot)).count i := by
  cases p <;> simp only [State.holdsOn, State.holdsBeside, Pair.get, TrunkPort.other] <;> omega

theorem holdsOn_withSendList (s : State) (p : TrunkPort) (l : List SendEntry) (i : SlotNo) :
    (s.withSendList p l).holdsOn i = s.holdsBeside p i + (l.map (·.slot)).count i := by
  rw [holdsOn_eq _ p, withSendList_get]
  cases p <;> rfl

theorem accountOk_withTrunk {p : TrunkPort} {x : Trunk}
    (list : x.sendList.map (·.slot) = (s.trunk.get p).sendList.map (·.slot)) (h : s.accountOk) :
    (s.withTrunk p x).accountOk := by
  refine accountOk_congr (s := s) rfl rfl rfl rfl (fun q => ?_) h
  by_cases same : q = p
  · rw [same, State.withTrunk_trunk, Pair.get_set_same, list]
  · rw [State.withTrunk_trunk, Pair.get_set_ne _ same]

theorem accountOk_countTrunk (p : TrunkPort) (k : TrunkCounter) (h : s.accountOk) : (countTrunk p k s).accountOk :=
  accountOk_withTrunk (p := p) rfl h

theorem accountOk_endFetch (k : SendKind) (h : s.accountOk) : (endFetch k s).accountOk := by
  unfold endFetch
  split
  · exact h
  · exact h
  · exact State.accountOk.withStore (h.setFetching _ _)

/-- The one waiting entry of a stream, and the list with another in its place (R94). -/
theorem putWaiting_eq {l : List SendEntry} (turn : inTurn l) {sid : StreamId} {old : SendEntry}
    (found : l.find? (·.waitsFor sid) = some old) (e : SendEntry) :
    ∃ as bs, l = as ++ old :: bs ∧ putWaiting sid e l = as ++ e :: bs := by
  obtain ⟨waits, as, bs, rfl, before⟩ := List.find?_eq_some_iff_append.mp found
  obtain ⟨started, stream⟩ := (old.waitsFor_iff sid).mp waits
  refine ⟨as, bs, rfl, ?_⟩
  have behind : ∀ x ∈ bs, x.waitsFor sid = false := fun x hx => by
    by_contra other
    obtain ⟨startedX, streamX⟩ := (x.waitsFor_iff sid).mp (by simpa using other)
    have apart := (List.pairwise_cons.mp (List.pairwise_append.mp turn.2).2.1).1 x hx
    exact apart ⟨started, startedX, stream.trans streamX.symm⟩
  have keep : ∀ l : List SendEntry, (∀ x ∈ l, x.waitsFor sid = false) →
      (l.map fun x => if x.waitsFor sid then e else x) = l := fun l none =>
    (List.map_congr_left fun x hx => by rw [none x hx]; rfl).trans (List.map_id' l)
  rw [putWaiting, List.map_append, List.map_cons, if_pos waits, keep as fun x hx => by simpa using before x hx,
    keep bs behind]

theorem count_putWaiting {l : List SendEntry} (turn : inTurn l) {sid : StreamId} {old : SendEntry}
    (found : l.find? (·.waitsFor sid) = some old) (e : SendEntry) (i : SlotNo) :
    ((putWaiting sid e l).map (·.slot)).count i + (if i = old.slot then 1 else 0)
      = (l.map (·.slot)).count i + if i = e.slot then 1 else 0 := by
  obtain ⟨as, bs, rfl, put⟩ := putWaiting_eq turn found e
  rw [put]
  simp only [List.map_append, List.map_cons, List.count_append, List.count_cons, beq_iff_eq, eq_comm (b := i)]
  omega

/-- An entry that joins the tail takes a hold (R94). -/
theorem State.accountOk.joinList (h : s.accountOk) {i : SlotNo} (readable : (s.store.slots[i]).readable)
    (p : TrunkPort) (kind : SendKind) (sid : StreamId) : (joinList p kind i sid s).accountOk := by
  refine h.takeHold readable fun j => ?_
  rw [show (Machine.joinList p kind i sid s).holdsOn j
    = (s.withSendList p ((s.trunk.get p).sendList ++ [s.newEntry kind i sid])).holdsOn j from rfl,
    holdsOn_withSendList, holdsOn_eq s p, List.map_append, List.count_append]
  by_cases same : j = i
  · simp [State.newEntry, same, Nat.add_assoc]
  · simp [State.newEntry, same, Ne.symm same]

theorem State.accountOk.requestSend (h : s.accountOk) (sends : s.sendsOk) {i : SlotNo}
    (readable : (s.store.slots[i]).readable) (p : TrunkPort) (sid : StreamId) : (requestSend p i sid s).accountOk := by
  unfold Machine.requestSend
  dsimp only
  split
  · rename_i old found
    split
    · have taken : Account (s.store.takeHold i) s.slotOf (fun j => s.holdsOn j + if j = i then 1 else 0) :=
        h.takeHold readable fun _ => rfl
      refine taken.endHold fun j => ?_
      have count := count_putWaiting (sends p) found (s.newEntry .tile i sid) j
      rw [show (((s.withSendList p _).takeHold i).endHold old.slot).holdsOn j
        = (s.withSendList p (putWaiting sid (s.newEntry .tile i sid) (s.trunk.get p).sendList)).holdsOn j from rfl,
        holdsOn_withSendList, holdsOn_eq s p]
      have slot : (s.newEntry .tile i sid).slot = i := rfl
      rw [slot] at count
      omega
    · exact accountOk_countTrunk p _ h
  · split
    · exact h.joinList readable p _ sid
    · exact accountOk_countTrunk p _ h

/-- An entry off one list, with its hold, is taken by the other (R95). -/
theorem takeHanded_accountOk {p : TrunkPort} {e : SendEntry}
    (h : Account s.store s.slotOf fun j => s.holdsOn j + if j = e.slot then 1 else 0)
    (turn : inTurn (s.trunk.get p).sendList) : (takeHanded p e s).accountOk := by
  have ended : (s.endHold e.slot).accountOk := h.endHold fun _ => rfl
  unfold takeHanded
  dsimp only
  split
  · rename_i old found
    split
    · split
      · refine h.endHold (i := old.slot) fun j => ?_
        have count := count_putWaiting turn found e j
        rw [show ((s.withSendList p _).endHold old.slot).holdsOn j
          = (s.withSendList p (putWaiting e.stream e (s.trunk.get p).sendList)).holdsOn j from rfl,
          holdsOn_withSendList, holdsOn_eq s p]
        omega
      · exact ended
    · exact accountOk_countTrunk p _ ended
  · split
    · refine h.same fun j => ?_
      rw [holdsOn_withSendList, holdsOn_eq s p, List.map_append, List.count_append]
      by_cases same : j = e.slot
      · simp [same, Nat.add_assoc]
      · simp [same, Ne.symm same]
    · exact accountOk_countTrunk p _ ended

/-- The holds when an entry has left its list. -/
theorem holdsOn_drop {p : TrunkPort} {before rest : List SendEntry} {e : SendEntry}
    (list : (s.trunk.get p).sendList = before ++ e :: rest) (j : SlotNo) :
    s.holdsOn j = (s.withSendList p (before ++ rest)).holdsOn j + if j = e.slot then 1 else 0 := by
  rw [holdsOn_withSendList, holdsOn_eq s p, list]
  simp only [List.map_append, List.map_cons, List.count_append, List.count_cons, beq_iff_eq, eq_comm (b := j)]
  omega

/-! ### Holds of the screens' frames -/

theorem holdsOn_screen (s : State) (sc : Screen) (o : Output) (j : SlotNo) :
    (s.withOutput sc o).holdsOn j + (s.comp.outputs[sc]).held.count j = s.holdsOn j + o.held.count j := by
  have own := withOutput_outputs sc sc o s
  rw [if_pos rfl] at own
  match sc with
  | 0 =>
    have other := withOutput_outputs 0 1 o s
    rw [if_neg (by decide)] at other
    simp only [State.holdsOn, own, other]
    have trunk : (s.withOutput 0 o).trunk = s.trunk := rfl
    rw [trunk]; omega
  | 1 =>
    have other := withOutput_outputs 1 0 o s
    rw [if_neg (by decide)] at other
    simp only [State.holdsOn, own, other]
    have trunk : (s.withOutput 1 o).trunk = s.trunk := rfl
    rw [trunk]; omega

/-- A frame ended and another drawn on a screen (R152, R156). -/
theorem State.accountOk.output (h : s.accountOk) {sc : Screen} {o : Output}
    (held : ∀ i ∈ o.held, ∃ v : ViewNo, s.store.viewMap[v] = some i) :
    ((s.withStore ((s.store.endHolds (s.comp.outputs[sc]).held).takeHolds o.held)).withOutput sc o).accountOk := by
  have without : ∀ j, s.holdsOn j = (s.holdsOn j - (s.comp.outputs[sc]).held.count j)
      + (s.comp.outputs[sc]).held.count j := fun j => by
    have some : (s.comp.outputs[sc]).held.count j ≤ s.holdsOn j := by
      unfold State.holdsOn
      match sc with
      | 0 => omega
      | 1 => omega
    omega
  have ended := Account.endHolds (holds' := fun j => s.holdsOn j - (s.comp.outputs[sc]).held.count j)
    (s.comp.outputs[sc]).held h without
  refine ended.takeHolds o.held (fun i hi => ?_) fun j => ?_
  · rw [endHolds_viewMap]
    exact held i hi
  · have screens := holdsOn_screen s sc o j
    have was := without j
    have same : ((s.withStore ((s.store.endHolds (s.comp.outputs[sc]).held).takeHolds o.held)).withOutput sc o).holdsOn j
        = (s.withOutput sc o).holdsOn j := rfl
    omega

end

end Sys2Proof.Machine
end

section
/-! PROOF. The account of the tile store under every change: productions, contexts, good frames; the law of O11. -/

namespace Sys2Proof.Machine

section
variable {s t u : State}

/-! ### Writers -/

theorem slotOf_withProduction (k : PlanNo) (x : Option Production) (o : Owner) :
    (s.withProduction k x).slotOf o = if o = .production k then x.map (·.slot) else s.slotOf o := by
  split
  next same => rw [same]; exact congrArg (Option.map _) (getElem_set_same _ _ _)
  next other =>
    cases o with
    | none | context => rfl
    | production j =>
      exact congrArg (Option.map _) (getElem_set_ne _ (fun e => other (by rw [e])) _)

theorem slotOf_withContext (k : ContextNo) (x : Option Context) (o : Owner) :
    (s.withContext k x).slotOf o = if o = .context k then x.map (·.slot) else s.slotOf o := by
  split
  next same => rw [same]; exact congrArg (Option.map _) (getElem_set_same _ _ _)
  next other =>
    cases o with
    | none | production => rfl
    | context j =>
      exact congrArg (Option.map _) (getElem_set_ne _ (fun e => other (by rw [e])) _)

theorem State.accountOk.abandonProduction (h : s.accountOk) (k : PlanNo) : (abandonProduction k s).accountOk := by
  unfold Machine.abandonProduction
  split
  · exact h
  · rename_i pr made
    exact h.giveBack (o := .production k) (by simp only [State.slotOf, made, Option.map_some])
      fun x => slotOf_withProduction k none x

theorem State.accountOk.abandonContext (h : s.accountOk) (k : ContextNo) (counter : RouterCounter) :
    (abandonContext k counter s).accountOk := by
  unfold Machine.abandonContext
  split
  · exact h
  · rename_i x isOpen
    exact h.giveBack (o := .context k) (by simp only [State.slotOf, isOpen, Option.map_some])
      fun o => (slotOf_congr (by rfl) (by rfl) o).trans (slotOf_withContext (s := s) k none o)

theorem State.accountOk.breakStream (h : s.accountOk) (sid : StreamId) : (breakStream sid s).accountOk := by
  unfold Machine.breakStream
  split
  · exact h
  · exact h.abandonContext _ _

theorem closedContext_some {r : Router} {k : ContextNo} (h : r.closedContext = some k) : r.contexts[k] = none := by
  simpa using List.find?_some h

theorem State.accountOk.openContext (h : s.accountOk) (f : TileHeadFields) (sid : StreamId) :
    (openContext f sid s).accountOk := by
  have broken := h.breakStream sid
  unfold Machine.openContext
  dsimp only
  split
  · exact broken
  · rename_i k closed
    split
    · exact broken
    · rename_i i st taken
      exact broken.allocate taken (by simp only [State.slotOf, closedContext_some closed, Option.map_none])
        fun x => slotOf_withContext (s := (Machine.breakStream sid s).withStore st) k _ x

theorem publishTile_store (i : SlotNo) (v : ViewNo) (s : State) : (publishTile i v s).store = s.store.publish i v := by
  unfold publishTile
  dsimp only
  split
  · rfl
  · rw [evaluateBoth_store]; rfl

theorem publishTile_trunk (i : SlotNo) (v : ViewNo) (s : State) :
    (publishTile i v s).trunk = s.trunk ∧ (publishTile i v s).engine = s.engine := by
  have same : SameBut (allBut [.trunk, .engine]) s (publishTile i v s) := (sameBut_iff_mask _ _ _).mpr (by simp)
  exact ⟨(same .trunk (by simp)).symm, (same .engine (by simp)).symm⟩

/-- A writer's slot published (R31, R120): `u` is the state without the writer. -/
theorem publishTile_accountOk {o : Owner} {i : SlotNo} (h : Account s.store s.slotOf s.holdsOn) (own : s.slotOf o = some i)
    (v : ViewNo) (store : u.store = s.store) (ends : ∀ x, u.slotOf x = if x = o then none else s.slotOf x)
    (holds : ∀ j, u.holdsOn j = s.holdsOn j) : (publishTile i v u).accountOk := by
  have published := h.publish own v ends
  unfold State.accountOk
  rw [publishTile_store, store]
  refine (published.same fun j => ?_).writesSame fun x => ?_
  · rw [holdsOn_congr (publishTile_outputs i v u) (fun p => by rw [(publishTile_trunk i v u).1]), holds]
  · exact slotOf_congr (by rw [(publishTile_trunk i v u).2]) (by rw [publishTile_router]) x

theorem State.accountOk.withContext (h : s.accountOk) {k : ContextNo} {x y : Context}
    (isOpen : s.router.contexts[k] = some x) (slot : y.slot = x.slot) : (s.withContext k (some y)).accountOk := by
  refine h.writesSame fun o => ?_
  rw [slotOf_withContext]
  split
  next same => rw [same]; simp only [State.slotOf, isOpen, Option.map_some, slot]
  next => rfl

/-! ### Productions and their ports (R25, R32) -/

/-- A frame start in a port with no production in hand (R23 to R25). -/
theorem State.accountOk.beginTile (h : s.accountOk) {p : CamPort} {r : Fin 2}
    (idle : s.engine.productions[planOf p r] = none) (f : OpenFrame) : (beginTile p r f s).accountOk := by
  unfold Machine.beginTile
  dsimp only
  split
  · split
    · split
      · exact h
      · rename_i i st taken
        exact h.allocate taken (by simp only [State.slotOf, idle, Option.map_none])
          fun x => slotOf_withProduction (s := s) (planOf p r) (some ⟨i, _, _⟩) x
    · exact h
  · exact h

theorem beginTile_productions (p : CamPort) (r : Fin 2) (f : OpenFrame) (s : State) (k : PlanNo) (other : k ≠ planOf p r) :
    (beginTile p r f s).engine.productions[k] = s.engine.productions[k] := by
  unfold beginTile
  dsimp only
  split
  · split
    · split
      · rfl
      · exact getElem_set_ne _ (Ne.symm other) _
    · rfl
  · rfl

theorem portOk_congr {p : CamPort} (productions : ∀ r, t.engine.productions[planOf p r] = s.engine.productions[planOf p r])
    (link : (t.cams[p]).link = (s.cams[p]).link) (frame : (t.cams[p]).openFrame = (s.cams[p]).openFrame)
    (h : s.portOk p) : t.portOk p := by
  intro r made
  rw [productions] at made
  rw [link, frame]
  exact h r made

theorem portOk_of_none {p : CamPort} (idle : ∀ r : Fin 2, s.engine.productions[planOf p r] = none) : s.portOk p :=
  fun r made => absurd (idle r) made

/-- A port that is not LOCKED, or has no frame open, has no production. -/
theorem State.portOk.idle {p : CamPort} (h : s.portOk p) (shut : (s.cams[p]).link ≠ .locked ∨ (s.cams[p]).openFrame = none)
    (r : Fin 2) : s.engine.productions[planOf p r] = none := by
  by_contra made
  obtain ⟨locked, isOpen⟩ := h r made
  rcases shut with shut | shut
  · exact shut locked
  · exact isOpen shut

/-- Another camera port, and other health and parts beside the engine. -/
theorem portOk_withCam {p q : CamPort} {c : CameraPort} (others : p ≠ q → s.portOk p)
    (own : p = q → ∀ r : Fin 2, s.engine.productions[planOf p r] ≠ none → c.link = .locked ∧ c.openFrame ≠ none) :
    (s.withCam q c).portOk p := by
  intro r made
  by_cases same : p = q
  · have here : (s.withCam q c).cams[p] = c := by rw [same]; exact getElem_set_same _ _ _
    rw [here]
    exact own same r made
  · have there : (s.withCam q c).cams[p] = s.cams[p] := getElem_set_ne _ (Ne.symm same) _
    rw [there]
    exact others same r made

/-- The account of the store with the ports of its productions. -/
structure State.storeKept (s : State) : Prop where
  account : s.accountOk
  ports : ∀ p, s.portOk p

theorem storeKept_of_mask (same : t.mask (allBut [.store, .engine, .router, .comp, .trunk, .cams])
    = s.mask (allBut [.store, .engine, .router, .comp, .trunk, .cams])) (h : s.storeKept) : t.storeKept := by
  have engine : s.engine = t.engine := same_of_allBut same .engine (by simp)
  have cams : s.cams = t.cams := same_of_allBut same .cams (by simp)
  exact ⟨accountOk_of_mask (mask_mono (by simp +contextual) same) h.account,
    fun p => portOk_congr (fun r => by rw [engine]) (by rw [cams]) (by rw [cams]) (h.ports p)⟩

/-- The ports stand where the productions and the camera ports do. -/
theorem State.storeKept.with (h : s.storeKept) (account : t.accountOk)
    (same : t.mask (allBut [.engine, .cams]) = s.mask (allBut [.engine, .cams])) : t.storeKept := by
  have engine : s.engine = t.engine := same_of_allBut same .engine (by simp)
  have cams : s.cams = t.cams := same_of_allBut same .cams (by simp)
  exact ⟨account, fun p => portOk_congr (fun r => by rw [engine]) (by rw [cams]) (by rw [cams]) (h.ports p)⟩

theorem deliverStart_keeps (h : s.storeKept) {p : CamPort} (locked : (s.cams[p]).link = .locked)
    (closed : (s.cams[p]).openFrame = none) (x : FrameHead) : (deliverStart p x s).storeKept := by
  have idle : ∀ r : Fin 2, s.engine.productions[planOf p r] = none := (h.ports p).idle (.inr closed)
  have started : ∀ (u : State) (f : OpenFrame), u.mask [.cams] = s.mask [.cams] →
      (u.cams[p]).link = .locked → (u.cams[p]).openFrame ≠ none → (∀ q, q ≠ p → u.cams[q] = s.cams[q]) →
      (beginTile p 1 f (beginTile p 0 f (u.withSums p noSums))).storeKept := by
    intro u f same link frame others
    have engine : s.engine = u.engine := same_of_mask same .engine (by simp)
    have account : (u.withSums p noSums).accountOk :=
      accountOk_congr (s := u) rfl rfl rfl rfl (fun _ => rfl) (accountOk_of_mask (mask_mono (by simp) same) h.account)
    have begun := account.beginTile (p := p) (r := 0) (by rw [← idle 0, engine]; rfl) f
    have idle1 : (beginTile p 0 f (u.withSums p noSums)).engine.productions[planOf p 1] = none := by
      rw [beginTile_productions _ _ _ _ _ (planOf_ne p), ← idle 1, engine]; rfl
    refine ⟨begun.beginTile idle1 f, fun q => ?_⟩
    have cams : (beginTile p 1 f (beginTile p 0 f (u.withSums p noSums))).cams = u.cams :=
      (beginTile_cams _ _ _ _).trans (beginTile_cams _ _ _ _)
    by_cases same : q = p
    · intro r _
      rw [cams, same]
      exact ⟨link, frame⟩
    · refine portOk_congr (fun r => ?_) (by rw [cams, others q same]) (by rw [cams, others q same]) (h.ports q)
      rw [beginTile_productions _ _ _ _ _ (fun e => same (planOf_port e)),
        beginTile_productions _ _ _ _ _ (fun e => same (planOf_port e)), engine]
      rfl
  unfold deliverStart
  dsimp only
  split
  · refine started _ _ (by simp) ?_ ?_ fun q other => ?_
    · rw [countCam_cam, State.withCam_cams, getElem_set_same]; exact locked
    · rw [countCam_cam, State.withCam_cams, getElem_set_same]; simp
    · exact (getElem_set_ne _ (Ne.symm other) _).trans (getElem_set_ne _ (Ne.symm other) _)
  · refine started _ _ (by simp) ?_ ?_ fun q other => getElem_set_ne _ (Ne.symm other) _
    · rw [State.withCam_cams, getElem_set_same]; exact locked
    · rw [State.withCam_cams, getElem_set_same]; simp

/-! ### Single changes -/

/-- A camera port put in where its own productions allow it. -/
theorem State.storeKept.withCam (h : s.storeKept) {q : CamPort} {c : CameraPort}
    (own : ∀ r : Fin 2, s.engine.productions[planOf q r] ≠ none → c.link = .locked ∧ c.openFrame ≠ none) :
    (s.withCam q c).storeKept :=
  ⟨accountOk_of_mask (by simp) h.account, fun p => portOk_withCam (fun _ => h.ports p) fun same => same ▸ own⟩

theorem Move.storeKept (m : Move s t) (sends : s.sendsOk) (h : s.storeKept) : t.storeKept := by
  have keep (same : t.mask (allBut [.store, .engine, .router, .comp, .trunk, .cams])
      = s.mask (allBut [.store, .engine, .router, .comp, .trunk, .cams])) : t.storeKept := storeKept_of_mask same h
  have put (account : t.accountOk) (same : t.mask (allBut [.engine, .cams]) = s.mask (allBut [.engine, .cams])) :
      t.storeKept := h.with account same
  obtain ⟨account, ports⟩ := h
  cases m with
  | quiet same => exact keep (mask_of_quiet same (by simp [quietParts]))
  | trunk p x _ _ list => exact put (accountOk_withTrunk (by rw [list]) account) (by simp)
  | front p e d rest list slot =>
    exact put (accountOk_withTrunk (by rw [list]; simp [slot]) account) (by simp)
  | drop p before e rest list =>
    refine put (accountOk_endFetch _ ?_) (by simp)
    exact account.endHold fun j => holdsOn_drop list j
  | hand p e rest list waits =>
    refine put (takeHanded_accountOk ?_ ?_) (by simp)
    · exact account.same fun j => (holdsOn_drop (before := []) list j).symm
    · rw [State.withSendList, State.withTrunk_trunk, Pair.get_set_ne _ (TrunkPort.other_ne p)]
      exact sends p.other
  | fetch p k x sid entry =>
    have readable := account.readable_of_pinned ((account.pinned x.slot).mpr ⟨k, x, entry, rfl⟩)
    exact put (State.accountOk.withStore ((account.joinList readable p (.fetch (some k)) sid).setFetching k true)) (by simp)
  | release k =>
    refine put ((account.release k).same fun j => ?_) (by simp)
    refine holdsOn_congr (by rfl) (fun p => ?_) j
    rw [releasePosition_trunk, List.map_map]
    refine List.map_congr_left fun e _ => ?_
    show (SendEntry.forget k e).slot = e.slot
    unfold SendEntry.forget
    split <;> rfl
  | storeCounters => exact put (account.congr rfl rfl rfl) (by simp)
  | damage i held => exact put (account.damage held) (by simp)
  | pin v i k x view unpinned empty slot => exact put (account.pin view unpinned empty slot) (by simp)
  | engine x productions =>
    refine ⟨accountOk_congr (s := s) rfl productions rfl rfl (fun _ => rfl) account, fun p => ?_⟩
    exact portOk_congr (s := s) (fun r => by rw [State.withEngine_engine, productions]) rfl rfl (ports p)
  | abandonProduction k =>
    refine ⟨account.abandonProduction k, fun p r made => ?_⟩
    have cams : (Machine.abandonProduction k s).cams = s.cams := cams_of_mask (by simp)
    rw [abandonProduction_productions] at made
    rw [cams]
    refine ports p r fun none => made ?_
    by_cases same : k = planOf p r
    · subst same; exact getElem_set_same _ _ _
    · rw [getElem_set_ne _ same]; exact none
  | deliver p x locked closed => exact deliverStart_keeps ⟨account, ports⟩ locked closed x
  | abandonContext k counter => exact put (account.abandonContext k counter) (by simp)
  | openContext f sid => exact put (account.openContext f sid) (by simp)
  | write k x bytes isOpen =>
    exact put (account.writeBytes (o := .context k) (by simp only [State.slotOf, isOpen, Option.map_some]) bytes) (by simp)
  | context k x y isOpen slot => exact put (account.withContext isOpen slot) (by simp)
  | publish k x isOpen =>
    refine put (publishTile_accountOk (s := s) (o := .context k) account ?_ x.view (by rfl)
      (fun o => slotOf_withContext k none o) fun _ => rfl) (by simp)
    simp only [State.slotOf, isOpen, Option.map_some]
  | routerCounters => exact put (accountOk_congr (s := s) rfl rfl rfl rfl (fun _ => rfl) account) (by simp)
  | comp c outputs => exact put (accountOk_congr (s := s) rfl rfl rfl outputs (fun _ => rfl) account) (by simp)
  | output sc o _ _ _ held => exact put (account.output held) (by simp)
  | cam p c timers frame =>
    refine State.storeKept.withCam ⟨account, ports⟩ fun r made => ?_
    rw [timers.1, frame]
    exact ports p r made
  | frame p c timers unlocked =>
    exact State.storeKept.withCam ⟨account, ports⟩ fun r made => absurd ((ports p).idle (.inl unlocked) r) made
  | enter p new idle =>
    have closed : ∀ r : Fin 2, s.engine.productions[planOf p r] = none := by
      by_cases locked : (s.cams[p]).link = .locked
      · exact idle locked
      · exact (ports p).idle (.inl locked)
    have entered := State.storeKept.withCam (q := p) (c := (s.cams[p]).newly new s.nodeTime) ⟨account, ports⟩
      fun r made => absurd (closed r) made
    exact storeKept_of_mask (by simp) entered
  | _ => exact keep (by simp)

/-! ### Good frames -/

theorem requestSend_viewMap (p : TrunkPort) (i : SlotNo) (sid : StreamId) (s : State) :
    (requestSend p i sid s).store.viewMap = s.store.viewMap := by
  have held : ∀ u : State, (u.takeHold i).store.viewMap = u.store.viewMap := fun u => takeHold_viewMap _ i
  unfold requestSend
  dsimp only
  split
  · split
    · exact (endHold_viewMap _ _).trans (held _)
    · rfl
  · split
    · exact held _
    · rfl

/-- The tile just published is requested on its ports (R36). -/
theorem State.accountOk.placeRequests (h : s.accountOk) (sends : s.sendsOk) {i : SlotNo} {v : ViewNo}
    (named : s.store.viewMap[v] = some i) (sid : StreamId) : (placeRequests i sid s).accountOk := by
  unfold Machine.placeRequests
  split
  · exact h.requestSend sends (h.readable_of_latest named) _ sid
  · have first := h.requestSend sends (h.readable_of_latest named) .a sid
    have still : (Machine.requestSend .a i sid s).store.viewMap[v] = some i := by rw [requestSend_viewMap]; exact named
    exact first.requestSend ((joinsAt_requestSend .a i sid).sendsOk sends) (first.readable_of_latest still) .b sid
  all_goals exact h

theorem placeRequests_sendsOk (sends : s.sendsOk) (i : SlotNo) (sid : StreamId) : (placeRequests i sid s).sendsOk := by
  unfold placeRequests
  split
  · exact (joinsAt_requestSend _ i sid).sendsOk sends
  · exact (joinsAt_requestSend .b i sid).sendsOk ((joinsAt_requestSend .a i sid).sendsOk sends)
  all_goals exact sends

theorem placeRequests_productions (i : SlotNo) (sid : StreamId) (s : State) :
    (placeRequests i sid s).engine.productions = s.engine.productions := by
  have requested : ∀ (p : TrunkPort) (u : State), (requestSend p i sid u).engine = u.engine := fun p u =>
    (same_of_allBut (xs := [.engine]) (by simp) .engine (by simp) : u.engine = _).symm
  unfold placeRequests
  split
  · rw [requested]
  · rw [requested, requested]
  all_goals rfl

theorem completeTile_some {p : CamPort} {r : Fin 2} {pr : Production}
    (made : s.engine.productions[planOf p r] = some pr) (pic : Picture) :
    completeTile p r pic s =
      let t := countEngine .tilesMade (publishTile pr.slot (s.stampFor p r).view
        ((s.withStore (s.store.complete pr.slot (s.stampFor p r) (makeTile pic pr.plan pr.crop))).withProduction
          (planOf p r) none))
      if pr.plan.send then placeRequests pr.slot pr.plan.stream t else t := by
  unfold completeTile
  dsimp only
  rw [made]

theorem endGood_cam_other {p q : CamPort} (other : p ≠ q) (f : OpenFrame) (s : State) :
    (endGood p f s).cams[q] = s.cams[q] := by
  have counted : ∀ (k : PortCounter) (u : State), (countCam p k u).cams[q] = u.cams[q] :=
    fun k u => getElem_set_ne _ other _
  unfold endGood
  dsimp only
  split
  · rw [counted, counted]; exact getElem_set_ne _ other _
  · rw [counted]; exact getElem_set_ne _ other _

/-- A production's slot completed and published, and the production ended (R30, R31). -/
theorem State.accountOk.publishProduction (h : s.accountOk) {k : PlanNo} {pr : Production}
    (made : s.engine.productions[k] = some pr) (x : Stamp) (data : List Byte) (v : ViewNo) :
    let t := publishTile pr.slot v ((s.withStore (s.store.complete pr.slot x data)).withProduction k none)
    t.accountOk ∧ t.trunk = s.trunk ∧ t.engine.productions = s.engine.productions.set k none
      ∧ t.store.viewMap[v] = some pr.slot := by
  have own : s.slotOf (.production k) = some pr.slot := by simp only [State.slotOf, made, Option.map_some]
  have completed := h.complete own x data
  generalize s.store.complete pr.slot x data = st at completed
  obtain ⟨trunk, engine⟩ := publishTile_trunk pr.slot v ((s.withStore st).withProduction k none)
  refine ⟨?_, trunk, by rw [engine]; rfl, ?_⟩
  · have own' : (s.withStore st).slotOf (.production k) = some pr.slot := own
    exact publishTile_accountOk (s := s.withStore st) completed own' v (by rfl)
      (fun o => slotOf_withProduction (s := s.withStore st) k none o) fun _ => rfl
  · have filling : (st.slots[pr.slot]).state = .filling := (completed.writer _ _ own).1
    rw [publishTile_store]
    show (st.publish pr.slot v).viewMap[v] = _
    rw [(publish_filling filling completed.map).1]
    exact getElem_set_same _ _ _

/-- The tile counted, and requested where its entry copy has send set (R30, R36). -/
theorem State.accountOk.requested (h : s.accountOk) (sends : s.sendsOk) {i : SlotNo} {v : ViewNo}
    (named : s.store.viewMap[v] = some i) (sid : StreamId) (send : Bool) :
    let u := countEngine .tilesMade s
    let t := if send then Machine.placeRequests i sid u else u
    t.accountOk ∧ t.sendsOk ∧ t.engine.productions = s.engine.productions := by
  intro u
  have counted : u.accountOk := accountOk_congr (s := s) rfl rfl rfl rfl (fun _ => rfl) h
  cases send with
  | false => exact ⟨counted, sends, rfl⟩
  | true =>
    have sends' : u.sendsOk := sends
    exact ⟨counted.placeRequests (v := v) sends named sid, placeRequests_sendsOk sends' i sid,
      placeRequests_productions i sid u⟩

/-- A production's tile completed (R30, R31, R36). -/
theorem State.accountOk.completeTile (h : s.accountOk) (sends : s.sendsOk) (p : CamPort) (r : Fin 2) (pic : Picture) :
    (completeTile p r pic s).accountOk ∧ (completeTile p r pic s).sendsOk
      ∧ (completeTile p r pic s).engine.productions = s.engine.productions.set (planOf p r) none := by
  cases made : s.engine.productions[planOf p r] with
  | none =>
    rw [completeTile_none made]
    refine ⟨h, sends, Vector.ext fun i hi => ?_⟩
    by_cases same : (planOf p r).val = i
    · subst same
      simpa using made
    · simp [Vector.getElem_set_ne, same]
  | some pr =>
    obtain ⟨account, trunk, ended, named⟩ := h.publishProduction made (s.stampFor p r) (makeTile pic pr.plan pr.crop)
      (s.stampFor p r).view
    obtain ⟨account', sends', kept⟩ := account.requested (sendsOk_congr trunk sends) named pr.plan.stream pr.plan.send
    rw [completeTile_some made]
    exact ⟨account', sends', kept.trans ended⟩

/-- What the health monitor leaves of the tiles as it takes a frame (R62). -/
structure State.tilesOf (s t : State) : Prop where
  account : t.accountOk
  sends : t.sendsOk
  productions : t.engine.productions = s.engine.productions

theorem State.tilesOf.takeFrame (h : s.tilesOf t) (p : CamPort) (st : FrameStats) : s.tilesOf (takeFrame p st t) := by
  have beside : ∀ u v : State, v.mask (allBut [.store, .engine, .router, .comp, .trunk])
      = u.mask (allBut [.store, .engine, .router, .comp, .trunk]) → s.tilesOf u → s.tilesOf v := fun u v same tiles => by
    have engine : u.engine = v.engine := same_of_allBut same .engine (by simp)
    have trunk : u.trunk = v.trunk := same_of_allBut same .trunk (by simp)
    exact ⟨accountOk_of_mask same tiles.account, sendsOk_congr trunk.symm tiles.sends,
      by rw [← engine]; exact tiles.productions⟩
  refine takeFrame_keeps (law := fun u => s.tilesOf u) (fun u k tiles => beside u _ (by simp) tiles)
    (fun u b tiles => beside u _ (by simp) tiles) (fun u k n e tiles => ?_) st h
  have same : SameBut (allBut [.store, .engine, .router, .comp]) u (addCause k n e u) :=
    (sameBut_iff_mask _ _ _).mpr (by simp)
  have engine := same .engine (by simp)
  have router := same .router (by simp)
  have comp := same .comp (by simp)
  refine ⟨accountOk_congr (s := u) (same .store (by simp)).symm (by rw [engine]) (by rw [router]) (by rw [comp])
    (fun q => by rw [addCause_sendList]) tiles.account, fun q => ?_, by rw [← engine]; exact tiles.productions⟩
  rw [sendsOk_iff, addCause_sendList]
  exact tiles.sends q

theorem State.storeKept.frameTaken (h : s.storeKept) (sends : s.sendsOk) (p : CamPort) (f : OpenFrame) (pic : Picture) :
    (frameTaken p f pic s).storeKept := by
  have ended : s.tilesOf ((endGood p f s).withSums p (gather pic.luma f.width f.height)) := by
    have same : SameBut (allBut [.store, .engine, .router, .comp, .trunk]) s (endGood p f s) :=
      (sameBut_iff_mask _ _ _).mpr (by simp)
    have account := accountOk_of_mask ((sameBut_iff_mask _ _ _).mp same) h.account
    have engine := same .engine (by simp)
    have trunk := same .trunk (by simp)
    have productions : (endGood p f s).engine.productions = s.engine.productions := by rw [← engine]
    exact ⟨accountOk_congr (s := endGood p f s) rfl rfl rfl rfl (fun _ => rfl) account,
      sendsOk_congr (s := s) trunk.symm sends, productions⟩
  obtain ⟨account, sends', productions⟩ := ended.takeFrame p (frameStats f (gather pic.luma f.width f.height))
  obtain ⟨account0, sends0, productions0⟩ := account.completeTile sends' p 0 pic
  obtain ⟨account1, -, productions1⟩ := account0.completeTile sends0 p 1 pic
  refine ⟨account1, fun q => ?_⟩
  have made : (Machine.frameTaken p f pic s).engine.productions
      = (s.engine.productions.set (planOf p 0) none).set (planOf p 1) none := by
    rw [← productions, ← productions0]; exact productions1
  by_cases same : q = p
  · subst same
    refine portOk_of_none fun r => ?_
    rw [made]
    match r with
    | 1 => exact getElem_set_same _ _ _
    | 0 => exact (getElem_set_ne _ (planOf_ne q) _).trans (getElem_set_same _ _ _)
  · have cam : (Machine.frameTaken p f pic s).cams[q] = s.cams[q] := by
      rw [frameTaken_cams]
      exact endGood_cam_other (Ne.symm same) f s
    refine portOk_congr (fun r => ?_) (by rw [cam]) (by rw [cam]) (h.ports q)
    rw [made, getElem_set_ne _ fun e => same (planOf_port e).symm, getElem_set_ne _ fun e => same (planOf_port e).symm]

/-! ### Every change -/

theorem storeKept_of_reset (store : s.store = State.reset.store) (engine : s.engine = State.reset.engine)
    (router : s.router = State.reset.router) (comp : s.comp = State.reset.comp)
    (lists : ∀ p, (s.trunk.get p).sendList = []) : s.storeKept := by
  have reset : State.reset.accountOk := by
    obtain ⟨-, -, -, -, -, -, -, -, -, -, -, -, -, -, -, -, ok⟩ := resetMeetsTheLaws
    exact ((storeOk_iff _).mp ok).1
  refine ⟨accountOk_congr store (by rw [engine]) (by rw [router]) (by rw [comp]) (fun p => ?_) reset, fun p =>
    portOk_of_none fun r => ?_⟩
  · rw [lists]
    cases p <;> rfl
  · rw [engine]
    exact Vector.getElem_replicate ..

/-- The account with the send lists, which it reads. -/
theorem Change.storeKept (c : Change s t) (h : s.storeKept ∧ s.sendsOk) : t.storeKept ∧ t.sendsOk := by
  obtain ⟨kept, sends⟩ := h
  refine ⟨?_, change_sendsOk s t c sends⟩
  cases c with
  | work w =>
    cases w with
    | move m => exact m.storeKept sends kept
    | takes p f pic => exact kept.frameTaken sends p f pic
    | window => exact storeKept_of_mask (by simp) kept
  | mode => exact storeKept_of_mask (by simp) kept
  | orient => exact storeKept_of_mask (by simp) kept
  | reset => exact storeKept_of_reset rfl rfl rfl rfl fun p => by cases p <;> rfl
  | restart c => exact storeKept_of_reset rfl rfl rfl rfl fun p => (keepCopy_restart_trunk c s p).2.2

end

/-- Settles O11: the account holds of the productions and contexts as writers and of the frames and send entries as
holders, and every change that a step is made of keeps it with the send lists. -/
theorem stepKeepsTheStore : Obligations.StepKeepsTheStore := by
  intro s t store sends e
  obtain ⟨account, ports, timers⟩ := (storeOk_iff s).mp store
  obtain ⟨⟨account', ports'⟩, -⟩ := step_keeps (law := fun s => s.storeKept ∧ s.sendsOk)
    (fun _ _ c => c.storeKept) e ⟨⟨account, ports⟩, sends⟩
  exact (storeOk_iff t).mpr ⟨account', ports', step_keeps (fun _ _ c => c.timersOk) e timers⟩

end Sys2Proof.Machine
end

section
/-! PROOF. Table entries written out as they were read (R169, R170, R193): each field's bytes are the bytes it was read
from. -/

namespace Sys2Proof.Machine

section
variable {l : List Byte} {b : Byte}

/-! ### Bytes of fields -/

theorem byte_toNat (b : Byte) : byte b.toNat = b := (BitVec.ofNat_toNat (m := 8) b).trans (BitVec.setWidth_eq b)

theorem halfAt_toNat (l : List Byte) (i : Nat) :
    (halfAt l i).toNat = (byteAt l i).toNat * 256 + (byteAt l (i + 1)).toNat := by
  have low := (byteAt l (i + 1)).isLt
  rw [halfAt, BitVec.toNat_append, Nat.shiftLeft_eq, Nat.mul_comm, ← Nat.two_pow_add_eq_or_of_lt low]

theorem bytes2_halfAt (l : List Byte) (i : Nat) : bytes2 (halfAt l i).toNat = [byteAt l i, byteAt l (i + 1)] := by
  have high := (byteAt l i).isLt
  have low := (byteAt l (i + 1)).isLt
  rw [bytes2, halfAt_toNat]
  congr 1
  · exact BitVec.eq_of_toNat_eq (by simp only [byte, BitVec.toNat_ofNat]; omega)
  · congr 1
    exact BitVec.eq_of_toNat_eq (by simp only [byte, BitVec.toNat_ofNat]; omega)

theorem flag_of_readFlag {x : Bool} (h : readFlag b = some x) : flag x = b := by
  unfold readFlag at h
  split at h
  next zero => rw [zero, ← Option.some.inj h]; rfl
  next =>
    split at h
    next one => rw [one, ← Option.some.inj h]; rfl
    next => cases h

/-- The first bytes of a list that has them. -/
theorem take_eq_byteAt {n : Nat} (long : n ≤ l.length) : l.take n = (List.range n).map (byteAt l) := by
  refine List.ext_getElem (by simpa using long) fun i hi hi' => ?_
  have inside : i < l.length := lt_of_lt_of_le (by simpa using hi') long
  simp [byteAt, List.getD_eq_getElem?_getD, inside]

theorem code_of_sourceOf {n : Nat} {x : SourceKind} (h : sourceOf n = some x) : x.code = byte n := by
  unfold sourceOf at h
  split at h <;> cases h <;> rfl

theorem code_of_labelOf {n : Nat} {x : LabelKind} (h : labelOf n = some x) : x.code = byte n := by
  unfold labelOf at h
  split at h <;> cases h <;> rfl

theorem code_of_polarityOf {n : Nat} {x : Polarity} (h : polarityOf n = some x) : x.code = byte n := by
  unfold polarityOf at h
  split at h <;> cases h <;> rfl

/-! ### Entries -/

theorem bytes_readTilePlan (long : l.length = 54) {e : TilePlan} (h : readTilePlan l = some e) : e.bytes = l.take 19 := by
  unfold readTilePlan at h
  dsimp only at h
  split at h
  next ok =>
    split at h
    next en mi lu se hen hmi hlu hse =>
      have sid : (halfAt l 15).toNat < 2 ^ 12 := by
        simp only [Bool.and_eq_true, decide_eq_true_eq] at ok
        omega
      obtain rfl := Option.some.inj h
      simp only [TilePlan.bytes, bytes2_halfAt, byte_toNat, flag_of_readFlag hen, flag_of_readFlag hmi,
        flag_of_readFlag hlu, flag_of_readFlag hse, BitVec.toNat_ofNat, Nat.mod_eq_of_lt sid,
        take_eq_byteAt (l := l) (n := 19) (by omega)]
      rfl
    next => cases h
  next => cases h

theorem bytes_readCameraConfig (long : l.length = 54) {e : CameraConfig} (h : readCameraConfig l = some e) :
    e.bytes = l.take 5 := by
  unfold readCameraConfig at h
  dsimp only at h
  split at h
  next =>
    split at h
    next en sv mo hen hsv hmo =>
      obtain rfl := Option.some.inj h
      simp only [CameraConfig.bytes, byte_toNat, flag_of_readFlag hen, flag_of_readFlag hsv, flag_of_readFlag hmo,
        take_eq_byteAt (l := l) (n := 5) (by omega)]
      rfl
    next => cases h
  next => cases h

theorem bytes_readLensParams (long : l.length = 54) {e : LensParams} (h : readLensParams l = some e) :
    e.bytes = l.take 12 := by
  unfold readLensParams at h
  dsimp only at h
  split at h
  next =>
    obtain rfl := Option.some.inj h
    simp only [LensParams.bytes, byte_toNat, bytes2_halfAt, take_eq_byteAt (l := l) (n := 12) (by omega)]
    rfl
  next => cases h

theorem bytes_readReference (long : l.length = 54) {e : Option Nat} (h : readReference l = some e) :
    referenceBytes e = l.take 2 := by
  have whole : bytes2 (halfAt l 0).toNat = l.take 2 := by
    rw [bytes2_halfAt, take_eq_byteAt (by omega)]
    rfl
  unfold readReference at h
  dsimp only at h
  split at h
  next => rw [← Option.some.inj h]; exact whole
  next =>
    split at h
    next absent => rw [← Option.some.inj h, ← whole, absent]; rfl
    next => cases h

/-- A number in one byte, read from the first byte. -/
theorem byte_take_one (long : l.length = 54) : [byte (byteAt l 0).toNat] = l.take 1 := by
  rw [byte_toNat, take_eq_byteAt (by omega)]
  rfl

theorem bytes_readDoor (long : l.length = 54) {e : DoorEntry} (h : readDoor l = some e) : e.bytes = l.take 2 := by
  unfold readDoor at h
  dsimp only at h
  split at h
  next cam sd hcam hsd =>
    obtain rfl := Option.some.inj h
    have side : sd.code = byteAt l 1 := by
      rw [← byte_toNat (byteAt l 1)]
      split at hsd
      next one => rw [one, ← Option.some.inj hsd]; rfl
      next two => rw [two, ← Option.some.inj hsd]; rfl
      next => cases hsd
    have camera : (DoorEntry.mk cam sd).bytes = [byte (byteAt l 0).toNat, sd.code] := by
      split at hcam
      next small =>
        rw [← Option.some.inj hcam]
        exact congrArg (fun n => [byte n, sd.code]) (Nat.mod_eq_of_lt (Nat.lt_succ_of_le small))
      next =>
        split at hcam
        next none => rw [none, ← Option.some.inj hcam]; rfl
        next => cases hcam
    rw [camera, side, byte_toNat, take_eq_byteAt (by omega)]
    rfl
  next => cases h

theorem bytes_readCondition (l : List Byte) (i : Nat) : (readCondition l i).bytes
    = [byteAt l i, byteAt l (i + 1), byteAt l (i + 2), byteAt l (i + 3), byteAt l (i + 4)] := by
  simp only [readCondition, Condition.bytes, bytes2_halfAt]
  rfl

theorem bytes_readRule (long : l.length = 54) {e : Rule} (h : readRule l = some e) : e.bytes = l.take 16 := by
  unfold readRule at h
  dsimp only at h
  split at h
  next ok =>
    have lay : (byteAt l 13).toNat < 16 := by
      simp only [Bool.and_eq_true, decide_eq_true_eq] at ok
      omega
    split at h
    next en hasB hen hhas =>
      split at h
      next =>
        obtain rfl := Option.some.inj h
        simp only [Rule.bytes, bytes_readCondition, byte_toNat, flag_of_readFlag hen, flag_of_readFlag hhas,
          Fin.val_ofNat, Nat.mod_eq_of_lt lay, take_eq_byteAt (l := l) (n := 16) (by omega)]
        rfl
      next => cases h
    next => cases h
  next => cases h

theorem bytes_readLayoutHeader (long : l.length = 54) {n : Nat} (h : readLayoutHeader l = some n) :
    [byte n] = l.take 1 := by
  unfold readLayoutHeader at h
  dsimp only at h
  split at h
  next => rw [← Option.some.inj h, byte_take_one long]
  next => cases h

theorem bytes_readWeight (long : l.length = 54) {n : Nat} (h : readWeight l = some n) : [byte n] = l.take 1 := by
  unfold readWeight at h
  dsimp only at h
  split at h
  next => rw [← Option.some.inj h, byte_take_one long]
  next => cases h

theorem bytes_readPane (long : l.length = 54) {e : Pane} (h : readPane l = some e) : e.bytes = l.take 20 := by
  unfold readPane at h
  split at h
  next src fb lab hsrc hfb hlab =>
    dsimp only at h
    split at h
    next =>
      obtain rfl := Option.some.inj h
      simp only [Pane.bytes, bytes2_halfAt, byte_toNat, flag_of_readFlag hfb, code_of_sourceOf hsrc,
        code_of_labelOf hlab, take_eq_byteAt (l := l) (n := 20) (by omega)]
      rfl
    next => cases h
  next => cases h

theorem bytes_readOutputConfig (long : l.length = 54) {e : OutputConfig} (h : readOutputConfig l = some e) :
    e.bytes = l.take 5 := by
  unfold readOutputConfig at h
  dsimp only at h
  split at h
  next ok =>
    obtain ⟨en, hen, rfl⟩ := Option.map_eq_some_iff.mp h
    simp only [Bool.and_eq_true, decide_eq_true_eq] at ok
    have chosen : (byteAt l 2).toNat < 16 := by omega
    have stale : (byteAt l 3).toNat < 16 := by omega
    simp only [OutputConfig.bytes, byte_toNat, flag_of_readFlag hen, Fin.val_ofNat, Nat.mod_eq_of_lt chosen,
      Nat.mod_eq_of_lt stale, take_eq_byteAt (l := l) (n := 5) (by omega)]
    rfl
  next => cases h

theorem bytes_readNodeParams (long : l.length = 54) {e : NodeParams} (h : readNodeParams l = some e) :
    e.bytes = l.take 7 := by
  unfold readNodeParams at h
  dsimp only at h
  split at h
  next =>
    split at h
    next lp cp hlp hcp =>
      obtain rfl := Option.some.inj h
      simp only [NodeParams.bytes, bytes2_halfAt, byte_toNat, code_of_polarityOf hlp, code_of_polarityOf hcp,
        take_eq_byteAt (l := l) (n := 7) (by omega)]
      rfl
    next => cases h
  next => cases h

end

/-- Settles O12, table by table. -/
theorem anEntryReadsBackAsItWasWritten : Obligations.AnEntryReadsBackAsItWasWritten := fun _ long =>
  ⟨fun _ => bytes_readTilePlan long, fun _ => bytes_readCameraConfig long, fun _ => bytes_readLensParams long,
    fun _ => bytes_readReference long, fun _ => bytes_readWeight long, fun _ => bytes_readDoor long,
    fun _ => bytes_readRule long, fun _ => bytes_readLayoutHeader long, fun _ => bytes_readPane long,
    fun _ => bytes_readOutputConfig long, fun _ => bytes_readNodeParams long⟩

end Sys2Proof.Machine
end

section
/-! PROOF. Cells as they are formed, sealed and read back (R88, R112, R190): their bytes, their two tests, their
payload. -/

namespace Sys2Proof.Machine

section
variable {c : Cell} {l : List Byte} {n i : Nat}

/-! ### Runs of bytes -/

theorem padTo_of_length (h : l.length = n) : padTo n l = l := by
  simp [padTo, h]

theorem padTo_append_of_length {m : List Byte} (h : l.length = n) : padTo n (l ++ m) = l := by
  simp [padTo, h]

theorem padTo_padTo (n : Nat) (l : List Byte) : padTo n (padTo n l) = padTo n l := padTo_of_length (padTo_length n l)

theorem byteAt_append_left {m : List Byte} (h : i < l.length) : byteAt (l ++ m) i = byteAt l i := by
  simp [byteAt, List.getD_eq_getElem?_getD, List.getElem?_append_left h]

theorem byteAt_append_right {m : List Byte} (h : l.length ≤ i) : byteAt (l ++ m) i = byteAt m (i - l.length) := by
  simp [byteAt, List.getD_eq_getElem?_getD, List.getElem?_append_right h]

theorem byteAt_padTo (h : i < n) : byteAt (padTo n l) i = byteAt l i := by
  by_cases inside : i < l.length
  · have taken : i < (l.take n).length := by rw [List.length_take]; omega
    rw [padTo, byteAt_append_left taken]
    simp [byteAt, List.getD_eq_getElem?_getD, h]
  · have taken : (l.take n).length ≤ i := by rw [List.length_take]; omega
    rw [padTo, byteAt_append_right taken]
    simp only [byteAt, List.getD_eq_getElem?_getD, List.getElem?_replicate]
    rw [List.getElem?_eq_none (by omega : l.length ≤ i)]
    split <;> rfl

/-- A number written in two bytes is read back. -/
theorem byte_append_byte (n : Nat) : (byte (n / 256) ++ byte n : Half) = BitVec.ofNat 16 n := by
  have small : n % 256 < 2 ^ 8 := by omega
  refine BitVec.eq_of_toNat_eq ?_
  simp only [byte, BitVec.toNat_append, BitVec.toNat_ofNat]
  rw [Nat.shiftLeft_eq, Nat.mul_comm, ← Nat.two_pow_add_eq_or_of_lt small]
  omega

theorem half_append (v : Half) : (v.extractLsb' 8 8 ++ v.extractLsb' 0 8 : Half) = v := by
  have low : v.toNat % 256 < 2 ^ 8 := by omega
  have bound := v.isLt
  refine BitVec.eq_of_toNat_eq ?_
  simp only [BitVec.toNat_append, BitVec.extractLsb'_toNat, Nat.shiftRight_zero]
  rw [Nat.shiftLeft_eq, Nat.mul_comm, ← Nat.two_pow_add_eq_or_of_lt low, Nat.shiftRight_eq_div_pow]
  omega

theorem readFlag_flag (b : Bool) : readFlag (flag b) = some b := by cases b <;> rfl

/-! ### A cell before it departs -/

theorem mkCell_eq (head payload : List Byte) :
    mkCell head payload = padTo 7 head ++ ([0] ++ (padTo 54 payload ++ [0, 0])) := by
  simp [mkCell]

theorem header_mkCell (head payload : List Byte) : padTo 7 (mkCell head payload) = padTo 7 head := by
  rw [mkCell_eq]
  exact padTo_append_of_length (padTo_length 7 head)

theorem payload_mkCell (head payload : List Byte) : payloadOf (mkCell head payload) = padTo 54 payload := by
  have seven := padTo_length 7 head
  rw [payloadOf, mkCell_eq, List.drop_append, List.drop_of_length_le (by omega), seven]
  have rest : ([0] ++ (padTo 54 payload ++ [0, 0])).drop 1 = padTo 54 payload ++ [0, 0] := rfl
  rw [List.nil_append, rest, List.take_append_of_le_length (by rw [padTo_length]),
    List.take_of_length_le (by rw [padTo_length])]

theorem byteAt_mkCell {head payload : List Byte} (h : i < 7) : byteAt (mkCell head payload) i = byteAt head i := by
  rw [mkCell_eq, byteAt_append_left (by rw [padTo_length]; exact h), byteAt_padTo h]

/-! ### A cell as it departs -/

theorem sealCell_eq (c : Cell) : sealCell c = padTo 7 c ++ ([crc8 (padTo 7 c)] ++ (padTo 54 (payloadOf c)
    ++ [(crc16 (padTo 54 (payloadOf c))).extractLsb' 8 8, (crc16 (padTo 54 (payloadOf c))).extractLsb' 0 8])) := by
  simp [sealCell]

theorem sealCell_length (c : Cell) : (sealCell c).length = 64 := by
  rw [sealCell_eq]
  simp only [List.length_append, padTo_length, List.length_cons, List.length_nil]

theorem header_sealCell (c : Cell) : padTo 7 (sealCell c) = padTo 7 c := by
  rw [sealCell_eq]
  exact padTo_append_of_length (padTo_length 7 c)

theorem byteAt_sealCell (h : i < 7) : byteAt (sealCell c) i = byteAt c i := by
  rw [sealCell_eq, byteAt_append_left (by rw [padTo_length]; exact h), byteAt_padTo h]

theorem payload_sealCell (c : Cell) : payloadOf (sealCell c) = padTo 54 (payloadOf c) := by
  have seven := padTo_length 7 c
  rw [payloadOf, sealCell_eq, List.drop_append, List.drop_of_length_le (by omega), seven]
  rw [List.nil_append, show (8 : Nat) - 7 = 1 from rfl, List.singleton_append, List.drop_succ_cons, List.drop_zero,
    List.take_append_of_le_length (by rw [padTo_length]), List.take_of_length_le (by rw [padTo_length])]

/-- The header test passes for a cell as it departs (R88, R190). -/
theorem headerOk_sealCell (c : Cell) : headerOk (sealCell c) = true := by
  have seventh : byteAt (sealCell c) 7 = crc8 (padTo 7 c) := by
    rw [sealCell_eq, byteAt_append_right (by rw [padTo_length]), padTo_length]
    rfl
  rw [headerOk, seventh, header_sealCell, beq_self_eq_true]

/-- The payload test passes for a cell as it departs (R112, R190). -/
theorem payloadOk_sealCell (c : Cell) : payloadOk (sealCell c) = true := by
  have last : halfAt (sealCell c) 62 = crc16 (padTo 54 (payloadOf c)) := by
    have behind : ∀ j, byteAt (sealCell c) (62 + j) = byteAt
        [(crc16 (padTo 54 (payloadOf c))).extractLsb' 8 8, (crc16 (padTo 54 (payloadOf c))).extractLsb' 0 8] j := by
      intro j
      rw [sealCell_eq, byteAt_append_right (by rw [padTo_length]; omega), padTo_length,
        byteAt_append_right (by simp; omega), byteAt_append_right (by rw [padTo_length]; simp; omega), padTo_length]
      congr 1
      simp
      omega
    rw [halfAt, behind 0, behind 1]
    exact half_append _
  rw [payloadOk, last, payload_sealCell, padTo_padTo, beq_self_eq_true]

end

end Sys2Proof.Machine
end

section
/-! PROOF. A TILE_HEAD formed of a complete record is read back with that record (section 11.2, R116, R189, R190). -/

namespace Sys2Proof.Machine

theorem pictureOf_code (x : PictureCondition) : pictureOf x.code.toNat = some x := by cases x <;> rfl

theorem lensOf_code (x : LensCondition) : lensOf x.code.toNat = some x := by cases x <;> rfl

/-- A stream id in its two header bytes (section 11.2). -/
theorem stream_append (v : StreamId) : ((v.extractLsb' 8 4 |>.setWidth 8).extractLsb' 0 4 ++ v.extractLsb' 0 8 : StreamId)
    = v := by
  have low : v.toNat % 256 < 2 ^ 8 := by omega
  have bound := v.isLt
  refine BitVec.eq_of_toNat_eq ?_
  simp only [BitVec.toNat_append, BitVec.extractLsb'_toNat, BitVec.toNat_setWidth, Nat.shiftRight_zero]
  rw [Nat.shiftLeft_eq, Nat.mul_comm, ← Nat.two_pow_add_eq_or_of_lt low, Nat.shiftRight_eq_div_pow]
  omega

theorem tileSizeOk_iff (w h : Nat) : tileSizeOk w h = true ↔
    64 ≤ w ∧ w ≤ 1280 ∧ w % 16 = 0 ∧ 48 ≤ h ∧ h ≤ 720 ∧ h % 8 = 0 := by
  simp [tileSizeOk, and_assoc]

theorem tileCells_lt {w h : Nat} (ok : tileSizeOk w h = true) : tileCells w h < 65536 := by
  obtain ⟨-, wide, -, -, high, -⟩ := (tileSizeOk_iff w h).mp ok
  have area : w * h ≤ 1280 * 720 := Nat.mul_le_mul wide high
  unfold tileCells
  omega

theorem toNat_half {n : Nat} (h : n < 65536) : (BitVec.ofNat 16 n).toNat = n := Nat.mod_eq_of_lt h

theorem half_ofNat (v : Half) : BitVec.ofNat 16 v.toNat = v :=
  (BitVec.ofNat_toNat (m := 16) v).trans (BitVec.setWidth_eq v)

/-- The payload bytes of a TILE_HEAD, one by one. -/
def headPayload (sid : StreamId) (r : TileRecord) (st : Stamp) (age : Nat) : List Byte :=
  bytes2 sid.toNat ++ [byte st.view.val] ++ bytes2 r.sequence.toNat ++ bytes2 r.width ++ bytes2 r.height
    ++ [flag r.mirror] ++ bytes2 (tileCells r.width r.height) ++ bytes2 r.captureFrame.toNat ++ bytes2 age
    ++ [st.picture.code, st.lens.code, byte st.coverage]

section
variable (sid : StreamId) (r : TileRecord) (st : Stamp) (age : Nat)

theorem byteAt_headPayload : (byteAt (headPayload sid r st age) 2 = byte st.view.val)
    ∧ byteAt (headPayload sid r st age) 9 = flag r.mirror ∧ byteAt (headPayload sid r st age) 16 = st.picture.code
    ∧ byteAt (headPayload sid r st age) 17 = st.lens.code ∧ byteAt (headPayload sid r st age) 18 = byte st.coverage :=
  ⟨rfl, rfl, rfl, rfl, rfl⟩

theorem halfAt_headPayload : halfAt (headPayload sid r st age) 0 = BitVec.ofNat 16 sid.toNat
    ∧ halfAt (headPayload sid r st age) 3 = r.sequence ∧ halfAt (headPayload sid r st age) 5 = BitVec.ofNat 16 r.width
    ∧ halfAt (headPayload sid r st age) 7 = BitVec.ofNat 16 r.height
    ∧ halfAt (headPayload sid r st age) 10 = BitVec.ofNat 16 (tileCells r.width r.height)
    ∧ halfAt (headPayload sid r st age) 12 = r.captureFrame
    ∧ halfAt (headPayload sid r st age) 14 = BitVec.ofNat 16 age :=
  ⟨byte_append_byte _, (byte_append_byte _).trans (half_ofNat _), byte_append_byte _, byte_append_byte _,
    byte_append_byte _, (byte_append_byte _).trans (half_ofNat _), byte_append_byte _⟩

/-- The payload of the cell that leaves. -/
theorem payload_tileHead : payloadOf (sealCell (tileHeadCell sid r st age)) = padTo 54 (headPayload sid r st age) := by
  rw [payload_sealCell, tileHeadCell, payload_mkCell, padTo_padTo]
  rfl

/-- The header bytes of the cell that leaves. -/
theorem byteAt_tileHead {i : Nat} (h : i < 7) : byteAt (sealCell (tileHeadCell sid r st age)) i
    = byteAt (tileHeader 6 false sid r.sequence 0) i := by
  rw [byteAt_sealCell h, tileHeadCell, byteAt_mkCell h]

theorem streamOf_tileHead : streamOf (sealCell (tileHeadCell sid r st age)) = sid := by
  rw [streamOf, byteAt_tileHead _ _ _ _ (by decide), byteAt_tileHead _ _ _ _ (by decide)]
  exact stream_append sid

end

/-- Settles O13: the bytes of the cell's payload are those of its fields, and each field is read from its bytes. -/
theorem aTileHeadIsReadAsItWasFormed : Obligations.ATileHeadIsReadAsItWasFormed := by
  intro sid r st age size coverage old c
  have zeroth : byteAt c 0 = 0x60 := (byteAt_tileHead sid r st age (by decide)).trans (by
    show byte (6 * 16) ||| flag false = 0x60
    decide)
  have low : lowFlag c = false := by
    rw [lowFlag, zeroth]
    decide
  have kind : kindOf c = some .tileHead := by
    rw [kindOf, kindCode, zeroth]
    decide
  have stream : streamOf c = sid := streamOf_tileHead sid r st age
  refine ⟨sealCell_length _, headerOk_sealCell _, payloadOk_sealCell _, kind, low, stream, ?_⟩
  have payload : payloadOf c = padTo 54 (headPayload sid r st age) := payload_tileHead sid r st age
  have bytes : ∀ i, i < 54 → byteAt (payloadOf c) i = byteAt (headPayload sid r st age) i := fun i h => by
    rw [payload, byteAt_padTo h]
  have halves : ∀ i, i < 53 → halfAt (payloadOf c) i = halfAt (headPayload sid r st age) i := fun i h => by
    rw [halfAt, bytes i (by omega), bytes (i + 1) (by omega)]; rfl
  obtain ⟨view, mirror, picture, lens, cover⟩ := byteAt_headPayload sid r st age
  obtain ⟨id, sequence, width, height, cells, capture, aged⟩ := halfAt_headPayload sid r st age
  obtain ⟨-, wide, -, -, high, -⟩ := (tileSizeOk_iff _ _).mp size
  have third : byteAt c 3 = r.sequence.extractLsb' 0 8 := byteAt_tileHead sid r st age (by decide)
  have bound := sid.isLt
  have area := tileCells_lt size
  have fields : ((halfAt (payloadOf c) 0).toNat == (streamOf c).toNat) = true
      ∧ (halfAt (payloadOf c) 3 = r.sequence) ∧ (halfAt (payloadOf c) 5).toNat = r.width
      ∧ (halfAt (payloadOf c) 7).toNat = r.height
      ∧ (halfAt (payloadOf c) 10).toNat = tileCells r.width r.height
      ∧ halfAt (payloadOf c) 12 = r.captureFrame ∧ (halfAt (payloadOf c) 14).toNat = age := by
    refine ⟨?_, ?_, ?_, ?_, ?_, ?_, ?_⟩ <;> rw [halves _ (by decide)]
    · rw [id, stream, toNat_half (by omega), beq_self_eq_true]
    · exact sequence
    · rw [width, toNat_half (by omega)]
    · rw [height, toNat_half (by omega)]
    · rw [cells, toNat_half area]
    · exact capture
    · rw [aged, toNat_half (by omega)]
  obtain ⟨idOk, sequence', width', height', cells', capture', aged'⟩ := fields
  have view' : (byteAt (payloadOf c) 2).toNat = st.view.val := by
    rw [bytes 2 (by decide), view]
    exact Nat.mod_eq_of_lt (by omega)
  have cover' : (byteAt (payloadOf c) 18).toNat = st.coverage := by
    rw [bytes 18 (by decide), cover]
    exact Nat.mod_eq_of_lt (by omega)
  have same : Fin.ofNat 64 st.view.val = st.view := Fin.ext (Nat.mod_eq_of_lt st.view.isLt)
  simp only [readTileHead, payloadOk_sealCell, low, idOk, sequence', third, width', height', cells', capture', aged',
    view', cover', size, coverage, bytes 9 (by decide), bytes 16 (by decide), bytes 17 (by decide), mirror, picture,
    lens, readFlag_flag, pictureOf_code, lensOf_code, same, c]
  simp

end Sys2Proof.Machine
end

section
/-! PROOF. Publishing and holds (R44 to R46), operation by operation. -/

namespace Sys2Proof.Machine

section
variable {st : Store} {i : SlotNo} {v : ViewNo}

/-- Where a slot that leaves LATEST goes, by its holders and its pin mark (R44). -/
theorem leaveLatest_eq (x : Slot) : x.leaveLatest =
    if 0 < x.holders then { x with state := .retired, view := none }
    else if x.pinned then { x with state := .evidence, view := none }
    else ⟨.free, .none, none, 0, false, false, none, []⟩ := rfl

theorem publish_counters (st : Store) (i : SlotNo) (v : ViewNo) :
    (st.publish i v).counters = st.counters ∧ (st.publish i v).evidence = st.evidence := by
  rcases publish_cases st i v with ⟨-, e⟩ | ⟨-, -, e⟩ | ⟨p, -, -, e⟩ <;> rw [e] <;> exact ⟨rfl, rfl⟩

theorem publishIsOneStep : Claim.APublishIsOneStep := by
  intro st i v filling map u
  obtain ⟨viewMap, new, others⟩ := publish_filling (v := v) filling map
  obtain ⟨counters, evidence⟩ := publish_counters st i v
  refine ⟨viewMap, new, fun p named => ?_, fun j other unnamed => ?_, evidence, counters, map.publish i v⟩
  · have apart : p ≠ i := fun same => by
      have latest := (map.latest_of_map named).1
      rw [same, filling] at latest
      cases latest
    rw [← leaveLatest_eq, others p apart, if_pos named]
  · rw [others j other, if_neg unnamed]

/-- A slot after the last of its holds has ended (R46). -/
theorem endHold_succ {x : Slot} {n : Nat} (held : x.holders = n + 1) : x.endHold =
    if n = 0 ∧ x.state = .retired then
      if x.pinned then { x with holders := 0, state := .evidence } else ⟨.free, .none, none, 0, false, false, none, []⟩
    else { x with holders := n } := by
  unfold Slot.endHold
  rw [held]
  dsimp only
  split
  next last => rw [last.1]; rfl
  next => rfl

theorem setSlot_self (st : Store) (i : SlotNo) : st.setSlot i st.slots[i] = st := by
  have slots : st.slots.set i st.slots[i] = st.slots := Vector.set_getElem_self _
  rw [Store.setSlot, slots]

theorem takeHold_eq (st : Store) (i : SlotNo) : st.takeHold i =
    if (st.slots[i]).state == .latest || (st.slots[i]).state == .retired || (st.slots[i]).state == .evidence then
      st.setSlot i { st.slots[i] with holders := (st.slots[i]).holders + 1 }
    else st := by
  cases state : (st.slots[i]).state <;> simp only [Store.takeHold, state] <;> rfl

theorem holdsComeAndGo : Claim.HoldsComeAndGoByTheSlotsState := by
  intro st i x readable
  refine ⟨takeHold_eq st i, fun none => ?_, fun n held => ?_, fun may none other => ?_⟩
  · have still : x.endHold = x := by simp only [Slot.endHold, none]
    exact (congrArg (st.setSlot i) still).trans (setSlot_self st i)
  · exact congrArg (st.setSlot i) (endHold_succ held)
  · rw [takeHold_eq, if_pos may, Store.endHold, setSlot_same]
    have back : ({ x with holders := x.holders + 1 } : Slot).endHold = x := by
      rw [endHold_succ (n := x.holders) rfl, if_neg fun last => other last.2]
    show Store.setSlot (st.setSlot i _) i ({ x with holders := x.holders + 1 } : Slot).endHold = st
    rw [back]
    calc Store.setSlot (st.setSlot i _) i x = st.setSlot i x := by simp [Store.setSlot, Vector.set_set]
      _ = st := setSlot_self st i

end

/-- Settles O15: a publish by the lemma on the published slots, holds by the slot's state. -/
theorem theStorePublishesAndHolds : Obligations.TheStorePublishesAndHolds := ⟨publishIsOneStep, holdsComeAndGo⟩

end Sys2Proof.Machine
end

section
/-! PROOF. What an evaluation does (R136 to R141), and when a rule holds (R133, R134). -/

namespace Sys2Proof.Machine

section
variable {s : State}

/-! ### The layout wanted (R138) -/

theorem wanted_stale (stale : s.vehicle.fresh = false) (sc : Screen) :
    s.wanted sc = ⟨(s.tables.outputConfig[sc]).staleLayout, 3, 0⟩ := by
  rw [State.wanted, stale]
  rfl

theorem wanted_none (fresh : s.vehicle.fresh = true) {sc : Screen}
    (none : ∀ i : Fin 16, s.ruleHolds (s.tables.rules[sc])[i] = false) :
    s.wanted sc = ⟨(s.tables.outputConfig[sc]).defaultLayout, 0, 0⟩ := by
  have missed : (s.tables.rules[sc]).toList.find? s.ruleHolds = Option.none := by
    refine List.find?_eq_none.mpr fun r hr => ?_
    obtain ⟨i, hi, rfl⟩ := List.mem_iff_getElem.mp hr
    simpa using none ⟨i, by simpa using hi⟩
  rw [State.wanted, if_pos fresh, missed]

/-- The first rule that holds says what is wanted. -/
theorem wanted_rule (fresh : s.vehicle.fresh = true) {sc : Screen} {i : Fin 16}
    (holds : s.ruleHolds (s.tables.rules[sc])[i] = true)
    (first : ∀ j : Fin 16, j < i → s.ruleHolds (s.tables.rules[sc])[j] = false) :
    s.wanted sc = ⟨((s.tables.rules[sc])[i]).layout, ((s.tables.rules[sc])[i]).urgency, ((s.tables.rules[sc])[i]).hold⟩ := by
  have found : (s.tables.rules[sc]).toList.find? s.ruleHolds = some (s.tables.rules[sc])[i] := by
    refine List.find?_eq_some_iff_getElem.mpr ⟨holds, i, by simp, by simp, fun j before => ?_⟩
    simpa using first ⟨j, before.trans i.isLt⟩ before
  rw [State.wanted, if_pos fresh, found]

/-! ### The switch (R139 to R141) -/

theorem takes_iff (x : Selection) (w : Wanted) (t : NodeTime) :
    x.takes w t = true ↔ 1000 * x.hold ≤ (t - x.switchTime).toNat ∨ x.urgency < w.urgency := by
  simp [Selection.takes, Selection.holdEnded]

theorem evaluationSwitches : Claim.AnEvaluationSwitchesOrHolds := by
  intro sc s x w t
  have eval : t = evaluate sc s := rfl
  unfold evaluate at eval
  dsimp only at eval
  refine ⟨(sameBut_iff_mask _ _ _).mpr (mask_evaluate (by simp) (by simp)), fun same => ?_, fun other held low => ?_,
    fun other free => ?_, fun stale => wanted_stale stale sc, fun fresh none => wanted_none fresh none,
    fun fresh i holds first => wanted_rule fresh holds first⟩
  · rw [eval, if_pos same]
    exact ⟨rfl, rfl⟩
  · have kept : ¬ (s.selection[sc]).takes (s.wanted sc) s.nodeTime = true := by
      rw [takes_iff]
      exact not_or.mpr ⟨Nat.not_le.mpr held, Nat.not_lt.mpr low⟩
    rw [eval, if_neg other, if_neg kept]
  · rw [eval, if_neg other, if_pos ((takes_iff _ _ _).mpr free)]
    split <;> exact ⟨rfl, rfl⟩

/-! ### Conditions and rules (R133, R134) -/

theorem conditionHolds_iff (s : State) (c : Condition) : s.conditionHolds c = true ↔
    (s.fieldValue c < c.value.toNat ∧ c.comparison.getLsbD 0 = true)
      ∨ (s.fieldValue c = c.value.toNat ∧ c.comparison.getLsbD 1 = true)
      ∨ (c.value.toNat < s.fieldValue c ∧ c.comparison.getLsbD 2 = true) := by
  unfold State.conditionHolds
  dsimp only
  rcases lt_trichotomy (s.fieldValue c) c.value.toNat with less | same | more
  · simp [less, less.ne, less.not_gt]
  · simp [same]
  · simp [more, more.ne', more.not_gt]

/-- The doors of a side as an operand names it. -/
theorem sideMatches_byte (o : Byte) (x : DoorSide) :
    sideMatches o.toNat x = (o = 3 || (o = 1 && x = .one) || (o = 2 && x = .two)) := by
  have number : ∀ n : Byte, (o.toNat == n.toNat) = decide (o = n) := fun n => by
    rw [Bool.eq_iff_iff, beq_iff_eq, decide_eq_true_iff]
    exact BitVec.toNat_inj
  have three : (o.toNat == 3) = decide (o = 3) := number 3
  have one : (o.toNat == 1) = decide (o = 1) := number 1
  have two : (o.toNat == 2) = decide (o = 2) := number 2
  unfold sideMatches
  rw [three, one, two]
  cases x <;> rfl

theorem doorCount_contains (s : State) (o : Byte) {p : DoorState → Bool} {l : List DoorState}
    (same : ∀ d, p d = l.contains d) : s.doorCount o.toNat p = ((List.finRange 16).filter fun d : Fin 16 =>
      (o = 3 || (o = 1 && (s.tables.door[d]).side = .one) || (o = 2 && (s.tables.door[d]).side = .two))
        && l.contains s.vehicle.doors[d]).length := by
  simp only [State.doorCount, sideMatches_byte, same]

theorem doorCode_of_getElem? {d : DoorState} {v : Nat} (h : ([.closedLocked, .released, .opening, .opened, .closing,
    .obstructed, .fault, .unknown] : List DoorState)[v]? = some d) : d.code = v := by
  have short : v < 8 := (List.getElem?_eq_some_iff.mp h).1
  interval_cases v <;> (obtain rfl := Option.some.inj h; rfl)

theorem releaseCode_of_getElem? {x : Release} {v : Nat}
    (h : ([.none, .side1, .side2, .both] : List Release)[v]? = some x) : x.code = v := by
  have short : v < 4 := (List.getElem?_eq_some_iff.mp h).1
  interval_cases v <;> (obtain rfl := Option.some.inj h; rfl)

theorem rulesHold : Claim.RulesHoldByTheirConditions := by
  intro s doorCodes sideCodes onSide number judges
  have judge : ∀ (c : Condition) (v : Nat), s.fieldValue c = v → judges c v := fun c v e => e ▸ conditionHolds_iff s c
  refine ⟨fun c => ⟨fun f => judge c _ ?_, fun f => judge c _ ?_, fun d v f o code => judge c _ ?_, fun f => judge c _ ?_,
    fun f => judge c _ ?_, fun f => judge c _ ?_, fun v f code => judge c _ ?_, fun f => judge c _ ?_⟩, fun r => ?_⟩
  · simp only [State.fieldValue, f]; rfl
  · simp only [State.fieldValue, f]
    show (match s.vehicle.travel with | .forward => 0 | .reverse => 1) = _
    cases s.vehicle.travel <;> rfl
  · have place : Fin.ofNat 16 (c.operand.toNat - 1) = d := by
      rw [o, Nat.add_sub_cancel]
      exact Fin.ext (Nat.mod_eq_of_lt d.isLt)
    simp only [State.fieldValue, f]
    subst place
    exact doorCode_of_getElem? code
  · simp only [State.fieldValue, f]
    exact doorCount_contains s c.operand fun d => by cases d <;> rfl
  · simp only [State.fieldValue, f]
    exact doorCount_contains s c.operand fun d => by cases d <;> rfl
  · simp only [State.fieldValue, f]
    exact doorCount_contains s c.operand fun d => by cases d <;> rfl
  · simp only [State.fieldValue, f]
    exact releaseCode_of_getElem? code
  · simp only [State.fieldValue, f]; rfl
  · refine ⟨fun off => ?_, fun on a => ?_, fun on b join => ?_, fun on b join => ?_⟩
    · simp [State.ruleHolds, off]
    · simp [State.ruleHolds, on, a]
    · simp [State.ruleHolds, on, b, join]
    · simp [State.ruleHolds, on, b, join]

end

/-- Settles O17: an evaluation by its two tests, a rule by the relation of each field. -/
theorem anEvaluationFollowsThePolicy : Obligations.AnEvaluationFollowsThePolicy := ⟨evaluationSwitches, rulesHold⟩

end Sys2Proof.Machine
end

section
/-! PROOF. Crops, and what a rendition does at a delivered frame start (R23 to R25, R42). -/

namespace Sys2Proof.Machine

/-- R24 along one axis: where the crop's far edge lies, its least extent, and which of its two edges moves. -/
theorem clipAxis_spec {c cw o size : Nat} (least : o ≤ cw) (fits : o ≤ size) :
    (clipAxis c cw o size).1 + (clipAxis c cw o size).2 = min (c + cw) size ∧ o ≤ (clipAxis c cw o size).2
      ∧ (c + o ≤ min (c + cw) size → (clipAxis c cw o size).1 = c)
      ∧ (min (c + cw) size < c + o → (clipAxis c cw o size).2 = o) := by
  unfold clipAxis
  dsimp only
  split <;> dsimp only <;> omega

/-- R24: a clipped crop keeps an even edge and an even extent. -/
theorem clipAxis_even {c cw o size : Nat} (edge : c % 2 = 0) (extent : cw % 2 = 0) (out : o % 2 = 0)
    (frame : size % 2 = 0) : (clipAxis c cw o size).1 % 2 = 0 ∧ (clipAxis c cw o size).2 % 2 = 0 := by
  unfold clipAxis
  dsimp only
  split <;> dsimp only <;> omega

theorem cropsAreClipped : Claim.CropsAreClippedToTheFrame := by
  intro plan w h wide high fitsW fitsH c
  obtain ⟨right, width, left, narrow⟩ := clipAxis_spec (c := plan.cropX) wide fitsW
  obtain ⟨bottom, height, top, low⟩ := clipAxis_spec (c := plan.cropY) high fitsH
  exact ⟨right, bottom, width, height, left, narrow, top, low, clipAxis_even⟩

theorem wantsTile_iff (s : State) (plan : TilePlan) (f : OpenFrame) : s.wantsTile plan f = true ↔
    s.mode = .run ∧ plan.enabled = true ∧ (plan.localUse = true ∨ plan.send = true) ∧ f.isRepeat = false
      ∧ f.index % plan.divisor = 0 := by
  simp [State.wantsTile, and_assoc]

theorem fits_frame_iff (plan : TilePlan) (f : OpenFrame) :
    plan.fits f = true ↔ plan.outW ≤ f.width ∧ plan.outH ≤ f.height := by
  simp [TilePlan.fits]

/-- The lowest FREE slot is found where it is (R42). -/
theorem lowestFree_eq {st : Store} {i : SlotNo} (free : (st.slots[i]).state = .free)
    (lowest : ∀ j : SlotNo, j < i → (st.slots[j]).state ≠ .free) : st.lowestFree = some i := by
  cases found : st.lowestFree with
  | none => exact absurd free (lowestFree_none found i)
  | some k =>
    obtain ⟨freeK, below⟩ := lowestFree_some found
    rcases lt_trichotomy k i with before | same | behind
    · exact absurd freeK (lowest k before)
    · rw [same]
    · exact absurd free (below i behind)

theorem lowestFree_eq_none {st : Store} (full : ∀ i : SlotNo, (st.slots[i]).state ≠ .free) : st.lowestFree = none := by
  cases found : st.lowestFree with
  | none => rfl
  | some k => exact absurd (lowestFree_some found).1 (full k)

theorem aTileIsBegun : Claim.ATileIsBegunInTheLowestFreeSlot := by
  intro p r f s k plan t wanted fits
  have want : wanted ↔ s.wantsTile plan f = true := (wantsTile_iff s plan f).symm
  have fit : fits ↔ plan.fits f = true := (fits_frame_iff plan f).symm
  have begun : t = beginTile p r f s := rfl
  unfold beginTile at begun
  dsimp only at begun
  refine ⟨fun not => ?_, fun yes small => ?_, fun yes fitting full => ?_, fun yes fitting i free lowest => ?_⟩
  · rw [begun, if_neg fun yes => not (want.mpr yes)]
  · rw [begun, if_pos (want.mp yes), if_neg fun fitting => small (fit.mpr fitting)]
    rfl
  · have none : s.store.allocate (.production (planOf p r))
        (partialRecord plan s.engine.sequences[planOf p r] f.record.number) = none := by
      rw [Store.allocate, lowestFree_eq_none full]; rfl
    rw [begun, if_pos (want.mp yes), if_pos (fit.mp fitting), none]
    rfl
  · have taken : s.store.allocate (.production (planOf p r))
        (partialRecord plan s.engine.sequences[planOf p r] f.record.number)
        = some (i, s.store.setSlot i (Slot.filling (.production (planOf p r))
          (partialRecord plan s.engine.sequences[planOf p r] f.record.number))) := by
      rw [Store.allocate, lowestFree_eq free lowest]; rfl
    rw [begun, if_pos (want.mp yes), if_pos (fit.mp fitting), taken]
    rfl

/-- Settles O18: a crop axis by axis, and a rendition by its tests in order. -/
theorem aTileIsBegunWithItsClippedCrop : Obligations.ATileIsBegunWithItsClippedCrop := ⟨cropsAreClipped, aTileIsBegun⟩

end Sys2Proof.Machine
end

section
/-! PROOF. What a change of the cause set is read from, and what it leaves: causes may be added before or after a
change of other parts (R174, R175). -/

namespace Sys2Proof.Machine

section
variable {s t u : State}

/-- The agent and the trunk ports of another state put in: all that the causes of a step can change. -/
def State.news (s t : State) : State := { s with agent := t.agent, trunk := t.trunk }

@[simp] theorem State.news_self : s.news s = s := rfl

@[simp] theorem State.news_news : (s.news t).news u = s.news u := rfl

theorem sameBut_news (s t : State) : SameBut [.agent, .trunk] s (s.news t) :=
  (sameBut_iff_mask _ _ _).mpr (by rfl)

/-! ### Frames -/

theorem Part.same_trans {x : Part} (h : x.same s t) (k : x.same t u) : x.same s u := by
  cases x <;> exact Eq.trans h k

theorem SameBut.mono {l m : List Part} (h : SameBut l s t) (sub : l ⊆ m) : SameBut m s t :=
  fun x hx => h x fun hl => hx (sub hl)

theorem SameBut.trans {l : List Part} (h : SameBut l s t) (k : SameBut l t u) : SameBut l s u :=
  fun x hx => Part.same_trans (h x hx) (k x hx)

/-- A frame with the parts left out that turn out to stand. -/
theorem SameBut.narrow {l m : List Part} (h : SameBut l s t) (stand : ∀ x ∈ l, x ∉ m → x.same s t) : SameBut m s t :=
  fun x hx => if hl : x ∈ l then stand x hl hx else h x hl

theorem getElem_ite_bump {n : Nat} (b : Bool) (j i : Fin n) (v : Vector Counter n) :
    (if b then bump j v else v)[i] = if i = j ∧ b = true then increment v[i] else v[i] := by
  cases b with
  | false => rw [if_neg (by decide), if_neg (fun h => by cases h.2)]
  | true =>
    by_cases same : i = j
    · rw [same, if_pos rfl, if_pos ⟨rfl, rfl⟩, bump_same]
    · rw [if_pos rfl, if_neg (fun h => same h.1), bump_other same]

/-- Two states agree in all that adding a cause reads: the agent, the trunk ports, the controller-side port, the node
number and the order of ties. -/
structure SameNews (s t : State) : Prop where
  agent : s.agent = t.agent
  trunk : s.trunk = t.trunk
  side : s.controllerSide = t.controllerSide
  straps : s.straps = t.straps
  ties : s.swapTies = t.swapTies

theorem SameNews.refl (s : State) : SameNews s s := ⟨rfl, rfl, rfl, rfl, rfl⟩

theorem SameNews.trans (h : SameNews s t) (k : SameNews t u) : SameNews s u :=
  ⟨h.agent.trans k.agent, h.trunk.trans k.trunk, h.side.trans k.side, h.straps.trans k.straps, h.ties.trans k.ties⟩

theorem SameNews.of_same {l : List Part} (h : SameBut l s t) (agent : Part.agent ∉ l) (trunk : Part.trunk ∉ l)
    (side : Part.controllerSide ∉ l) (straps : Part.straps ∉ l) (ties : Part.swapTies ∉ l) : SameNews s t :=
  ⟨h .agent agent, h .trunk trunk, h .controllerSide side, h .straps straps, h .swapTies ties⟩

theorem SameNews.of_mask {l : List Part} (h : t.mask l = s.mask l) (agent : Part.agent ∉ l) (trunk : Part.trunk ∉ l)
    (side : Part.controllerSide ∉ l) (straps : Part.straps ∉ l) (ties : Part.swapTies ∉ l) : SameNews s t :=
  .of_same ((sameBut_iff_mask l s t).mpr h) agent trunk side straps ties

theorem SameNews.ite {c : Prop} [Decidable c] (h : SameNews s t) (k : SameNews s u) :
    SameNews s (if c then t else u) := by
  split
  · exact h
  · exact k

theorem placeControl_news (h : SameNews s t) (p : TrunkPort) (c : Cell) :
    placeControl p c t = t.news (placeControl p c s) := by
  rcases placeControl_cases p c s with ⟨room, e⟩ | ⟨full, e⟩
  · rw [e, placeControl, if_pos (by rw [← h.trunk]; exact room)]
    simp only [State.withTrunk, State.news, h.trunk, h.agent]
  · rw [e, placeControl, if_neg (by rw [← h.trunk]; exact Nat.not_lt.mpr full)]
    simp only [countTrunk, State.withTrunk, State.news, h.trunk, h.agent]

/-- A state with the news of another, where that other has changed by no more than news. -/
theorem SameNews.news (h : SameNews s t) (b : SameBut [.agent, .trunk] s u) : SameNews u (t.news u) :=
  ⟨rfl, rfl, (b .controllerSide (by simp)).symm.trans h.side, (b .straps (by simp)).symm.trans h.straps,
    (b .swapTies (by simp)).symm.trans h.ties⟩

theorem placeAll_news (h : SameNews s t) (p : TrunkPort) (cs : List Cell) :
    placeAll p cs t = t.news (placeAll p cs s) := by
  induction cs generalizing s t with
  | nil => simp [placeAll, State.news, h.agent, h.trunk]
  | cons c cs later =>
    have placed := h.news (u := placeControl p c s) ((sameBut_iff_mask _ _ _).mpr (by simp))
    rw [placeAll_cons, placeAll_cons, placeControl_news h, later placed, State.news_news]

theorem sendNotice_news (h : SameNews s t) : sendNotice t = t.news (sendNotice s) := by
  have cells : t.noticeCells = s.noticeCells := by
    simp only [State.noticeCells, State.nodeNumber, h.agent, h.straps]
  have armed : SameNews (s.withAgent { s.agent with armed := false }) (t.withAgent { t.agent with armed := false }) :=
    ⟨by rw [State.withAgent_agent, State.withAgent_agent, h.agent], h.trunk, h.side, h.straps, h.ties⟩
  have same : t = t.news s := by rw [State.news, h.agent, h.trunk]
  unfold sendNotice
  rw [← h.side, ← h.agent]
  split
  · exact same
  · split
    · rw [cells, h.agent, placeAll_news armed, ← h.agent]; rfl
    · exact same

/-- Adding a cause reads nothing else, and changes nothing else. -/
theorem addCause_news (h : SameNews s t) (k : CauseKind) (n : Nat) (e : Bool) :
    addCause k n e t = t.news (addCause k n e s) := by
  unfold addCause
  dsimp only
  rw [← h.agent]
  split
  · refine (sendNotice_news (s := s.withAgent { s.agent with
      causes := (joinCause ⟨k, n, e⟩ s.agent.causes s.agent.overflow).causes,
      overflow := (joinCause ⟨k, n, e⟩ s.agent.causes s.agent.overflow).overflow }) ?_).trans rfl
    exact ⟨rfl, h.trunk, h.side, h.straps, h.ties⟩
  · simp only [State.withAgent, State.news, h.trunk]

theorem addCauses_news (h : SameNews s t) (cs : List (CauseKind × Nat)) :
    cs.foldl (fun t c => addCause c.1 c.2 false t) t
      = t.news (cs.foldl (fun t c => addCause c.1 c.2 false t) s) := by
  induction cs generalizing s t with
  | nil => simp [State.news, h.agent, h.trunk]
  | cons c cs later =>
    have added := h.news (u := addCause c.1 c.2 false s) ((sameBut_iff_mask _ _ _).mpr (by simp))
    rw [List.foldl_cons, List.foldl_cons, addCause_news h, later added, State.news_news]

theorem addTogether_news (h : SameNews s t) (cs : List (CauseKind × Nat)) :
    addTogether cs t = t.news (addTogether cs s) := by
  unfold addTogether
  rw [← h.ties]
  exact addCauses_news h _

theorem SameNews.addCause (h : SameNews s t) (k : CauseKind) (n : Nat) (e : Bool) :
    SameNews (addCause k n e s) (addCause k n e t) := by
  rw [addCause_news h]
  exact h.news ((sameBut_iff_mask _ _ _).mpr (by simp))

theorem SameNews.addTogether (h : SameNews s t) (cs : List (CauseKind × Nat)) :
    SameNews (addTogether cs s) (addTogether cs t) := by
  rw [addTogether_news h]
  exact h.news ((sameBut_iff_mask _ _ _).mpr (by simp))

theorem SameNews.adds (h : SameNews s t) (cs : List (CauseKind × Nat)) : Adds cs s (Machine.addTogether cs t) :=
  ⟨(h.addTogether cs).agent.symm, (h.addTogether cs).trunk.symm⟩

theorem Adds.of_sameNews {cs : List (CauseKind × Nat)} (a : Adds cs t u) (h : SameNews s t) : Adds cs s u :=
  ⟨a.1.trans (h.addTogether cs).agent.symm, a.2.trans (h.addTogether cs).trunk.symm⟩

theorem addTogether_single (k : CauseKind) (n : Nat) (s : State) : addTogether [(k, n)] s = addCause k n false s := by
  unfold addTogether
  split <;> rfl

theorem addTogether_nil (s : State) : addTogether [] s = s := by
  unfold addTogether
  split <;> rfl

/-- Adding causes changes the agent and the trunk ports only. -/
theorem sameBut_addCause (k : CauseKind) (n : Nat) (e : Bool) (s : State) :
    SameBut [.agent, .trunk] s (addCause k n e s) := (sameBut_iff_mask _ _ _).mpr (by simp)

theorem sameBut_addTogether (cs : List (CauseKind × Nat)) (s : State) :
    SameBut [.agent, .trunk] s (addTogether cs s) := (sameBut_iff_mask _ _ _).mpr (by simp)

end

end Sys2Proof.Machine
end

section
/-! PROOF. What frame starts, short lines and frame ends do in each link state (R4 to R12). Settles O19. -/

namespace Sys2Proof.Machine

section
variable {s : State} {p : CamPort}

/-- The check of R4, field by field. -/
theorem passes_of_fields {h : FrameHead} (ok : h.recordOk = true) (e1 : 1 ≤ h.record.exposure)
    (e2 : h.record.exposure ≤ 40000) (gain : h.record.gain ≤ 96) (even : h.width % 2 = 0) (w1 : 64 ≤ h.width)
    (w2 : h.width ≤ 1920) (h1 : 48 ≤ h.height) (h2 : h.height ≤ 1080) : FrameHead.passes h = true := by
  simp [FrameHead.passes, ok, e1, e2, gain, even, w1, w2, h1, h2]

theorem deliverStart_eq (p : CamPort) (h : FrameHead) (s : State) :
    deliverStart p h s = beginTile p 1 ((s.cams[p]).deliver h) (beginTile p 0 ((s.cams[p]).deliver h)
      { s with
        cams := s.cams.set p { s.cams[p] with
          lastRecord := some h.record, openFrame := some ((s.cams[p]).deliver h)
          counters := if h.record.sensorFault then (s.cams[p]).counters.set 5 (increment (s.cams[p]).counters[(5 : Fin 6)])
            else (s.cams[p]).counters }
        engine := { s.engine with sums := s.engine.sums.set p noSums } }) := by
  unfold deliverStart
  dsimp only
  cases h.record.sensorFault with
  | false => rfl
  | true =>
    simp only [if_true, countCam, State.withSums, State.withEngine, State.withCam, getElem_set_same, Vector.set_set]
    rfl

/-! ### What a frame start, a short line and a frame end do, by the link state -/

theorem takeFrameStart_locked (locked : (s.cams[p]).link = .locked) (h : FrameHead) :
    takeFrameStart p h s = if FrameHead.passes h then deliverStart p h s else failFrame p s := by
  simp only [takeFrameStart, locked]

theorem takeFrameStart_waking (waking : (s.cams[p]).link = .waking) (h : FrameHead) :
    takeFrameStart p h s = if FrameHead.passes h then openWaking p h s else failFrame p s := by
  simp only [takeFrameStart, waking]

theorem takeFrameStart_deaf (deaf : (s.cams[p]).listens = false) (h : FrameHead) : takeFrameStart p h s = s := by
  unfold takeFrameStart
  unfold CameraPort.listens at deaf
  cases link : (s.cams[p]).link <;> simp_all

/-- What stands of a port when a frame starts or a line is short: a frame still open has failed (R4). -/
def truncated (p : CamPort) (s : State) : State :=
  if (s.cams[p]).openFrame.isSome && (s.cams[p]).listens then failFrame p s else s

theorem exec_frameStart (p : CamPort) (h : FrameHead) (s : State) :
    exec (.frameStart p h) s = .next (takeFrameStart p h (truncated p s)) := rfl

theorem exec_shortLine (p : CamPort) (s : State) : exec (.shortLine p) s = .next (truncated p s) := rfl

theorem exec_frameEnd (p : CamPort) (pic : Picture) (s : State) :
    exec (.frameEnd p pic) s = .next (frameEnd p pic s) := rfl

theorem truncated_of_closed (closed : (s.cams[p]).openFrame = none) : truncated p s = s :=
  if_neg (by rw [closed]; exact Bool.false_ne_true)

theorem truncated_of_deaf (deaf : (s.cams[p]).listens = false) : truncated p s = s :=
  if_neg (by rw [deaf, Bool.and_false]; exact Bool.false_ne_true)

theorem truncated_of_open (frame : (s.cams[p]).openFrame ≠ none) (listens : (s.cams[p]).listens = true) :
    truncated p s = failFrame p s :=
  if_pos (by rw [Option.isSome_iff_ne_none.mpr frame, listens, Bool.and_self])

theorem frameEnd_of_closed (closed : (s.cams[p]).openFrame = none) (pic : Picture) : frameEnd p pic s = s := by
  simp only [frameEnd, closed]

theorem frameEnd_of_deaf (deaf : (s.cams[p]).listens = false) (pic : Picture) : frameEnd p pic s = s := by
  unfold frameEnd
  split
  · rfl
  · rw [deaf]; rfl

theorem frameEnd_of_open {f : OpenFrame} (frame : (s.cams[p]).openFrame = some f)
    (listens : (s.cams[p]).listens = true) (pic : Picture) :
    frameEnd p pic s = if f.goodWith pic then (if (s.cams[p]).link = .locked then goodEnd p f pic s else lockPort p f s)
      else failFrame p s := by
  simp only [frameEnd, frame, listens, if_true]

theorem goodWith_of_sizes {f : OpenFrame} {pic : Picture} (lines : pic.luma.length = f.height)
    (widths : ∀ l ∈ pic.luma, l.length = f.width) : f.goodWith pic = true := by
  simpa [OpenFrame.goodWith, lines] using widths

theorem listens_iff (c : CameraPort) : c.listens = true ↔ c.link = .waking ∨ c.link = .locked := by
  simp [CameraPort.listens]

theorem not_listens_iff (c : CameraPort) :
    c.listens = false ↔ c.link = .off ∨ c.link = .lost ∨ c.link = .testing ∨ c.link = .powerFault := by
  unfold CameraPort.listens
  cases c.link <;> decide

/-- A frame that fails in WAKING is dropped and counted (R4, R5). -/
theorem failFrame_waking (waking : (s.cams[p]).link = .waking) :
    failFrame p s = { s with cams := s.cams.set p { s.cams[p] with
      openFrame := none, counters := (s.cams[p]).counters.set 2 (increment (s.cams[p]).counters[(2 : Fin 6)]) } } := by
  unfold failFrame
  rw [if_neg (by rw [waking]; decide)]
  simp only [countCam, State.withCam, getElem_set_same, Vector.set_set]
  rfl

/-! ### The claims of O19 -/

theorem aFrameStartIsDelivered : Claim.AFrameStartIsDelivered := by
  intro p h s locked closed ok e1 e2 gain even w1 w2 h1 h2
  have delivered : exec (.frameStart p h) s = .next (deliverStart p h s) := by
    rw [exec_frameStart, truncated_of_closed closed, takeFrameStart_locked locked,
      if_pos (passes_of_fields ok e1 e2 gain even w1 w2 h1 h2)]
  exact delivered.trans (by rw [deliverStart_eq]; rfl)

theorem framesOutsideLockedAreNotDelivered : Claim.FramesOutsideLockedAreNotDelivered := by
  intro p h pic s
  have heard (waking : (s.cams[p]).link = .waking) : (s.cams[p]).listens = true := (listens_iff _).mpr (.inl waking)
  have begun (waking : (s.cams[p]).link = .waking) : truncated p s = { s with cams := s.cams.set p { s.cams[p] with
      openFrame := none
      counters := (s.cams[p]).counters.set 2 (if (s.cams[p]).openFrame.isSome
        then increment (s.cams[p]).counters[(2 : Fin 6)] else (s.cams[p]).counters[(2 : Fin 6)]) } } := by
    cases frame : (s.cams[p]).openFrame with
    | none =>
      have same : s = { s with cams := s.cams.set p { s.cams[p] with
          openFrame := none, counters := (s.cams[p]).counters.set 2 (s.cams[p]).counters[(2 : Fin 6)] } } := by
        have counters : (s.cams[p]).counters.set 2 (s.cams[p]).counters[(2 : Fin 6)] = (s.cams[p]).counters :=
          Vector.set_getElem_self _
        have cams : s.cams.set p s.cams[p] = s.cams := Vector.set_getElem_self _
        rw [counters, ← frame, cams]
      rw [truncated_of_closed frame]
      exact same
    | some f =>
      rw [truncated_of_open (by rw [frame]; exact Option.some_ne_none f) (heard waking), failFrame_waking waking]
      rfl
  refine ⟨fun waking passes => ?_, fun waking fails => ?_, fun waking frame => ?_, fun f waking frame bad => ?_,
    fun closed => ?_, fun deaf => ?_⟩
  · rw [exec_frameStart, begun waking, takeFrameStart_waking (by rw [getElem_set_same]; exact waking), if_pos passes]
    simp only [openWaking, State.withCam, getElem_set_same, Vector.set_set]
  · rw [exec_frameStart, begun waking, takeFrameStart_waking (by rw [getElem_set_same]; exact waking),
      if_neg (by rw [fails]; decide), failFrame_waking (by rw [getElem_set_same]; exact waking)]
    have counted : ((s.cams[p]).counters.set 2 (if (s.cams[p]).openFrame.isSome
        then increment (s.cams[p]).counters[(2 : Fin 6)] else (s.cams[p]).counters[(2 : Fin 6)]))[(2 : Fin 6)]
        = if (s.cams[p]).openFrame.isSome then increment (s.cams[p]).counters[(2 : Fin 6)]
          else (s.cams[p]).counters[(2 : Fin 6)] := getElem_set_same _ (2 : Fin 6) _
    simp only [getElem_set_same, Vector.set_set, counted]
  · rw [exec_shortLine, truncated_of_open frame (heard waking), failFrame_waking waking]
  · rw [exec_frameEnd, frameEnd_of_open frame (heard waking), if_neg (by rw [bad]; decide), failFrame_waking waking]
  · rw [exec_shortLine, truncated_of_closed closed, exec_frameEnd, frameEnd_of_closed closed]
    exact ⟨rfl, rfl⟩
  · have deaf := (not_listens_iff _).mpr deaf
    rw [exec_frameStart, exec_shortLine, exec_frameEnd, truncated_of_deaf deaf, takeFrameStart_deaf deaf,
      frameEnd_of_deaf deaf]
    exact ⟨rfl, rfl, rfl⟩

/-- Settles O19: by the link state, and in WAKING by whether a frame stands open. -/
theorem frameStartsAreTakenByTheLinkState : Obligations.FrameStartsAreTakenByTheLinkState :=
  ⟨aFrameStartIsDelivered, framesOutsideLockedAreNotDelivered⟩

end

end Sys2Proof.Machine
end

section
/-! PROOF. What a bad frame end abandons, and what brings a LOCKED port to LOST (R6, R9, R32, R61). Settles O20. -/

namespace Sys2Proof.Machine

section
variable {s : State} {p : CamPort}

/-! ### An abandoned production -/

/-- The slot a production has in the store. -/
def State.making (s : State) (k : PlanNo) : Option SlotNo := (s.engine.productions[k]).map fun pr => pr.slot

/-- The store with a slot, if any, as after a reset. -/
def Store.without (st : Store) : Option SlotNo → Store
  | none => st
  | some i => st.setSlot i Slot.reset

theorem Store.without_slots (st : Store) (o : Option SlotNo) (i : SlotNo) :
    (st.without o).slots[i] = if o = some i then Slot.reset else st.slots[i] := by
  cases o with
  | none => rfl
  | some j =>
    by_cases same : j = i
    · subst same; rw [if_pos rfl]; exact setSlot_same ..
    · rw [if_neg (fun e => same (Option.some.inj e))]; exact setSlot_other (Ne.symm same) ..

theorem Store.without_rest (st : Store) (o : Option SlotNo) :
    (st.without o).viewMap = st.viewMap ∧ (st.without o).evidence = st.evidence := by
  cases o <;> exact ⟨rfl, rfl⟩

/-- What an abandoned production leaves, where its slot is FILLING (R32, R43). -/
theorem abandonProduction_eq (k : PlanNo)
    (filling : ∀ i, s.making k = some i → (s.store.slots[i]).state = .filling) :
    abandonProduction k s = { s with
      engine := { s.engine with
        productions := s.engine.productions.set k none
        counters := if (s.making k).isSome then bump 3 s.engine.counters else s.engine.counters }
      store := s.store.without (s.making k) } := by
  unfold abandonProduction
  cases found : s.engine.productions[k] with
  | none =>
    have idle : s.making k = none := by rw [State.making, found]; rfl
    have same : s.engine.productions.set k none = s.engine.productions := by
      rw [← found]; exact Vector.set_getElem_self _
    rw [idle, same]
    rfl
  | some pr =>
    have made : s.making k = some pr.slot := by rw [State.making, found]; rfl
    have back : s.store.giveBack pr.slot = s.store.without (some pr.slot) := if_pos (filling _ made)
    rw [made, ← back]
    rfl

/-- What a bad frame end leaves (R32, R35, R43). -/
theorem endBadly_eq (ok : s.productionsOk) (p : CamPort) :
    endBadly p s = { s with
      engine := { s.engine with
        productions := (s.engine.productions.set (planOf p 0) none).set (planOf p 1) none
        sums := s.engine.sums.set p noSums
        counters :=
          let c := if (s.making (planOf p 0)).isSome then bump 3 s.engine.counters else s.engine.counters
          if (s.making (planOf p 1)).isSome then bump 3 c else c }
      store := (s.store.without (s.making (planOf p 0))).without (s.making (planOf p 1)) } := by
  have owned (r : Fin 2) (i : SlotNo) (made : s.making (planOf p r) = some i) :
      (s.store.slots[i]).state = .filling ∧ (s.store.slots[i]).owner = .production (planOf p r) := by
    obtain ⟨pr, found, rfl⟩ := Option.map_eq_some_iff.mp made
    obtain ⟨filling, owner, -, -⟩ := ok p r pr found
    exact ⟨filling, owner⟩
  have first := abandonProduction_eq (s := s) (planOf p 0) fun i made => (owned 0 i made).1
  have still : (abandonProduction (planOf p 0) s).making (planOf p 1) = s.making (planOf p 1) := by
    rw [first]
    exact congrArg _ (getElem_set_ne _ (planOf_ne p).symm _)
  have second := abandonProduction_eq (s := abandonProduction (planOf p 0) s) (planOf p 1) fun i made => by
    rw [still] at made
    have apart : s.making (planOf p 0) ≠ some i := fun other => by
      have twice := (owned 0 i other).2.symm.trans (owned 1 i made).2
      exact planOf_ne p (Owner.production.inj twice).symm
    rw [first]
    show ((s.store.without _).slots[i]).state = _
    rw [Store.without_slots, if_neg apart]
    exact (owned 1 i made).1
  unfold endBadly
  rw [second, still, first]
  rfl

theorem aBadFrameEndAbandonsItsTiles : Claim.ABadFrameEndAbandonsItsTiles := by
  intro p s ok
  dsimp only
  rw [endBadly_eq ok]
  refine ⟨(sameBut_iff_mask _ _ _).mpr rfl, rfl, rfl, fun k => ?_, fun i => ?_, ?_, ?_, fun i => ?_⟩
  · show ((s.engine.productions.set (planOf p 0) none).set (planOf p 1) none)[k] = _
    by_cases first : k = planOf p 0
    · rw [if_pos (.inl first), first, getElem_set_ne _ (planOf_ne p), getElem_set_same]
    · by_cases second : k = planOf p 1
      · rw [if_pos (.inr second), second, getElem_set_same]
      · rw [if_neg (not_or.mpr ⟨first, second⟩), getElem_set_ne _ (Ne.symm second), getElem_set_ne _ (Ne.symm first)]
  · show ((s.store.without _).without _).slots[i] = _
    rw [Store.without_slots, Store.without_slots]
    by_cases first : s.making (planOf p 0) = some i
    · rw [if_pos first, ite_self, if_pos (.inl first)]; rfl
    · by_cases second : s.making (planOf p 1) = some i
      · rw [if_pos second, if_pos (.inr second)]; rfl
      · rw [if_neg second, if_neg first]
        exact (if_neg (not_or.mpr ⟨first, second⟩)).symm
  · exact (Store.without_rest _ _).1.trans (Store.without_rest _ _).1
  · exact (Store.without_rest _ _).2.trans (Store.without_rest _ _).2
  · show (if (s.making (planOf p 1)).isSome then bump 3 (if (s.making (planOf p 0)).isSome then bump 3 s.engine.counters
      else s.engine.counters) else if (s.making (planOf p 0)).isSome then bump 3 s.engine.counters
      else s.engine.counters)[i] = _
    change _ = if i = 3 then (if (s.making (planOf p 0)).isSome && (s.making (planOf p 1)).isSome then _
      else if (s.making (planOf p 0)).isSome || (s.making (planOf p 1)).isSome then _ else _) else _
    rw [getElem_ite_bump, getElem_ite_bump]
    by_cases place : i = 3
    · cases (s.making (planOf p 0)).isSome <;> cases (s.making (planOf p 1)).isSome <;> simp [place]
    · simp only [place, false_and, if_false]

/-! ### A change of link state, for a port that the survey has not taken -/

theorem surveyReacts_other (other : s.survey.port ≠ some p) : surveyReacts p s = s := if_neg other

theorem changeLink_other (other : s.survey.port ≠ some p) (new : CameraLink) (extra : List (CauseKind × Nat)) :
    changeLink p new extra s = moveLink p new extra s :=
  surveyReacts_other (by rw [(moveLink_same p new extra s).2.1]; exact other)

theorem sameNews_movedLink (p : CamPort) (new : CameraLink) (s : State) : SameNews s (movedLink p new s) :=
  .of_mask (l := [.cams, .health, .engine, .store]) (by unfold movedLink; split <;> simp) (by simp) (by simp) (by simp)
    (by simp) (by simp)

theorem movedLink_engine (p : CamPort) (new : CameraLink) (s : State) :
    (movedLink p new s).engine = (if (s.cams[p]).link = .locked then endBadly p s else s).engine := rfl

theorem movedLink_store (p : CamPort) (new : CameraLink) (s : State) :
    (movedLink p new s).store = (if (s.cams[p]).link = .locked then endBadly p s else s).store := rfl

/-- What a change of link state leaves of the engine and the store. -/
theorem moveLink_engine (p : CamPort) (new : CameraLink) (extra : List (CauseKind × Nat)) (s : State) :
    (moveLink p new extra s).engine = (if (s.cams[p]).link = .locked then endBadly p s else s).engine
      ∧ (moveLink p new extra s).store = (if (s.cams[p]).link = .locked then endBadly p s else s).store := by
  rw [moveLink_eq]
  have told := sameBut_addTogether
  exact ⟨(told _ _ .engine (by simp)).symm, (told _ _ .store (by simp)).symm⟩

/-- The causes of a change of link state (R9, R10). -/
theorem moveLink_adds (p : CamPort) (new : CameraLink) (extra : List (CauseKind × Nat)) (s : State) :
    Adds (extra ++ [(.cameraLink, p.val)]
      ++ if ((s.health[p]).afterLink (s.cams[p]).link new).picture = (s.health[p]).picture then []
        else [(.pictureChange, p.val)]) s (moveLink p new extra s) := by
  rw [moveLink_eq]
  exact (sameNews_movedLink p new s).adds _

theorem afterLink_lost {h : Health} {old new : CameraLink} (locked : old = .locked) (other : new ≠ .locked) :
    h.afterLink old new = { h with picture := .noSignal, sameRun := 0, darkRun := 0, prevSignature := none } := by
  rw [Health.afterLink, if_neg other, if_pos locked]

/-! ### A LOCKED port that is lost -/

theorem abandonProduction_withCam (k : PlanNo) (q : CamPort) (c : CameraPort) (s : State) :
    abandonProduction k (s.withCam q c) = (abandonProduction k s).withCam q c := by
  unfold abandonProduction
  rw [State.withCam_engine]
  split <;> rfl

theorem endBadly_withCam (p q : CamPort) (c : CameraPort) (s : State) :
    endBadly p (s.withCam q c) = (endBadly p s).withCam q c := by
  unfold endBadly
  rw [abandonProduction_withCam, abandonProduction_withCam]
  rfl

theorem withCam_self (p : CamPort) (s : State) : s.withCam p s.cams[p] = s := by
  have same : s.cams.set p s.cams[p] = s.cams := Vector.set_getElem_self _
  rw [State.withCam, same]

/-- What a change of link state leaves where the port itself was replaced by `c` just before it (R3, R9, R61). -/
structure LinkMoved (p : CamPort) (c : CameraPort) (new : CameraLink) (extra : List (CauseKind × Nat)) (s t : State) :
    Prop where
  cams : t.cams = s.cams.set p (c.newly new s.nodeTime)
  health : t.health = s.health.set p ((s.health[p]).afterLink (s.cams[p]).link new)
  engine : t.engine = (if (s.cams[p]).link = .locked then endBadly p s else s).engine
  store : t.store = (if (s.cams[p]).link = .locked then endBadly p s else s).store
  adds : Adds (extra ++ [(.cameraLink, p.val)]
    ++ if ((s.health[p]).afterLink (s.cams[p]).link new).picture = (s.health[p]).picture then []
      else [(.pictureChange, p.val)]) s t
  same : SameBut [.cams, .health, .engine, .store, .agent, .trunk] s t

theorem linkMoved {c : CameraPort} (link : c.link = (s.cams[p]).link) (new : CameraLink)
    (extra : List (CauseKind × Nat)) : LinkMoved p c new extra s (moveLink p new extra (s.withCam p c)) := by
  have cam : (s.withCam p c).cams[p] = c := getElem_set_same _ _ _
  obtain ⟨engine, store⟩ := moveLink_engine p new extra (s.withCam p c)
  have adds := moveLink_adds p new extra (s.withCam p c)
  rw [cam, link] at engine store adds
  have ended : (if (s.cams[p]).link = .locked then endBadly p (s.withCam p c) else s.withCam p c)
      = (if (s.cams[p]).link = .locked then endBadly p s else s).withCam p c := by
    rw [endBadly_withCam]
    split <;> rfl
  refine ⟨?_, ?_, ?_, ?_, adds.of_sameNews ⟨rfl, rfl, rfl, rfl, rfl⟩, (sameBut_iff_mask _ _ _).mpr (by simp)⟩
  · rw [moveLink_cams, cam]
    exact Vector.set_set ..
  · rw [moveLink_health, cam, link]
    rfl
  · rw [engine, ended]; rfl
  · rw [store, ended]; rfl

/-- The port, with its counters, is lost from LOCKED: what the claims say of it. -/
def LostFromLocked (p : CamPort) (s : State) (counters : Vector Counter 6) (t : State) : Prop :=
  t.cams = s.cams.set p { s.cams[p] with
      link := .lost, lockTimer := none, stallTimer := none, retryTimer := some (s.nodeTime + 10000), probeLimit := none,
      openFrame := none, frameIndex := 0, prevNumber := none, counters := counters }
    ∧ t.health = s.health.set p { s.health[p] with
      picture := .noSignal, sameRun := 0, darkRun := 0, prevSignature := none }
    ∧ t.engine = (endBadly p s).engine ∧ t.store = (endBadly p s).store
    ∧ Adds ([(.cameraLink, p.val)] ++ if (s.health[p]).picture = .noSignal then [] else [(.pictureChange, p.val)]) s t
    ∧ SameBut [.cams, .health, .engine, .store, .agent, .trunk] s t

theorem changeLink_lost (locked : (s.cams[p]).link = .locked) (other : s.survey.port ≠ some p)
    (counters : Vector Counter 6) :
    LostFromLocked p s counters (changeLink p .lost [] (s.withCam p { s.cams[p] with counters := counters })) := by
  rw [changeLink_other (by exact other)]
  have moved := linkMoved (s := s) (p := p) (c := { s.cams[p] with counters := counters }) rfl .lost []
  have health := moved.health
  have engine := moved.engine
  have store := moved.store
  have adds := moved.adds
  rw [afterLink_lost locked (by decide)] at health adds
  rw [if_pos locked] at engine store
  simp only [eq_comm (a := PictureCondition.noSignal)] at adds
  exact ⟨moved.cams, health, engine, store, adds, moved.same⟩

theorem failFrame_lost (locked : (s.cams[p]).link = .locked) (other : s.survey.port ≠ some p) :
    LostFromLocked p s ((s.cams[p]).counters.set 2 (increment (s.cams[p]).counters[(2 : Fin 6)])) (failFrame p s) := by
  unfold failFrame
  rw [if_pos locked]
  exact changeLink_lost locked other _

theorem aLockedPortIsLost : Claim.ALockedPortIsLost := by
  intro p h pic s locked other
  have listens : (s.cams[p]).listens = true := (listens_iff _).mpr (.inr locked)
  have failed := failFrame_lost locked other
  refine ⟨fun late => ?_, fun frame => ?_, fun bad => ?_, fun f frame bad => ?_⟩
  · refine ⟨changeLink p .lost [] s, ?_, ?_⟩
    · show Host.Outcome.next _ = _
      rw [if_pos ⟨locked, late⟩]
    · have lost := changeLink_lost locked other (s.cams[p]).counters
      have same : s.withCam p { s.cams[p] with counters := (s.cams[p]).counters } = s := withCam_self p s
      rw [same] at lost
      exact lost
  · exact ⟨failFrame p s, by rw [exec_shortLine, truncated_of_open frame listens], failed⟩
  · refine ⟨failFrame p s, ?_, failed⟩
    rw [exec_frameStart]
    by_cases closed : (s.cams[p]).openFrame = none
    · have fails : FrameHead.passes h = false := bad.resolve_left fun frame => frame closed
      rw [truncated_of_closed closed, takeFrameStart_locked locked, if_neg (by rw [fails]; decide)]
    · have deaf : ((failFrame p s).cams[p]).listens = false := by
        rw [failed.1, getElem_set_same]; rfl
      rw [truncated_of_open closed listens, takeFrameStart_deaf deaf]
  · exact ⟨failFrame p s, by rw [exec_frameEnd, frameEnd_of_open frame listens, if_neg (by rw [bad]; decide)], failed⟩

/-- Settles O20: two productions are abandoned one after the other, each in its own slot, and every loss of a LOCKED
port is one change of link state. -/
theorem aLostPortAbandonsItsTiles : Obligations.ALostPortAbandonsItsTiles :=
  ⟨aBadFrameEndAbandonsItsTiles, aLockedPortIsLost⟩

end

end Sys2Proof.Machine
end

section
/-! PROOF. The switch, the probe, the port timers and the first good frame (R5, R7, R10, R15, R16). Settles O21 and
O22. -/

namespace Sys2Proof.Machine

section
variable {s : State} {p : CamPort}

theorem afterLink_away {h : Health} {old new : CameraLink} (unlocked : new ≠ .locked) :
    h.afterLink old new = if old = .locked
      then { h with picture := .noSignal, sameRun := 0, darkRun := 0, prevSignature := none } else h := by
  rw [Health.afterLink, if_neg unlocked]

/-! ### The switch and the probe -/

theorem theSwitchTrips : Claim.TheSwitchTrips := by
  intro p s
  refine ⟨fun unpowered => ?_, fun powered other => ?_⟩
  · have power : (s.cams[p]).power = false := by
      rw [CameraPort.power]; rcases unpowered with e | e | e <;> rw [e] <;> rfl
    show Host.Outcome.next _ = _
    rw [if_neg (by rw [power]; decide)]
  · have power : (s.cams[p]).power = true := by
      rw [CameraPort.power]; rcases powered with e | e | e <;> rw [e] <;> rfl
    have moved := linkMoved (s := s) (p := p)
      (c := { s.cams[p] with counters := bump PortCounter.powerTrips.place (s.cams[p]).counters }) rfl .powerFault
      [(.powerFault, p.val)]
    have health := moved.health
    have adds := moved.adds
    rw [afterLink_away (by decide)] at health adds
    refine ⟨_, ?_, moved.cams, health, moved.engine, moved.store, adds, moved.same⟩
    show Host.Outcome.next _ = _
    rw [if_pos power, trip, changeLink_other (by exact other)]
    rfl

/-- A change between link states other than LOCKED (R3, R9). -/
theorem moveLink_unlocked {new : CameraLink} (old : (s.cams[p]).link ≠ .locked) (unlocked : new ≠ .locked) :
    moveLink p new [] s = addCause .cameraLink p.val false (s.withCam p ((s.cams[p]).newly new s.nodeTime)) := by
  have kept : (s.health[p]).afterLink (s.cams[p]).link new = s.health[p] := by
    rw [afterLink_away unlocked, if_neg old]
  have moved : movedLink p new s = s.withCam p ((s.cams[p]).newly new s.nodeTime) := by
    have same : s.health.set p s.health[p] = s.health := Vector.set_getElem_self _
    rw [movedLink, kept, if_neg old, State.withHealth, State.withCam_health, same]
    rfl
  rw [moveLink_eq, kept, if_pos rfl, moved]
  exact addTogether_single ..

theorem sameNews_withCam (p : CamPort) (c : CameraPort) (s : State) : SameNews s (s.withCam p c) :=
  ⟨rfl, rfl, rfl, rfl, rfl⟩

theorem addCause_cams (k : CauseKind) (n : Nat) (e : Bool) (s : State) : (addCause k n e s).cams = s.cams :=
  (sameBut_addCause k n e s .cams (by simp)).symm

theorem afterCheck_ne_locked (p : CamPort) (s : State) : s.afterCheck p ≠ .locked := by
  unfold State.afterCheck
  split
  · decide
  · split <;> decide

/-- The port after its probe: only a lock timer may run (R16). -/
theorem newly_afterCheck (c : CameraPort) (p : CamPort) (s : State) (t : NodeTime) :
    c.newly (s.afterCheck p) t = { c with
      link := s.afterCheck p, lockTimer := if s.afterCheck p = .waking then some (t + 20000) else none,
      stallTimer := none, retryTimer := none, probeLimit := none, openFrame := none, frameIndex := 0,
      prevNumber := none } := by
  have others : s.afterCheck p ≠ .locked ∧ s.afterCheck p ≠ .lost ∧ s.afterCheck p ≠ .testing := by
    unfold State.afterCheck
    split
    · decide
    · split <;> decide
  obtain ⟨locked, lost, testing⟩ := others
  rw [CameraPort.newly, if_neg locked, if_neg lost, if_neg testing]

/-- The finding a probe stores (R15). -/
theorem found_result (f : ProbeFinding) (p : CamPort) (s : State) :
    ProbeFinding.result (s.found p f)
      = if due s.nodeTime ((s.cams[p]).probeLimit.map fun b => b + 1) then ⟨.inconclusive, none⟩ else ⟨f.outcome,
        if f.outcome = .normal ∨ f.outcome = .inconclusive then none else f.distance.map fun d => min 120 d⟩ := by
  unfold State.found
  by_cases late : s.probeLate p = true
  · rw [if_pos late]
    exact (if_pos late).symm
  · rw [if_neg late]
    refine Eq.trans ?_ (if_neg late).symm
    cases outcome : f.outcome <;> simp [ProbeFinding.result, outcome]

theorem theProbeEndsTheCableCheck : Claim.TheProbeEndsTheCableCheck := by
  intro p f s
  refine ⟨fun idle => ?_, fun testing other => ?_⟩
  · show Host.Outcome.next _ = _
    rw [if_neg idle]
  · have whole : endCheck p f s = changeLink p (s.afterCheck p) [] (addCause .cableDone p.val false
        (s.withCam p { s.cams[p] with
          cableResult := some (ProbeFinding.result (s.found p f)), faultKept := false })) := rfl
    generalize told : addCause .cableDone p.val false (s.withCam p { s.cams[p] with
        cableResult := some (ProbeFinding.result (s.found p f)), faultKept := false }) = u at whole
    have cams : u.cams = s.cams.set p { s.cams[p] with
        cableResult := some (ProbeFinding.result (s.found p f)), faultKept := false } := by
      rw [← told, addCause_cams]; rfl
    have same : SameBut [.cams, .agent, .trunk] s u := (sameBut_iff_mask _ _ _).mpr (by rw [← told]; simp)
    have time : s.nodeTime = u.nodeTime := same .nodeTime (by simp)
    have survey : s.survey = u.survey := same .survey (by simp)
    have link : (u.cams[p]).link ≠ .locked := by
      rw [cams, getElem_set_same]
      show (s.cams[p]).link ≠ .locked
      rw [testing]; decide
    have ended : endCheck p f s = addCause .cameraLink p.val false
        (u.withCam p ((u.cams[p]).newly (s.afterCheck p) s.nodeTime)) := by
      rw [whole, changeLink_other (by rw [← survey]; exact other), moveLink_unlocked link (afterCheck_ne_locked p s),
        time]
    have news : SameNews (addCause .cableDone p.val false s) u := told ▸ (sameNews_withCam ..).addCause ..
    have added := (news.trans (sameNews_withCam p ((u.cams[p]).newly (s.afterCheck p) s.nodeTime) u)).addCause
      .cameraLink p.val false
    refine ⟨endCheck p f s, ?_, ?_, ?_, ?_, ?_⟩
    · show Host.Outcome.next _ = _
      rw [if_pos testing]
    · rw [ended, addCause_cams, State.withCam_cams, cams, getElem_set_same, found_result, Vector.set_set, newly_afterCheck]
      rfl
    · rw [ended]; exact added.agent.symm
    · rw [ended]; exact added.trunk.symm
    · refine (sameBut_iff_mask _ _ _).mpr ?_
      rw [ended, ← (sameBut_iff_mask _ _ _).mp same]
      simp

/-- Settles O21: each is one change of link state of a port that the survey has not taken. -/
theorem theSwitchAndTheProbeMoveThePort : Obligations.TheSwitchAndTheProbeMoveThePort :=
  ⟨theSwitchTrips, theProbeEndsTheCableCheck⟩

/-! ### Timers and the first good frame -/

theorem not_and_of_idle {a : Prop} {b : Bool} (idle : ¬ a ∨ b = false) : ¬ (a ∧ b = true) := by
  rintro ⟨link, late⟩
  rcases idle with away | early
  · exact away link
  · rw [early] at late; exact Bool.false_ne_true late

theorem surveyReacts_waking (waking : (s.cams[p]).link = .waking) : surveyReacts p s = s := by
  unfold surveyReacts
  rw [waking]
  exact ite_self _

/-- How the survey takes its port's first good frame (R186). -/
theorem surveyReacts_locked (locked : (s.cams[p]).link = .locked) :
    surveyReacts p s = s.withSurvey (if s.survey.port = some p ∧ s.survey.phase = .waitLock
      then { s.survey with phase := .skip, count := 0 } else s.survey) := by
  unfold surveyReacts
  rw [locked]
  by_cases port : s.survey.port = some p
  · rw [if_pos port]
    dsimp only
    by_cases phase : s.survey.phase = .waitLock
    · rw [if_pos phase, if_pos ⟨port, phase⟩]
    · rw [if_neg phase, if_neg fun h => phase h.2]; rfl
  · rw [if_neg port, if_neg fun h => port h.1]; rfl

theorem portTimersMoveTheLink : Claim.PortTimersMoveTheLink := by
  intro p s
  refine ⟨fun waking late other => ?_, fun lost late => ?_, fun idle => ?_, fun idle => ?_, fun idle => ?_⟩
  · have moved : changeLink p .lost [] s
        = addCause .cameraLink p.val false (s.withCam p ((s.cams[p]).newly .lost s.nodeTime)) := by
      rw [changeLink_other other, moveLink_unlocked (by rw [waking]; decide) (by decide)]
    have news := (sameNews_withCam p ((s.cams[p]).newly .lost s.nodeTime) s).adds [(.cameraLink, p.val)]
    rw [addTogether_single, ← moved] at news
    refine ⟨changeLink p .lost [] s, ?_, ?_, news, ?_⟩
    · show Host.Outcome.next _ = _
      rw [if_pos ⟨waking, late⟩]
    · rw [moved, addCause_cams]
      rfl
    · rw [moved]
      exact (sameBut_iff_mask _ _ _).mpr (by simp)
  · generalize counted : countCam p .lockRetries s = u
    have cam : u.cams = s.cams.set p { s.cams[p] with
        counters := (s.cams[p]).counters.set 3 (increment (s.cams[p]).counters[(3 : Fin 6)]) } := by
      rw [← counted]; rfl
    have link : (u.cams[p]).link ≠ .locked := by
      rw [cam, getElem_set_same]
      show (s.cams[p]).link ≠ .locked
      rw [lost]; decide
    have moved : retryPort p s
        = addCause .cameraLink p.val false (u.withCam p ((u.cams[p]).newly .waking u.nodeTime)) := by
      rw [retryPort, counted, changeLink, surveyReacts_waking (moveLink_link ..), moveLink_unlocked link (by decide)]
    have time : u.nodeTime = s.nodeTime := by rw [← counted]; rfl
    have same : SameNews s u := counted ▸ sameNews_withCam ..
    have news := (same.trans (sameNews_withCam p ((u.cams[p]).newly .waking u.nodeTime) u)).adds [(.cameraLink, p.val)]
    rw [addTogether_single, ← moved] at news
    refine ⟨retryPort p s, ?_, ?_, news, ?_⟩
    · show Host.Outcome.next _ = _
      rw [if_pos ⟨lost, late⟩]
    · rw [moved, addCause_cams, State.withCam_cams, cam, getElem_set_same, time]
      exact Vector.set_set ..
    · rw [moved, ← counted]
      exact (sameBut_iff_mask _ _ _).mpr (by simp)
  · show Host.Outcome.next _ = _
    rw [if_neg (not_and_of_idle idle)]
  · show Host.Outcome.next _ = _
    rw [if_neg (not_and_of_idle idle)]
  · show Host.Outcome.next _ = _
    rw [if_neg (not_and_of_idle idle)]

theorem theFirstGoodFrameLocks : Claim.TheFirstGoodFrameLocks := by
  intro p f pic s waking frame lines widths
  have good := goodWith_of_sizes lines widths
  have unlocked : (s.cams[p]).link ≠ .locked := by rw [waking]; decide
  have moved := linkMoved (s := s) (p := p) (c := s.cams[p]) rfl .locked []
  rw [withCam_self] at moved
  have health := moved.health
  have adds := moved.adds
  have engine := moved.engine
  have store := moved.store
  have fresh : (s.health[p]).afterLink (s.cams[p]).link .locked = { s.health[p] with
      picture := .live, sameRun := 0, darkRun := 0, prevSignature := none, sampleCount := 0 } := if_pos rfl
  rw [fresh] at health adds
  rw [if_neg unlocked] at engine store
  simp only [eq_comm (a := PictureCondition.live)] at adds
  have survey : (moveLink p .locked [] s).survey = s.survey := (moveLink_same p .locked [] s).2.1
  refine ⟨frameEnd p pic s, rfl, ?_⟩
  rw [frameEnd_of_open frame ((listens_iff _).mpr (.inl waking)), if_pos good, if_neg unlocked, lockPort,
    surveyReacts_locked (by rw [State.withCam_cams, getElem_set_same]; exact moveLink_link ..)]
  refine ⟨?_, ?_, health, adds, ?_⟩
  · rw [State.withSurvey_cams, State.withCam_cams, moved.cams, getElem_set_same]
    exact Vector.set_set ..
  · rw [State.withSurvey_survey, State.withCam_survey, survey]
  · have left : SameBut [.cams, .health, .survey, .agent, .trunk] s (moveLink p .locked [] s) :=
      moved.same.narrow fun x changed stands => by
        cases x with
        | engine => exact engine.symm
        | store => exact store.symm
        | _ => simp at changed stands
    exact left.trans ((sameBut_iff_mask _ _ _).mpr (by simp))

/-- Settles O22: a timer acts in its own link state only, and the first good frame is one change of link state. -/
theorem aPortLocksAndTimesOut : Obligations.APortLocksAndTimesOut :=
  ⟨portTimersMoveTheLink, theFirstGoodFrameLocks⟩

end

end Sys2Proof.Machine
end

section
/-! PROOF. Training, the loss of training, signal and FILL (R88, R89). Settles O30. -/

namespace Sys2Proof.Machine

section
variable {s : State} {p : TrunkPort}

theorem portCode_toNat (p : TrunkPort) : (portCode p).toNat = if p = .a then 0 else 1 := by cases p <;> rfl

theorem headerOk_iff (c : Cell) : headerOk c = true ↔ byteAt c 7 = crc8 (padTo 7 c) := by
  rw [headerOk, beq_iff_eq]

theorem headerOk_false_iff (c : Cell) : headerOk c = false ↔ ¬ byteAt c 7 = crc8 (padTo 7 c) := by
  rw [← headerOk_iff, Bool.not_eq_true]

/-- A trunk port after its change of link state (R88). -/
def Trunk.moved (x : Trunk) : TrunkLink → Trunk
  | .down => { x with link := .down, farFault := false }
  | .training => { x with link := .training, farFault := false, goodRun := 0 }
  | .up => { x with link := .up, failedRun := 0 }

theorem moveTrunk_eq (p : TrunkPort) (new : TrunkLink) (s : State) : moveTrunk p new s
    = addCause .trunkLink (if p = .a then 0 else 1) false (s.withTrunk p ((s.trunk.get p).moved new)) := by
  rw [← portCode_toNat]
  cases new <;> rfl

/-- A change of link state of a port just replaced by `y` adds TRUNK_LINK with the port as subject. -/
theorem moveTrunk_withTrunk (p : TrunkPort) (new : TrunkLink) (y : Trunk) (s : State) :
    Adds [(.trunkLink, if p = .a then 0 else 1)] { s with trunk := s.trunk.set p (y.moved new) }
        (moveTrunk p new (s.withTrunk p y))
      ∧ SameBut [.agent, .trunk] s (moveTrunk p new (s.withTrunk p y)) := by
  have moved : moveTrunk p new (s.withTrunk p y)
      = addTogether [(.trunkLink, if p = .a then 0 else 1)] { s with trunk := s.trunk.set p (y.moved new) } := by
    rw [moveTrunk_eq, addTogether_single]
    simp [State.withTrunk]
  exact ⟨by rw [moved]; exact (SameNews.refl _).adds _, (sameBut_iff_mask _ _ _).mpr (by simp)⟩

theorem withTrunk_self (p : TrunkPort) (s : State) : s.withTrunk p (s.trunk.get p) = s := by
  cases p <;> rfl

/-- A trunk port with one of its counters raised. -/
def Trunk.counting (x : Trunk) (k : TrunkCounter) : Trunk := { x with counters := bump k.place x.counters }

theorem countTrunk_withTrunk (p : TrunkPort) (k : TrunkCounter) (y : Trunk) (s : State) :
    countTrunk p k (s.withTrunk p y) = s.withTrunk p (y.counting k) := by
  simp only [countTrunk, State.withTrunk, Pair.get_set_same, Pair.set_set, Trunk.counting]

/-- A trunk port after a failing header in UP (R88). -/
def Trunk.failing (x : Trunk) : Trunk := { x with failedRun := x.failedRun + 1 }.counting .headerError

theorem failHeader_eq (p : TrunkPort) (s : State) : failHeader p s
    = if 4 ≤ (s.trunk.get p).failedRun + 1
      then moveTrunk p .training (countTrunk p .linkLosses (s.withTrunk p (s.trunk.get p).failing))
      else s.withTrunk p (s.trunk.get p).failing := by
  unfold failHeader
  dsimp only
  rw [countTrunk_withTrunk]
  rfl

theorem eightGoodHeadersBringThePortUp : Claim.EightGoodHeadersBringThePortUp := by
  intro p c s
  dsimp only
  have row (link : (s.trunk.get p).link = .training) : exec (.cellReceivedTraining p c) s = .next (trainCell p c s) :=
    congrArg _ (if_pos link)
  have full : exec (.trainingComplete p c) s = .next (if (s.trunk.get p).link = .training ∧ headerOk c = true
    ∧ 8 ≤ (s.trunk.get p).goodRun + 1 then trainCell p c s else s) := rfl
  refine ⟨fun link good few => ?_, fun link bad => ?_, fun link good many => ?_, fun link => ?_⟩
  · rw [row link, full, if_neg (by omega), trainCell, if_pos ((headerOk_iff c).mpr good)]
    refine ⟨congrArg _ (if_neg ?_), rfl⟩
    omega
  · rw [row link, full, if_neg (fun h => bad ((headerOk_iff c).mp h.2.1)), trainCell,
      if_neg (fun h => bad ((headerOk_iff c).mp h))]
    exact ⟨rfl, rfl⟩
  · have good := (headerOk_iff c).mpr good
    refine ⟨trainCell p c s, by rw [full, if_pos ⟨link, good, by omega⟩], row link, ?_⟩
    have up : trainCell p c s = moveTrunk p .up (s.withTrunk p { s.trunk.get p with goodRun := (s.trunk.get p).goodRun + 1 }) := by
      rw [trainCell, if_pos good]
      exact if_pos (by omega)
    rw [up]
    exact moveTrunk_withTrunk p .up _ s
  · rw [full, if_neg fun h => link h.1]
    exact ⟨congrArg _ (if_neg link), rfl⟩

theorem fourFailedHeadersLoseTheLink : Claim.FourFailedHeadersLoseTheLink := by
  intro p c s
  dsimp only
  have row : exec (.headerFailure p c) s = .next (if (s.trunk.get p).link = .up ∧ headerOk c = false
    then failHeader p s else s) := rfl
  have full : exec (.failedHeaderRunFull p c) s = .next (if (s.trunk.get p).link = .up ∧ headerOk c = false
    ∧ 4 ≤ (s.trunk.get p).failedRun + 1 then failHeader p s else s) := rfl
  rw [row, full]
  refine ⟨fun link bad few => ?_, fun link bad many => ?_, fun idle => ?_⟩
  · rw [if_pos ⟨link, (headerOk_false_iff c).mpr bad⟩, if_neg (by omega), failHeader_eq, if_neg (by omega)]
    exact ⟨rfl, rfl⟩
  · have bad := (headerOk_false_iff c).mpr bad
    refine ⟨failHeader p s, by rw [if_pos ⟨link, bad, by omega⟩], by rw [if_pos ⟨link, bad⟩], ?_⟩
    have lost : failHeader p s = moveTrunk p .training (s.withTrunk p ((s.trunk.get p).failing.counting .linkLosses)) := by
      rw [failHeader_eq, if_pos (by omega), countTrunk_withTrunk]
    have counted : bump TrunkCounter.linkLosses.place (bump TrunkCounter.headerError.place (s.trunk.get p).counters)
        = ((s.trunk.get p).counters.set 2 (increment (s.trunk.get p).counters[(2 : Fin 9)])).set 3
          (increment (s.trunk.get p).counters[(3 : Fin 9)]) := by
      rw [bump, bump_other (by decide)]; rfl
    have trunk : ((s.trunk.get p).failing.counting .linkLosses).moved .training = { s.trunk.get p with
        link := .training, farFault := false, goodRun := 0, failedRun := (s.trunk.get p).failedRun + 1,
        counters := ((s.trunk.get p).counters.set 2 (increment (s.trunk.get p).counters[(2 : Fin 9)])).set 3
          (increment (s.trunk.get p).counters[(3 : Fin 9)]) } := by
      simp only [Trunk.counting, Trunk.failing, Trunk.moved, counted]
    rw [lost, ← trunk]
    exact moveTrunk_withTrunk p .training _ s
  · have idle : ¬ ((s.trunk.get p).link = .up ∧ headerOk c = false) := by
      rintro ⟨up, bad⟩
      exact idle.elim (fun h => h up) (fun h => (headerOk_false_iff c).mp bad h)
    rw [if_neg idle, if_neg fun h => idle ⟨h.1, h.2.1⟩]
    exact ⟨rfl, rfl⟩

/-- Settles O30: below the threshold the run moves on alone, with it the link state changes. -/
theorem headersTrainAndLoseTheTrunkPort : Obligations.HeadersTrainAndLoseTheTrunkPort :=
  ⟨eightGoodHeadersBringThePortUp, fourFailedHeadersLoseTheLink⟩

end

end Sys2Proof.Machine
end

section
/-! PROOF. Signal and its loss, FILL, and the far-end fault flag under every other cell (R88, R89). Settles O31. -/

namespace Sys2Proof.Machine

section
variable {s t u : State} {p : TrunkPort}

theorem theSignalMovesTheTrunkLink : Claim.TheSignalMovesTheTrunkLink := by
  intro p s
  have down := fun y => moveTrunk_withTrunk p .down y s
  have training := moveTrunk_withTrunk p .training (s.trunk.get p) s
  rw [withTrunk_self] at training
  refine ⟨fun link => ?_, fun link => congrArg _ (if_neg link), fun link => ?_, fun link => ?_, fun link => ?_⟩
  · exact ⟨moveTrunk p .training s, congrArg _ (if_pos link), training⟩
  · show execSignalLoss p s = _
    simp only [execSignalLoss, link]
  · have moved := down (s.trunk.get p)
    rw [withTrunk_self] at moved
    refine ⟨moveTrunk p .down s, ?_, moved⟩
    show execSignalLoss p s = _
    simp only [execSignalLoss, link]
  · refine ⟨moveTrunk p .down (countTrunk p .linkLosses s), ?_, down ((s.trunk.get p).counting .linkLosses)⟩
    show execSignalLoss p s = _
    simp only [execSignalLoss, link]

/-! ### FILL -/

theorem lowFlag_eq (c : Cell) : lowFlag c = (byteAt c 0).getLsbD 0 := rfl

theorem kindOf_fill {c : Cell} (code : (byteAt c 0).toNat / 16 = 0) : kindOf c = some .fill := by
  rw [kindOf, kindCode, code]
  rfl

theorem exec_fill (p : TrunkPort) (c : Cell) (s : State) : exec (.fill p c) s
    = .next (if s.receives p c && kindOf c == some .fill then setFarFault p (lowFlag c) (clearFailedRun p s) else s) := rfl

theorem receives_iff (c : Cell) : s.receives p c = true ↔ (s.trunk.get p).link = .up ∧ headerOk c = true := by
  rw [State.receives, Bool.and_eq_true, beq_iff_eq]

theorem aFillCarriesTheFarEndFault : Claim.AFillCarriesTheFarEndFault := by
  intro p c s good code
  dsimp only
  have taken (link : (s.trunk.get p).link = .up) :
      exec (.fill p c) s = .next (setFarFault p (lowFlag c) (clearFailedRun p s)) := by
    rw [exec_fill, if_pos]
    rw [kindOf_fill code, (receives_iff c).mpr ⟨link, (headerOk_iff c).mpr good⟩]
    rfl
  have fault : ((clearFailedRun p s).trunk.get p).farFault = (s.trunk.get p).farFault := by
    rw [clearFailedRun, State.withTrunk_trunk, Pair.get_set_same]
  refine ⟨fun link same => ?_, fun link change => ?_, fun link => ?_⟩
  · rw [taken link, setFarFault, if_pos (fault.trans (same.trans (lowFlag_eq c).symm))]
    rfl
  · rw [taken link, setFarFault, if_neg (by rw [fault, lowFlag_eq]; exact change), portCode_toNat, ← addTogether_single]
    refine ⟨_, rfl, ?_, (sameBut_iff_mask _ _ _).mpr (by simp [clearFailedRun])⟩
    have set : (clearFailedRun p s).withTrunk p { (clearFailedRun p s).trunk.get p with farFault := lowFlag c }
        = { s with trunk := s.trunk.set p { s.trunk.get p with failedRun := 0, farFault := lowFlag c } } := by
      simp only [clearFailedRun, State.withTrunk, Pair.get_set_same, Pair.set_set]
    rw [set]
    exact (SameNews.refl _).adds _
  · rw [exec_fill, if_neg]
    intro h
    exact link ((receives_iff c).mp (Bool.and_eq_true_iff.mp h).1).1

/-! ### A far-end fault that is cleared first -/

theorem clearFailedRun_placeControl (p q : TrunkPort) (c : Cell) (s : State) :
    clearFailedRun p (placeControl q c s) = placeControl q c (clearFailedRun p s) := by
  have control : ((clearFailedRun p s).trunk.get q).control = (s.trunk.get q).control := by
    cases p <;> cases q <;> rfl
  unfold placeControl
  rw [control]
  split
  · cases p <;> cases q <;> rfl
  · cases p <;> cases q <;> rfl

theorem clearFailedRun_placeAll (p q : TrunkPort) (cs : List Cell) (s : State) :
    clearFailedRun p (placeAll q cs s) = placeAll q cs (clearFailedRun p s) := by
  induction cs generalizing s with
  | nil => rfl
  | cons c cs later => rw [placeAll_cons, placeAll_cons, later, clearFailedRun_placeControl]

/-- A cause may join before or after the failed-header run is set to 0. -/
theorem clearFailedRun_addCause (p : TrunkPort) (k : CauseKind) (n : Nat) (e : Bool) (s : State) :
    clearFailedRun p (addCause k n e s) = addCause k n e (clearFailedRun p s) := by
  have notice (u : State) : clearFailedRun p (sendNotice u) = sendNotice (clearFailedRun p u) := by
    have cells : (clearFailedRun p u).noticeCells = u.noticeCells := rfl
    have side : (clearFailedRun p u).controllerSide = u.controllerSide := rfl
    have agent : (clearFailedRun p u).agent = u.agent := rfl
    unfold sendNotice
    rw [cells, side, agent]
    split
    · rfl
    · split
      · rw [clearFailedRun_placeAll]; rfl
      · rfl
  unfold addCause
  dsimp only
  have agent : (clearFailedRun p s).agent = s.agent := rfl
  rw [agent]
  split
  · rw [notice]; rfl
  · rfl

/-- The state with a far-end fault cleared and told (R89). -/
def faultCleared (p : TrunkPort) (s : State) : State :=
  addCause .trunkLink (if p = .a then 0 else 1) false
    { s with trunk := s.trunk.set p { s.trunk.get p with farFault := false } }

/-- The link state of a trunk port with its far-end fault flag. -/
def State.lineOf (s : State) (q : TrunkPort) : TrunkLink × Bool := ((s.trunk.get q).link, (s.trunk.get q).farFault)

theorem lineOf_withTrunk (q : TrunkPort) {y : Trunk} (same : (y.link, y.farFault) = s.lineOf q) (p : TrunkPort) :
    (s.withTrunk q y).lineOf p = s.lineOf p := by
  by_cases here : p = q
  · subst here
    rw [State.lineOf, State.withTrunk_trunk, Pair.get_set_same, same]
  · rw [State.lineOf, State.withTrunk_trunk, Pair.get_set_ne _ here, State.lineOf]

theorem lineOf_of_mask {l : List Part} (h : t.mask l = s.mask l) (trunk : Part.trunk ∉ l) (q : TrunkPort) :
    t.lineOf q = s.lineOf q := by
  have same : s.trunk = t.trunk := same_of_mask h .trunk trunk
  rw [State.lineOf, State.lineOf, same]

theorem lineOf_placeControl (p q : TrunkPort) (c : Cell) (s : State) :
    (placeControl p c s).lineOf q = s.lineOf q := by
  rcases placeControl_cases p c s with ⟨-, e⟩ | ⟨-, e⟩ <;> rw [e]
  · exact lineOf_withTrunk p (by rfl) q
  · exact lineOf_withTrunk p (by rfl) q

theorem lineOf_placeAll (p q : TrunkPort) (cs : List Cell) (s : State) : (placeAll p cs s).lineOf q = s.lineOf q := by
  induction cs generalizing s with
  | nil => rfl
  | cons c cs later => rw [placeAll_cons, later, lineOf_placeControl]

theorem lineOf_sendNotice (q : TrunkPort) (s : State) : (sendNotice s).lineOf q = s.lineOf q := by
  rcases sendNotice_cases s with ⟨p, -, -, e⟩ | ⟨-, e⟩
  · rw [e, lineOf_placeAll]; rfl
  · rw [e]

theorem lineOf_addCause (k : CauseKind) (n : Nat) (e : Bool) (q : TrunkPort) (s : State) :
    (addCause k n e s).lineOf q = s.lineOf q := by
  unfold addCause
  dsimp only
  split
  · rw [lineOf_sendNotice]; rfl
  · rfl

theorem lineOf_addTogether (cs : List (CauseKind × Nat)) (q : TrunkPort) (s : State) :
    (addTogether cs s).lineOf q = s.lineOf q :=
  List.foldlRecOn (motive := fun t => t.lineOf q = s.lineOf q) _ _ rfl
    fun u same c _ => (lineOf_addCause c.1 c.2 false q u).trans same

theorem lineOf_setControllerSide (p q : TrunkPort) (s : State) : (setControllerSide p s).lineOf q = s.lineOf q := by
  rcases setControllerSide_cases p s with ⟨-, -, e⟩ | ⟨-, e⟩
  · rw [e, lineOf_sendNotice]; rfl
  · rw [e]; rfl

theorem lineOf_queueCommand (p q : TrunkPort) (c : Cell) (s : State) : (queueCommand p c s).lineOf q = s.lineOf q := by
  unfold queueCommand
  split
  · rfl
  · exact lineOf_placeAll ..

theorem lineOf_ite {c : Prop} [Decidable c] {q : TrunkPort} (h : t.lineOf q = s.lineOf q)
    (k : u.lineOf q = s.lineOf q) : (if c then t else u).lineOf q = s.lineOf q := by
  split
  · exact h
  · exact k

theorem lineOf_takeBeacon (p q : TrunkPort) (h n : Nat) (s : State) : (takeBeacon p h n s).lineOf q = s.lineOf q := by
  have placed (u : State) : (placeBeacon p.other h (nextHop n) u).lineOf q = u.lineOf q :=
    lineOf_ite (lineOf_placeControl ..) rfl
  unfold takeBeacon
  refine lineOf_ite (lineOf_ite ?_ rfl) (lineOf_ite ?_ rfl)
  · rw [yieldTo, lineOf_of_mask (l := [.store, .comp]) (mask_stopComposing (by simp) (by simp)) (by simp),
      lineOf_addTogether, placed]
    rfl
  · rw [followBeacon, reportOrientation]
    exact lineOf_ite ((lineOf_addCause ..).trans (placed _)) (placed _)

theorem lineOf_routeBeacon (p q : TrunkPort) (c : Cell) (s : State) : (routeBeacon p c s).lineOf q = s.lineOf q := by
  unfold routeBeacon
  split
  · rfl
  · exact lineOf_takeBeacon ..

theorem lineOf_routeState (p q : TrunkPort) (c : Cell) (s : State) : (routeState p c s).lineOf q = s.lineOf q := by
  have taken : (takeState (payloadOf c) (setControllerSide p s)).lineOf q = (setControllerSide p s).lineOf q :=
    lineOf_of_mask (l := [.vehicle, .selection, .comp]) (mask_takeState (by simp) (by simp) (by simp)) (by simp) q
  rw [routeState, passOn, lineOf_placeControl, taken, lineOf_setControllerSide]

theorem lineOf_routeCommand (p q : TrunkPort) (c : Cell) (s : State) : (routeCommand p c s).lineOf q = s.lineOf q := by
  have passed : (if commandDestination c = s.nodeNumber then setControllerSide p s
      else passOn p c (setControllerSide p s)).lineOf q = s.lineOf q :=
    lineOf_ite (lineOf_setControllerSide ..) ((lineOf_placeControl ..).trans (lineOf_setControllerSide ..))
  exact lineOf_ite ((lineOf_queueCommand ..).trans passed) passed

theorem lineOf_bypassActs (p q : TrunkPort) (c : Cell) (s : State) : (bypassActs p c s).lineOf q = s.lineOf q := by
  unfold bypassActs
  split
  · exact lineOf_ite (lineOf_setControllerSide ..) rfl
  · exact lineOf_ite (lineOf_ite ((lineOf_queueCommand ..).trans (lineOf_setControllerSide ..))
      (lineOf_setControllerSide ..)) rfl
  · rfl

theorem lineOf_forwardTile (p q : TrunkPort) (c : Cell) (s : State) : (forwardTile p c s).lineOf q = s.lineOf q := by
  unfold forwardTile
  split
  · unfold joinPass
    exact lineOf_ite (lineOf_withTrunk _ (by rfl) q) (lineOf_withTrunk _ (by rfl) q)
  · rfl
  · exact lineOf_ite rfl rfl

theorem lineOf_takeControl (p q : TrunkPort) (c : Cell) {act : State → State}
    (acts : ∀ u, (act u).lineOf q = u.lineOf q) (s : State) :
    (takeControl p c act s).lineOf q = (handOn p s).lineOf q := lineOf_ite (acts _) rfl

theorem lineOf_takeTile (p q : TrunkPort) (c : Cell) {consume : State → State}
    (acts : ∀ u, (consume u).lineOf q = u.lineOf q) (s : State) :
    (takeTile p c consume s).lineOf q = (handOn p s).lineOf q := by
  have forwarded : (forwardTile p c (countPayload c (handOn p s))).lineOf q = (handOn p s).lineOf q :=
    (lineOf_forwardTile ..).trans (lineOf_ite rfl rfl)
  exact lineOf_ite ((acts _).trans forwarded) forwarded

theorem lineOf_consumeData (q : TrunkPort) (c : Cell) (s : State) : (consumeData c s).lineOf q = s.lineOf q :=
  lineOf_of_mask (l := [.router, .store, .alarm, .selection, .comp]) (by simp) (by simp) q

theorem lineOf_consumeHead (q : TrunkPort) (c : Cell) (s : State) : (consumeHead c s).lineOf q = s.lineOf q :=
  lineOf_of_mask (l := [.router, .store]) (by simp) (by simp) q

theorem lineOf_joinBypass (p q : TrunkPort) (c : Cell) (s : State) : (joinBypass p c s).lineOf q = s.lineOf q :=
  lineOf_withTrunk _ (by rfl) q

theorem lineOf_clearFailedRun (p q : TrunkPort) (s : State) : (clearFailedRun p s).lineOf q = s.lineOf q :=
  lineOf_withTrunk _ (by rfl) q

theorem lineOf_handOn (p : TrunkPort) (s : State) : ((handOn p s).lineOf p).2 = false := by
  have counted (u : State) : (countTrunk p .cellsIn u).lineOf p = u.lineOf p := lineOf_withTrunk _ (by rfl) p
  rw [handOn, counted, setFarFault]
  split
  next clear => exact clear
  next => rw [lineOf_addCause, State.lineOf, State.withTrunk_trunk, Pair.get_set_same]

theorem sameBut_faultCleared (p : TrunkPort) (s : State) : SameBut [.agent, .trunk] s (faultCleared p s) :=
  (sameBut_iff_mask _ _ _).mpr (by rw [faultCleared]; simp; rfl)

theorem lineOf_faultCleared (p : TrunkPort) (s : State) :
    (faultCleared p s).lineOf p = ((s.trunk.get p).link, false) := by
  rw [faultCleared, lineOf_addCause, State.lineOf, Pair.get_set_same]

/-- A cell is handed on alike whether the far-end fault is cleared by it or before it. -/
theorem handOn_faultCleared (fault : (s.trunk.get p).farFault = true) : handOn p (faultCleared p s) = handOn p s := by
  have clear : ((clearFailedRun p (faultCleared p s)).trunk.get p).farFault = false := by
    have line := (lineOf_clearFailedRun p p (faultCleared p s)).trans (lineOf_faultCleared p s)
    exact congrArg Prod.snd line
  have stands : ((clearFailedRun p s).trunk.get p).farFault = true :=
    (congrArg Prod.snd (lineOf_clearFailedRun p p s)).trans fault
  rw [handOn, handOn, setFarFault, if_pos clear, setFarFault, if_neg (by rw [stands]; decide), faultCleared,
    clearFailedRun_addCause, portCode_toNat]
  simp only [clearFailedRun, State.withTrunk, Pair.get_set_same, Pair.set_set]

theorem routes_iff {k : Option CellKind} (c : Cell) : s.routes p c k = true
    ↔ (s.trunk.get p).link = .up ∧ headerOk c = true ∧ s.mode ≠ .bypass ∧ kindOf c = k := by
  simp only [State.routes, Bool.and_eq_true, receives_iff, bne_iff_ne, beq_iff_eq, and_assoc]

theorem takeControl_faultCleared (fault : (s.trunk.get p).farFault = true) (c : Cell) (act : State → State) :
    takeControl p c act (faultCleared p s) = takeControl p c act s := by
  rw [takeControl, takeControl, handOn_faultCleared fault]

theorem consumes_faultCleared (p : TrunkPort) (c : Cell) (s : State) : (faultCleared p s).consumes c = s.consumes c := by
  have same := sameBut_faultCleared p s
  rw [State.consumes, State.consumes, ← same .mode (by simp), ← same .tables (by simp)]

theorem takeTile_faultCleared (fault : (s.trunk.get p).farFault = true) (c : Cell) (consume : State → State) :
    takeTile p c consume (faultCleared p s) = takeTile p c consume s := by
  rw [takeTile, takeTile, handOn_faultCleared fault, consumes_faultCleared]

theorem endsContext_faultCleared (p : TrunkPort) (c : Cell) (s : State) :
    (faultCleared p s).endsContext c = s.endsContext c := by
  rw [State.endsContext, State.endsContext, consumes_faultCleared, ← sameBut_faultCleared p s .router (by simp)]

theorem aCellClearsTheFarEndFault : Claim.ACellClearsTheFarEndFault := by
  intro p c row s up good fault rows
  dsimp only
  change exec row s = exec row (faultCleared p s) ∧ _
  have mode : (faultCleared p s).mode = s.mode := (sameBut_faultCleared p s .mode (by simp)).symm
  have link : ((faultCleared p s).trunk.get p).link = .up := (congrArg Prod.fst (lineOf_faultCleared p s)).trans up
  have cleared := lineOf_handOn p s
  have routes (k : Option CellKind) (awake : s.mode ≠ .bypass) (kind : kindOf c = k) :
      s.routes p c k = true ∧ (faultCleared p s).routes p c k = true :=
    ⟨(routes_iff c).mpr ⟨up, good, awake, kind⟩, (routes_iff c).mpr ⟨link, good, by rw [mode]; exact awake, kind⟩⟩
  -- a row that does one thing in both states, and leaves the line as it is handed on
  have done {t : State} (here : exec row s = .next t) (there : exec row (faultCleared p s) = .next t)
      (line : t.lineOf p = (handOn p s).lineOf p) : exec row s = exec row (faultCleared p s)
        ∧ ∃ t : State, exec row s = .next t ∧ (t.trunk.get p).farFault = false :=
    ⟨here.trans there.symm, t, here, (congrArg Prod.snd line).trans cleared⟩
  have control (act : State → State) (k : Option CellKind) (acts : ∀ u, (act u).lineOf p = u.lineOf p)
      (here : ∀ u : State, u.routes p c k = true → exec row u = .next (takeControl p c act u))
      (awake : s.mode ≠ .bypass) (kind : kindOf c = k) := by
    obtain ⟨r, r'⟩ := routes k awake kind
    exact done (here s r) ((here _ r').trans (by rw [takeControl_faultCleared fault])) (lineOf_takeControl p p c acts s)
  have tile (consume : State → State) (acts : ∀ u, (consume u).lineOf p = u.lineOf p)
      (here : exec row s = .next (takeTile p c consume s))
      (there : exec row (faultCleared p s) = .next (takeTile p c consume (faultCleared p s))) :=
    done here (there.trans (by rw [takeTile_faultCleared fault])) (lineOf_takeTile p p c acts s)
  rcases rows with ⟨bypass, kind, rfl⟩ | ⟨awake, ⟨kind, rfl⟩ | ⟨kind, rfl⟩ | ⟨kind, rfl⟩ | ⟨kind, rfl⟩ | ⟨kind, rfl⟩
    | ⟨kind, rfl⟩ | ⟨kind, rfl⟩ | ⟨kind, ends, rfl⟩⟩
  · have shown (u : State) (r : u.receives p c = true) (m : u.mode = .bypass) :
        exec (.bypassPass p c) u = .next (bypassActs p c (joinBypass p c (handOn p u))) := congrArg _ (if_pos (by
      rw [r, m, bne_iff_ne.mpr kind]; rfl))
    refine done (shown s ((receives_iff c).mpr ⟨up, good⟩) bypass)
      ((shown _ ((receives_iff c).mpr ⟨link, good⟩) (mode.trans bypass)).trans ?_)
      ((lineOf_bypassActs ..).trans (lineOf_joinBypass ..))
    rw [handOn_faultCleared fault]
  · exact control (routeBeacon p c) _ (lineOf_routeBeacon p p c) (fun u r => congrArg _ (if_pos r)) awake kind
  · exact control (routeState p c) _ (lineOf_routeState p p c) (fun u r => congrArg _ (if_pos r)) awake kind
  · exact control (routeCommand p c) _ (lineOf_routeCommand p p c) (fun u r => congrArg _ (if_pos r)) awake kind
  · refine kind.elim (control (passOn p c) _ (lineOf_placeControl p.other p c) (fun u r => congrArg _ (if_pos ?_)) awake)
      (control (passOn p c) _ (lineOf_placeControl p.other p c) (fun u r => congrArg _ (if_pos ?_)) awake)
    · rw [r, Bool.true_or]
    · rw [r, Bool.or_true]
  · obtain ⟨r, r'⟩ := routes _ awake kind
    refine done (t := countPayload c (countRouter .badKind (handOn p s))) (congrArg _ (if_pos r)) ?_ (lineOf_ite rfl rfl)
    rw [← handOn_faultCleared fault]
    exact congrArg _ (if_pos r')
  · obtain ⟨r, r'⟩ := routes _ awake kind
    exact tile (consumeHead c) (lineOf_consumeHead p c) (congrArg _ (if_pos r)) (congrArg _ (if_pos r'))
  · obtain ⟨r, r'⟩ := routes _ awake kind
    exact tile (consumeData c) (lineOf_consumeData p c) (congrArg _ (if_pos r)) (congrArg _ (if_pos r'))
  · obtain ⟨r, r'⟩ := routes _ awake kind
    have row (u : State) (r : u.routes p c (some .tileData) = true) (ends : u.endsContext c = true) :
        exec (.contextEnd p c) u = .next (takeTile p c (consumeData c) u) := congrArg _ (if_pos (by rw [r, ends]; rfl))
    exact tile (consumeData c) (lineOf_consumeData p c) (row s r ends)
      (row _ r' (by rw [endsContext_faultCleared]; exact ends))

/-- Settles O31: a cell other than FILL reads the flag only where it is handed on. -/
theorem signalAndFillMoveTheTrunkPort : Obligations.SignalAndFillMoveTheTrunkPort :=
  ⟨theSignalMovesTheTrunkLink, aFillCarriesTheFarEndFault, aCellClearsTheFarEndFault⟩

end

end Sys2Proof.Machine
end

section
/-! PROOF. How a send request and a handed entry join a send list, and the ports a request names (R36, R94, R95).
Settles O34. -/

namespace Sys2Proof.Machine

section
variable {s : State} {p : TrunkPort}

/-! ### The entry that waits for a stream -/

theorem SendEntry.not_waitsFor (e : SendEntry) (sid : StreamId) :
    e.waitsFor sid = false ↔ ¬ (e.started = false ∧ e.stream = sid) := by
  rw [← e.waitsFor_iff, Bool.not_eq_true]

theorem find_waiting_none {l : List SendEntry} {sid : StreamId}
    (away : ∀ e ∈ l, ¬ (e.started = false ∧ e.stream = sid)) : l.find? (·.waitsFor sid) = none :=
  List.find?_eq_none.mpr fun e he => by rw [(e.not_waitsFor sid).mpr (away e he)]; decide

theorem find_waiting_some {before behind : List SendEntry} {old : SendEntry} {sid : StreamId}
    (started : old.started = false) (stream : old.stream = sid)
    (others : ∀ e ∈ before ++ behind, ¬ (e.started = false ∧ e.stream = sid)) :
    (before ++ old :: behind).find? (·.waitsFor sid) = some old := by
  have away : before.find? (·.waitsFor sid) = none :=
    find_waiting_none fun e he => others e (List.mem_append_left _ he)
  rw [List.find?_append, away, Option.none_or]
  exact List.find?_cons_of_pos ((old.waitsFor_iff sid).mpr ⟨started, stream⟩)

theorem putWaiting_middle {before behind : List SendEntry} {old : SendEntry} {sid : StreamId}
    (started : old.started = false) (stream : old.stream = sid)
    (others : ∀ e ∈ before ++ behind, ¬ (e.started = false ∧ e.stream = sid)) (e : SendEntry) :
    putWaiting sid e (before ++ old :: behind) = before ++ e :: behind := by
  have keep (l : List SendEntry) (sub : l ⊆ before ++ behind) :
      (l.map fun x => if x.waitsFor sid then e else x) = l := by
    refine (List.map_congr_left fun x hx => ?_).trans (List.map_id l)
    rw [(x.not_waitsFor sid).mpr (others x (sub hx))]
    rfl
  rw [putWaiting, List.map_append, List.map_cons, if_pos ((old.waitsFor_iff sid).mpr ⟨started, stream⟩),
    keep before (List.subset_append_left ..), keep behind (List.subset_append_right ..)]

theorem aSendRequestJoinsTheList : Claim.ASendRequestJoinsTheList := by
  intro p i sid s
  dsimp only
  refine ⟨fun away room => ?_, fun away full => ?_, fun before old behind list started stream others =>
    ⟨fun tile => ?_, fun fetch => ?_⟩⟩
  · simp only [requestSend, find_waiting_none away]
    exact if_pos room
  · simp only [requestSend, find_waiting_none away]
    exact if_neg (Nat.not_lt.mpr full)
  · have found := (congrArg (List.find? _) list).trans (find_waiting_some started stream others)
    have put := (congrArg _ list).trans (putWaiting_middle started stream others (s.newEntry .tile i sid))
    simp only [requestSend, found, put]
    exact if_pos tile
  · have found := (congrArg (List.find? _) list).trans (find_waiting_some started stream others)
    simp only [requestSend, found]
    exact if_neg fetch

theorem aHandedEntryKeepsItsHold : Claim.AHandedEntryKeepsItsHold := by
  intro p e s
  dsimp only
  refine ⟨fun away room => ?_, fun away full => ?_, fun before w behind list ⟨started, stream⟩ others =>
    ⟨fun tile older => ?_, fun tile newer => ?_, fun fetch => ?_⟩⟩
  · simp only [takeHanded, find_waiting_none away]
    exact if_pos room
  · simp only [takeHanded, find_waiting_none away]
    exact if_neg (Nat.not_lt.mpr full)
  · have found := (congrArg (List.find? _) list).trans (find_waiting_some started stream others)
    have put := (congrArg _ list).trans (putWaiting_middle started stream others e)
    simp only [takeHanded, found, put]
    rw [if_pos tile, if_pos older]
    rfl
  · have found := (congrArg (List.find? _) list).trans (find_waiting_some started stream others)
    simp only [takeHanded, found]
    rw [if_pos tile, if_neg (Nat.not_le.mpr newer)]
    rfl
  · have found := (congrArg (List.find? _) list).trans (find_waiting_some started stream others)
    simp only [takeHanded, found]
    exact if_neg fetch

/-! ### The ports a request names (R36, R113) -/

theorem routeDirection_of_absent {b : Tables} {sid : StreamId}
    (absent : ∀ k : Fin 128, ∀ e : RouteEntry, b.route[k] = some e → e.stream ≠ sid) : b.routeDirection sid = .head := by
  have lost : b.findRoute sid = none := by
    cases found : b.findRoute sid with
    | none => rfl
    | some i =>
      obtain ⟨-, e, entry, stream⟩ := findRoute_some found
      exact absurd stream (absent i e entry)
  rw [Tables.routeDirection, Tables.routeEntry, lost]
  rfl

theorem routeDirection_of_entry (ok : s.routesOk) {k : Fin 128} {e : RouteEntry} (entry : s.tables.route[k] = some e) :
    s.tables.routeDirection e.stream = e.direction := by
  cases found : s.tables.findRoute e.stream with
  | none => exact absurd rfl (findRoute_none found (ok k e entry).1 entry)
  | some i =>
    obtain ⟨-, d, other, stream⟩ := findRoute_some found
    obtain rfl := (ok k e entry).2 i d other stream
    rw [Tables.routeDirection, Tables.routeEntry, found]
    simp only [Option.bind_some, entry]

theorem theDirectionChoosesThePorts : Claim.TheDirectionChoosesThePorts := by
  intro i sid s
  have headless (found : s.orient.state = .found) (candidate : s.orient.candidate = false) : s.isHead = false := by
    rw [State.isHead, candidate, Bool.false_and]
  refine ⟨fun d => ?_, fun d => ?_, fun p d side => ?_, fun d side => ?_, fun d lost => ?_, fun d found self => ?_,
    fun p d found other side => ?_, routeDirection_of_absent, fun ok k e entry stream => ?_⟩
  · simp only [placeRequests, State.sendRoute, d]
  · simp only [placeRequests, State.sendRoute, d]
  · simp only [placeRequests, State.sendRoute, d, side]
  · have route : s.sendRoute sid = .noController := by simp only [State.sendRoute, d, side]
    simp only [placeRequests, route]
    rfl
  · have route : s.sendRoute sid = .noHead := by
      cases state : s.orient.state with
      | found => exact absurd state lost
      | none | conflict => simp only [State.sendRoute, d, state]
    simp only [placeRequests, route]
    rfl
  · have head : s.isHead = true := by rw [State.isHead, self, found]; rfl
    simp only [placeRequests, State.sendRoute, d, found, head, if_true]
  · simp only [placeRequests, State.sendRoute, d, found, headless found other, Bool.false_eq_true, if_false, side]
  · subst stream
    exact routeDirection_of_entry ok entry

/-- Settles O34: by the entry of the stream that waits, and by the direction of the stream. -/
theorem sendRequestsJoinTheListsOfTheirPorts : Obligations.SendRequestsJoinTheListsOfTheirPorts :=
  ⟨aSendRequestJoinsTheList, theDirectionChoosesThePorts, aHandedEntryKeepsItsHold⟩

end

end Sys2Proof.Machine
end

section
/-! PROOF. A cell time without send entries (R90, R93, R104). Settles O32. -/

namespace Sys2Proof.Machine

section
variable {s : State} {p : TrunkPort}

/-- A trunk port whose cell time takes no cell: a FILL on the line, with FAULT while the port is not UP (R90). -/
def Trunk.idles (y : Trunk) : Trunk := { y with line := fillCell (decide (y.link ≠ .up)) }

theorem putOnLine_some (p : TrunkPort) (c : Cell) (s : State) :
    putOnLine p (some c) s = s.withTrunk p ((s.trunk.get p).sends c) := by
  unfold putOnLine Trunk.sends
  dsimp only
  split
  · exact countTrunk_withTrunk ..
  · exact countTrunk_withTrunk ..

theorem putOnLine_none (p : TrunkPort) (s : State) : putOnLine p none s = s.withTrunk p (s.trunk.get p).idles := by
  unfold putOnLine Trunk.idles
  dsimp only
  split
  next up => rw [up]; rfl
  next down => rw [decide_eq_true down]

/-- What a port that has nothing of the list to send takes from its pass-through queue (R93, R115). -/
def Trunk.passes (x : Trunk) (leaves : PassCell → Cell) : Trunk :=
  match x.pass with
  | q :: rest => { x with pass := rest }.sends (leaves q)
  | [] => x.idles

/-- A cell time of a port with no send entry (R93, R104). -/
def Trunk.servedPlain (x : Trunk) (leaves : PassCell → Cell) : Trunk :=
  match x.bypassPath, x.control with
  | c :: rest, _ => { x with bypassPath := rest }.sends c
  | [], c :: rest => { x with control := rest }.sends (sealCell c)
  | [], [] => x.passes leaves

/-- The pass-through queue's cell time: its head cell, or none (R93). -/
theorem putOnLine_takePass (p : TrunkPort) (s : State) :
    putOnLine p (takePass p s).2 (takePass p s).1 = s.withTrunk p ((s.trunk.get p).passes s.passLeaves) := by
  unfold takePass Trunk.passes
  cases queue : (s.trunk.get p).pass with
  | nil => exact putOnLine_none p s
  | cons q rest =>
    dsimp only
    rw [putOnLine_some]
    simp only [State.withTrunk, Pair.get_set_same, Pair.set_set]

theorem servePort_plain (reads : MemoryReads) (empty : (s.trunk.get p).sendList = []) :
    servePort p reads s = s.withTrunk p ((s.trunk.get p).servedPlain s.passLeaves) := by
  have shared : takeShared p (reads.get p) s = takePass p s :=
    if_pos (by rw [empty]; rfl)
  unfold servePort arbitrate Trunk.servedPlain
  dsimp only
  cases bypass : (s.trunk.get p).bypassPath with
  | cons c rest =>
    rw [putOnLine_some]
    simp only [State.withTrunk, Pair.get_set_same, Pair.set_set]
  | nil =>
    cases control : (s.trunk.get p).control with
    | cons c rest =>
      rw [putOnLine_some]
      simp only [State.withTrunk, Pair.get_set_same, Pair.set_set]
    | nil =>
      simp only [shared, ite_self]
      exact putOnLine_takePass p s

/-- A cell time without send entries: each port by itself (R90, R93). -/
theorem cellTime_plain (reads : MemoryReads) (a : s.trunk.a.sendList = []) (b : s.trunk.b.sendList = []) :
    cellTime reads s = { s with
      cellCount := s.cellCount + 1
      trunk := ⟨s.trunk.a.servedPlain (s.withCellCount (s.cellCount + 1)).passLeaves,
        s.trunk.b.servedPlain (s.withCellCount (s.cellCount + 1)).passLeaves⟩ } := by
  have first (p : TrunkPort) : servePort p reads (s.withCellCount (s.cellCount + 1))
      = (s.withCellCount (s.cellCount + 1)).withTrunk p
        ((s.trunk.get p).servedPlain (s.withCellCount (s.cellCount + 1)).passLeaves) :=
    servePort_plain reads (by cases p <;> assumption)
  have second (p : TrunkPort) (y : Trunk) : servePort p.other reads
      ((s.withCellCount (s.cellCount + 1)).withTrunk p y)
        = ((s.withCellCount (s.cellCount + 1)).withTrunk p y).withTrunk p.other
          ((s.trunk.get p.other).servedPlain (s.withCellCount (s.cellCount + 1)).passLeaves) := by
    rw [servePort_plain reads (by cases p <;> assumption)]
    rw [State.withTrunk_trunk, Pair.get_set_other]
    rfl
  unfold cellTime
  dsimp only
  split
  · rw [first .b]
    exact second .b _
  · rw [first .a]
    exact second .a _

/-- Settles O32: each port is served from its own queues, whichever goes first. -/
theorem aCellTimeServesEachPort : Obligations.ACellTimeServesEachPort := by
  intro reads s a b
  refine ⟨cellTime reads s, rfl, ?_⟩
  rw [cellTime_plain reads a b]
  refine ⟨rfl, (sameBut_iff_mask _ _ _).mpr rfl, fun p => ?_⟩
  have served : (Pair.mk (s.trunk.a.servedPlain (s.withCellCount (s.cellCount + 1)).passLeaves)
      (s.trunk.b.servedPlain (s.withCellCount (s.cellCount + 1)).passLeaves)).get p
      = (s.trunk.get p).servedPlain (s.withCellCount (s.cellCount + 1)).passLeaves := by cases p <;> rfl
  dsimp only
  rw [served]
  refine ⟨fun c rest bypass => ?_, fun c rest bypass control => ?_, fun q rest bypass control pass => ?_,
    fun bypass control pass => ?_⟩
  · simp only [Trunk.servedPlain, bypass]
    rfl
  · simp only [Trunk.servedPlain, bypass, control]
    rfl
  · simp only [Trunk.servedPlain, Trunk.passes, bypass, control, pass]
    rfl
  · have idles : (s.trunk.get p).servedPlain (s.withCellCount (s.cellCount + 1)).passLeaves = (s.trunk.get p).idles := by
      simp only [Trunk.servedPlain, Trunk.passes, bypass, control, pass]
    exact idles

end

end Sys2Proof.Machine
end

section
/-! PROOF. The send list's turn at a port: the entries that are cancelled in front, and what the front entry sends (R90,
R93, R95, R96). -/

namespace Sys2Proof.Machine

section
variable {s u : State} {p : TrunkPort}

/-! ### The ports a stream names (R36) -/

theorem namesPort_iff (sid : StreamId) (p : TrunkPort) :
    s.namesPort sid p ↔ s.sendRoute sid = .both ∨ s.sendRoute sid = .one p := by
  unfold State.namesPort State.sendRoute
  cases s.tables.routeDirection sid with
  | none => simp
  | both => simp
  | controller => cases s.controllerSide <;> simp
  | head =>
    cases state : s.orient.state with
    | none | conflict => simp
    | found =>
      have head : s.isHead = s.orient.candidate := by rw [State.isHead, state]; simp
      rw [head]
      cases s.orient.candidate with
      | true => simp
      | false => cases s.orient.headSide <;> simp

/-! ### Entries that do not start (R95) -/

/-- A waiting TILE entry whose stream names no port (R95). -/
def State.cancels (s : State) (e : SendEntry) : Bool :=
  !e.started && e.kind == .tile &&
    match s.sendRoute e.stream with
    | .both | .one _ => false
    | .noHead | .selfHead | .noController | .nowhere => true

/-- An entry of port `p` is not one that is to be handed to the other port. -/
def State.keeps (s : State) (p : TrunkPort) (e : SendEntry) : Prop :=
  e.started = true ∨ e.kind ≠ .tile ∨ s.namesPort e.stream p ∨ ¬ s.namesPort e.stream p.other

/-- The entries in front of a port's list that are cancelled, and those that stay (R95). -/
def State.goingFrom (s : State) (p : TrunkPort) : List SendEntry := (s.trunk.get p).sendList.takeWhile s.cancels

def State.stayingOn (s : State) (p : TrunkPort) : List SendEntry := (s.trunk.get p).sendList.dropWhile s.cancels

/-- A port whose list stands settled: entries cancelled and counted (R95). -/
def State.settledPort (s : State) (p : TrunkPort) : Trunk :=
  { s.trunk.get p with
    sendList := s.stayingOn p
    counters := (bump TrunkCounter.sendCancelled.place)^[(s.goingFrom p).length] (s.trunk.get p).counters }

/-- The state with a port's list settled: the holds of the cancelled entries have ended (R95). -/
def settled (p : TrunkPort) (s : State) : State :=
  { s with
    trunk := s.trunk.set p (s.settledPort p)
    store := s.store.endHolds ((s.goingFrom p).map (·.slot)) }

theorem cancels_of_sameBut (same : SameBut [.store, .trunk] s u) : u.cancels = s.cancels := by
  funext e
  have route : u.sendRoute e.stream = s.sendRoute e.stream := by
    have head : u.isHead = s.isHead := by rw [State.isHead, State.isHead, same .orient (by simp)]
    unfold State.sendRoute
    rw [head, same .tables (by simp), same .controllerSide (by simp), same .orient (by simp)]
  rw [State.cancels, State.cancels, route]

/-- An entry that starts in front, or has, leaves the list as it is. -/
theorem settled_of_stays {e : SendEntry} {rest : List SendEntry} (list : (s.trunk.get p).sendList = e :: rest)
    (stays : s.cancels e = false) : settled p s = s := by
  have going : s.goingFrom p = [] := by
    rw [State.goingFrom, list, List.takeWhile_cons_of_neg (by rw [stays]; decide)]
  have staying : s.stayingOn p = (s.trunk.get p).sendList := by
    rw [State.stayingOn, list, List.dropWhile_cons_of_neg (by rw [stays]; decide)]
  have port : s.settledPort p = s.trunk.get p := by
    rw [State.settledPort, going, staying]; rfl
  rw [settled, port, going]
  cases p <;> rfl

theorem settled_of_empty (empty : (s.trunk.get p).sendList = []) : settled p s = s := by
  have going : s.goingFrom p = [] := by rw [State.goingFrom, empty]; rfl
  have staying : s.stayingOn p = (s.trunk.get p).sendList := by rw [State.stayingOn, empty]; rfl
  have port : s.settledPort p = s.trunk.get p := by rw [State.settledPort, going, staying]; rfl
  rw [settled, port, going]
  cases p <;> rfl

/-- One entry in front of a port's list is cancelled: its hold ends, and it is counted (R95). -/
def cancelFront (p : TrunkPort) (e : SendEntry) (rest : List SendEntry) (s : State) : State :=
  countTrunk p .sendCancelled ((s.withSendList p rest).endHold e.slot)

theorem cancelFront_trunk (p : TrunkPort) (e : SendEntry) (rest : List SendEntry) (s : State) :
    (cancelFront p e rest s).trunk
      = s.trunk.set p ({ s.trunk.get p with sendList := rest }.counting .sendCancelled) := by
  cases p <;> rfl

theorem settled_cancelFront {e : SendEntry} {rest : List SendEntry} (list : (s.trunk.get p).sendList = e :: rest)
    (goes : s.cancels e = true) : settled p (cancelFront p e rest s) = settled p s := by
  have same : (cancelFront p e rest s).cancels = s.cancels :=
    cancels_of_sameBut ((sameBut_iff_mask _ _ _).mpr rfl)
  have port : (cancelFront p e rest s).trunk.get p
      = { s.trunk.get p with sendList := rest }.counting .sendCancelled := by
    rw [cancelFront_trunk, Pair.get_set_same]
  have going : s.goingFrom p = e :: (cancelFront p e rest s).goingFrom p := by
    rw [State.goingFrom, State.goingFrom, same, port, list, List.takeWhile_cons_of_pos goes]
    rfl
  have staying : s.stayingOn p = (cancelFront p e rest s).stayingOn p := by
    rw [State.stayingOn, State.stayingOn, same, port, list, List.dropWhile_cons_of_pos goes]
    rfl
  have whole : (cancelFront p e rest s).settledPort p = s.settledPort p := by
    rw [State.settledPort, State.settledPort, going, ← staying, port]
    rfl
  rw [settled, settled, whole, going, cancelFront_trunk, Pair.set_set]
  rfl

/-- An entry that has started, or names this port, keeps its place in front (R95). -/
theorem settleFront_stays {e : SendEntry} {rest : List SendEntry} (list : (s.trunk.get p).sendList = e :: rest)
    (stays : e.started = true ∨ e.kind ≠ .tile ∨ s.namesPort e.stream p) (n : Nat) : settleFront p n s = s := by
  cases n with
  | zero => rfl
  | succ n =>
    unfold settleFront
    rw [list]
    dsimp only
    by_cases starts : e.started = true ∨ e.kind ≠ .tile
    · rw [if_pos starts]
    · rw [if_neg starts]
      have named : s.namesPort e.stream p :=
        stays.elim (fun h => absurd (.inl h) starts) fun h => h.elim (fun h => absurd (.inr h) starts) id
      rcases (namesPort_iff e.stream p).mp named with route | route
      · rw [route]
      · rw [route]; exact if_pos rfl

theorem cancels_iff (e : SendEntry) : s.cancels e = true ↔ e.started = false ∧ e.kind = .tile
    ∧ ¬ s.namesPort e.stream .a ∧ ¬ s.namesPort e.stream .b := by
  rw [namesPort_iff, namesPort_iff, State.cancels, Bool.and_eq_true, Bool.and_eq_true, Bool.not_eq_true', beq_iff_eq,
    and_assoc]
  cases s.sendRoute e.stream with
  | one q => cases q <;> simp
  | both | noHead | selfHead | noController | nowhere => simp

theorem cancels_false {e : SendEntry} (stays : e.started = true ∨ e.kind ≠ .tile ∨ s.namesPort e.stream p) :
    s.cancels e = false := by
  rw [← Bool.not_eq_true, cancels_iff]
  rintro ⟨waits, tile, a, b⟩
  rcases stays with starts | fetch | named
  · rw [waits] at starts; cases starts
  · exact fetch tile
  · cases p with
    | a => exact a named
    | b => exact b named

theorem settleFront_cancels {e : SendEntry} {rest : List SendEntry} (list : (s.trunk.get p).sendList = e :: rest)
    (goes : s.cancels e = true) (n : Nat) : settleFront p (n + 1) s = settleFront p n (cancelFront p e rest s) := by
  obtain ⟨waits, tile, a, b⟩ := (cancels_iff e).mp goes
  conv => lhs; unfold settleFront
  rw [list]
  dsimp only
  rw [if_neg (by rw [waits, tile]; simp)]
  rw [namesPort_iff] at a b
  cases route : s.sendRoute e.stream with
  | both => exact absurd (.inl route) a
  | one q =>
    cases q with
    | a => exact absurd (.inr route) a
    | b => exact absurd (.inr route) b
  | noHead | selfHead | noController | nowhere => rfl

theorem settleFront_settled (n : Nat) (enough : (s.trunk.get p).sendList.length ≤ n)
    (keeps : ∀ e ∈ (s.trunk.get p).sendList, s.keeps p e) : settleFront p n s = settled p s := by
  induction n generalizing s with
  | zero => rw [settled_of_empty (List.length_eq_zero_iff.mp (Nat.le_zero.mp enough))]; rfl
  | succ n later =>
    cases list : (s.trunk.get p).sendList with
    | nil =>
      rw [settled_of_empty list]
      unfold settleFront
      rw [list]
    | cons e rest =>
      rw [list] at enough keeps
      by_cases goes : s.cancels e = true
      · rw [settleFront_cancels list goes, later, settled_cancelFront list goes]
        · rw [cancelFront_trunk, Pair.get_set_same]
          exact Nat.le_of_succ_le_succ enough
        · rw [cancelFront_trunk, Pair.get_set_same]
          exact fun d hd => keeps d (List.mem_cons_of_mem _ hd)
      · have stays : e.started = true ∨ e.kind ≠ .tile ∨ s.namesPort e.stream p := by
          rcases keeps e (List.mem_cons_self ..) with starts | fetch | named | away
          · exact .inl starts
          · exact .inr (.inl fetch)
          · exact .inr (.inr named)
          · by_contra none
            obtain ⟨waits, tile, here⟩ := not_or.mp none |>.imp_right not_or.mp
            refine goes ((cancels_iff e).mpr ⟨by simpa using waits, not_not.mp tile, ?_⟩)
            cases p with
            | a => exact ⟨here, away⟩
            | b => exact ⟨away, here⟩
        rw [settleFront_stays list stays, settled_of_stays list (cancels_false stays)]

/-! ### The front entry (R95, R96) -/

/-- The cell a front entry sends (R95). -/
def State.frontCell (s : State) (e : SendEntry) : Cell :=
  match e.next with
  | none => s.headCell e
  | some i =>
    let x := s.store.slots[e.slot]
    tileDataCell x.damaged e.stream x.sequence i (tileSlice x.data i)

/-- A front entry sends its last data cell (R96). -/
def SendEntry.last (e : SendEntry) : Bool :=
  match e.next with
  | none => false
  | some i => decide (e.cellCount ≤ i + 1)

/-- The list after its front entry has sent a cell (R95, R96). -/
def SendEntry.listAfter (e : SendEntry) (rest : List SendEntry) : List SendEntry :=
  match e.next with
  | none => { e with started := true, next := some 0 } :: rest
  | some i => if e.cellCount ≤ i + 1 then rest else { e with next := some (i + 1) } :: rest

/-- The store after an entry's end: its hold has ended, and its fetch (R53, R96). -/
def Store.released (st : Store) (e : SendEntry) : Store :=
  match e.kind with
  | .fetch (some k) => (st.endHold e.slot).setFetching k false
  | .tile | .fetch none => st.endHold e.slot

/-- The store after a front entry has sent a cell (R96). -/
def Store.afterFront (st : Store) (e : SendEntry) : Store := if e.last then st.released e else st

theorem releaseEntry_eq (e : SendEntry) (s : State) : releaseEntry e s = s.withStore (s.store.released e) := by
  obtain ⟨kind, slot, stream, started, next, cells⟩ := e
  cases kind with
  | tile => rfl
  | fetch k => cases k <;> rfl

/-- What a front entry does with its cell, where no read fails (R95, R96). -/
theorem sendFront_eq (p : TrunkPort) {read : Option (List Byte)} {e : SendEntry} (quiet : read = none ∨ e.next = none)
    (rest : List SendEntry) (s : State) :
    sendFront p read e rest s
      = ({ s with
          trunk := s.trunk.set p { s.trunk.get p with sendList := e.listAfter rest }
          store := s.store.afterFront e }, s.frontCell e) := by
  unfold sendFront SendEntry.listAfter State.frontCell Store.afterFront SendEntry.last
  cases next : e.next with
  | none => rfl
  | some i =>
    obtain rfl := quiet.resolve_right (by rw [next]; exact Option.some_ne_none i)
    dsimp only
    by_cases last : e.cellCount ≤ i + 1
    · rw [if_pos last, if_pos last, releaseEntry_eq, if_pos (decide_eq_true last)]
      rfl
    · rw [if_neg last, if_neg last, if_neg (by rw [decide_eq_false last]; decide)]
      rfl

/-! ### A port's cell time, whole (R90, R93, R104) -/

/-- The cell time is given to the port's send list (R93). -/
def State.listTurn (s : State) (p : TrunkPort) : Prop :=
  s.mode ≠ .bypass ∧ (s.trunk.get p).bypassPath = [] ∧ (s.trunk.get p).control = [] ∧ (s.trunk.get p).sendList ≠ []
    ∧ (s.tables.nodeParams.share ≤ (s.trunk.get p).share ∨ (s.trunk.get p).pass = [])

/-- The port after a cell time given to its send list (R95). -/
def State.listPort (s : State) (p : TrunkPort) : Trunk :=
  match s.stayingOn p with
  | [] => (s.settledPort p).passes s.passLeaves
  | e :: rest => { s.settledPort p with sendList := e.listAfter rest, share := 0 }.sends
      (sealCell ((settled p s).frontCell e))

/-- The store after a cell time given to a port's send list (R95, R96). -/
def State.listStore (s : State) (p : TrunkPort) : Store :=
  match s.stayingOn p with
  | [] => (settled p s).store
  | e :: _ => (settled p s).store.afterFront e

theorem listPort_nil (staying : s.stayingOn p = []) : s.listPort p = (s.settledPort p).passes s.passLeaves := by
  rw [State.listPort, staying]

theorem listPort_cons {e : SendEntry} {rest : List SendEntry} (staying : s.stayingOn p = e :: rest) :
    s.listPort p = { s.settledPort p with sendList := e.listAfter rest, share := 0 }.sends
      (sealCell ((settled p s).frontCell e)) := by
  rw [State.listPort, staying]

theorem listStore_nil (staying : s.stayingOn p = []) : s.listStore p = (settled p s).store := by
  rw [State.listStore, staying]

theorem listStore_cons {e : SendEntry} {rest : List SendEntry} (staying : s.stayingOn p = e :: rest) :
    s.listStore p = (settled p s).store.afterFront e := by
  rw [State.listStore, staying]

theorem arbitrate_shared {read : Option (List Byte)} (awake : s.mode ≠ .bypass)
    (bypass : (s.trunk.get p).bypassPath = []) (control : (s.trunk.get p).control = []) :
    arbitrate p read s = takeShared p read s := by
  simp only [arbitrate, bypass, control]
  exact if_neg awake

theorem servePort_list {reads : MemoryReads} (turn : s.listTurn p)
    (quiet : ∀ e rest, s.stayingOn p = e :: rest → reads.get p = none ∨ e.next = none)
    (settles : settleFront p (s.trunk.get p).sendList.length s = settled p s) :
    servePort p reads s = { s with trunk := s.trunk.set p (s.listPort p), store := s.listStore p } := by
  obtain ⟨awake, bypass, control, busy, share⟩ := turn
  have taken : takeShared p (reads.get p) s = takeSend p (reads.get p) s := by
    rw [takeShared, if_neg (by simpa using busy), if_pos share]
  have port : (settled p s).trunk.get p = s.settledPort p := by rw [settled, Pair.get_set_same]
  have list : ((settled p s).trunk.get p).sendList = s.stayingOn p := by rw [port]; rfl
  rw [servePort, arbitrate_shared awake bypass control, taken, takeSend]
  dsimp only
  rw [settles, list, State.listPort, State.listStore]
  cases staying : s.stayingOn p with
  | nil =>
    rw [putOnLine_takePass, port]
    simp only [State.withTrunk, settled, Pair.set_set]
    rfl
  | cons e rest =>
    dsimp only
    rw [sendFront_eq p (quiet e rest staying), putOnLine_some, port]
    simp only [State.withTrunk, State.withShare, settled, Pair.set_set, Pair.get_set_same]

/-- A pass-through cell goes before the send list while the share counter is below the share (R93). -/
theorem servePort_share (reads : MemoryReads) (awake : s.mode ≠ .bypass) (bypass : (s.trunk.get p).bypassPath = [])
    (control : (s.trunk.get p).control = []) (busy : (s.trunk.get p).sendList ≠ [])
    (below : ¬ (s.tables.nodeParams.share ≤ (s.trunk.get p).share ∨ (s.trunk.get p).pass = [])) :
    servePort p reads s = s.withTrunk p
      ({ s.trunk.get p with share := (s.trunk.get p).share + 1 }.passes s.passLeaves) := by
  have taken : takeShared p (reads.get p) s = takePass p (s.withShare p ((s.trunk.get p).share + 1)) := by
    rw [takeShared, if_neg (by simpa using busy), if_neg below]
  rw [servePort, arbitrate_shared awake bypass control, taken, putOnLine_takePass]
  simp only [State.withShare, State.withTrunk, Pair.set_set, Pair.get_set_same]
  rfl

end

end Sys2Proof.Machine
end

section
/-! PROOF. A cell time with send entries on one port (R93 to R96). Part of O33. -/

namespace Sys2Proof.Machine

section
variable {s u : State} {p : TrunkPort}

/-- A state in which a cell time finds port `p` as `s` has it. -/
structure SeenAt (p : TrunkPort) (s u : State) : Prop where
  port : u.trunk.get p = s.trunk.get p
  same : SameBut [.cellCount, .trunk] s u
  count : u.cellCount = s.cellCount + 1

/-- Where the other port has no send entries, a cell time leaves of port `p` and the store what serving it does. -/
theorem cellTime_one (reads : MemoryReads) (empty : (s.trunk.get p.other).sendList = []) {y : Trunk} {st : Store}
    (served : ∀ u, SeenAt p s u → servePort p reads u = { u with trunk := u.trunk.set p y, store := st }) :
    (cellTime reads s).trunk.get p = y ∧ (cellTime reads s).store = st := by
  have first : (servePort p.other reads (servePort p reads (s.withCellCount (s.cellCount + 1)))).trunk.get p = y
      ∧ (servePort p.other reads (servePort p reads (s.withCellCount (s.cellCount + 1)))).store = st := by
    rw [served (s.withCellCount (s.cellCount + 1)) ⟨rfl, (sameBut_iff_mask _ _ _).mpr rfl, rfl⟩,
      servePort_plain (p := p.other) reads (by rw [Pair.get_set_other]; exact empty)]
    exact ⟨by rw [State.withTrunk_trunk, Pair.get_set_ne _ (TrunkPort.other_ne p).symm, Pair.get_set_same], rfl⟩
  have second : (servePort p reads (servePort p.other reads (s.withCellCount (s.cellCount + 1)))).trunk.get p = y
      ∧ (servePort p reads (servePort p.other reads (s.withCellCount (s.cellCount + 1)))).store = st := by
    rw [servePort_plain (p := p.other) reads (by exact empty),
      served ((s.withCellCount (s.cellCount + 1)).withTrunk p.other _) ⟨?_, (sameBut_iff_mask _ _ _).mpr rfl, rfl⟩]
    · exact ⟨Pair.get_set_same .., rfl⟩
    · rw [State.withTrunk_trunk, Pair.get_set_ne _ (TrunkPort.other_ne p).symm]
      rfl
  unfold cellTime
  dsimp only
  cases p with
  | a => split <;> assumption
  | b => split <;> assumption

section
variable {e : SendEntry} {rest : List SendEntry} {reads : MemoryReads}

theorem SeenAt.passLeaves (seen : SeenAt p s u) : u.passLeaves = (s.withCellCount (s.cellCount + 1)).passLeaves := by
  funext q
  unfold State.passLeaves
  rw [seen.count, ← seen.same .mode (by simp)]
  rfl

theorem SeenAt.store (seen : SeenAt p s u) : u.store = s.store := (seen.same .store (by simp)).symm

theorem SeenAt.namesPort (seen : SeenAt p s u) (sid : StreamId) (q : TrunkPort) :
    u.namesPort sid q ↔ s.namesPort sid q := by
  unfold State.namesPort
  rw [seen.same .tables (by simp), seen.same .controllerSide (by simp), seen.same .orient (by simp)]

/-- A cell time given to the list of port `p`, whose front entry keeps its place (R95). -/
theorem cellTime_front (awake : s.mode ≠ .bypass) (bypass : (s.trunk.get p).bypassPath = [])
    (control : (s.trunk.get p).control = []) (list : (s.trunk.get p).sendList = e :: rest)
    (empty : (s.trunk.get p.other).sendList = []) (quiet : reads.get p = none)
    (share : (s.trunk.get p).pass = [] ∨ s.tables.nodeParams.share ≤ (s.trunk.get p).share)
    (stays : e.started = true ∨ e.kind ≠ .tile ∨ s.namesPort e.stream p) :
    (cellTime reads s).trunk.get p = { s.trunk.get p with sendList := e.listAfter rest, share := 0 }.sends
        (sealCell (s.frontCell e))
      ∧ (cellTime reads s).store = s.store.afterFront e := by
  refine cellTime_one reads empty fun u seen => ?_
  have stays' : e.started = true ∨ e.kind ≠ .tile ∨ u.namesPort e.stream p := by rw [seen.namesPort]; exact stays
  have list' : (u.trunk.get p).sendList = e :: rest := by rw [seen.port]; exact list
  have settledU : settled p u = u := settled_of_stays list' (cancels_false stays')
  have turn : u.listTurn p := by
    rw [State.listTurn, seen.port, ← seen.same .mode (by simp), ← seen.same .tables (by simp), list]
    exact ⟨awake, bypass, control, by simp, share.symm⟩
  have port : u.settledPort p = s.trunk.get p := by
    have same := congrArg (fun t : State => t.trunk.get p) settledU
    rw [← seen.port, ← same]
    exact (Pair.get_set_same ..).symm
  have staying : u.stayingOn p = e :: rest := by
    rw [State.stayingOn, list', List.dropWhile_cons_of_neg (by rw [cancels_false stays']; decide)]
  have cell : u.frontCell e = s.frontCell e := by
    have time : u.nodeTime = s.nodeTime := (seen.same .nodeTime (by simp)).symm
    unfold State.frontCell State.headCell State.entryAge
    rw [seen.store, time]
  rw [servePort_list turn (fun _ _ _ => .inl quiet) (by rw [settledU]; exact settleFront_stays list' stays' _), listPort_cons staying,
    listStore_cons staying, port, settledU, cell, seen.store]

theorem theSendListSharesTheLine : Claim.TheSendListSharesTheLine := by
  intro p e rest reads s
  dsimp only
  intro awake bypass control list empty quiet
  refine ⟨fun q more pass below => ?_, fun r st share waits fresh record stamp stays => ?_,
    fun r i share started next more record => ?_⟩
  · obtain ⟨port, store⟩ := cellTime_one (s := s) (p := p) reads empty (st := s.store)
      (y := { s.trunk.get p with share := (s.trunk.get p).share + 1 }.passes
        (s.withCellCount (s.cellCount + 1)).passLeaves) fun u seen => by
      rw [servePort_share reads (by rw [← seen.same .mode (by simp)]; exact awake) (by rw [seen.port]; exact bypass)
        (by rw [seen.port]; exact control) (by rw [seen.port, list]; simp)
        (by rw [seen.port, ← seen.same .tables (by simp), pass]; simpa using below), seen.port, seen.passLeaves,
        ← seen.store]
      rfl
    refine ⟨_, rfl, ?_, store⟩
    rw [port, Trunk.passes, pass]
  · have named : e.started = true ∨ e.kind ≠ .tile ∨ s.namesPort e.stream p := by
      rw [namesPort_iff, or_comm (a := s.sendRoute e.stream = .both)]
      exact .inr stays
    obtain ⟨port, store⟩ := cellTime_front awake bypass control list empty quiet share named
    refine ⟨_, rfl, ?_, ?_⟩
    · rw [port]
      have cell : s.frontCell e = tileHeadCell e.stream r st (min 65535 (s.entryAge e)) := by
        simp only [State.frontCell, fresh, State.headCell, record, stamp]
      have age : s.entryAge e = ageInRange (match st.base with
          | .captured c => (s.nodeTime - c).toNat + 1
          | .arrived age a => age + (s.nodeTime - a).toNat + 2) := by
        simp only [State.entryAge, Slot.ageAt, record, Option.bind_some, stamp, AgeBase.ageAt]
        cases st.base <;> rfl
      have after : e.listAfter rest = { e with started := true, next := some 0 } :: rest := by
        rw [SendEntry.listAfter, fresh]
      rw [cell, after]
      exact congrArg (fun n => Trunk.sends _ (sealCell (tileHeadCell e.stream r st (min 65535 n)))) age
    · rw [store, Store.afterFront, SendEntry.last, fresh]
      rfl
  · obtain ⟨port, store⟩ := cellTime_front awake bypass control list empty quiet share (.inl started)
    refine ⟨_, rfl, ?_, ?_⟩
    · have cell : s.frontCell e = tileDataCell (s.store.slots[e.slot]).damaged e.stream r.sequence i
          (padTo 54 (((s.store.slots[e.slot]).data.drop (54 * i)).take 54)) := by
        simp only [State.frontCell, next, Slot.sequence, record]
        rfl
      rw [port, cell, SendEntry.listAfter, next]
      dsimp only
      rw [if_neg (Nat.not_le.mpr more)]
    · rw [store, Store.afterFront, SendEntry.last, next, if_neg]
      simpa using more

theorem Trunk.sends_list (y : Trunk) (c : Cell) : (y.sends c).sendList = y.sendList ∧ (y.sends c).share = y.share := by
  unfold Trunk.sends
  split <;> exact ⟨rfl, rfl⟩

theorem aSendEntryEndsWithItsLastCell : Claim.ASendEntryEndsWithItsLastCell := by
  intro p e rest i reads s
  dsimp only
  intro awake bypass control list empty quiet share started next last
  obtain ⟨port, store⟩ := cellTime_front awake bypass control list empty quiet share (.inl started)
  have after : e.listAfter rest = rest := by
    rw [SendEntry.listAfter, next]
    exact if_pos (Nat.le_of_eq last)
  have final : s.store.afterFront e = s.store.released e := by
    rw [Store.afterFront, SendEntry.last, next, if_pos (decide_eq_true (Nat.le_of_eq last))]
  have ends : s.entryEnds p = true := by
    have other : (s.mode != .bypass) = true := bne_iff_ne.mpr awake
    simp only [State.entryEnds, bypass, control, list, started, next, last, other]
    simpa using share
  rw [after] at port
  rw [final] at store
  refine ⟨cellTime reads s, congrArg _ (if_pos ends), rfl, ?_, ?_, fun r record => ?_, fun kind => ?_, fun k kind => ?_⟩
  · rw [port, (Trunk.sends_list _ _).1]
  · rw [port, (Trunk.sends_list _ _).2]
  · have cell : s.frontCell e = tileDataCell (s.store.slots[e.slot]).damaged e.stream r.sequence i
        (padTo 54 (((s.store.slots[e.slot]).data.drop (54 * i)).take 54)) := by
      simp only [State.frontCell, next, Slot.sequence, record]
      rfl
    rw [port, cell]
  · rw [store, Store.released]
    rcases kind with kind | kind <;> rw [kind]
  · rw [store, Store.released, kind]
    rfl

end

end

end Sys2Proof.Machine
end

section
/-! PROOF. A front entry that does not start at its port: cancelled, or handed to the other port (R95). Part of O33. -/

namespace Sys2Proof.Machine

section
variable {s u : State} {p : TrunkPort} {e : SendEntry} {rest : List SendEntry} {reads : MemoryReads}

theorem cancels_of_away (waits : e.started = false) (tile : e.kind = .tile) (here : ¬ s.namesPort e.stream p)
    (there : ¬ s.namesPort e.stream p.other) : s.cancels e = true := by
  refine (cancels_iff e).mpr ⟨waits, tile, ?_⟩
  cases p with
  | a => exact ⟨here, there⟩
  | b => exact ⟨there, here⟩

theorem SeenAt.cancels (seen : SeenAt p s u) : u.cancels = s.cancels := by
  funext e
  rw [Bool.eq_iff_iff, cancels_iff, cancels_iff, seen.namesPort, seen.namesPort]

/-- The list after the one entry in front that is cancelled. -/
theorem cancelFront_list (list : (s.trunk.get p).sendList = e :: rest) (goes : s.cancels e = true)
    (next : ∀ d more, rest = d :: more → s.cancels d = false) :
    s.goingFrom p = [e] ∧ s.stayingOn p = rest := by
  rw [State.goingFrom, State.stayingOn, list, List.takeWhile_cons_of_pos goes, List.dropWhile_cons_of_pos goes]
  cases rest with
  | nil => exact ⟨rfl, rfl⟩
  | cons d more =>
    have stays := next d more rfl
    rw [List.takeWhile_cons_of_neg (by rw [stays]; decide), List.dropWhile_cons_of_neg (by rw [stays]; decide)]
    exact ⟨rfl, rfl⟩

/-- The port's list as one cancelled entry leaves it, where the next entry, if any, keeps its place. -/
theorem settleFront_one (list : (s.trunk.get p).sendList = e :: rest) (goes : s.cancels e = true)
    (next : ∀ d more, rest = d :: more → d.started = true ∨ d.kind ≠ .tile ∨ s.namesPort d.stream p) :
    settleFront p (s.trunk.get p).sendList.length s = settled p s := by
  have left : ((cancelFront p e rest s).trunk.get p).sendList = rest := by
    rw [cancelFront_trunk, Pair.get_set_same]; rfl
  rw [list, List.length_cons, settleFront_cancels list goes, ← settled_cancelFront list goes]
  cases rest with
  | nil => rw [settled_of_empty left]; rfl
  | cons d more =>
    have stays := next d more rfl
    rw [settleFront_stays left stays, settled_of_stays left (cancels_false (p := p) stays)]

theorem settledPort_one (list : (s.trunk.get p).sendList = e :: rest) (goes : s.cancels e = true)
    (next : ∀ d more, rest = d :: more → s.cancels d = false) :
    s.settledPort p = { s.trunk.get p with
      sendList := rest
      counters := (s.trunk.get p).counters.set 8 (increment (s.trunk.get p).counters[(8 : Fin 9)]) } := by
  obtain ⟨going, staying⟩ := cancelFront_list list goes next
  rw [State.settledPort, going, staying]
  rfl

/-- A cell time at a port whose front entry is cancelled, where the next one, if any, starts (R95). -/
theorem cellTime_cancels (awake : s.mode ≠ .bypass) (bypass : (s.trunk.get p).bypassPath = [])
    (control : (s.trunk.get p).control = []) (list : (s.trunk.get p).sendList = e :: rest)
    (empty : (s.trunk.get p.other).sendList = [])
    (share : (s.trunk.get p).pass = [] ∨ s.tables.nodeParams.share ≤ (s.trunk.get p).share)
    (goes : s.cancels e = true)
    (next : ∀ d more, rest = d :: more → (d.kind ≠ .tile ∨ s.namesPort d.stream p) ∧ d.next = none) :
    let left : Trunk := { s.trunk.get p with
      sendList := rest
      counters := (s.trunk.get p).counters.set 8 (increment (s.trunk.get p).counters[(8 : Fin 9)]) }
    (cellTime reads s).store = s.store.endHold e.slot
      ∧ (rest = [] → (cellTime reads s).trunk.get p = left.passes (s.withCellCount (s.cellCount + 1)).passLeaves)
      ∧ (∀ d more, rest = d :: more → (cellTime reads s).trunk.get p = { left with
        sendList := { d with started := true, next := some 0 } :: more, share := 0 }.sends
          (sealCell (({ s with store := s.store.endHold e.slot } : State).headCell d))) := by
  intro left
  have serve (u : State) (seen : SeenAt p s u) : servePort p reads u = { u with
        trunk := u.trunk.set p (u.listPort p), store := u.listStore p }
      ∧ u.settledPort p = left ∧ u.stayingOn p = rest ∧ (settled p u).store = s.store.endHold e.slot := by
    have goes' : u.cancels e = true := by rw [seen.cancels]; exact goes
    have list' : (u.trunk.get p).sendList = e :: rest := by rw [seen.port]; exact list
    have stays (d : SendEntry) (more : List SendEntry) (h : rest = d :: more) :
        d.started = true ∨ d.kind ≠ .tile ∨ u.namesPort d.stream p := by
      rw [seen.namesPort]; exact .inr (next d more h).1
    have stays' (d : SendEntry) (more : List SendEntry) (h : rest = d :: more) : u.cancels d = false :=
      cancels_false (stays d more h)
    have turn : u.listTurn p := by
      rw [State.listTurn, seen.port, ← seen.same .mode (by simp), ← seen.same .tables (by simp), list]
      exact ⟨awake, bypass, control, by simp, share.symm⟩
    obtain ⟨going, staying⟩ := cancelFront_list list' goes' stays'
    refine ⟨servePort_list turn (fun d more h => .inr (next d more (staying ▸ h)).2)
      (settleFront_one list' goes' stays), ?_, staying, ?_⟩
    · rw [settledPort_one list' goes' stays', seen.port]
    · show u.store.endHolds _ = _
      rw [going, seen.store]
      rfl
  cases rest with
  | nil =>
    obtain ⟨port, store⟩ := cellTime_one (s := s) (p := p) reads empty (st := s.store.endHold e.slot)
      (y := left.passes (s.withCellCount (s.cellCount + 1)).passLeaves) fun u seen => by
        obtain ⟨served, port, staying, store⟩ := serve u seen
        rw [served, listPort_nil staying, listStore_nil staying, port, store, seen.passLeaves]
    exact ⟨store, fun _ => port, fun d more h => by cases h⟩
  | cons d more =>
    obtain ⟨stays, fresh⟩ := next d more rfl
    obtain ⟨port, store⟩ := cellTime_one (s := s) (p := p) reads empty (st := s.store.endHold e.slot)
      (y := { left with sendList := { d with started := true, next := some 0 } :: more, share := 0 }.sends
          (sealCell (({ s with store := s.store.endHold e.slot } : State).headCell d))) fun u seen => by
        obtain ⟨served, port, staying, store⟩ := serve u seen
        have cell : (settled p u).frontCell d = ({ s with store := s.store.endHold e.slot } : State).headCell d := by
          have time : (settled p u).nodeTime = s.nodeTime := (seen.same .nodeTime (by simp)).symm
          simp only [State.frontCell, fresh, State.headCell, State.entryAge, store, time]
        have after : d.listAfter more = { d with started := true, next := some 0 } :: more := by
          rw [SendEntry.listAfter, fresh]
        have kept : (settled p u).store.afterFront d = s.store.endHold e.slot := by
          rw [Store.afterFront, SendEntry.last, fresh, store]; rfl
        rw [served, listPort_cons staying, listStore_cons staying, port, cell, after, kept]
    refine ⟨store, fun h => absurd h (List.cons_ne_nil _ _), fun d' more' h => ?_⟩
    obtain ⟨rfl, rfl⟩ := List.cons.inj h
    exact port

theorem Trunk.passes_cons {x : Trunk} {q : PassCell} {more : List PassCell} (pass : x.pass = q :: more)
    (leaves : PassCell → Cell) : x.passes leaves = { x with pass := more }.sends (leaves q) := by
  rw [Trunk.passes, pass]

theorem Trunk.passes_nil {x : Trunk} (pass : x.pass = []) (leaves : PassCell → Cell) : x.passes leaves = x.idles := by
  rw [Trunk.passes, pass]

/-! ### An entry handed to the other port -/

/-- A trunk port as an entry handed to it leaves it: its list, and the entry counted that had no place (R95). -/
def Trunk.handedTo (x : Trunk) (l : List SendEntry) (skips : Bool) : Trunk :=
  { x with sendList := l, counters := if skips then bump TrunkCounter.sendSkipped.place x.counters else x.counters }

/-- What a handed entry does is read from the list it is handed to, the store and node time (R95). -/
theorem takeHanded_acts (q : TrunkPort) (e : SendEntry) (l : List SendEntry) (st : Store) (t : NodeTime) :
    ∃ l' skips st', ∀ v : State, (v.trunk.get q).sendList = l → v.store = st → v.nodeTime = t →
      takeHanded q e v = { v with trunk := v.trunk.set q ((v.trunk.get q).handedTo l' skips), store := st' } := by
  have stands (v : State) : v.trunk.get q = (v.trunk.get q).handedTo (v.trunk.get q).sendList false := rfl
  cases found : l.find? (·.waitsFor e.stream) with
  | none =>
    by_cases room : l.length < 8
    · refine ⟨l ++ [e], false, st, fun v list store time => ?_⟩
      subst list store time
      simp only [takeHanded, found]
      exact if_pos room
    · refine ⟨l, true, st.endHold e.slot, fun v list store time => ?_⟩
      subst list store time
      simp only [takeHanded, found]
      exact if_neg room
  | some w =>
    by_cases tile : w.kind = .tile
    · by_cases older : (st.slots[e.slot]).ageAt t ≤ (st.slots[w.slot]).ageAt t
      · refine ⟨putWaiting e.stream e l, false, st.endHold w.slot, fun v list store time => ?_⟩
        subst list store time
        simp only [takeHanded, found]
        rw [if_pos tile]
        exact if_pos older
      · refine ⟨l, false, st.endHold e.slot, fun v list store time => ?_⟩
        subst list store time
        have same : v.trunk = v.trunk.set q (v.trunk.get q) := by cases q <;> rfl
        simp only [takeHanded, found]
        rw [if_pos tile, if_neg (by exact older), ← stands, ← same]
        rfl
    · refine ⟨l, true, st.endHold e.slot, fun v list store time => ?_⟩
      subst list store time
      simp only [takeHanded, found]
      exact if_neg tile

/-- A cell time at a port whose one entry is handed to the other: past its empty list to the pass-through queue. -/
theorem servePort_hands (awake : s.mode ≠ .bypass) (bypass : (s.trunk.get p).bypassPath = [])
    (control : (s.trunk.get p).control = []) (list : (s.trunk.get p).sendList = [e])
    (share : (s.trunk.get p).pass = [] ∨ s.tables.nodeParams.share ≤ (s.trunk.get p).share) (waits : e.started = false)
    (tile : e.kind = .tile) (here : ¬ s.namesPort e.stream p) (there : s.namesPort e.stream p.other) {l : List SendEntry}
    {skips : Bool} {st : Store}
    (acts : takeHanded p.other e (s.withSendList p []) = { s.withSendList p [] with
      trunk := (s.withSendList p []).trunk.set p.other (((s.withSendList p []).trunk.get p.other).handedTo l skips)
      store := st }) :
    servePort p reads s = { s with
      trunk := (s.trunk.set p ({ s.trunk.get p with sendList := [] }.passes s.passLeaves)).set p.other
        ((s.trunk.get p.other).handedTo l skips)
      store := st } := by
  have away : ¬ (e.started = true ∨ e.kind ≠ .tile) := by rw [waits, tile]; simp
  have route : s.sendRoute e.stream = .one p.other := by
    rw [namesPort_iff] at here there
    exact there.resolve_left fun both => here (.inl both)
  have handed : settleFront p (s.trunk.get p).sendList.length s = takeHanded p.other e (s.withSendList p []) := by
    rw [list, List.length_singleton]
    conv => lhs; unfold settleFront
    rw [list]
    dsimp only
    rw [if_neg away, route]
    dsimp only
    rw [if_neg (TrunkPort.other_ne p)]
    rfl
  have port : (takeHanded p.other e (s.withSendList p [])).trunk.get p = { s.trunk.get p with sendList := [] } := by
    rw [acts]
    show ((s.withSendList p []).trunk.set p.other _).get p = _
    rw [Pair.get_set_ne _ (TrunkPort.other_ne p).symm]
    exact Pair.get_set_same ..
  have taken : takeShared p (reads.get p) s = takePass p (takeHanded p.other e (s.withSendList p [])) := by
    rw [takeShared, if_neg (by rw [list]; exact Bool.false_ne_true), if_pos share.symm, takeSend]
    dsimp only
    rw [handed, port]
  have leaves : (takeHanded p.other e (s.withSendList p [])).passLeaves = s.passLeaves := by rw [acts]; rfl
  rw [servePort, arbitrate_shared awake bypass control, taken, putOnLine_takePass, port, leaves, acts]
  cases p <;> rfl

theorem servePort_control {c : Cell} {more : List Cell} (bypass : (s.trunk.get p).bypassPath = [])
    (control : (s.trunk.get p).control = c :: more) :
    servePort p reads s = s.withTrunk p ({ s.trunk.get p with control := more }.sends (sealCell c)) := by
  unfold servePort arbitrate
  simp only [bypass, control]
  rw [putOnLine_some]
  simp only [State.withTrunk, Pair.get_set_same, Pair.set_set]

theorem Trunk.sends_counters (y : Trunk) (c : Cell) {i : Fin 9} (other : i ≠ if y.link = .up then 1 else 4) :
    (y.sends c).counters[i] = y.counters[i] := by
  unfold Trunk.sends
  split
  next up => rw [if_pos up] at other; exact getElem_set_ne y.counters (i := 1) other.symm _
  next down => rw [if_neg down] at other; exact getElem_set_ne y.counters (i := 4) other.symm _

/-- What a cell time leaves where the one entry of port `p` is handed to the other port, which sends a control cell. -/
structure HandedOver (p : TrunkPort) (s : State) (c : Cell) (more : List Cell) (l : List SendEntry) (skips : Bool)
    (st : Store) (t : State) : Prop where
  port : t.trunk.get p
    = { s.trunk.get p with sendList := [] }.passes (s.withCellCount (s.cellCount + 1)).passLeaves
  store : t.store = st
  list : (t.trunk.get p.other).sendList = l
  counters : ∀ i : Fin 9, i ≠ (if (s.trunk.get p.other).link = .up then 1 else 4) →
    (t.trunk.get p.other).counters[i] = ((s.trunk.get p.other).handedTo l skips).counters[i]

theorem aFrontEntryIsCancelledOrHandedOver : Claim.AFrontEntryIsCancelledOrHandedOver := by
  intro p e rest reads s
  dsimp only
  intro awake bypass control list share waits tile here
  refine ⟨fun there single empty => ?_, fun d more there next empty waits' fresh stays => ?_,
    fun c more there single bypass' control' => ?_⟩
  · subst single
    obtain ⟨store, port, -⟩ := cellTime_cancels (reads := reads) awake bypass control list empty share
      (cancels_of_away waits tile here there) fun d more h => by cases h
    exact ⟨_, rfl, store, fun pass => (port rfl).trans (Trunk.passes_nil (by exact pass) _),
      fun q more pass => (port rfl).trans (Trunk.passes_cons (by exact pass) _)⟩
  · obtain ⟨store, -, port⟩ := cellTime_cancels (reads := reads) awake bypass control list empty share
      (cancels_of_away waits tile here there) fun d' more' h => by
        obtain ⟨rfl, rfl⟩ := List.cons.inj (next.symm.trans h)
        exact ⟨stays, fresh⟩
    exact ⟨_, rfl, store, port d more next⟩
  · subst single
    obtain ⟨l, skips, st, acts⟩ := takeHanded_acts p.other e (s.trunk.get p.other).sendList s.store s.nodeTime
    have handed := acts { s with trunk := s.trunk.set p { s.trunk.get p with sendList := [] } }
      (by rw [Pair.get_set_other]) rfl rfl
    have hands (u : State) (seen : SeenAt p s u)
        (other : (u.trunk.get p.other).sendList = (s.trunk.get p.other).sendList) :=
      servePort_hands (s := u) (reads := reads) (by rw [← seen.same .mode (by simp)]; exact awake)
        (by rw [seen.port]; exact bypass) (by rw [seen.port]; exact control) (by rw [seen.port]; exact list)
        (by rw [seen.port, ← seen.same .tables (by simp)]; exact share) waits tile
        (by rw [seen.namesPort]; exact here) (by rw [seen.namesPort]; exact there)
        (acts (u.withSendList p []) (by rw [State.withSendList, State.withTrunk_trunk, Pair.get_set_other, other])
          (seen.store) (seen.same .nodeTime (by simp)).symm)
    have away := (TrunkPort.other_ne p).symm
    have first : HandedOver p s c more l skips st
        (servePort p.other reads (servePort p reads (s.withCellCount (s.cellCount + 1)))) := by
      rw [hands (s.withCellCount (s.cellCount + 1)) ⟨rfl, (sameBut_iff_mask _ _ _).mpr rfl, rfl⟩ rfl,
        servePort_control (p := p.other) (c := c) (more := more) (by rw [Pair.get_set_same]; exact bypass')
          (by rw [Pair.get_set_same]; exact control')]
      refine ⟨?_, rfl, ?_, fun i other => ?_⟩
      · rw [State.withTrunk_trunk, Pair.get_set_ne _ away, Pair.get_set_ne _ away, Pair.get_set_same]
        rfl
      · rw [State.withTrunk_trunk, Pair.get_set_same, (Trunk.sends_list _ _).1, Pair.get_set_same]
        rfl
      · rw [State.withTrunk_trunk, Pair.get_set_same, Trunk.sends_counters, Pair.get_set_same]
        · rfl
        · rw [Pair.get_set_same]; exact other
    have second : HandedOver p s c more l skips st
        (servePort p reads (servePort p.other reads (s.withCellCount (s.cellCount + 1)))) := by
      rw [servePort_control (s := s.withCellCount (s.cellCount + 1)) (p := p.other) (c := c) (more := more) bypass'
        control', State.withCellCount_trunk]
      generalize sent : { s.trunk.get p.other with control := more }.sends (sealCell c) = y
      have same : ((s.withCellCount (s.cellCount + 1)).withTrunk p.other y).trunk.get p = s.trunk.get p := by
        rw [State.withTrunk_trunk, Pair.get_set_ne _ away]; rfl
      have list' : y.sendList = (s.trunk.get p.other).sendList := by rw [← sent, (Trunk.sends_list _ _).1]
      rw [hands ((s.withCellCount (s.cellCount + 1)).withTrunk p.other y)
        ⟨same, (sameBut_iff_mask _ _ _).mpr rfl, rfl⟩ (by rw [State.withTrunk_trunk, Pair.get_set_same, list'])]
      refine ⟨?_, rfl, ?_, fun i other => ?_⟩
      · rw [Pair.get_set_ne _ away, Pair.get_set_same, same]
        rfl
      · rw [Pair.get_set_same]; rfl
      · have stands (j : Fin 9) (h : j ≠ if (s.trunk.get p.other).link = .up then 1 else 4) :
            y.counters[j] = (s.trunk.get p.other).counters[j] := by
          rw [← sent]
          exact Trunk.sends_counters { s.trunk.get p.other with control := more } (sealCell c) h
        rw [Pair.get_set_same, State.withTrunk_trunk, Pair.get_set_same]
        show (if skips then bump _ y.counters else y.counters)[i] = (if skips then bump _ _ else _)[i]
        rw [getElem_ite_bump, getElem_ite_bump, stands i other]
    have whole : HandedOver p s c more l skips st (cellTime reads s) := by
      unfold cellTime
      dsimp only
      cases p with
      | a => split <;> assumption
      | b => split <;> assumption
    rw [handed]
    refine ⟨cellTime reads s, rfl, whole.store, ?_, fun i other => ?_, fun pass => ?_, fun q more pass => ?_⟩
    · rw [whole.list, Pair.get_set_same]; rfl
    · rw [whole.counters i other, Pair.get_set_same, Pair.get_set_other]
    · exact whole.port.trans (Trunk.passes_nil (by exact pass) _)
    · exact whole.port.trans (Trunk.passes_cons (by exact pass) _)

end

end Sys2Proof.Machine
end

section
/-! PROOF. Entries on both send lists: the two ports are served apart, in either order (R90, R95, R96). Settles O33. -/

namespace Sys2Proof.Machine

section
variable {s t u v : State} {p : TrunkPort} {reads : MemoryReads}

/-! ### What a port's cell time does to the store -/

/-- Holds that end, and a fetch that ends with the last of them (R53, R96). -/
def Store.closing (st : Store) (ends : List SlotNo) (k : Option (Fin 4)) : Store :=
  match k with
  | none => st.endHolds ends
  | some k => (st.endHolds ends).setFetching k false

theorem Store.endHolds_cons (st : Store) (i : SlotNo) (is : List SlotNo) :
    st.endHolds (i :: is) = (st.endHold i).endHolds is := rfl

theorem Store.endHolds_append (st : Store) (is js : List SlotNo) :
    st.endHolds (is ++ js) = (st.endHolds is).endHolds js := List.foldl_append ..

theorem Store.endHold_slots (st : Store) (i j : SlotNo) :
    (st.endHold i).slots[j] = if j = i then (st.slots[j]).endHold else st.slots[j] := by
  by_cases same : j = i
  · rw [if_pos same, same]; exact setSlot_same ..
  · rw [if_neg same]; exact setSlot_other same ..

theorem Store.endHold_comm (st : Store) (i j : SlotNo) : (st.endHold i).endHold j = (st.endHold j).endHold i := by
  by_cases same : i = j
  · rw [same]
  · have one : (st.endHold i).slots[j] = st.slots[j] := by rw [Store.endHold_slots, if_neg (Ne.symm same)]
    have two : (st.endHold j).slots[i] = st.slots[i] := by rw [Store.endHold_slots, if_neg same]
    rw [Store.endHold, Store.endHold.eq_1 (st.endHold j), one, two]
    simp only [Store.endHold, Store.setSlot]
    rw [Vector.set_comm _ _ (fun e => same (Fin.ext e))]

theorem Store.endHolds_endHold (st : Store) (is : List SlotNo) (j : SlotNo) :
    (st.endHolds is).endHold j = (st.endHold j).endHolds is := by
  induction is generalizing st with
  | nil => rfl
  | cons i is later => rw [Store.endHolds_cons, later, Store.endHold_comm, Store.endHolds_cons]

theorem Store.endHolds_comm (st : Store) (is js : List SlotNo) :
    (st.endHolds is).endHolds js = (st.endHolds js).endHolds is := by
  induction js generalizing st with
  | nil => rfl
  | cons j js later => rw [Store.endHolds_cons, Store.endHolds_endHold, later, Store.endHolds_cons]

theorem Store.setFetching_endHolds (st : Store) (k : Fin 4) (b : Bool) (is : List SlotNo) :
    (st.setFetching k b).endHolds is = (st.endHolds is).setFetching k b := by
  induction is generalizing st with
  | nil => rfl
  | cons i is later => exact later (st.endHold i)

theorem Store.setFetching_comm (st : Store) (j k : Fin 4) :
    (st.setFetching j false).setFetching k false = (st.setFetching k false).setFetching j false := by
  by_cases same : j = k
  · rw [same]
  · have one : (st.setFetching j false).evidence[k] = st.evidence[k] := getElem_set_ne _ same _
    have two : (st.setFetching k false).evidence[j] = st.evidence[j] := getElem_set_ne _ (Ne.symm same) _
    rw [Store.setFetching, Store.setFetching.eq_1 (st.setFetching k false), one, two]
    simp only [Store.setFetching]
    rw [Vector.set_comm _ _ (fun e => same (Fin.ext e))]

/-- What two ports do to the store comes to the same in either order. -/
theorem Store.closing_comm (st : Store) (is js : List SlotNo) (j k : Option (Fin 4)) :
    (st.closing is j).closing js k = (st.closing js k).closing is j := by
  cases j <;> cases k
  all_goals
    simp only [Store.closing, Store.setFetching_endHolds, Store.endHolds_comm st is js]
  exact Store.setFetching_comm ..

/-! ### What a slot shows while it is held -/

/-- What a cell of a slot's tile is made of. -/
def Slot.shows (x y : Slot) : Prop := y.record = x.record ∧ y.damaged = x.damaged ∧ y.data = x.data

theorem Slot.shows.trans {x y z : Slot} (h : x.shows y) (k : y.shows z) : x.shows z :=
  ⟨k.1.trans h.1, k.2.1.trans h.2.1, k.2.2.trans h.2.2⟩

theorem Slot.endHold_holders (x : Slot) : x.endHold.holders = x.holders - 1 := by
  rcases endHold_cases x with ⟨free, e⟩ | ⟨one, -, e⟩ | ⟨-, -, e⟩
  · rw [e, free]
  · rw [e, one]
    rcases rest_cases { x with holders := 0 } with ⟨-, e⟩ | ⟨-, e⟩ <;> rw [e] <;> rfl
  · rw [e]

/-- A slot that another hold keeps shows the same after one has ended. -/
theorem Slot.endHold_shows {x : Slot} (held : 1 < x.holders) : x.shows x.endHold := by
  rcases endHold_cases x with ⟨free, -⟩ | ⟨one, -⟩ | ⟨-, -, e⟩
  · omega
  · omega
  · rw [e]; exact ⟨rfl, rfl, rfl⟩

theorem Store.endHolds_holders (st : Store) (is : List SlotNo) (i : SlotNo) :
    ((st.endHolds is).slots[i]).holders = (st.slots[i]).holders - is.count i := by
  induction is generalizing st with
  | nil => rfl
  | cons j is later =>
    rw [Store.endHolds_cons, later, Store.endHold_slots, List.count_cons]
    by_cases same : i = j
    · rw [if_pos same, Slot.endHold_holders, same, if_pos (beq_self_eq_true j)]; omega
    · rw [if_neg same, if_neg (by simpa using Ne.symm same)]; omega

theorem Store.endHolds_shows {st : Store} {is : List SlotNo} {i : SlotNo} (held : is.count i < (st.slots[i]).holders) :
    (st.slots[i]).shows (st.endHolds is).slots[i] := by
  induction is generalizing st with
  | nil => exact ⟨rfl, rfl, rfl⟩
  | cons j is later =>
    rw [List.count_cons] at held
    have first : (st.slots[i]).shows (st.endHold j).slots[i] := by
      rw [Store.endHold_slots]
      by_cases same : i = j
      · rw [if_pos same]
        rw [same, if_pos (beq_self_eq_true j)] at held
        exact Slot.endHold_shows (by rw [same]; omega)
      · rw [if_neg same]; exact ⟨rfl, rfl, rfl⟩
    refine first.trans (later ?_)
    rw [Store.endHold_slots]
    by_cases same : i = j
    · rw [if_pos same, Slot.endHold_holders]
      rw [same, if_pos (beq_self_eq_true j)] at held
      rw [same]; omega
    · rw [if_neg same]
      rw [if_neg (by simpa using Ne.symm same)] at held
      exact held

theorem Store.closing_slots (st : Store) (is : List SlotNo) (k : Option (Fin 4)) :
    (st.closing is k).slots = (st.endHolds is).slots := by cases k <;> rfl

/-! ### A port's cell time, as it is read from the port and the store -/

/-- A state in which a port's cell time finds the port as `s` has it, whatever the store and the other port. -/
structure NearAt (p : TrunkPort) (s v : State) : Prop where
  port : v.trunk.get p = s.trunk.get p
  same : SameBut [.store, .trunk] s v

/-- What a port's cell time does, read from the store it finds: the port it leaves, the holds that end, and the fetch. -/
structure Serves (p : TrunkPort) (s : State) (reads : MemoryReads) (leaves : Store → Trunk) (ends : List SlotNo)
    (k : Option (Fin 4)) : Prop where
  acts : ∀ v : State, NearAt p s v → servePort p reads v
    = { v with trunk := v.trunk.set p (leaves v.store), store := v.store.closing ends k }
  within : ∀ i, ends.count i ≤ ((s.trunk.get p).sendList.map (·.slot)).count i
  shown : ∀ st st' : Store, (∀ e ∈ (s.trunk.get p).sendList, (st.slots[e.slot]).shows st'.slots[e.slot]
    ∧ ((s.trunk.get p).sendList.map (·.slot)).count e.slot ≤ (st.slots[e.slot]).holders
    ∧ ((s.trunk.get p).sendList.map (·.slot)).count e.slot ≤ (st'.slots[e.slot]).holders) → leaves st' = leaves st

/-- A port that changes nothing but itself. -/
theorem serves_plain {y : Trunk} (acts : ∀ v, NearAt p s v → servePort p reads v = v.withTrunk p y) :
    Serves p s reads (fun _ => y) [] none :=
  ⟨acts, fun _ => Nat.zero_le _, fun _ _ _ => rfl⟩

/-- The state with another store. -/
def State.onStore (s : State) (st : Store) : State := { s with store := st }

theorem frontCell_congr {e : SendEntry} (time : v.nodeTime = u.nodeTime)
    (shows : (u.store.slots[e.slot]).shows v.store.slots[e.slot]) : v.frontCell e = u.frontCell e := by
  obtain ⟨record, damaged, data⟩ := shows
  have age : v.entryAge e = u.entryAge e := by rw [State.entryAge, State.entryAge, Slot.ageAt, Slot.ageAt, record, time]
  simp only [State.frontCell, State.headCell, Slot.sequence, record, damaged, data, age]

section
variable (near : NearAt p s v)
include near

theorem NearAt.namesPort (sid : StreamId) (q : TrunkPort) : v.namesPort sid q ↔ s.namesPort sid q := by
  unfold State.namesPort
  rw [near.same .tables (by simp), near.same .controllerSide (by simp), near.same .orient (by simp)]

theorem NearAt.lists : v.goingFrom p = s.goingFrom p ∧ v.stayingOn p = s.stayingOn p := by
  rw [State.goingFrom, State.stayingOn, State.goingFrom, State.stayingOn, near.port, cancels_of_sameBut near.same]
  exact ⟨rfl, rfl⟩

theorem NearAt.settledPort : v.settledPort p = s.settledPort p := by
  obtain ⟨going, staying⟩ := near.lists
  rw [State.settledPort, State.settledPort, going, staying, near.port]

theorem NearAt.listTurn (turn : s.listTurn p) : v.listTurn p := by
  rw [State.listTurn, near.port, ← near.same .mode (by simp), ← near.same .tables (by simp)]
  exact turn

theorem NearAt.passLeaves : v.passLeaves = s.passLeaves := by
  funext q
  unfold State.passLeaves
  rw [near.same .cellCount (by simp), near.same .mode (by simp)]

theorem NearAt.keeps (keeps : ∀ e ∈ (s.trunk.get p).sendList, s.keeps p e) :
    ∀ e ∈ (v.trunk.get p).sendList, v.keeps p e := by
  intro e he
  rw [near.port] at he
  rw [State.keeps, near.namesPort, near.namesPort]
  exact keeps e he

end

/-- The fetch that ends with an entry's last data cell, and the hold (R53, R96). -/
def SendEntry.endsHold (e : SendEntry) : List SlotNo := if e.last then [e.slot] else []

def SendEntry.endsFetch (e : SendEntry) : Option (Fin 4) :=
  match e.kind with
  | .fetch (some k) => if e.last then some k else none
  | .tile | .fetch none => none

theorem afterFront_eq (st : Store) (is : List SlotNo) (e : SendEntry) :
    (st.endHolds is).afterFront e = st.closing (is ++ e.endsHold) e.endsFetch := by
  unfold Store.afterFront SendEntry.endsHold SendEntry.endsFetch Store.released
  by_cases last : e.last = true
  · have one : (st.endHolds is).endHold e.slot = st.endHolds (is ++ [e.slot]) :=
      (Store.endHolds_append st is [e.slot]).symm
    rw [if_pos last, if_pos last]
    cases e.kind with
    | tile => exact one
    | fetch k =>
      cases k with
      | none => exact one
      | some k =>
        simp only [last, if_true, Store.closing, Store.endHolds_append]
        rfl
  · rw [if_neg last, if_neg last, List.append_nil]
    cases e.kind with
    | tile => rfl
    | fetch k =>
      cases k with
      | none => rfl
      | some k =>
        dsimp only
        rw [if_neg last]
        rfl

/-- The slots of the entries that are cancelled in front. -/
def State.slotsGoing (s : State) (p : TrunkPort) : List SlotNo := (s.goingFrom p).map fun e => e.slot

theorem list_split (s : State) (p : TrunkPort) : s.goingFrom p ++ s.stayingOn p = (s.trunk.get p).sendList :=
  List.takeWhile_append_dropWhile

/-- A cell time that is the list's turn (R95, R96). -/
theorem serves_list (turn : s.listTurn p) (quiet : reads.get p = none)
    (keeps : ∀ e ∈ (s.trunk.get p).sendList, s.keeps p e) :
    ∃ leaves ends k, Serves p s reads leaves ends k := by
  have served (v : State) (near : NearAt p s v) : servePort p reads v
      = { v with trunk := v.trunk.set p (v.listPort p), store := v.listStore p } :=
    servePort_list (near.listTurn turn) (fun _ _ _ => .inl quiet)
      (settleFront_settled _ (Nat.le_refl _) (near.keeps keeps))
  have split := list_split s p
  cases staying : s.stayingOn p with
  | nil =>
    rw [staying, List.append_nil] at split
    refine ⟨fun _ => (s.settledPort p).passes s.passLeaves, s.slotsGoing p, none, fun v near => ?_,
      fun i => by rw [← split]; exact Nat.le_refl _, fun _ _ _ => rfl⟩
    obtain ⟨going, left⟩ := near.lists
    rw [served v near, listPort_nil (left.trans staying), listStore_nil (left.trans staying), near.settledPort,
      near.passLeaves, settled, going]
    rfl
  | cons e rest =>
    rw [staying] at split
    refine ⟨fun st => { s.settledPort p with sendList := e.listAfter rest, share := 0 }.sends
      (sealCell ((s.onStore (st.endHolds (s.slotsGoing p))).frontCell e)),
      s.slotsGoing p ++ e.endsHold, e.endsFetch, fun v near => ?_, fun i => ?_, fun st st' same => ?_⟩
    · obtain ⟨going, left⟩ := near.lists
      have cell : (settled p v).frontCell e
          = (s.onStore (v.store.endHolds (s.slotsGoing p))).frontCell e := by
        have store : (settled p v).store = v.store.endHolds (s.slotsGoing p) := by rw [settled, going]; rfl
        refine frontCell_congr (near.same .nodeTime (by simp)).symm ?_
        rw [store]
        exact ⟨rfl, rfl, rfl⟩
      have after : (settled p v).store.afterFront e
          = v.store.closing (s.slotsGoing p ++ e.endsHold) e.endsFetch := by
        rw [← afterFront_eq, settled, going]
        rfl
      rw [served v near, listPort_cons (left.trans staying), listStore_cons (left.trans staying), near.settledPort,
        cell, after]
    · rw [← split, List.map_append, List.count_append, List.count_append, State.slotsGoing]
      refine Nat.add_le_add_left ?_ _
      unfold SendEntry.endsHold
      split
      · rw [List.map_cons]
        exact (List.sublist_append_left [e.slot] _).count_le i
      · exact Nat.zero_le _
    · have here : e ∈ (s.trunk.get p).sendList := by rw [← split]; simp
      obtain ⟨shows, held, held'⟩ := same e here
      have fewer : (s.slotsGoing p).count e.slot
          < ((s.trunk.get p).sendList.map (·.slot)).count e.slot := by
        rw [← split, List.map_append, List.map_cons, List.count_append, List.count_cons_self, State.slotsGoing]
        omega
      obtain ⟨record, damaged, data⟩ := Store.endHolds_shows (Nat.lt_of_lt_of_le fewer held)
      obtain ⟨record', damaged', data'⟩ := Store.endHolds_shows (Nat.lt_of_lt_of_le fewer held')
      obtain ⟨sameRecord, sameDamaged, sameData⟩ := shows
      have cell := frontCell_congr (u := s.onStore (st.endHolds (s.slotsGoing p)))
        (v := s.onStore (st'.endHolds (s.slotsGoing p))) (e := e) rfl
        ⟨record'.trans (sameRecord.trans record.symm), damaged'.trans (sameDamaged.trans damaged.symm),
          data'.trans (sameData.trans data.symm)⟩
      dsimp only
      rw [cell]

theorem servePort_bypass {c : Cell} {more : List Cell} (bypass : (s.trunk.get p).bypassPath = c :: more) :
    servePort p reads s = s.withTrunk p ({ s.trunk.get p with bypassPath := more }.sends c) := by
  unfold servePort arbitrate
  simp only [bypass]
  rw [putOnLine_some]
  simp only [State.withTrunk, Pair.get_set_same, Pair.set_set]

/-- Every cell time of a port, where none of its entries is to be handed to the other. -/
theorem serves_port (quiet : reads.get p = none) (keeps : ∀ e ∈ (s.trunk.get p).sendList, s.keeps p e) :
    ∃ leaves ends k, Serves p s reads leaves ends k := by
  by_cases turn : s.listTurn p
  · exact serves_list turn quiet keeps
  · by_cases plain : (s.trunk.get p).sendList = []
    · refine ⟨_, _, _, serves_plain (y := (s.trunk.get p).servedPlain s.passLeaves) fun v near => ?_⟩
      rw [servePort_plain reads (by rw [near.port]; exact plain), near.port, near.passLeaves]
    · cases bypass : (s.trunk.get p).bypassPath with
      | cons c rest =>
        refine ⟨_, _, _, serves_plain (y := { s.trunk.get p with bypassPath := rest }.sends c) fun v near => ?_⟩
        rw [servePort_bypass (by rw [near.port]; exact bypass), near.port]
      | nil =>
        cases control : (s.trunk.get p).control with
        | cons c more =>
          refine ⟨_, _, _, serves_plain (y := { s.trunk.get p with control := more }.sends (sealCell c)) fun v near => ?_⟩
          rw [servePort_control (by rw [near.port]; exact bypass) (by rw [near.port]; exact control), near.port]
        | nil =>
          by_cases asleep : s.mode = .bypass
          · refine ⟨_, _, _, serves_plain (y := (s.trunk.get p).passes s.passLeaves) fun v near => ?_⟩
            have taken : arbitrate p (reads.get p) v = takePass p v := by
              have asleep' : v.mode = .bypass := (near.same .mode (by simp)).symm.trans asleep
              simp only [arbitrate, near.port, bypass, control]
              exact if_pos asleep'
            rw [servePort, taken, putOnLine_takePass, near.port, near.passLeaves]
          · have below : ¬ (s.tables.nodeParams.share ≤ (s.trunk.get p).share ∨ (s.trunk.get p).pass = []) :=
              fun h => turn ⟨asleep, bypass, control, plain, h⟩
            refine ⟨_, _, _, serves_plain (y := { s.trunk.get p with share := (s.trunk.get p).share + 1 }.passes
              s.passLeaves) fun v near => ?_⟩
            rw [servePort_share reads (by rw [← near.same .mode (by simp)]; exact asleep)
              (by rw [near.port]; exact bypass) (by rw [near.port]; exact control) (by rw [near.port]; exact plain)
              (by rw [near.port, ← near.same .tables (by simp)]; exact below), near.port, near.passLeaves]

/-- In an account of the store, a slot that port `p` sends shows the same after the other port's cell time. -/
theorem shows_of_holds (held : ∀ i, (s.store.slots[i]).holders = s.holdsOn i) {ends : List SlotNo}
    (within : ∀ i, ends.count i ≤ ((s.trunk.get p.other).sendList.map (·.slot)).count i) (k : Option (Fin 4)) :
    ∀ e ∈ (s.trunk.get p).sendList, (s.store.slots[e.slot]).shows (s.store.closing ends k).slots[e.slot]
      ∧ ((s.trunk.get p).sendList.map (·.slot)).count e.slot ≤ (s.store.slots[e.slot]).holders
      ∧ ((s.trunk.get p).sendList.map (·.slot)).count e.slot ≤ ((s.store.closing ends k).slots[e.slot]).holders := by
  intro e he
  have both : ((s.trunk.get p).sendList.map (·.slot)).count e.slot
      + ((s.trunk.get p.other).sendList.map (·.slot)).count e.slot ≤ (s.store.slots[e.slot]).holders := by
    rw [held, State.holdsOn]
    cases p <;> simp only [Pair.get, TrunkPort.other] <;> omega
  have here : 0 < ((s.trunk.get p).sendList.map (·.slot)).count e.slot :=
    List.count_pos_iff.mpr (List.mem_map_of_mem he)
  have few := within e.slot
  rw [Store.closing_slots, Store.endHolds_holders]
  exact ⟨Store.endHolds_shows (by omega), by omega, by omega⟩

theorem NearAt.of_seen {w : State} (base : SameBut [.store, .trunk] s w) (port : w.trunk.get p = s.trunk.get p)
    (seen : SeenAt p w u) : NearAt p (s.withCellCount (s.cellCount + 1)) u where
  port := seen.port.trans port
  same := fun x hx => by
    by_cases counts : x = .cellCount
    · subst counts
      show s.cellCount + 1 = u.cellCount
      rw [seen.count, ← base .cellCount (by simp)]
    · have before : x.same (s.withCellCount (s.cellCount + 1)) s :=
        (sameBut_iff_mask [.cellCount] _ s).mpr (by rfl) x (by simp [counts])
      have after : x.same w u := seen.same x (by simp at hx; simp [counts, hx])
      exact Part.same_trans before (Part.same_trans (base x hx) after)

theorem theTwoPortsAreServedApart : Claim.TheTwoPortsAreServedApart := by
  intro s ok keeps
  dsimp only
  have held (i : SlotNo) : (s.store.slots[i]).holders = s.holdsOn i := (ok.1 i).2.1
  have port (p : TrunkPort) := serves_port (s := s.withCellCount (s.cellCount + 1)) (p := p) (reads := ⟨none, none⟩)
    (by cases p <;> rfl) (keeps p)
  obtain ⟨leavesA, endsA, fetchA, a⟩ := port .a
  obtain ⟨leavesB, endsB, fetchB, b⟩ := port .b
  obtain ⟨portA, storeA⟩ := cellTime_one (s := { s with trunk := s.trunk.set .b { s.trunk.b with sendList := [] } })
    (p := .a) ⟨none, none⟩ rfl (y := leavesA s.store) (st := s.store.closing endsA fetchA) fun u seen => by
      rw [a.acts u (.of_seen (s := s) ((sameBut_iff_mask _ _ _).mpr (by rfl)) (by rfl) seen), seen.store]
  refine ⟨cellTime ⟨none, none⟩ s, _, cellTime ⟨none, none⟩ _, rfl, rfl, rfl, ?_⟩
  rw [storeA]
  obtain ⟨portB, storeB⟩ := cellTime_one (s := { s with
      store := s.store.closing endsA fetchA, trunk := s.trunk.set .a { s.trunk.a with sendList := [] } })
    (p := .b) ⟨none, none⟩ rfl (y := leavesB (s.store.closing endsA fetchA))
    (st := (s.store.closing endsA fetchA).closing endsB fetchB) fun u seen => by
      rw [b.acts u (.of_seen (s := s) ((sameBut_iff_mask _ _ _).mpr (by rfl)) (by rfl) seen), seen.store]
  have lastB : leavesB (s.store.closing endsA fetchA) = leavesB s.store :=
    b.shown _ _ (shows_of_holds (p := .b) held a.within fetchA)
  have lastA : leavesA (s.store.closing endsB fetchB) = leavesA s.store :=
    a.shown _ _ (shows_of_holds (p := .a) held b.within fetchB)
  have whole : cellTime ⟨none, none⟩ s = { s with
      cellCount := s.cellCount + 1
      store := (s.store.closing endsA fetchA).closing endsB fetchB
      trunk := ⟨leavesA s.store, leavesB (s.store.closing endsA fetchA)⟩ } := by
    unfold cellTime
    dsimp only
    split
    · rw [b.acts (s.withCellCount (s.cellCount + 1)) ⟨rfl, fun x _ => by cases x <;> rfl⟩, a.acts _ ⟨?_, ?_⟩]
      · rw [State.withCellCount_store, lastA, lastB, Store.closing_comm]
        rfl
      · rfl
      · exact (sameBut_iff_mask _ _ _).mpr rfl
    · rw [a.acts (s.withCellCount (s.cellCount + 1)) ⟨rfl, fun x _ => by cases x <;> rfl⟩, b.acts _ ⟨?_, ?_⟩]
      · rfl
      · rfl
      · exact (sameBut_iff_mask _ _ _).mpr rfl
  rw [whole]
  refine ⟨?_, storeB.symm, rfl, (sameBut_iff_mask _ _ _).mpr rfl⟩
  exact congrArg₂ Pair.mk portA.symm portB.symm

/-- Settles O33: the list's turn at one port is written out once, entries cancelled, the front entry's cell, the holds
that end; the claims are its cases, and two ports' turns commute while each slot sent is held. -/
theorem theSendListSendsItsEntries : Obligations.TheSendListSendsItsEntries :=
  ⟨theSendListSharesTheLine, aFrontEntryIsCancelledOrHandedOver, aSendEntryEndsWithItsLastCell,
    theTwoPortsAreServedApart⟩

end

end Sys2Proof.Machine
end

section
/-! PROOF. Head role and beacons: the edges of CAB_ACTIVE, the beacon period, the expiry and the resume time (R97, R98,
R100, R101). Settles O35 and O37. -/

namespace Sys2Proof.Machine

section
variable {s t u : State}

/-! ### Beacons and the cause of a change of the record -/

theorem placeBeacon_news (h : SameNews s t) (p : TrunkPort) (head hops : Nat) :
    placeBeacon p head hops t = t.news (placeBeacon p head hops s) := by
  unfold placeBeacon
  rw [← h.trunk]
  split
  · exact placeControl_news h p _
  · rw [State.news, h.agent, h.trunk]

theorem sameBut_placeBeacon (p : TrunkPort) (head hops : Nat) (s : State) :
    SameBut [.agent, .trunk] s (placeBeacon p head hops s) := by
  unfold placeBeacon
  split
  · exact (sameBut_iff_mask _ _ _).mpr (by simp)
  · exact fun x _ => by cases x <;> rfl

theorem SameNews.placeBeacon (h : SameNews s t) (p : TrunkPort) (head hops : Nat) :
    SameNews (placeBeacon p head hops s) (placeBeacon p head hops t) := by
  rw [placeBeacon_news h]
  exact h.news (sameBut_placeBeacon p head hops s)

theorem SameNews.beaconBoth (h : SameNews s t) : SameNews (beaconBoth s) (beaconBoth t) := by
  have number : t.nodeNumber = s.nodeNumber := by rw [State.nodeNumber, State.nodeNumber, h.straps]
  unfold Machine.beaconBoth
  rw [number]
  exact (h.placeBeacon ..).placeBeacon ..

theorem sameBut_beaconBoth (s : State) : SameBut [.agent, .trunk] s (beaconBoth s) :=
  (sameBut_placeBeacon _ _ _ _).trans (sameBut_placeBeacon _ _ _ _)

/-- The causes of a change of the orientation record (R97, R99). -/
def orientCauses (before after : Orientation) : List (CauseKind × Nat) :=
  if before.differs after then [(.orientationChange, 0)] else []

theorem reportOrientation_eq (before : Orientation) (s : State) :
    reportOrientation before s = addTogether (orientCauses before s.orient) s := by
  unfold reportOrientation orientCauses
  split
  · exact (addTogether_single ..).symm
  · exact (addTogether_nil s).symm

theorem orientCauses_eq (before after : Orientation) : orientCauses before after
    = if before.state = after.state ∧ before.head = after.head ∧ before.headSide = after.headSide then []
      else [(.orientationChange, 0)] := by
  have differs : before.differs after = true
      ↔ ¬ (before.state = after.state ∧ before.head = after.head ∧ before.headSide = after.headSide) := by
    simp only [Orientation.differs, Bool.or_eq_true, bne_iff_ne]
    tauto
  unfold orientCauses
  by_cases same : before.state = after.state ∧ before.head = after.head ∧ before.headSide = after.headSide
  · rw [if_pos same, if_neg fun h => differs.mp h same]
  · rw [if_neg same, if_pos (differs.mpr same)]

theorem orientCauses_of_state {before after : Orientation} (state : before.state ≠ after.state) :
    orientCauses before after = [(.orientationChange, 0)] := by
  rw [orientCauses_eq, if_neg fun h => state h.1]

/-- A new record, with what it tells: everything but the record, the agent and the trunk ports stands. -/
structure Oriented (o : Orientation) (cs : List (CauseKind × Nat)) (s u t : State) : Prop where
  orient : t.orient = o
  adds : Adds cs u t
  same : SameBut [.orient, .agent, .trunk] s t

/-- A record put in, its beacons sent, its causes told. -/
theorem oriented_addTogether {o : Orientation} (cs : List (CauseKind × Nat)) {v : State} (record : v.orient = o)
    (news : SameNews u v) (same : SameBut [.orient, .agent, .trunk] s v) : Oriented o cs s u (addTogether cs v) where
  orient := (sameBut_addTogether cs v .orient (by simp)).symm.trans record
  adds := news.adds cs
  same := same.trans ((sameBut_addTogether cs v).mono (by simp))

theorem oriented_withOrient (o : Orientation) (cs : List (CauseKind × Nat)) (s : State) :
    Oriented o cs s s (addTogether cs (s.withOrient o)) :=
  oriented_addTogether cs rfl ⟨rfl, rfl, rfl, rfl, rfl⟩ ((sameBut_iff_mask _ _ _).mpr (by simp))

theorem silenceEnd_eq (b : NodeTime) : silenceEnd b = b + 500 := rfl

theorem becomeHead_oriented (s : State) : Oriented s.headRecord (orientCauses s.orient s.headRecord) s (beaconBoth s)
    (becomeHead s) := by
  have both := sameBut_beaconBoth (s.withOrient s.headRecord)
  have record : (beaconBoth (s.withOrient s.headRecord)).orient = s.headRecord := (both .orient (by simp)).symm
  have start : SameNews s (s.withOrient s.headRecord) := ⟨rfl, rfl, rfl, rfl, rfl⟩
  have first : SameBut [.orient, .agent, .trunk] s (s.withOrient s.headRecord) := (sameBut_iff_mask _ _ _).mpr (by simp)
  rw [becomeHead, reportOrientation_eq, record]
  exact oriented_addTogether _ record start.beaconBoth (first.trans (both.mono (by simp)))

/-! ### The edges of CAB_ACTIVE -/

theorem exec_rise (s : State) : exec .cabActiveRise s = .next (if s.cabActive then s
    else if s.straps.cabEnd = true ∧ s.mode = .standby then changeMode .run (s.withCabActive true)
      else reevaluateCandidacy (s.withCabActive true)) := rfl

theorem exec_fall (s : State) : exec .cabActiveFall s
    = .next (if s.cabActive then reevaluateCandidacy (s.withCabActive false) else s) := rfl

theorem cabActiveMakesAHead : Claim.CabActiveMakesAHead := by
  intro s candidate
  have begins (cab : s.straps.cabEnd = true) (run : s.mode = .run) :
      reevaluateCandidacy (s.withCabActive true) = beginCandidacy (s.withCabActive true) := by
    have may : (s.withCabActive true).mayBeHead = true := by simp [State.mayBeHead, cab, run]
    rw [reevaluateCandidacy, may, State.withCabActive_orient, candidate]
    rfl
  refine ⟨fun active => ?_, fun low away => ?_, fun low cab run lower => ?_, fun h low cab run found head lower => ?_⟩
  · rw [exec_rise, if_pos active]
  · have asleep : ¬ (s.straps.cabEnd = true ∧ s.mode = .standby) := by
      rintro ⟨cab, standby⟩
      rcases away with e | e
      · rw [cab] at e; cases e
      · rw [standby] at e; cases e
    have may : (s.withCabActive true).mayBeHead = false := by
      rcases away with e | e <;> simp [State.mayBeHead, e]
    rw [exec_rise, if_neg (by rw [low]; decide), if_neg asleep, reevaluateCandidacy, may, State.withCabActive_orient,
      candidate, if_pos rfl]
    rfl
  · have none : (s.withCabActive true).lowerHead = none := by
      unfold State.lowerHead
      split
      next h found head => exact if_neg (Nat.not_lt.mpr (lower h found head))
      next => rfl
    have become : exec .cabActiveRise s = .next (becomeHead (s.withCabActive true)) := by
      rw [exec_rise, if_neg (by rw [low]; decide), if_neg (by rw [run]; simp), begins cab run, beginCandidacy, none]
    have made := becomeHead_oriented (s.withCabActive true)
    have news : SameNews s (s.withCabActive true) := ⟨rfl, rfl, rfl, rfl, rfl⟩
    have rise : SameBut [.cabActive, .orient, .agent, .trunk] s (s.withCabActive true) :=
      (sameBut_iff_mask _ _ _).mpr (by simp)
    refine ⟨_, become, (made.same .cabActive (by simp)).symm, made.orient, ?_, rise.trans (made.same.mono (by simp))⟩
    have adds := made.adds.of_sameNews news.beaconBoth
    rw [orientCauses_eq] at adds
    exact adds
  · have found' : (s.withCabActive true).lowerHead = some h := by
      simp only [State.lowerHead, State.withCabActive_orient, found, head]
      exact if_pos lower
    have yields : exec .cabActiveRise s = .next (addTogether [(.headConflict, h), (.orientationChange, 0)]
        ((s.withCabActive true).withOrient { s.orient with
          state := .conflict, candidate := true, resume := s.orient.lastBeacon.map silenceEnd, nextBeacon := none })) := by
      rw [exec_rise, if_neg (by rw [low]; decide), if_neg (by rw [run]; simp), begins cab run, beginCandidacy, found']
      rfl
    have news : SameNews s (s.withCabActive true) := ⟨rfl, rfl, rfl, rfl, rfl⟩
    have rise : SameBut [.cabActive, .orient, .agent, .trunk] s (s.withCabActive true) :=
      (sameBut_iff_mask _ _ _).mpr (by simp)
    have told := oriented_withOrient { s.orient with
      state := .conflict, candidate := true, resume := s.orient.lastBeacon.map silenceEnd, nextBeacon := none }
      [(.headConflict, h), (.orientationChange, 0)] (s.withCabActive true)
    exact ⟨_, yields, (told.same .cabActive (by simp)).symm, told.orient, told.adds.of_sameNews news,
      rise.trans (told.same.mono (by simp))⟩

/-! ### The end of composing -/

/-- An output as it is when composing stops: its frame, if any, becomes background (R147). -/
def Output.stopped (o : Output) : Output := { o with frame := o.frame.map fun f => backgroundFrame f.background }

theorem stopFrame_eq (sc : Screen) (s : State) :
    stopFrame sc s = { s with
      store := s.store.endHolds (s.comp.outputs[sc]).held
      comp := { s.comp with outputs := s.comp.outputs.set sc (s.comp.outputs[sc]).stopped } } := by
  unfold stopFrame
  split
  next idle =>
    have held : (s.comp.outputs[sc]).held = [] := by rw [Output.held, idle]
    have same : (s.comp.outputs[sc]).stopped = s.comp.outputs[sc] := by rw [Output.stopped, idle, Option.map_none, ← idle]
    have set : s.comp.outputs.set sc s.comp.outputs[sc] = s.comp.outputs := Vector.set_getElem_self _
    rw [held, same, set]
    rfl
  next f frame =>
    have stopped : (s.comp.outputs[sc]).stopped = ⟨(s.comp.outputs[sc]).running, some (backgroundFrame f.background)⟩ := by
      rw [Output.stopped, frame]; rfl
    rw [stopped]
    rfl

/-- What the end of composing leaves (R147, R152). -/
structure Stopped (s t : State) : Prop where
  outputs : ∀ sc : Screen, t.comp.outputs[sc] = (s.comp.outputs[sc]).stopped
  apply : t.comp.applyImage = s.comp.applyImage
  pulse : t.comp.pulseEnd = s.comp.pulseEnd
  store : t.store = (s.store.endHolds (s.comp.outputs[(0 : Screen)]).held).endHolds (s.comp.outputs[(1 : Screen)]).held
  same : SameBut [.comp, .store] s t

theorem stopComposing_stopped (s : State) : Stopped s (stopComposing s) := by
  have other : (s.comp.outputs.set (0 : Screen) (s.comp.outputs[(0 : Screen)]).stopped)[(1 : Screen)]
      = s.comp.outputs[(1 : Screen)] := getElem_set_ne _ (by decide) _
  unfold stopComposing
  rw [stopFrame_eq, stopFrame_eq]
  refine ⟨fun sc => ?_, rfl, rfl, ?_, (sameBut_iff_mask _ _ _).mpr rfl⟩
  · show ((s.comp.outputs.set (0 : Screen) _).set (1 : Screen) _)[sc] = _
    rw [other]
    match sc with
    | 0 => rw [getElem_set_ne _ (by decide), getElem_set_same]
    | 1 => rw [getElem_set_same]
  · show (s.store.endHolds _).endHolds _ = _
    rw [other]

/-- A record put in and told, with composing stopped behind it (R97, R100, R147). -/
structure StoppedFrom (o : Orientation) (cs : List (CauseKind × Nat)) (s u t : State) : Prop where
  orient : t.orient = o
  adds : Adds cs u t
  outputs : ∀ sc : Screen, t.comp.outputs[sc] = (s.comp.outputs[sc]).stopped
  apply : t.comp.applyImage = s.comp.applyImage
  pulse : t.comp.pulseEnd = s.comp.pulseEnd
  store : t.store = (s.store.endHolds (s.comp.outputs[(0 : Screen)]).held).endHolds (s.comp.outputs[(1 : Screen)]).held
  same : SameBut [.orient, .agent, .trunk, .comp, .store] s t

theorem Oriented.stops {o : Orientation} {cs : List (CauseKind × Nat)} {v : State} (told : Oriented o cs s u v) :
    StoppedFrom o cs s u (stopComposing v) := by
  obtain ⟨outputs, apply, pulse, holds, same⟩ := stopComposing_stopped v
  have comp : v.comp = s.comp := (told.same .comp (by simp)).symm
  have store : v.store = s.store := (told.same .store (by simp)).symm
  rw [comp] at outputs apply pulse holds
  rw [store] at holds
  refine ⟨?_, ⟨?_, ?_⟩, outputs, apply, pulse, holds, (told.same.mono (by simp)).trans (same.mono (by simp))⟩
  · rw [← same .orient (by simp), told.orient]
  · rw [← same .agent (by simp)]; exact told.adds.1
  · rw [← same .trunk (by simp)]; exact told.adds.2

theorem cabActiveEndsTheHeadRole : Claim.CabActiveEndsTheHeadRole := by
  intro s
  have may : (s.withCabActive false).mayBeHead = false := by simp [State.mayBeHead]
  have news : SameNews s (s.withCabActive false) := ⟨rfl, rfl, rfl, rfl, rfl⟩
  have fall : SameBut [.cabActive, .orient, .agent, .trunk] s (s.withCabActive false) :=
    (sameBut_iff_mask _ _ _).mpr (by simp)
  have ends (active : s.cabActive = true) (candidate : s.orient.candidate = true) :
      exec .cabActiveFall s = .next (endCandidacy (s.withCabActive false)) := by
    rw [exec_fall, if_pos active, reevaluateCandidacy, may, State.withCabActive_orient, candidate]
    rfl
  refine ⟨fun low => ?_, fun active candidate => ?_, fun active candidate conflict => ?_,
    fun active candidate found => ?_⟩
  · rw [exec_fall, if_neg (by rw [low]; decide)]
  · rw [exec_fall, if_pos active, reevaluateCandidacy, may, State.withCabActive_orient, candidate, if_pos rfl]
    rfl
  · have told := oriented_withOrient { s.orient with
      state := .found, candidate := false, resume := none, nextBeacon := none } [(.orientationChange, 0)]
      (s.withCabActive false)
    have follows : endCandidacy (s.withCabActive false) = addTogether [(.orientationChange, 0)]
        ((s.withCabActive false).withOrient { s.orient with
          state := .found, candidate := false, resume := none, nextBeacon := none }) := by
      rw [endCandidacy, State.withCabActive_orient, if_pos conflict, reportOrientation_eq, State.withOrient_orient,
        orientCauses_of_state (by rw [conflict]; exact OrientState.noConfusion)]
    refine ⟨_, ends active candidate, ?_⟩
    rw [follows]
    exact ⟨(told.same .cabActive (by simp)).symm, told.orient, told.adds.of_sameNews news,
      fall.trans (told.same.mono (by simp))⟩
  · have told := oriented_withOrient Orientation.reset [(.orientationChange, 0)] (s.withCabActive false)
    have forgets : endCandidacy (s.withCabActive false) = stopComposing (addTogether [(.orientationChange, 0)]
        ((s.withCabActive false).withOrient Orientation.reset)) := by
      rw [endCandidacy, State.withCabActive_orient, if_neg (by rw [found]; decide), reportOrientation_eq,
        State.withOrient_orient, orientCauses_of_state (by rw [found]; decide)]
    refine ⟨_, ends active candidate, ?_⟩
    rw [forgets]
    obtain ⟨orient, adds, outputs, apply, pulse, store, same⟩ := told.stops
    exact ⟨(same .cabActive (by simp)).symm, orient, adds.of_sameNews news, outputs, apply, pulse, store,
      (fall.mono (by simp)).trans (same.mono (by simp))⟩

/-- Settles O35: an edge re-evaluates candidacy, and each case is one change of the record with what it tells. -/
theorem cabActiveGivesAndEndsTheHeadRole : Obligations.CabActiveGivesAndEndsTheHeadRole :=
  ⟨cabActiveMakesAHead, cabActiveEndsTheHeadRole⟩

/-! ### What node time brings -/

/-- A beacon joins a port's control queue when the port is UP (R98). -/
def Trunk.beaconed (x : Trunk) (c : Cell) : Trunk := if x.link = .up then x.queued c else x

theorem placeControl_eq (p : TrunkPort) (c : Cell) (s : State) :
    placeControl p c s = s.withTrunk p ((s.trunk.get p).queued c) := by
  unfold placeControl Trunk.queued
  split
  · rfl
  · rfl

theorem placeBeacon_trunk (p q : TrunkPort) (head hops : Nat) (s : State) :
    (placeBeacon p head hops s).trunk.get q
      = if q = p then (s.trunk.get p).beaconed (beaconCell head hops) else s.trunk.get q := by
  unfold placeBeacon Trunk.beaconed
  by_cases here : q = p
  · subst here
    rw [if_pos rfl]
    split
    · rw [placeControl_eq, State.withTrunk_trunk, Pair.get_set_same]
    · rfl
  · rw [if_neg here]
    split
    · rw [placeControl_eq, State.withTrunk_trunk, Pair.get_set_ne _ here]
    · rfl

theorem beaconBoth_trunk (p : TrunkPort) (s : State) :
    (beaconBoth s).trunk.get p = (s.trunk.get p).beaconed (beaconCell s.nodeNumber 0) := by
  unfold beaconBoth
  rw [placeBeacon_trunk]
  cases p with
  | a => rw [if_neg (by decide), placeBeacon_trunk, if_pos rfl]
  | b => rw [if_pos rfl, placeBeacon_trunk, if_neg (by decide)]

theorem aHeadSendsItsBeacons : Claim.AHeadSendsItsBeacons := by
  intro s
  have row : exec .beaconPeriod s = .next (if s.isHead && due s.nodeTime s.orient.nextBeacon then
      beaconBoth (s.withOrient { s.orient with nextBeacon := s.orient.nextBeacon.map fun t => t + 100 }) else s) := rfl
  refine ⟨fun head late => ?_, fun idle => ?_⟩
  · have both := sameBut_beaconBoth
      (s.withOrient { s.orient with nextBeacon := s.orient.nextBeacon.map fun t => t + 100 })
    refine ⟨_, row.trans (congrArg _ (if_pos (by rw [head, late]; rfl))), (both .orient (by simp)).symm, fun p => ?_, ?_⟩
    · exact beaconBoth_trunk p _
    · exact (sameBut_iff_mask _ _ _).mpr (by simp)
  · have still : (s.isHead && due s.nodeTime s.orient.nextBeacon) = false := by
      rcases idle with e | e <;> rw [e]
      · rfl
      · exact Bool.and_false _
    rw [row, still]
    rfl

theorem aHeadIsForgottenOrResumed : Claim.AHeadIsForgottenOrResumed := by
  intro s
  have expiry : exec .orientationExpiry s = .next (if s.orient.state = .found && !s.isHead
      && due s.nodeTime (s.orient.lastBeacon.map silenceEnd) then forgetHead s else s) := rfl
  have resume : exec .resumeTime s = .next (if s.orient.state = .conflict && s.orient.candidate
      && due s.nodeTime s.orient.resume then becomeHead s else s) := rfl
  refine ⟨fun found other late => ?_, fun idle => ?_, fun conflict candidate late => ?_, fun idle => ?_⟩
  · have head : s.isHead = false := by rw [State.isHead, other, Bool.false_and]
    have told := oriented_withOrient { Orientation.reset with candidate := s.orient.candidate } [(.orientationChange, 0)] s
    have forgets : forgetHead s = addTogether [(.orientationChange, 0)]
        (s.withOrient { Orientation.reset with candidate := s.orient.candidate }) := by
      rw [forgetHead, reportOrientation_eq, State.withOrient_orient,
        orientCauses_of_state (by rw [found]; exact OrientState.noConfusion)]
    have late' : due s.nodeTime (s.orient.lastBeacon.map silenceEnd) = true := late
    refine ⟨forgetHead s, expiry.trans (congrArg _ (if_pos (by rw [found, head, late']; rfl))), ?_⟩
    rw [forgets]
    refine ⟨told.orient.trans ?_, told.adds, told.same⟩
    rw [other]
    rfl
  · refine expiry.trans (congrArg _ (if_neg fun h => ?_))
    simp only [Bool.and_eq_true, decide_eq_true_eq, Bool.not_eq_true'] at h
    obtain ⟨⟨found, head⟩, late⟩ := h
    rcases idle with away | candidate | early
    · exact away found
    · rw [State.isHead, candidate, found] at head; cases head
    · exact Bool.false_ne_true (early.symm.trans late)
  · have made := becomeHead_oriented s
    refine ⟨becomeHead s, resume.trans (congrArg _ (if_pos (by rw [conflict, candidate, late]; rfl))), made.orient, ?_,
      made.same⟩
    have adds := made.adds
    rw [orientCauses_of_state (by rw [conflict]; exact OrientState.noConfusion)] at adds
    exact adds
  · refine resume.trans (congrArg _ (if_neg fun h => ?_))
    simp only [Bool.and_eq_true, decide_eq_true_eq] at h
    obtain ⟨⟨conflict, candidate⟩, late⟩ := h
    rcases idle with away | other | early
    · exact away conflict
    · rw [other] at candidate; cases candidate
    · rw [early] at late; cases late

/-- Settles O37: each row does its one thing exactly when its time is reached. -/
theorem beaconsExpiryAndResumeFollowTheirTimes : Obligations.BeaconsExpiryAndResumeFollowTheirTimes :=
  ⟨aHeadSendsItsBeacons, aHeadIsForgottenOrResumed⟩

end

end Sys2Proof.Machine
end

section
/-! PROOF. A beacon is followed, yielded to or ignored (R99, R100, R112). Settles O36. -/

namespace Sys2Proof.Machine

section
variable {s t u : State} {p : TrunkPort} {c : Cell}

/-- The state after a cell other than FILL is handed on where no far-end fault stood (R88, R89). -/
def State.handedOn (s : State) (p : TrunkPort) : State := { s with trunk := s.trunk.set p (s.handed p) }

theorem handOn_eq (clear : (s.trunk.get p).farFault = false) : handOn p s = s.handedOn p := by
  have still : setFarFault p false (clearFailedRun p s) = clearFailedRun p s := by
    rw [setFarFault, if_pos]
    rw [clearFailedRun, State.withTrunk_trunk, Pair.get_set_same]
    exact clear
  rw [handOn, still, clearFailedRun, countTrunk_withTrunk]
  rfl

/-- A control cell that arrives in UP, outside BYPASS, with no far-end fault standing, is acted on by its kind. -/
theorem takeControl_eq (clear : (s.trunk.get p).farFault = false) (act : State → State) :
    takeControl p c act s = if payloadOk c then act (s.handedOn p) else countRouter .payloadError (s.handedOn p) := by
  rw [takeControl, handOn_eq clear]

theorem beaconHead_some {h : Nat} (e : (byteAt c 8).toNat % 16 = h) (low : 1 ≤ h) (high : h ≤ 8) :
    beaconHead c = some h := by
  simp only [beaconHead, e]
  rw [if_pos ⟨low, high⟩]

theorem beaconHead_none (away : (byteAt c 8).toNat % 16 = 0 ∨ 8 < (byteAt c 8).toNat % 16) : beaconHead c = none := by
  simp only [beaconHead]
  rw [if_neg (by omega)]

theorem nextHop_eq (c : Cell) : nextHop (beaconHops c) = min 15 ((byteAt c 9).toNat % 16 + 1) := rfl

theorem isHead_handedOn (s : State) (p : TrunkPort) : (s.handedOn p).isHead = s.isHead := rfl

theorem follows_iff (o : Orientation) (h : Nat) :
    o.follows h = true ↔ o.state = .none ∨ o.head = none ∨ ∃ g, o.head = some g ∧ h ≤ g := by
  unfold Orientation.follows
  cases state : o.state <;> cases head : o.head <;> simp

/-- A record put in, with a beacon sent on before its causes are told (R99, R100). -/
theorem oriented_sendsOn (o : Orientation) (cs : List (CauseKind × Nat)) (q : TrunkPort) (h n : Nat) (s : State) :
    Oriented o cs s (placeBeacon q h n s) (addTogether cs (placeBeacon q h n (s.withOrient o))) := by
  have placed := sameBut_placeBeacon q h n (s.withOrient o)
  have start : SameNews s (s.withOrient o) := ⟨rfl, rfl, rfl, rfl, rfl⟩
  have first : SameBut [.orient, .agent, .trunk] s (s.withOrient o) := (sameBut_iff_mask _ _ _).mpr (by simp)
  exact oriented_addTogether cs (placed .orient (by simp)).symm (start.placeBeacon ..)
    (first.trans (placed.mono (by simp)))

theorem followBeacon_oriented (p : TrunkPort) (h n : Nat) (s : State) : Oriented (s.following p h n)
    (orientCauses s.orient (s.following p h n)) s (placeBeacon p.other h (nextHop n) s) (followBeacon p h n s) := by
  have record : (placeBeacon p.other h (nextHop n) (s.withOrient (s.following p h n))).orient = s.following p h n :=
    (sameBut_placeBeacon p.other h (nextHop n) (s.withOrient (s.following p h n)) .orient (by simp)).symm
  rw [followBeacon, reportOrientation_eq, record]
  exact oriented_sendsOn ..

/-- Settles O36: by the payload, the head it names, the node's own role and the head it knows. -/
theorem beaconsAreFollowedOrYieldedTo : Obligations.BeaconsAreFollowedOrYieldedTo := by
  intro p c s up good awake kind clear
  dsimp only
  have row : exec (.beacon p c) s = .next (if payloadOk c then routeBeacon p c (s.handedOn p)
      else countRouter .payloadError (s.handedOn p)) := by
    rw [← takeControl_eq clear]
    exact congrArg _ (if_pos ((routes_iff c).mpr ⟨up, good, awake, kind⟩))
  have named (ok : payloadOk c = true) (low : 1 ≤ (byteAt c 8).toNat % 16) (high : (byteAt c 8).toNat % 16 ≤ 8) :
      exec (.beacon p c) s = .next (takeBeacon p ((byteAt c 8).toNat % 16) (beaconHops c) (s.handedOn p)) := by
    rw [row, if_pos ok, routeBeacon, beaconHead_some rfl low high]
  refine ⟨fun bad => ?_, fun ok away => ?_, fun ⟨ok, low, high⟩ head above => ?_,
    fun g ⟨ok, low, high⟩ other known name above => ?_, fun ⟨ok, low, high⟩ other follows => ?_,
    fun ⟨ok, low, high⟩ head below => ?_⟩
  · rw [row, if_neg (by rw [bad]; decide)]
    rfl
  · rw [row, if_pos ok, routeBeacon, beaconHead_none away]
    rfl
  · rw [named ok low high, takeBeacon, isHead_handedOn, if_pos head]
    exact congrArg _ (if_neg (Nat.not_lt.mpr above))
  · have follows : ¬ ((s.handedOn p).orient.follows ((byteAt c 8).toNat % 16) = true) := by
      rw [follows_iff]
      rintro (none | none | ⟨g', head, le⟩)
      · exact known none
      · rw [show (s.handedOn p).orient.head = s.orient.head from rfl, name] at none; cases none
      · rw [show (s.handedOn p).orient.head = s.orient.head from rfl, name] at head
        cases head
        omega
    rw [named ok low high, takeBeacon, isHead_handedOn, if_neg (by rw [other]; decide), if_neg follows]
    rfl
  · have made := followBeacon_oriented p ((byteAt c 8).toNat % 16) (beaconHops c) (s.handedOn p)
    have takes : takeBeacon p ((byteAt c 8).toNat % 16) (beaconHops c) (s.handedOn p)
        = followBeacon p ((byteAt c 8).toNat % 16) (beaconHops c) (s.handedOn p) := by
      rw [takeBeacon, isHead_handedOn, if_neg (by rw [other]; decide)]
      exact if_pos ((follows_iff s.orient _).mpr follows)
    have record : (s.handedOn p).following p ((byteAt c 8).toNat % 16) (beaconHops c)
        = ⟨if decide (s.orient.state = .conflict) then .conflict else .found, some ((byteAt c 8).toNat % 16), some p,
          some (min 15 ((byteAt c 9).toNat % 16 + 1)), some s.nodeTime, s.orient.candidate,
          if decide (s.orient.state = .conflict) then some (s.nodeTime + 500) else none, none⟩ := by
      simp only [decide_eq_true_eq]
      rfl
    have adds := made.adds
    have same : SameBut [.orient, .agent, .trunk] s (s.handedOn p) := (sameBut_iff_mask _ _ _).mpr (by rfl)
    rw [orientCauses_eq, record] at adds
    exact ⟨_, (named ok low high).trans (congrArg _ takes), made.orient.trans record, adds, same.trans made.same⟩
  · have told := oriented_sendsOn ⟨.conflict, some ((byteAt c 8).toNat % 16), some p,
      some (nextHop (beaconHops c)), some s.nodeTime, s.orient.candidate, some (silenceEnd s.nodeTime), none⟩
      [(.headConflict, (byteAt c 8).toNat % 16), (.orientationChange, 0)] p.other ((byteAt c 8).toNat % 16)
      (nextHop (beaconHops c)) (s.handedOn p)
    obtain ⟨orient, adds, outputs, apply, pulse, store, same⟩ := told.stops
    have yields : takeBeacon p ((byteAt c 8).toNat % 16) (beaconHops c) (s.handedOn p)
        = yieldTo p ((byteAt c 8).toNat % 16) (beaconHops c) (s.handedOn p) := by
      rw [takeBeacon, isHead_handedOn, if_pos head]
      exact if_pos below
    have candidate : s.orient.candidate = true := (Bool.and_eq_true_iff.mp head).1
    have handed : SameBut [.orient, .agent, .trunk, .comp, .store] s (s.handedOn p) :=
      (sameBut_iff_mask _ _ _).mpr (by rfl)
    refine ⟨_, (named ok low high).trans (congrArg _ yields), orient.trans ?_, adds, outputs, apply, pulse, store,
      handed.trans same⟩
    rw [candidate]
    rfl

end

end Sys2Proof.Machine
end

section
/-! PROOF. The controller-side port with the NOTICE that waits for it, and the control cells that are taken or passed
on (R102, R112, R165, R175). Settles O39. -/

namespace Sys2Proof.Machine

section
variable {s t u : State} {p : TrunkPort} {c : Cell}

/-! ### The controller-side port -/

theorem placeAll_eq (p : TrunkPort) (cs : List Cell) (s : State) :
    placeAll p cs s = s.withTrunk p (cs.foldl Trunk.queued (s.trunk.get p)) := by
  induction cs generalizing s with
  | nil => exact (withTrunk_self p s).symm
  | cons c cs later =>
    rw [placeAll_cons, later, placeControl_eq]
    simp only [State.withTrunk, Pair.get_set_same, Pair.set_set, List.foldl_cons]

/-- What learning the controller-side port leaves (R102, R175). -/
theorem setControllerSide_eq (p : TrunkPort) (s : State) : setControllerSide p s = s.sided p := by
  unfold State.sided
  dsimp only
  rcases setControllerSide_cases p s with ⟨unknown, waiting, e⟩ | ⟨still, e⟩
  · rw [e]
    cases armed : s.agent.armed with
    | true =>
      rw [if_pos ⟨unknown, rfl, waiting⟩]
      have sends : sendNotice (s.withControllerSide (some p))
          = placeAll p s.noticeCells ((s.withControllerSide (some p)).withAgent { s.agent with armed := false }) := by
        unfold sendNotice
        exact if_pos armed
      rw [sends, placeAll_eq]
      rfl
    | false =>
      rw [if_neg fun h => Bool.false_ne_true h.2.1]
      unfold sendNotice
      exact if_neg (by rw [State.withControllerSide_agent, armed]; decide)
  · rw [e, if_neg]
    · rfl
    · rintro ⟨unknown, -, waiting⟩
      rcases still with known | ⟨causes, overflow⟩
      · exact known unknown
      · rw [causes, overflow] at waiting
        simp at waiting

theorem sided_agent (p : TrunkPort) (s : State) : (s.sided p).agent.queue = s.agent.queue := by
  unfold State.sided
  dsimp only
  split <;> rfl

theorem sided_other (p : TrunkPort) (s : State) : (s.sided p).trunk.get p.other = s.trunk.get p.other := by
  unfold State.sided
  dsimp only
  split
  · exact Pair.get_set_other ..
  · rfl

theorem sided_straps (p : TrunkPort) (s : State) : (s.sided p).straps = s.straps := by
  unfold State.sided
  dsimp only
  split <;> rfl

/-! ### COMMAND, REPLY and NOTICE -/

theorem passOn_eq (p : TrunkPort) (c : Cell) (s : State) :
    passOn p c s = { s with trunk := s.trunk.set p.other ((s.trunk.get p.other).queued c) } := placeControl_eq ..

/-- A COMMAND for this node joins the agent's queue while it has room (R165). -/
theorem queueCommand_room (room : s.agent.queue.length < 4) (p : TrunkPort) (c : Cell) :
    queueCommand p c s = { s with agent := { s.agent with queue := s.agent.queue ++ [⟨p, c⟩] } } := if_pos room

/-- With four waiting it is answered OVERFLOW (R165). -/
theorem queueCommand_full (full : 4 ≤ s.agent.queue.length) (p : TrunkPort) (c : Cell) :
    queueCommand p c s = { s with trunk := (reply ⟨p, c⟩ .overflow [[]] s).trunk } := by
  unfold queueCommand
  rw [if_neg (Nat.not_lt.mpr full), replyStatus, reply, placeAll_eq]
  rfl

theorem handedOn_other (s : State) (p : TrunkPort) : (s.handedOn p).trunk.get p.other = s.trunk.get p.other :=
  Pair.get_set_other ..

theorem aCommandCellIsQueuedOrPassedOn : Claim.ACommandCellIsQueuedOrPassedOn := by
  intro p c s up good awake kind clear
  dsimp only
  have row : exec (.command p c) s = .next (if payloadOk c then routeCommand p c (s.handedOn p)
      else countRouter .payloadError (s.handedOn p)) := by
    rw [← takeControl_eq clear]
    exact congrArg _ (if_pos ((routes_iff c).mpr ⟨up, good, awake, kind⟩))
  have taken (ok : payloadOk c = true) : exec (.command p c) s
      = .next (let u := if commandDestination c = s.nodeNumber then (s.handedOn p).sided p
          else passOn p c ((s.handedOn p).sided p)
        if s.addressed c then queueCommand p c u else u) := by
    rw [row, if_pos ok, routeCommand, setControllerSide_eq]
    rfl
  have own (ok : payloadOk c = true) (mine : commandDestination c = s.nodeNumber) (called : s.addressed c = true) :
      exec (.command p c) s = .next (queueCommand p c ((s.handedOn p).sided p)) := by
    rw [taken ok, if_pos mine]
    exact congrArg _ (if_pos called)
  have shared (ok : payloadOk c = true) (other : commandDestination c ≠ s.nodeNumber) (called : s.addressed c = true) :
      exec (.command p c) s = .next (queueCommand p c (passOn p c ((s.handedOn p).sided p))) := by
    rw [taken ok, if_neg other]
    exact congrArg _ (if_pos called)
  have queue : ((s.handedOn p).sided p).agent.queue = s.agent.queue := sided_agent ..
  have passed : passOn p c ((s.handedOn p).sided p) = { (s.handedOn p).sided p with
      trunk := ((s.handedOn p).sided p).trunk.set p.other ((s.trunk.get p.other).queued c) } := by
    rw [passOn_eq, sided_other, handedOn_other]
  have addressed (own : commandDestination c = s.nodeNumber ∨ commandDestination c = 15) : s.addressed c = true := by
    simpa [State.addressed] using own
  have notAll : (15 : Nat) ≠ s.nodeNumber := by
    have := s.straps.node.isLt
    simp only [State.nodeNumber]
    omega
  refine ⟨fun bad => ?_, fun ok mine room => ?_, fun ok mine full => ?_, fun ok other some => ?_,
    fun ok all room => ?_, fun ok all full => ?_⟩
  · rw [row, if_neg (by rw [bad]; decide)]
    rfl
  · rw [own ok mine (addressed (.inl mine)), queueCommand_room (by rw [queue]; exact room), queue]
    rfl
  · rw [own ok mine (addressed (.inl mine)), queueCommand_full (by rw [queue]; exact full)]
    rfl
  · have unaddressed : ¬ s.addressed c = true := by
      simp only [State.addressed, Bool.or_eq_true, beq_iff_eq]
      exact not_or.mpr ⟨other, some⟩
    rw [taken ok, if_neg (show commandDestination c ≠ s.nodeNumber from other), if_neg unaddressed, passed]
    rfl
  · rw [shared ok (fun own => notAll (all.symm.trans own)) (addressed (.inr all)), passed,
      queueCommand_room (by exact (congrArg List.length queue).trans_lt room)]
    exact congrArg _ (by dsimp only; rw [queue]; rfl)
  · rw [shared ok (fun own => notAll (all.symm.trans own)) (addressed (.inr all)), passed,
      queueCommand_full (by exact full.trans_eq (congrArg List.length queue).symm)]
    rfl

theorem repliesAndNoticesArePassedOn : Claim.RepliesAndNoticesArePassedOn := by
  intro p c s up good awake clear
  dsimp only
  have row (kind : kindOf c = some .reply ∨ kindOf c = some .notice) : exec (.passReplyNotice p c) s
      = .next (if payloadOk c then passOn p c (s.handedOn p) else countRouter .payloadError (s.handedOn p)) := by
    rw [← takeControl_eq clear]
    refine congrArg _ (if_pos ?_)
    rcases kind with kind | kind
    · rw [(routes_iff c).mpr ⟨up, good, awake, kind⟩, Bool.true_or]
    · rw [(routes_iff c).mpr ⟨up, good, awake, kind⟩, Bool.or_true]
  refine ⟨fun kind ok => ?_, fun kind bad => ?_, fun code => ?_⟩
  · rw [row kind, if_pos ok, passOn_eq, handedOn_other]
    rfl
  · rw [row kind, if_neg (by rw [bad]; decide)]
    rfl
  · have kind : kindOf c = none := by
      unfold kindOf kindCode
      split
      all_goals grind
    have row : exec (.badKind p c) s = .next (countPayload c (countRouter .badKind (s.handedOn p))) := by
      rw [← handOn_eq clear]
      exact congrArg _ (if_pos ((routes_iff c).mpr ⟨up, good, awake, kind⟩))
    rw [row, countPayload]
    split <;> rfl

/-- Settles O39: by the payload, the destination and the room of the agent's queue. -/
theorem controlCellsAreTakenOrPassedOn : Obligations.ControlCellsAreTakenOrPassedOn :=
  ⟨aCommandCellIsQueuedOrPassedOn, repliesAndNoticesArePassedOn⟩

end

end Sys2Proof.Machine
end

section
/-! PROOF. What an evaluation of a screen reads (R137 to R141). -/

namespace Sys2Proof.Machine

section
variable {s t : State}

/-- The parts that an evaluation neither reads nor changes. -/
def unseen : List Part :=
  [.cellCount, .straps, .cabActive, .mode, .cams, .health, .engine, .store, .trunk, .controllerSide, .router, .agent,
    .survey, .swapTies, .pending]

theorem wanted_mask (sc : Screen) (s : State) : (s.mask unseen).wanted sc = s.wanted sc := rfl

theorem evaluate_mask (sc : Screen) (s : State) : evaluate sc (s.mask unseen) = (evaluate sc s).mask unseen := by
  unfold evaluate
  rw [wanted_mask]
  dsimp only
  have selection : (s.mask unseen).selection = s.selection := rfl
  have time : (s.mask unseen).nodeTime = s.nodeTime := rfl
  have head : (s.mask unseen).isHead = s.isHead := rfl
  have tables : (s.mask unseen).tables = s.tables := rfl
  rw [selection, time, head, tables]
  split
  · rfl
  · split
    · split <;> rfl
    · rfl

theorem evaluateBoth_mask (s : State) : evaluateBoth (s.mask unseen) = (evaluateBoth s).mask unseen := by
  rw [evaluateBoth, evaluate_mask, evaluate_mask, evaluateBoth]

/-- Two states that an evaluation cannot tell apart are evaluated alike. -/
theorem evaluateBoth_seen (h : s.mask unseen = t.mask unseen) :
    (evaluateBoth s).selection = (evaluateBoth t).selection ∧ (evaluateBoth s).comp = (evaluateBoth t).comp := by
  have same : (evaluateBoth s).mask unseen = (evaluateBoth t).mask unseen := by
    rw [← evaluateBoth_mask, ← evaluateBoth_mask, h]
  have selection := congrArg State.selection same
  have comp := congrArg State.comp same
  exact ⟨selection, comp⟩

theorem evaluate_eq (sc : Screen) (s : State) :
    evaluate sc s = { s with selection := (evaluate sc s).selection, comp := (evaluate sc s).comp } := by
  unfold evaluate
  dsimp only
  split
  · rfl
  · split
    · split <;> rfl
    · rfl

/-- An evaluation of the screens moves the selection, and the end of the chime's pulse, alone. -/
theorem evaluateBoth_eq (s : State) :
    evaluateBoth s = { s with selection := (evaluateBoth s).selection, comp := (evaluateBoth s).comp } := by
  unfold evaluateBoth
  rw [evaluate_eq 1, evaluate_eq 0]

/-! ### A publish with its evaluation (R44, R135, R137) -/

theorem publishTile_eq (i : SlotNo) (v : ViewNo) (s : State) : publishTile i v s = { s with
    store := s.store.publish i v
    alarm := (s.store.publish i v).alarmCount
    selection := (publishTile i v s).selection
    comp := (publishTile i v s).comp } := by
  unfold publishTile
  dsimp only
  split
  next same =>
    have alarm : (s.store.publish i v).alarmCount = s.alarm := same
    rw [alarm]
    rfl
  next =>
    rw [evaluateBoth_eq]
    rfl

/-- With the alarm count as it was, nothing is evaluated. -/
theorem publishTile_stands {i : SlotNo} {v : ViewNo} (same : (s.store.publish i v).alarmCount = s.alarm) :
    (publishTile i v s).selection = s.selection ∧ (publishTile i v s).comp = s.comp := by
  have stands : publishTile i v s = s.withStore (s.store.publish i v) := if_pos same
  rw [stands]
  exact ⟨rfl, rfl⟩

/-- A new alarm count is evaluated on both screens. -/
theorem publishTile_evaluates {i : SlotNo} {v : ViewNo} (moved : (s.store.publish i v).alarmCount ≠ s.alarm) :
    (publishTile i v s).selection = (evaluateBoth { s with alarm := (s.store.publish i v).alarmCount }).selection
      ∧ (publishTile i v s).comp = (evaluateBoth { s with alarm := (s.store.publish i v).alarmCount }).comp := by
  have evaluated : publishTile i v s = evaluateBoth
      ((s.withStore (s.store.publish i v)).withAlarm (s.store.publish i v).alarmCount) := if_neg moved
  rw [evaluated]
  exact evaluateBoth_seen (by rfl)

end

end Sys2Proof.Machine
end

section
/-! PROOF. The cells that pass in BYPASS (R104). Settles O43. -/

namespace Sys2Proof.Machine

section
variable {s t u : State} {p : TrunkPort} {c : Cell}

theorem handedOn_joinBypass (p : TrunkPort) (c : Cell) (s : State) : joinBypass p c (s.handedOn p) = { s with
    trunk := (s.trunk.set p (s.handed p)).set p.other
      { s.trunk.get p.other with bypassPath := (s.trunk.get p.other).bypassPath ++ [c] } } := by
  unfold joinBypass
  rw [handedOn_other]
  rfl

theorem addressed_iff (c : Cell) : s.addressed c = true
    ↔ (byteAt c 1).toNat % 16 = s.straps.node.toNat + 1 ∨ (byteAt c 1).toNat % 16 = 15 := by
  simp only [State.addressed, Bool.or_eq_true, beq_iff_eq]
  exact Iff.rfl

/-- Settles O43: by the kind of the cell, its payload, its destination and the room of the agent's queue. -/
theorem bypassPassesCellsUnchanged : Obligations.BypassPassesCellsUnchanged := by
  intro p c s up good bypass noFill clear
  dsimp only
  rw [← handedOn_joinBypass]
  generalize passed : joinBypass p c (s.handedOn p) = u
  have row : exec (.bypassPass p c) s = .next (bypassActs p c u) := by
    rw [← passed, ← handOn_eq clear]
    refine congrArg _ (if_pos ?_)
    rw [(receives_iff c).mpr ⟨up, good⟩, bypass]
    simpa using noFill
  have queue : u.agent.queue = s.agent.queue := by rw [← passed]; rfl
  have calls : u.addressed c = s.addressed c := by rw [← passed]; rfl
  have state (kind : kindOf c = some .state) : bypassActs p c u
      = if payloadOk c then u.sided p else countRouter .payloadError u := by
    simp only [bypassActs, kind, setControllerSide_eq]
  have command (kind : kindOf c = some .command) : bypassActs p c u
      = if payloadOk c then (if s.addressed c then queueCommand p c (u.sided p) else u.sided p)
        else countRouter .payloadError u := by
    simp only [bypassActs, kind, setControllerSide_eq, calls]
  refine ⟨fun other => ?_, fun control bad => ?_, fun control ok away => ?_, fun kind ok mine room => ?_,
    fun kind ok mine full => ?_⟩
  · rw [row]
    unfold bypassActs
    split
    next kind => exact absurd (.inl kind) other
    next kind => exact absurd (.inr kind) other
    next => rfl
  · have counted : bypassActs p c u = countRouter .payloadError u := by
      rcases control with kind | kind
      · rw [state kind, if_neg (by rw [bad]; decide)]
      · rw [command kind, if_neg (by rw [bad]; decide)]
    rw [row, counted, ← passed, handedOn_joinBypass]
    rfl
  · rw [row]
    rcases control with kind | kind
    · rw [state kind, if_pos ok]
    · have other : ¬ s.addressed c = true := by
        rw [addressed_iff]
        rcases away with state | away
        · rw [kind] at state
          cases state
        · exact away
      rw [command kind, if_pos ok, if_neg other]
  · rw [row, command kind, if_pos ok, if_pos ((addressed_iff c).mpr mine),
      queueCommand_room (by rw [sided_agent, queue]; exact room), sided_agent, queue]
  · rw [row, command kind, if_pos ok, if_pos ((addressed_iff c).mpr mine),
      queueCommand_full (by rw [sided_agent, queue]; exact full)]

end

end Sys2Proof.Machine
end

section
/-! PROOF. A STATE cell (R102, R112, R127). Settles O38. -/

namespace Sys2Proof.Machine

section
variable {s t u : State} {p : TrunkPort} {c : Cell}

theorem sided_eq (p : TrunkPort) (s : State) : s.sided p
    = { s with trunk := (s.sided p).trunk, controllerSide := some p, agent := (s.sided p).agent } := by
  unfold State.sided
  dsimp only
  split <;> rfl

/-- With nothing to tell, the ports and the agent stand (R175). -/
theorem sided_quiet (quiet : s.controllerSide ≠ none ∨ s.agent.armed = false ∨ (s.agent.causes = [] ∧ s.agent.overflow = false))
    (p : TrunkPort) : s.sided p = { s with controllerSide := some p } := by
  unfold State.sided
  refine if_neg ?_
  rintro ⟨unknown, armed, waits⟩
  rcases quiet with known | idle | ⟨causes, overflow⟩
  · exact known unknown
  · rw [armed] at idle
    cases idle
  · rw [causes, overflow] at waits
    simp at waits

/-- A NOTICE of two cells joins a control queue that has room for both (R91). -/
theorem queued_both {y : Trunk} {a b : Cell} (room : y.control.length + 2 ≤ 32) :
    [a, b].foldl Trunk.queued y = { y with control := y.control ++ [a, b] } := by
  have first : y.queued a = { y with control := y.control ++ [a] } := if_pos (by omega)
  have second : (y.queued a).queued b = { y.queued a with control := (y.queued a).control ++ [b] } :=
    if_pos (by rw [first]; simp only [List.length_append, List.length_singleton]; omega)
  rw [List.foldl_cons, List.foldl_cons, List.foldl_nil, second, first]
  simp only [List.append_assoc, List.singleton_append]

theorem differs_iff (v w : Vehicle) : v.differs w = true ↔ w.speed ≠ v.speed ∨ w.travel ≠ v.travel
    ∨ w.release ≠ v.release ∨ w.doors ≠ v.doors ∨ v.fresh ≠ w.fresh := by
  simp only [Vehicle.differs, Bool.or_eq_true, bne_iff_ne, ne_comm (a := v.speed), ne_comm (a := v.travel),
    ne_comm (a := v.release), ne_comm (a := v.doors), or_assoc]

theorem takeState_eq (b : List Byte) (s : State) : takeState b s
    = { s with vehicle := s.vehicleFrom b, selection := (takeState b s).selection, comp := (takeState b s).comp } := by
  unfold takeState
  dsimp only
  split
  · rw [evaluateBoth_eq]
    rfl
  · rfl

/-- Settles O38: the parts one after another, by what the STATE cell brings for each. -/
theorem aStateCellIsTaken : Obligations.AStateCellIsTaken := by
  intro p c s up good awake kind clear
  dsimp only
  have row : exec (.state p c) s = .next (if payloadOk c then routeState p c (s.handedOn p)
      else countRouter .payloadError (s.handedOn p)) := by
    rw [← takeControl_eq clear]
    exact congrArg _ (if_pos ((routes_iff c).mpr ⟨up, good, awake, kind⟩))
  refine ⟨fun bad => by rw [row, if_neg (by rw [bad]; decide)]; rfl, fun ok => ?_⟩
  have x := sided_eq p (s.handedOn p)
  have before : (takeState (payloadOf c) ((s.handedOn p).sided p)).trunk = ((s.handedOn p).sided p).trunk := by
    rw [takeState_eq]
  have after : routeState p c (s.handedOn p) = { takeState (payloadOf c) ((s.handedOn p).sided p) with
      trunk := ((s.handedOn p).sided p).trunk.set p.other ((s.trunk.get p.other).queued c) } := by
    rw [routeState, setControllerSide_eq, passOn_eq, before, sided_other, handedOn_other]
  have vehicle : ((s.handedOn p).sided p).vehicleFrom (payloadOf c) = s.vehicleFrom (payloadOf c) := by
    rw [x]
    rfl
  have same : ((s.handedOn p).sided p).vehicle = s.vehicle := by
    rw [x]
    rfl
  have port : (((s.handedOn p).sided p).trunk.set p.other ((s.trunk.get p.other).queued c)).get p
      = ((s.handedOn p).sided p).trunk.get p := Pair.get_set_ne _ (TrunkPort.other_ne p).symm _
  refine ⟨routeState p c (s.handedOn p), by rw [row, if_pos ok], ?_, ?_, fun changed => ?_, fun still => ?_, ?_,
    fun quiet => ?_, fun unknown armed waits room => ?_, ?_⟩
  · rw [after, takeState_eq, vehicle]
    rfl
  · rw [after, takeState_eq, x]
  · have seen := evaluateBoth_seen (s := ((s.handedOn p).sided p).withVehicle (s.vehicleFrom (payloadOf c)))
      (t := { s with vehicle := s.vehicleFrom (payloadOf c) }) (by rw [x]; rfl)
    have evaluated : takeState (payloadOf c) ((s.handedOn p).sided p)
        = evaluateBoth (((s.handedOn p).sided p).withVehicle (s.vehicleFrom (payloadOf c))) := by
      unfold takeState
      rw [vehicle, same]
      refine if_pos ((differs_iff ..).mpr ?_)
      rcases changed with h | h | h | h | h
      · exact .inl h
      · exact .inr (.inl h)
      · exact .inr (.inr (.inl h))
      · exact .inr (.inr (.inr (.inl h)))
      · exact .inr (.inr (.inr (.inr (by rw [h]; exact Bool.false_ne_true))))
    rw [after, evaluated]
    exact seen
  · have stands : takeState (payloadOf c) ((s.handedOn p).sided p)
        = ((s.handedOn p).sided p).withVehicle (s.vehicleFrom (payloadOf c)) := by
      unfold takeState
      rw [vehicle, same]
      refine if_neg fun h => still ?_
      rcases (differs_iff ..).mp h with h | h | h | h | h
      · exact .inl h
      · exact .inr (.inl h)
      · exact .inr (.inr (.inl h))
      · exact .inr (.inr (.inr (.inl h)))
      · exact .inr (.inr (.inr (.inr (Bool.eq_false_of_not_eq_true h))))
    rw [after, stands, x]
    exact ⟨rfl, rfl⟩
  · rw [after]
    exact Pair.get_set_same ..
  · rw [after, takeState_eq, port, sided_quiet (by exact quiet)]
    exact ⟨Pair.get_set_same .., rfl⟩
  · have told : (s.handedOn p).sided p = { s.handedOn p with
        controllerSide := some p
        trunk := (s.handedOn p).trunk.set p ((s.handedOn p).noticeCells.foldl Trunk.queued ((s.handedOn p).trunk.get p))
        agent := { s.agent with armed := false } } := if_pos ⟨unknown, armed, waits⟩
    have handed : (s.handedOn p).trunk.get p = s.handed p := Pair.get_set_same ..
    rw [after, takeState_eq, port, told]
    refine ⟨?_, rfl⟩
    rw [Pair.get_set_same, handed]
    exact queued_both room
  · refine (sameBut_iff_mask _ _ _).mpr ?_
    rw [mask_routeState (by simp) (by simp) (by simp) (by simp) (by simp) (by simp)]
    rfl

end

end Sys2Proof.Machine
end

section
/-! PROOF. The forward part of a tile cell (R113 to R115). Settles O40. -/

namespace Sys2Proof.Machine

section
variable {s t u : State} {p : TrunkPort} {c : Cell}

theorem countPayload_eq (c : Cell) (s : State) : countPayload c s = { s with router := { s.router with
    counters := if payloadOk c then s.router.counters
      else s.router.counters.set 0 (increment s.router.counters[(0 : Fin 13)]) } } := by
  unfold countPayload
  split <;> rfl

theorem badTile_iff (c : Cell) : badTile c = true ↔ payloadOk c = false ∨ lowFlag c = true := by
  rw [badTile, Bool.or_eq_true, Bool.not_eq_true']

/-- A tile cell joins a pass-through queue, or is dropped there (R92, R115). -/
theorem joinPass_eq (q : TrunkPort) (c : Cell) (s : State) :
    joinPass q c s = { s with trunk := s.trunk.set q ((s.trunk.get q).joinedBy c s.cellCount) } := by
  have cell : (if badTile c then setDamaged c else c)
      = if payloadOk c = false ∨ lowFlag c = true then (byteAt c 0 ||| 1) :: c.drop 1 else c :=
    if_congr (badTile_iff c) (by rfl) rfl
  unfold joinPass Trunk.joinedBy
  rw [cell]
  dsimp only
  split
  · rfl
  · rfl

theorem forwardRoute_on {sid : StreamId} (on : s.forwardsOn p sid) : s.forwardRoute p sid = .to p.other := by
  unfold State.forwardRoute
  rcases on with both | ⟨controller, side⟩ | ⟨head, known, notHead, side⟩
  · rw [both]
  · simp only [controller, side, if_neg (TrunkPort.other_ne p)]
  · simp only [head, side, if_neg known, notHead, if_neg (TrunkPort.other_ne p), Bool.false_eq_true, if_false]

theorem forwardRoute_off {sid : StreamId} (off : ¬ s.forwardsOn p sid) : ∃ k, s.forwardRoute p sid = .stop k := by
  have back {q : TrunkPort} (notOther : q ≠ p.other) : q = p :=
    not_not.mp fun away => notOther (eq_other_of_ne away)
  obtain ⟨notBoth, notController, notHead⟩ : _ ∧ _ ∧ _ := ⟨fun h => off (.inl h), fun h => off (.inr (.inl h)),
    fun h => off (.inr (.inr h))⟩
  unfold State.forwardRoute
  split
  · exact ⟨_, rfl⟩
  next both => exact absurd both notBoth
  next controller =>
    split
    · exact ⟨_, rfl⟩
    next side => exact ⟨_, if_pos (back fun e => notController ⟨controller, by rw [side, e]⟩)⟩
  next head =>
    split
    · exact ⟨_, rfl⟩
    next known =>
      split
      · exact ⟨_, rfl⟩
      next follows =>
        split
        · exact ⟨_, rfl⟩
        next side =>
          exact ⟨_, if_pos (back fun e => notHead ⟨head, known, Bool.eq_false_of_not_eq_true follows, by rw [side, e]⟩)⟩

theorem consumes_iff (c : Cell) : s.consumes c = true ↔ s.mode = .run ∧ s.tables.routeConsume (streamOf c) = true := by
  rw [State.consumes, Bool.and_eq_true, beq_iff_eq]

/-- A tile cell that arrives is handed on, and a failing payload is counted, before its forward part (R89, R115). -/
def State.arrived (s : State) (p : TrunkPort) (c : Cell) : State :=
  { s with
    trunk := s.trunk.set p (s.handed p)
    router := { s.router with counters := if payloadOk c then s.router.counters
      else s.router.counters.set 0 (increment s.router.counters[(0 : Fin 13)]) } }

theorem takeTile_eq (clear : (s.trunk.get p).farFault = false) (consume : State → State) : takeTile p c consume s
    = if s.consumes c then consume (forwardTile p c (s.arrived p c)) else forwardTile p c (s.arrived p c) := by
  have arrived : countPayload c (s.handedOn p) = s.arrived p c := countPayload_eq ..
  rw [takeTile, handOn_eq clear, arrived]

theorem joinPass_arrived (p : TrunkPort) (c : Cell) (s : State) : joinPass p.other c (s.arrived p c)
    = { s.arrived p c with 
        trunk := (s.trunk.set p (s.handed p)).set p.other ((s.trunk.get p.other).joinedBy c s.cellCount) } := by
  have other : (s.arrived p c).trunk.get p.other = s.trunk.get p.other := Pair.get_set_other ..
  rw [joinPass_eq, other]
  rfl

theorem forwardTile_to {q : TrunkPort} (route : s.forwardRoute p (streamOf c) = .to q) :
    forwardTile p c s = joinPass q c s := by
  rw [forwardTile, route]

theorem forwardTile_nowhere (route : s.forwardRoute p (streamOf c) = .stop none) : forwardTile p c s = s := by
  rw [forwardTile, route]

theorem forwardTile_stop {k : RouterCounter} (route : s.forwardRoute p (streamOf c) = .stop (some k)) :
    forwardTile p c s = if s.consumes c then s else countRouter k s := by
  rw [forwardTile, route]

/-- The forward part of a cell that is consumed as well counts nothing in the router (R115). -/
theorem forwardTile_consumed (consumes : s.consumes c = true) (p : TrunkPort) :
    forwardTile p c (s.arrived p c) = s.tilePassed p c := by
  have route : (s.arrived p c).forwardRoute p (streamOf c) = s.forwardRoute p (streamOf c) := rfl
  unfold State.tilePassed
  dsimp only
  by_cases on : s.forwardsOn p (streamOf c)
  · rw [if_pos on, forwardTile_to (route.trans (forwardRoute_on on))]
    exact joinPass_arrived p c s
  · obtain ⟨k, off⟩ := forwardRoute_off on
    rw [if_neg on]
    cases k with
    | none => exact forwardTile_nowhere (route.trans off)
    | some k => exact (forwardTile_stop (route.trans off)).trans (if_pos consumes)

theorem exec_tile {kind : CellKind} (tile : kind = .tileHead ∨ kind = .tileData) (arrives : s.tileArrives p c kind) :
    exec (if kind = .tileHead then .tileHead p c else .tileData p c) s
      = .next (takeTile p c (if kind = .tileHead then consumeHead c else consumeData c) s) := by
  obtain ⟨up, good, awake, ofKind, -⟩ := arrives
  have routed := (routes_iff c).mpr ⟨up, good, awake, ofKind⟩
  rcases tile with rfl | rfl
  · exact congrArg _ (if_pos routed)
  · exact congrArg _ (if_pos routed)

/-- Settles O40: by the direction that the route entry gives the stream, as the table of R114 lists them. -/
theorem aTileCellIsForwarded : Obligations.ATileCellIsForwarded := by
  intro p c kind s tile arrives notTaken
  dsimp only
  have passes : s.consumes c = false := by
    rw [← Bool.not_eq_true, consumes_iff]
    rintro ⟨run, consumed⟩
    rcases notTaken with h | h
    · rw [consumed] at h
      cases h
    · rw [run] at h
      cases h
  have row {x : State} (forwarded : forwardTile p c (s.arrived p c) = x) :
      exec (if kind = .tileHead then .tileHead p c else .tileData p c) s = .next x := by
    rw [exec_tile tile arrives, takeTile_eq arrives.2.2.2.2, passes, ← forwarded]
    exact congrArg _ (if_neg Bool.false_ne_true)
  have route : (s.arrived p c).forwardRoute p (streamOf c) = s.forwardRoute p (streamOf c) := rfl
  have stops (k : RouterCounter) (stop : s.forwardRoute p (streamOf c) = .stop (some k)) :=
    row ((forwardTile_stop (route.trans stop)).trans (if_neg (by
      rw [show (s.arrived p c).consumes c = false from passes]
      exact Bool.false_ne_true)))
  refine ⟨fun nowhere => row (forwardTile_nowhere ?_),
    fun on => row ((forwardTile_to (route.trans (forwardRoute_on (by simpa only [and_assoc] using on)))).trans
      (joinPass_arrived p c s)),
    fun side unknown => stops .noControllerPort ?_, fun side back => stops .misdirected ?_,
    fun side unknown => stops .headUnknown ?_, fun side head known => stops .noConsumer ?_,
    fun side follows back => stops .misdirected ?_⟩
  · rw [route, State.forwardRoute, nowhere]
  · simp only [State.forwardRoute, side, unknown]
  · simp only [State.forwardRoute, side, back, if_pos]
  · simp only [State.forwardRoute, side, if_pos unknown]
  · simp only [State.forwardRoute, side, if_neg known, if_pos head]
  · simp only [State.forwardRoute, side, back, if_neg follows.1, follows.2, Bool.false_eq_true, if_false, if_pos]

end

end Sys2Proof.Machine
end

section
/-! PROOF. The lowest number that has a property. -/

namespace Sys2Proof.Machine

theorem find_finRange_eq {n : Nat} {P : Fin n → Bool} {i : Fin n} (holds : P i = true)
    (lowest : ∀ j : Fin n, j < i → P j = false) : (List.finRange n).find? P = some i := by
  rw [← Fin.find?_eq_find?_finRange]
  exact Fin.find?_eq_some_iff.mpr ⟨holds, lowest⟩

end Sys2Proof.Machine
end

section
/-! PROOF. A consumed TILE_HEAD and the context it opens or breaks (R116 to R118). Settles O41. -/

namespace Sys2Proof.Machine

section
variable {s t u : State} {p : TrunkPort} {c : Cell} {sid : StreamId} {k : ContextNo} {x : Context} {f : TileHeadFields}

/-! ### Finding contexts -/

theorem contextOf_eq_none {r : Router} (alone : ∀ k : ContextNo, ∀ x : Context, r.contexts[k] = some x → x.stream ≠ sid) :
    r.contextOf sid = none := by
  cases found : r.contextOf sid with
  | none => rfl
  | some k =>
    obtain ⟨x, isOpen, stream⟩ := contextOf_some found
    exact absurd stream (alone k x isOpen)

/-- A stream has one open context at most (R117), so that one is found. -/
theorem contextOf_eq (ok : s.contextsOk) (isOpen : s.router.contexts[k] = some x) (stream : x.stream = sid) :
    s.router.contextOf sid = some k := by
  cases found : s.router.contextOf sid with
  | none => exact absurd stream (contextOf_none found isOpen)
  | some j =>
    obtain ⟨y, openJ, streamJ⟩ := contextOf_some found
    rw [ok j k y x openJ isOpen (streamJ.trans stream.symm)]

theorem closedContext_eq {r : Router} (closed : r.contexts[k] = none)
    (lowest : ∀ j : ContextNo, j < k → r.contexts[j] ≠ none) : r.closedContext = some k :=
  find_finRange_eq (by rw [closed]; rfl) fun j before => by
    exact Bool.eq_false_of_not_eq_true fun h => lowest j before (Option.isNone_iff_eq_none.mp h)

theorem closedContext_eq_none {r : Router} (full : ∀ k : ContextNo, r.contexts[k] ≠ none) : r.closedContext = none :=
  List.find?_eq_none.mpr fun k _ => by simpa using full k

theorem exists_closedContext {r : Router} (closed : r.contexts[k] = none) : ∃ j, r.closedContext = some j := by
  cases found : r.closedContext with
  | some j => exact ⟨j, rfl⟩
  | none => exact absurd closed (by simpa using List.find?_eq_none.mp found k (List.mem_finRange k))

theorem exists_lowestFree {st : Store} {i : SlotNo} (free : (st.slots[i]).state = .free) : ∃ j, st.lowestFree = some j := by
  cases found : st.lowestFree with
  | some j => exact ⟨j, rfl⟩
  | none => exact absurd free (lowestFree_none found i)

/-! ### Breaking and opening a context -/

/-- An open context that fills its slot is abandoned: the slot is FREE, the context closed, and a counter counts it. -/
theorem abandonContext_eq (isOpen : s.router.contexts[k] = some x) (filling : (s.store.slots[x.slot]).state = .filling)
    (counter : RouterCounter) : abandonContext k counter s = { s with
      store := { s.store with slots := s.store.slots.set x.slot ⟨.free, .none, none, 0, false, false, none, []⟩ }
      router := { s.router with
        contexts := s.router.contexts.set k none
        counters := s.router.counters.set counter.place (increment s.router.counters[counter.place]) } } := by
  have given : s.store.giveBack x.slot = s.store.setSlot x.slot Slot.reset := if_pos filling
  unfold abandonContext
  rw [isOpen]
  dsimp only [State.giveBack]
  rw [show (s.withContext k none).store = s.store from rfl, given]
  rfl

theorem breakStream_alone (alone : ∀ k : ContextNo, ∀ x : Context, s.router.contexts[k] = some x → x.stream ≠ sid) :
    breakStream sid s = s := by
  rw [breakStream, contextOf_eq_none alone]

theorem breakStream_open (ok : s.contextsOk) (isOpen : s.router.contexts[k] = some x) (stream : x.stream = sid) :
    breakStream sid s = abandonContext k .tileBroken s := by
  rw [breakStream, contextOf_eq ok isOpen stream]

theorem openContext_eq (alone : ∀ k : ContextNo, ∀ x : Context, s.router.contexts[k] = some x → x.stream ≠ sid) {i : SlotNo}
    (closed : s.router.closedContext = some k) (free : s.store.lowestFree = some i) (f : TileHeadFields) :
    openContext f sid s = (s.withStore (s.store.setSlot i (Slot.filling (.context k) (f.record sid s.nodeTime)))).withContext k
      (some (s.contextFrom f sid i)) := by
  unfold openContext
  rw [breakStream_alone alone]
  dsimp only
  rw [closed]
  dsimp only [Store.allocate]
  rw [free]
  rfl

theorem readTileHead_none (bad : payloadOk c = false ∨ lowFlag c = true) : readTileHead c = none := by
  unfold readTileHead
  refine if_neg ?_
  rcases bad with h | h
  · simp [h]
  · simp [h]

theorem payloadOk_of_readTileHead (read : readTileHead c = some f) : payloadOk c = true := by
  by_contra bad
  rw [readTileHead_none (.inl (Bool.eq_false_of_not_eq_true bad))] at read
  cases read

/-- With its payload good nothing is counted in the router (R115). -/
theorem tilePassed_ok (ok : payloadOk c = true) (p : TrunkPort) :
    s.tilePassed p c = { s with trunk := (s.tilePassed p c).trunk } := by
  unfold State.tilePassed
  dsimp only
  rw [if_pos ok]

theorem exec_consumed {kind : CellKind} (tile : kind = .tileHead ∨ kind = .tileData) (arrives : s.tileConsumed p c kind) :
    exec (if kind = .tileHead then .tileHead p c else .tileData p c) s
      = .next ((if kind = .tileHead then consumeHead c else consumeData c) (s.tilePassed p c)) := by
  have consumes := (consumes_iff c).mpr arrives.2
  rw [exec_tile tile arrives.1, takeTile_eq arrives.1.2.2.2.2, if_pos consumes, forwardTile_consumed consumes]

/-- Settles O41: by whether the head is valid, and by the context that its stream has. -/
theorem aConsumedTileHeadOpensAContext : Obligations.AConsumedTileHeadOpensAContext := by
  intro p c s taken
  dsimp only
  have row {v : State} (taken : v.tileConsumed p c .tileHead) :
      exec (.tileHead p c) v = .next (consumeHead c (v.tilePassed p c)) := exec_consumed (.inl rfl) taken
  have valid {f : TileHeadFields} (read : readTileHead c = some f) (v : State) :
      consumeHead c v = openContext f (streamOf c) v := by rw [consumeHead, read]
  have invalid (read : readTileHead c = none) (v : State) :
      consumeHead c v = breakStream (streamOf c) (countRouter .badTileHead v) := by rw [consumeHead, read]
  have passed {f : TileHeadFields} (read : readTileHead c = some f) :=
    tilePassed_ok (s := s) (payloadOk_of_readTileHead read) p
  refine ⟨fun f read alone full => ?_, fun f k read alone closed full => ?_,
    fun f k i read alone closed lowest free lowestSlot => ?_, fun f k x read ok isOpen stream filling => ?_,
    readTileHead_none, fun read alone => ?_, fun k x read ok isOpen stream filling => ?_⟩
  · have unopened : (s.tilePassed p c).router.closedContext = none := closedContext_eq_none full
    rw [row taken, valid read, openContext, breakStream_alone (by exact alone)]
    simp only [unopened]
    rfl
  · obtain ⟨j, found⟩ : ∃ j, (s.tilePassed p c).router.closedContext = some j := exists_closedContext closed
    have unfree : (s.tilePassed p c).store.lowestFree = none := lowestFree_eq_none full
    rw [row taken, valid read, openContext, breakStream_alone (by exact alone)]
    simp only [found, Store.allocate, unfree]
    rfl
  · rw [row taken, valid read, openContext_eq (by exact alone) (by exact closedContext_eq closed lowest)
      (by exact lowestFree_eq free lowestSlot), passed read]
    rfl
  · generalize ends : ({ s with
      store := { s.store with slots := s.store.slots.set x.slot ⟨.free, .none, Option.none, 0, false, false, Option.none, []⟩ }
      router := { s.router with
        contexts := s.router.contexts.set k Option.none
        counters := s.router.counters.set 11 (increment s.router.counters[(11 : Fin 13)]) } } : State) = broken
    have alone : ∀ j : ContextNo, ∀ y : Context, broken.router.contexts[j] = some y → y.stream ≠ streamOf c := by
      intro j y openJ same
      rw [← ends] at openJ
      dsimp only at openJ
      by_cases here : k = j
      · rw [here, getElem_set_same] at openJ
        cases openJ
      · rw [getElem_set_ne _ here] at openJ
        exact here (ok k j x y isOpen openJ (stream.trans same.symm))
    have trunks : broken.tilePassed p c = { broken with trunk := (s.tilePassed p c).trunk } := by
      rw [tilePassed_ok (s := broken) (payloadOk_of_readTileHead read), ← ends]
      rfl
    have after : openContext f (streamOf c) (s.tilePassed p c) = openContext f (streamOf c) (broken.tilePassed p c) := by
      have broke : breakStream (streamOf c) (s.tilePassed p c) = broken.tilePassed p c := by
        rw [breakStream_open (s := s.tilePassed p c) (by exact ok) (by exact isOpen) stream,
          abandonContext_eq (by exact isOpen) (by exact filling), trunks, passed read, ← ends]
        rfl
      rw [openContext, openContext, broke, breakStream_alone (by exact alone)]
    have reaches : broken.tileConsumed p c .tileHead := by
      rw [← ends]
      exact taken
    have closed : broken.router.contexts[k] = none := by
      rw [← ends]
      exact getElem_set_same ..
    have free : (broken.store.slots[x.slot]).state = .free := by
      rw [← ends]
      exact congrArg Slot.state (getElem_set_same ..)
    obtain ⟨j, foundJ⟩ := exists_closedContext closed
    obtain ⟨i, foundI⟩ := exists_lowestFree free
    have opened := openContext_eq (s := broken.tilePassed p c) (by exact alone) (by exact foundJ) (by exact foundI) f
    refine ⟨by rw [row taken, row reaches, valid read, valid read, after],
      openContext f (streamOf c) (broken.tilePassed p c), by rw [row taken, valid read, after], ?_, j, ?_⟩
    · rw [opened, tilePassed_ok (payloadOk_of_readTileHead read), ← ends]
      rfl
    · rw [opened]
      refine ⟨_, getElem_set_same .., rfl, rfl, ?_⟩
      rw [← ends]
      rfl
  · rw [row taken, invalid read, breakStream_alone (by exact alone)]
    rfl
  · rw [row taken, invalid read, breakStream_open (s := countRouter .badTileHead (s.tilePassed p c)) (by exact ok)
      (by exact isOpen) stream, abandonContext_eq (by exact isOpen) (by exact filling)]
    have apart : ((s.tilePassed p c).router.counters.set 6 (increment (s.tilePassed p c).router.counters[(6 : Fin 13)]))[
        (11 : Fin 13)] = (s.tilePassed p c).router.counters[(11 : Fin 13)] := getElem_set_ne _ (i := (6 : Fin 13)) (j := 11) (by decide) _
    rw [← apart]
    rfl

end

end Sys2Proof.Machine
end

section
/-! PROOF. A consumed TILE_DATA, the end of its context, and the context expiry (R119 to R121). Settles O42. -/

namespace Sys2Proof.Machine

section
variable {s t u : State} {p : TrunkPort} {c : Cell} {sid : StreamId} {k : ContextNo} {x : Context}

theorem matches_iff (x : Context) (c : Cell) :
    x.matches c = true ↔ byteAt c 3 = x.sequence.extractLsb' 0 8 ∧ (halfAt c 4).toNat = x.next := by
  rw [Context.matches, Bool.and_eq_true, beq_iff_eq, beq_iff_eq]
  exact Iff.rfl

theorem endsWith_inTurn (inTurn : x.matches c = true) : x.endsWith c = true ↔ x.cellCount ≤ x.next + 1 := by
  rw [Context.endsWith, if_pos inTurn, decide_eq_true_iff]

theorem endsWith_outOfTurn (outOfTurn : ¬ x.matches c = true) :
    x.endsWith c = true ↔ x.cellCount ≤ (halfAt c 4).toNat + 1 := by
  rw [Context.endsWith, if_neg outOfTurn, decide_eq_true_iff]
  exact Iff.rfl

/-- A data cell whose stream has a context is taken by it. -/
theorem consumeData_open (ok : s.contextsOk) (isOpen : s.router.contexts[k] = some x) (stream : x.stream = streamOf c) :
    consumeData c s = takeData k x c s := by
  rw [consumeData, contextOf_eq ok isOpen stream]
  dsimp only
  rw [isOpen]

theorem consumeData_alone (alone : ∀ k : ContextNo, ∀ x : Context, s.router.contexts[k] = some x → x.stream ≠ streamOf c) :
    consumeData c s = countRouter .orphanCell s := by
  rw [consumeData, contextOf_eq_none alone]

theorem endsContext_open (consumes : s.consumes c = true) (ok : s.contextsOk) (isOpen : s.router.contexts[k] = some x)
    (stream : x.stream = streamOf c) : s.endsContext c = x.endsWith c := by
  rw [State.endsContext, consumes, contextOf_eq ok isOpen stream]
  dsimp only
  rw [isOpen]
  rfl

theorem endsContext_alone (alone : ∀ k : ContextNo, ∀ x : Context, s.router.contexts[k] = some x → x.stream ≠ streamOf c) :
    s.endsContext c = false := by
  rw [State.endsContext, contextOf_eq_none alone]
  exact Bool.and_false _

/-- CONTEXT_END is the data cell with which a context ends, and no other (R120). -/
theorem exec_contextEnd (p : TrunkPort) (c : Cell) (s : State) :
    exec (.contextEnd p c) s = if s.endsContext c then exec (.tileData p c) s else .next s := by
  show execContextEnd p c s = _
  unfold execContextEnd
  cases s.endsContext c with
  | true => rw [Bool.and_true]; rfl
  | false => rw [Bool.and_false]; rfl

/-! ### What an open context does with a data cell (R119, R120) -/

/-- The store with the bytes of a data cell behind those of a slot (R119). -/
theorem takeData_inTurn (inTurn : x.matches c = true) (k : ContextNo) (s : State) : takeData k x c s =
    let u := (s.withStore (s.store.writeBytes x.slot (x.bytesOf c))).withContext k
      (some { x with next := x.next + 1, damaged := x.damaged || badTile c })
    if x.endsWith c then endContext k { x with next := x.next + 1, damaged := x.damaged || badTile c }
      (x.damaged || badTile c) u
    else u := by
  unfold takeData Context.taking
  simp only [if_pos inTurn]

theorem takeData_outOfTurn (outOfTurn : ¬ x.matches c = true) (k : ContextNo) (s : State) : takeData k x c s =
    let u := s.withContext k (some { x with damaged := true })
    if x.endsWith c then endContext k { x with damaged := true } true u else u := by
  unfold takeData Context.taking
  simp only [if_neg outOfTurn]

/-- A damaged context that ends gives its FILLING slot back, whatever was written (R120). -/
theorem endContext_damaged (filling : (s.store.slots[x.slot]).state = .filling) (isOpen : s.router.contexts[k] = some x) :
    endContext k x true s = { s with
      store := { s.store with slots := s.store.slots.set x.slot ⟨.free, .none, none, 0, false, false, none, []⟩ }
      router := { s.router with
        contexts := s.router.contexts.set k none
        counters := s.router.counters.set 11 (increment s.router.counters[(11 : Fin 13)]) } } :=
  (if_pos rfl).trans (abandonContext_eq isOpen filling .tileBroken)

theorem dataCellsFillTheContext : Claim.DataCellsFillTheContext := by
  intro p c s taken ok
  dsimp only
  have consumes : s.consumes c = true := (consumes_iff c).mpr taken.2
  have row : exec (.tileData p c) s = .next (consumeData c (s.tilePassed p c)) := exec_consumed (.inr rfl) taken
  refine ⟨fun alone => ⟨?_, ?_⟩, fun k x isOpen stream => ?_⟩
  · rw [row, consumeData_alone (by exact alone)]
    rfl
  · rw [exec_contextEnd, endsContext_alone alone, if_neg Bool.false_ne_true]
  have takes : exec (.tileData p c) s = .next (takeData k x c (s.tilePassed p c)) := by
    rw [row, consumeData_open (by exact ok) (by exact isOpen) stream]
  have ends (last : x.endsWith c = true) : exec (.contextEnd p c) s = exec (.tileData p c) s := by
    rw [exec_contextEnd, endsContext_open consumes ok isOpen stream, if_pos last]
  have goesOn (more : ¬ x.endsWith c = true) : exec (.contextEnd p c) s = .next s := by
    rw [exec_contextEnd, endsContext_open consumes ok isOpen stream, if_neg more]
  refine ⟨fun inTurn more => ?_, fun outOfTurn more => ?_, fun inTurn last whole good => ?_,
    fun inTurn last broken filling => ?_, fun outOfTurn last filling => ?_⟩
  · have isNext := (matches_iff x c).mpr inTurn
    have notLast : ¬ x.endsWith c = true := fun h => absurd ((endsWith_inTurn isNext).mp h) (by omega)
    refine ⟨?_, goesOn notLast⟩
    rw [takes, takeData_inTurn isNext]
    exact congrArg _ (if_neg notLast)
  · have notNext : ¬ x.matches c = true := fun h => outOfTurn ((matches_iff x c).mp h)
    have notLast : ¬ x.endsWith c = true := fun h => absurd ((endsWith_outOfTurn notNext).mp h) (by omega)
    refine ⟨?_, goesOn notLast⟩
    rw [takes, takeData_outOfTurn notNext]
    exact congrArg _ (if_neg notLast)
  · have isNext := (matches_iff x c).mpr inTurn
    have isLast := (endsWith_inTurn isNext).mpr last
    have undamaged : (x.damaged || badTile c) = false := by
      rw [whole, Bool.false_or]
      exact good
    have result := (takes.trans (congrArg _ ((takeData_inTurn isNext k (s.tilePassed p c)).trans (if_pos isLast))))
    rw [undamaged] at result
    rw [ends isLast]
    refine ⟨_, result, result, ?_⟩
    clear result
    generalize holds : (((s.tilePassed p c).withStore ((s.tilePassed p c).store.writeBytes x.slot (x.bytesOf c))).withContext
      k (some { x with next := x.next + 1, damaged := false })).withContext k none = closed
    have wrote : closed = { s.tilePassed p c with
        store := s.store.writeBytes x.slot (x.bytesOf c)
        router := { (s.tilePassed p c).router with contexts := s.router.contexts.set k none } } := by
      rw [← holds]
      simp only [State.withContext, State.withRouter, State.withStore, Vector.set_set]
      rfl
    have published : endContext k { x with next := x.next + 1, damaged := false } false
        (((s.tilePassed p c).withStore ((s.tilePassed p c).store.writeBytes x.slot (x.bytesOf c))).withContext
          k (some { x with next := x.next + 1, damaged := false }))
        = countRouter .tilesIn (publishTile x.slot x.view closed) := by
      rw [← holds]
      rfl
    rw [published, publishTile_eq]
    have alarm : closed.alarm = s.alarm := by rw [wrote]; rfl
    refine ⟨by rw [wrote]; rfl, by rw [wrote]; rfl, by rw [wrote]; rfl, rfl, fun same => ?_, fun moved => ?_, ?_⟩
    · have stands := publishTile_stands (s := closed) (same.trans alarm.symm)
      refine ⟨stands.1.trans ?_, stands.2.trans ?_⟩
      · rw [wrote]; rfl
      · rw [wrote]; rfl
    · have evaluated := publishTile_evaluates (s := closed) (fun same => moved (same.trans alarm))
      have seen := evaluateBoth_seen (s := { closed with alarm := (closed.store.publish x.slot x.view).alarmCount })
        (t := { s with alarm := (closed.store.publish x.slot x.view).alarmCount }) (by rw [wrote]; rfl)
      exact ⟨evaluated.1.trans seen.1, evaluated.2.trans seen.2⟩
    · refine (sameBut_iff_mask _ _ _).mpr ?_
      rw [wrote]
      rfl
  · have isNext := (matches_iff x c).mpr inTurn
    have isLast := (endsWith_inTurn isNext).mpr last
    have damaged : (x.damaged || badTile c) = true := by
      rw [Bool.or_eq_true]
      exact broken
    rw [ends isLast, and_self, takes, takeData_inTurn isNext, damaged]
    refine congrArg _ ((if_pos isLast).trans ?_)
    rw [endContext_damaged ?_ (by exact withContext_same ..)]
    · simp only [State.withContext, State.withRouter, State.withStore, Store.writeBytes, Store.setSlot, Vector.set_set]
      rfl
    · exact (congrArg Slot.state (getElem_set_same ..)).trans filling
  · have notNext : ¬ x.matches c = true := fun h => outOfTurn ((matches_iff x c).mp h)
    have isLast := (endsWith_outOfTurn notNext).mpr last
    rw [ends isLast, and_self, takes, takeData_outOfTurn notNext]
    refine congrArg _ ((if_pos isLast).trans ?_)
    rw [endContext_damaged (by exact filling) (by exact withContext_same ..)]
    simp only [State.withContext, State.withRouter, Vector.set_set]
    rfl

theorem aContextTimesOut : Claim.AContextTimesOut := by
  intro k s
  refine ⟨fun x isOpen reached filling => ?_, fun x isOpen before => ?_, fun closed => ?_⟩
  · show execContextExpiry k s = _
    unfold execContextExpiry
    rw [isOpen, Option.map_some, if_pos reached, abandonContext_eq isOpen filling]
    rfl
  · show execContextExpiry k s = _
    unfold execContextExpiry
    rw [isOpen, Option.map_some, before, if_neg Bool.false_ne_true]
  · show execContextExpiry k s = _
    unfold execContextExpiry
    rw [closed]
    rfl

/-- Settles O42: a data cell by its turn and the end of its context, and the expiry by its time. -/
theorem contextsFillAndTimeOut : Obligations.ContextsFillAndTimeOut := ⟨dataCellsFillTheContext, aContextTimesOut⟩

end

end Sys2Proof.Machine
end

section
/-! PROOF. What the store does with a pin request (R49, R50). Settles O27. -/

namespace Sys2Proof.Machine

section
variable {s : State}

theorem pinCount_eq (st : Store) : st.pinCount = (Finset.univ.filter fun i : SlotNo => (st.slots[i]).pinned = true).card := by
  rw [Fin.univ_def]
  simp [Store.pinCount, Finset.card, Multiset.filter_coe]

/-- With an empty evidence position fewer than four slots are pinned: each pinned slot has a position of its own (R50). -/
theorem pinCount_lt (ok : s.storeOk) {k : Fin 4} (empty : s.store.evidence[k] = none) : s.store.pinCount < 4 := by
  obtain ⟨slots, -⟩ := ok
  have position : ∀ i : SlotNo, (s.store.slots[i]).pinned = true → ∃ j : Fin 4, ∃ e : Evidence,
      s.store.evidence[j] = some e ∧ e.slot = i := fun i => (slots i).2.2.mp
  choose! at_ entry full names using position
  have count : (Finset.univ.filter fun i : SlotNo => (s.store.slots[i]).pinned = true).card
      ≤ (Finset.univ.erase k).card := by
    refine Finset.card_le_card_of_injOn at_ (fun i hi => ?_) fun i hi j hj same => ?_
    · rw [Finset.mem_coe, Finset.mem_filter] at hi
      rw [Finset.mem_coe, Finset.mem_erase]
      refine ⟨fun here => ?_, Finset.mem_univ _⟩
      have := full i hi.2
      rw [here, empty] at this
      cases this
    · rw [Finset.mem_coe, Finset.mem_filter] at hi hj
      have := full i hi.2
      rw [same, full j hj.2] at this
      rw [← names i hi.2, ← names j hj.2, Option.some.inj this]
  rw [pinCount_eq]
  exact Nat.lt_succ_of_le (count.trans (by rw [Finset.card_erase_of_mem (Finset.mem_univ k)]; simp))

/-- Settles O27: by the LATEST tile, its pin mark, and the lowest empty position. -/
theorem aPinRequestIsTaken : Obligations.APinRequestIsTaken := by
  intro c lens coverage s ok
  dsimp only
  refine ⟨fun noTile => ?_, fun i tile pinned => ?_, fun i tile unpinned full => ?_, fun i k tile unpinned empty lowest => ?_⟩
  · rw [pinRequest, noTile]
    rfl
  · rw [pinRequest, tile]
    exact if_pos pinned
  · have unfilled : s.store.emptyPosition = none :=
      List.find?_eq_none.mpr fun k _ => by simpa using full k
    rw [pinRequest, tile]
    simp only [unpinned, unfilled, Bool.false_eq_true, if_false]
    split <;> rfl
  · have found : s.store.emptyPosition = some k :=
      find_finRange_eq (by rw [empty]; rfl) fun j before =>
        Bool.eq_false_of_not_eq_true fun h => lowest j before (Option.isNone_iff_eq_none.mp h)
    have room : ¬ Config.pinCapacity ≤ s.store.pinCount := Nat.not_le.mpr (pinCount_lt ok empty)
    rw [pinRequest, tile]
    simp only [unpinned, found, if_neg room, Bool.false_eq_true, if_false]
    rfl

end

end Sys2Proof.Machine
end

section
/-! PROOF. The staleness expiry and the hold expiry (R128, R140). Settles O44. -/

namespace Sys2Proof.Machine

section
variable {s t : State}

/-! ### The selection that an evaluation leaves -/

/-- The selection of a screen after an evaluation (R139, R140). -/
def Selection.after (x : Selection) (w : Wanted) (t : NodeTime) : Selection :=
  if w.layout = x.layout then { x with urgency := w.urgency }
  else if x.takes w t then Selection.switchTo w t else x

theorem evaluate_selection (sc : Screen) (s : State) :
    (evaluate sc s).selection = s.selection.set sc ((s.selection[sc]).after (s.wanted sc) s.nodeTime) := by
  unfold evaluate Selection.after
  dsimp only
  split
  · rfl
  · split
    · split <;> rfl
    · exact (Vector.set_getElem_self _).symm

theorem wanted_evaluate (sc sc' : Screen) (s : State) : (evaluate sc s).wanted sc' = s.wanted sc' := by
  rw [evaluate_eq]
  rfl

theorem nodeTime_evaluate (sc : Screen) (s : State) : (evaluate sc s).nodeTime = s.nodeTime := by
  rw [evaluate_eq]

/-- Each screen is evaluated for itself (R137). -/
theorem evaluateBoth_selection (sc : Screen) (s : State) :
    (evaluateBoth s).selection[sc] = (s.selection[sc]).after (s.wanted sc) s.nodeTime := by
  rw [evaluateBoth, evaluate_selection, wanted_evaluate, nodeTime_evaluate, evaluate_selection]
  fin_cases sc
  · exact (getElem_set_ne _ (i := (1 : Fin 2)) (j := 0) (by decide) _).trans (getElem_set_same _ (0 : Fin 2) _)
  · refine (getElem_set_same _ (1 : Fin 2) _).trans ?_
    rw [getElem_set_ne _ (i := (0 : Fin 2)) (j := 1) (by decide)]
    rfl

theorem aStaleRecordShowsTheStaleLayouts : Claim.AStaleRecordShowsTheStaleLayouts := by
  intro s
  refine ⟨fun fresh reached => ⟨clearFresh s, ?_, ?_, fun sc => ?_, ?_⟩, fun early => ?_⟩
  · exact congrArg _ (if_pos (by rw [fresh, reached]; rfl))
  · rw [clearFresh, evaluateBoth_eq]
    rfl
  · rw [clearFresh, evaluateBoth_selection, wanted_stale rfl]
    unfold Selection.after
    refine if_congr Iff.rfl rfl (if_congr ?_ (by rfl) rfl)
    exact takes_iff ..
  · exact (sameBut_iff_mask _ _ _).mpr (by rw [clearFresh, evaluateBoth_eq]; rfl)
  · refine congrArg _ (if_neg ?_)
    rcases early with h | h
    · rw [h, Bool.false_and]; exact Bool.false_ne_true
    · rw [h, Bool.and_false]; exact Bool.false_ne_true

theorem aHoldExpiryEvaluatesTheScreen : Claim.AHoldExpiryEvaluatesTheScreen := by
  intro sc s
  dsimp only
  refine ⟨fun reached ended => ⟨evaluate sc (s.withSelection sc { s.selection[sc] with holdExpiry := none }),
    congrArg Host.Outcome.next (if_pos reached), ?_, ?_⟩, fun early => congrArg Host.Outcome.next (if_neg ?_)⟩
  · have wanted : (s.withSelection sc { s.selection[sc] with holdExpiry := none }).wanted sc = s.wanted sc := rfl
    have here : (s.withSelection sc { s.selection[sc] with holdExpiry := none }).selection[sc]
        = { s.selection[sc] with holdExpiry := none } := getElem_set_same ..
    have takes (w : Wanted) : ({ s.selection[sc] with holdExpiry := none } : Selection).takes w s.nodeTime = true :=
      (takes_iff ..).mpr (.inl ended)
    rw [evaluate_selection, wanted, here]
    refine (Vector.set_set ..).trans (congrArg (fun x => s.selection.set sc x) ?_)
    unfold Selection.after
    exact if_congr Iff.rfl rfl (if_pos (takes _))
  · exact (sameBut_iff_mask _ _ _).mpr (by rw [evaluate_eq]; rfl)
  · rw [early]; decide

/-- Settles O44: both expiries are evaluations, with the hold ended or the record stale. -/
theorem stalenessAndHoldExpiryEvaluate : Obligations.StalenessAndHoldExpiryEvaluate :=
  ⟨aStaleRecordShowsTheStaleLayouts, aHoldExpiryEvaluatesTheScreen⟩

end

end Sys2Proof.Machine
end

section
/-! PROOF. The frame start of a screen output (R147, R150, R152). Settles O46. -/

namespace Sys2Proof.Machine

section
variable {s t : State}

theorem takeApply_eq (s : State) : takeApply s = { s with
    tables := { s.tables with activeBank := s.appliedBank }
    comp := { s.comp with applyImage := none } } := by
  have stands (c : Compositor) (waits : c.applyImage = none) : c = { c with applyImage := none } := by rw [← waits]
  unfold takeApply State.appliedBank
  cases image : s.comp.applyImage with
  | none =>
    show s = { s with comp := _ }
    rw [← stands s.comp image]
  | some image => rfl

/-- The state in which the new frame is drawn: the previous holds have ended and a waiting apply is taken. -/
def State.frameBegun (s : State) (sc : Screen) : State := { s with
  store := s.store.endHolds (s.comp.outputs[sc]).held
  tables := { s.tables with activeBank := s.appliedBank }
  comp := { s.comp with applyImage := none } }

theorem frameStart_eq (sc : Screen) (s : State) : frameStart sc s =
    if s.isHead then ((s.frameBegun sc).withStore
        ((s.store.endHolds (s.comp.outputs[sc]).held).takeHolds ((s.frameBegun sc).composedFrame sc).held)).withOutput sc
      ⟨true, some ((s.frameBegun sc).composedFrame sc)⟩
    else (s.frameBegun sc).withOutput sc ⟨true, some (backgroundFrame (s.tables.outputConfig[sc]).colour)⟩ := by
  have begun : takeApply (endFrameHolds sc s) = s.frameBegun sc := takeApply_eq ..
  unfold frameStart
  rw [begun]
  rfl

theorem exec_screenFrameStart (sc : Screen) (s : State) :
    exec (.screenFrameStart sc) s = .next (if (s.comp.outputs[sc]).running then frameStart sc s else s) := rfl

theorem frameStart_tables (sc : Screen) (s : State) :
    (frameStart sc s).tables = { s.tables with activeBank := s.appliedBank } := by
  rw [frameStart_eq]
  split <;> rfl

/-- A frame start touches its own output and takes the waiting apply, of the compositor. -/
theorem frameStart_comp (sc : Screen) (s : State) :
    ∃ o, (frameStart sc s).comp = { s.comp with applyImage := none, outputs := s.comp.outputs.set sc o } := by
  rw [frameStart_eq]
  split <;> exact ⟨_, rfl⟩

theorem frameStart_head (head : s.isHead = true) (sc : Screen) :
    (frameStart sc s).store = (s.store.endHolds (s.comp.outputs[sc]).held).takeHolds ((s.frameBegun sc).composedFrame sc).held
      ∧ (frameStart sc s).comp.outputs[sc] = ⟨true, some ((s.frameBegun sc).composedFrame sc)⟩ := by
  rw [frameStart_eq, if_pos head]
  exact ⟨rfl, getElem_set_same ..⟩

theorem frameStart_follows (follows : s.isHead = false) (sc : Screen) :
    (frameStart sc s).store = s.store.endHolds (s.comp.outputs[sc]).held
      ∧ (frameStart sc s).comp.outputs[sc] = ⟨true, some (backgroundFrame (s.tables.outputConfig[sc]).colour)⟩ := by
  rw [frameStart_eq, if_neg (by rw [follows]; exact Bool.false_ne_true)]
  exact ⟨rfl, getElem_set_same ..⟩

theorem mem_held_composedFrame (sc : Screen) (s : State) (i : SlotNo) :
    i ∈ (s.composedFrame sc).held ↔ ∃ d ∈ (s.composedFrame sc).panes, d.slot = some i :=
  List.mem_dedup.trans List.mem_filterMap

/-- Settles O46: the frame that a head composes, or background. -/
theorem aFrameStartComposesOnAHead : Obligations.AFrameStartComposesOnAHead := by
  intro sc s
  dsimp only
  obtain ⟨o, comp⟩ := frameStart_comp sc s
  refine ⟨fun off => by rw [exec_screenFrameStart, off]; rfl, fun runs => ⟨frameStart sc s, ?_, frameStart_tables sc s,
    by rw [comp], by rw [comp], fun other away => ?_, ?_, frameStart_follows (sc := sc), fun head => ?_⟩⟩
  · rw [exec_screenFrameStart, if_pos runs]
  · rw [comp]
    exact getElem_set_ne _ away.symm _
  · exact (sameBut_iff_mask _ _ _).mpr (mask_frameStart (by simp) (by simp) (by simp))
  · obtain ⟨store, output⟩ := frameStart_head head sc
    exact ⟨(s.frameBegun sc).composedFrame sc, output, rfl, rfl, rfl, rfl, List.nodup_dedup _,
      mem_held_composedFrame sc (s.frameBegun sc), store⟩

end

end Sys2Proof.Machine
end

section
/-! PROOF. What a pane binds to, what it shows, and how it is drawn (R153 to R160). Settles O47. -/

namespace Sys2Proof.Machine

section
variable {s : State} {q : Pane} {v : ViewNo} {door : Option (Fin 16)} {i : SlotNo} {r : TileRecord} {st : Stamp}

/-! ### The resolution of a pane (R153, R154) -/

theorem focusDoors_eq (s : State) (q : Pane) : s.focusDoors q = (List.finRange 16).filter fun k : Fin 16 =>
    (q.side = 3 || (q.side = 1 && (s.tables.door[k]).side = .one) || (q.side = 2 && (s.tables.door[k]).side = .two))
      && q.focus.getLsbD (s.vehicle.doors[k]).code := by
  simp only [State.focusDoors, sideMatches_byte]

theorem resolve_beyond (source : q.source = .doorFocus) (beyond : (s.focusDoors q).length < q.rank.toNat) :
    s.resolve q = q.fallback := by
  have missing : (s.focusDoors q)[q.rank.toNat - 1]? = none := List.getElem?_eq_none (by omega)
  rw [State.resolve, source]
  simp only [missing]

theorem resolve_fitted {k : Fin 16} {c : CameraId} (source : q.source = .doorFocus)
    (bound : (s.focusDoors q)[q.rank.toNat - 1]? = some k) (fitted : (s.tables.door[k]).camera = some c) :
    s.resolve q = .view (viewOf c q.focusRendition.toNat) (some k) := by
  rw [State.resolve, source]
  simp only [bound, fitted]

theorem resolve_unfitted {k : Fin 16} (source : q.source = .doorFocus)
    (bound : (s.focusDoors q)[q.rank.toNat - 1]? = some k) (unfitted : (s.tables.door[k]).camera = none) :
    s.resolve q = .noCamera k := by
  rw [State.resolve, source]
  simp only [bound, unfitted]

/-! ### A pane as drawn, by its resolution (R155 to R160) -/

theorem drawPane_blank (blank : s.resolve q = .blank) (mode : Nat) : s.drawPane mode q
    = ⟨.blank, none, none, ⟨q.x, q.y, 0, 0⟩, ⟨q.x, q.y, 0, 0⟩, [], none⟩ := by
  rw [State.drawPane, blank]

theorem drawPane_noCamera {k : Fin 16} (unfitted : s.resolve q = .noCamera k) (mode : Nat) : s.drawPane mode q
    = ⟨.placeholder .noCamera, none, some k, ⟨q.x, q.y, 320, 180⟩,
      (⟨q.x, q.y, 320, 180⟩ : Rect).clip (screenWidth mode) (screenHeight mode), [], none⟩ := by
  rw [State.drawPane, unfitted]

theorem drawPane_absent (view : s.resolve q = .view v door) (empty : s.store.viewMap[v] = none) (mode : Nat) :
    s.drawPane mode q = ⟨s.absence v, none, door, ⟨q.x, q.y, 320, 180⟩,
      (⟨q.x, q.y, 320, 180⟩ : Rect).clip (screenWidth mode) (screenHeight mode), [], none⟩ := by
  rw [State.drawPane, view]
  simp only [empty, State.present]
  rfl

/-- The rectangle of a pane that has a slot (R157). -/
def Pane.areaOf (q : Pane) (x : Slot) : Rect := ⟨q.x, q.y, (paneSize (some x)).1, (paneSize (some x)).2⟩

theorem drawPane_tile (view : s.resolve q = .view v door) (tile : s.store.viewMap[v] = some i) (mode : Nat) :
    s.drawPane mode q = ⟨s.present q v, some i, door, q.areaOf s.store.slots[i],
      (q.areaOf s.store.slots[i]).clip (screenWidth mode) (screenHeight mode),
      if (s.present q v).showsTile then overlaysOf (s.present q v) s.store.slots[i] (q.areaOf s.store.slots[i]) else [],
      if (s.present q v).showsTile then labelOn q door (q.areaOf s.store.slots[i]) else none⟩ := by
  rw [State.drawPane, view]
  simp only [tile]
  rfl

/-! ### The presentation (R156) -/

theorem olderThan_iff (age ms : Nat) : olderThan age ms = true ↔ 10 * ms < age := decide_eq_true_iff

theorem present_tile (tile : s.store.viewMap[v] = some i) : s.present q v =
    if (s.store.slots[i]).damaged then .placeholder .noPicture
    else if (s.store.slots[i]).picture = .frozen then .placeholder .frozen
    else if (s.store.slots[i]).picture = .noSignal then .placeholder .noPicture
    else if 10 * q.blankAge < (s.store.slots[i]).ageAt s.nodeTime then s.absence v
    else if 10 * q.staleAge < (s.store.slots[i]).ageAt s.nodeTime then .stale else .live := by
  rw [State.present]
  simp only [tile, olderThan_iff]

theorem picture_of_stamp {x : Slot} (record : x.record = some r) (stamp : r.stamp = some st) : x.picture = st.picture := by
  rw [Slot.picture, record, Option.bind_some, stamp]

theorem lens_of_stamp {x : Slot} (record : x.record = some r) (stamp : r.stamp = some st) : x.lens = st.lens := by
  rw [Slot.lens, record, Option.bind_some, stamp]

theorem ageAt_of_stamp {x : Slot} (record : x.record = some r) (stamp : r.stamp = some st) (t : NodeTime) :
    x.ageAt t = ageInRange (st.base.sumAt t) := by
  rw [Slot.ageAt, record, Option.bind_some, stamp]
  rfl

theorem aPaneShowsItsView : Claim.APaneShowsItsView := by
  intro mode q s
  dsimp only
  rw [← focusDoors_eq s q]
  have blank (resolved : s.resolve q = .blank) :
      (s.drawPane mode q).presentation = .blank ∧ (s.drawPane mode q).slot = none := by
    rw [drawPane_blank resolved]
    exact ⟨rfl, rfl⟩
  refine ⟨fun source => blank ?_, fun source beyond bare => blank ?_, fun k source ranked bound unfitted => ?_,
    fun v k binds => ?_⟩
  · rw [State.resolve, source]
  · rw [resolve_beyond source beyond, Pane.fallback, bare]
    rfl
  · rw [drawPane_noCamera (resolve_unfitted source bound unfitted)]
    exact ⟨rfl, rfl, rfl⟩
  · have view : s.resolve q = .view v k := by
      rcases binds with ⟨source, rfl, rfl⟩ | ⟨source, fallback, beyond, rfl, rfl⟩ | ⟨n, c, source, -, bound, fitted, rfl, rfl⟩
      · rw [State.resolve, source]
        rfl
      · rw [resolve_beyond source beyond, Pane.fallback, fallback]
        rfl
      · exact resolve_fitted source bound fitted
    refine ⟨?_, ?_, fun empty idle => ?_, fun empty testing => ?_, fun i r st tile record stamp => ?_⟩
    · cases tile : s.store.viewMap[v] with
      | none => rw [drawPane_absent view tile]
      | some i => rw [drawPane_tile view tile]
    · cases tile : s.store.viewMap[v] with
      | none => rw [drawPane_absent view tile]
      | some i => rw [drawPane_tile view tile]
    · rw [drawPane_absent view empty, State.absence, idle]
      rfl
    · rw [drawPane_absent view empty, State.absence, testing]
      rfl
    · rw [drawPane_tile view tile]
      dsimp only
      rw [present_tile tile, picture_of_stamp record stamp, ageAt_of_stamp record stamp]
      rfl

/-! ### Overlays, labels and clipping (R157 to R160) -/

theorem screenWidth_eq {mode : Nat} (known : mode ≤ 5) :
    screenWidth mode = if mode = 4 ∨ mode = 5 then 1920 else 1280 := by
  unfold screenWidth
  split <;> split <;> omega

theorem screenHeight_eq {mode : Nat} (known : mode ≤ 5) : screenHeight mode
    = if mode = 0 ∨ mode = 1 then 800 else if mode = 2 ∨ mode = 3 then 1024 else 1080 := by
  unfold screenHeight
  interval_cases mode <;> rfl

theorem showsTile_iff (pr : Presentation) : pr.showsTile = true ↔ pr = .live ∨ pr = .stale := by
  cases pr <;> simp [Presentation.showsTile]

/-- A tile is shown only with a complete record (R156). -/
theorem stamp_of_shows (tile : s.store.viewMap[v] = some i) (shows : (s.present q v).showsTile = true) :
    ∃ r st, (s.store.slots[i]).record = some r ∧ r.stamp = some st := by
  cases record : (s.store.slots[i]).record.bind (·.stamp) with
  | some st =>
    obtain ⟨r, isRecord, stamp⟩ := Option.bind_eq_some_iff.mp record
    exact ⟨r, st, isRecord, stamp⟩
  | none =>
    have noSignal : (s.store.slots[i]).picture = .noSignal := by rw [Slot.picture, record]
    rw [present_tile tile, noSignal] at shows
    split at shows
    · cases shows
    · cases shows

theorem absence_shows (s : State) (v : ViewNo) : (s.absence v).showsTile = false ∧ s.absence v ≠ .blank :=
  ⟨rfl, Presentation.noConfusion⟩

theorem present_not_blank (tile : s.store.viewMap[v] = some i) : s.present q v ≠ .blank := by
  rw [present_tile tile]
  (repeat' split) <;> exact Presentation.noConfusion

theorem mem_overlaysOf (pr : Presentation) (x : Slot) (a : Rect) (o : Overlay) : o ∈ overlaysOf pr x a ↔
    (x.lens = .smeared ∧ o = ⟨.amberLens, ⟨a.x + a.w - 40, a.y + 8, 32, 32⟩⟩)
    ∨ (x.lens = .blocked ∧ (o = ⟨.redLens, ⟨a.x + a.w - 40, a.y + 8, 32, 32⟩⟩ ∨ o = ⟨.redFrame, a⟩))
    ∨ (x.picture = .dark ∧ o = ⟨.darkIcon, ⟨a.x + 8, a.y + 8, 32, 32⟩⟩)
    ∨ (pr = .stale ∧ x.lens ≠ .blocked ∧ o = ⟨.amberFrame, a⟩)
    ∨ (pr = .stale ∧ x.lens = .blocked ∧ o = ⟨.amberFrame, ⟨a.x + 4, a.y + 4, a.w - 8, a.h - 8⟩⟩) := by
  have frame : (pr = .stale ∧ o = ⟨.amberFrame, if x.lens = .blocked then ⟨a.x + 4, a.y + 4, a.w - 8, a.h - 8⟩ else a⟩)
      ↔ (pr = .stale ∧ x.lens ≠ .blocked ∧ o = ⟨.amberFrame, a⟩)
        ∨ (pr = .stale ∧ x.lens = .blocked ∧ o = ⟨.amberFrame, ⟨a.x + 4, a.y + 4, a.w - 8, a.h - 8⟩⟩) := by
    by_cases blocked : x.lens = .blocked <;> simp [blocked]
  rw [← frame]
  simp only [overlaysOf, List.mem_append, List.mem_ite_nil_right, List.mem_cons, List.not_mem_nil, or_false, or_assoc]

theorem aPaneIsDrawnWithItsOverlays : Claim.APaneIsDrawnWithItsOverlays := by
  intro mode q s
  dsimp only
  intro known
  rw [← screenWidth_eq known, ← screenHeight_eq known]
  cases resolved : s.resolve q with
  | blank =>
    rw [drawPane_blank resolved]
    refine ⟨rfl, rfl, fun _ => ⟨rfl, rfl⟩, fun _ h => Presentation.noConfusion h, fun _ _ h => absurd h (Option.some_ne_none _).symm,
      fun h => absurd rfl h, fun _ => ⟨rfl, rfl⟩, fun h => ?_⟩
    rcases h with h | h
    · cases h
    · cases h
  | noCamera k =>
    rw [drawPane_noCamera resolved]
    refine ⟨rfl, rfl, fun h => Presentation.noConfusion h, fun _ _ _ => ⟨rfl, rfl⟩, fun _ _ h => absurd h (Option.some_ne_none _).symm,
      fun _ => rfl, fun _ => ⟨rfl, rfl⟩, fun h => ?_⟩
    rcases h with h | h
    · cases h
    · cases h
  | view v door =>
    cases tile : s.store.viewMap[v] with
    | none =>
      obtain ⟨hidden, notBlank⟩ := absence_shows s v
      rw [drawPane_absent resolved tile]
      refine ⟨rfl, rfl, fun h => absurd h notBlank, fun _ _ _ => ⟨rfl, rfl⟩, fun _ _ h => absurd h (Option.some_ne_none _).symm,
        fun _ => rfl, fun _ => ⟨rfl, rfl⟩, fun h => ?_⟩
      rw [← showsTile_iff] at h
      exact absurd (h.symm.trans hidden) Bool.noConfusion
    | some i =>
      rw [drawPane_tile resolved tile]
      refine ⟨rfl, rfl, fun h => absurd h (present_not_blank tile), fun _ _ h => absurd h (Option.some_ne_none _), fun i' r own record => ?_,
        fun _ => rfl, fun hidden => ?_, fun shows => ?_⟩
      · obtain rfl := Option.some.inj own
        simp only [Pane.areaOf, paneSize, Option.bind_some, record, and_self]
      · rw [← showsTile_iff] at hidden
        exact ⟨if_neg hidden, if_neg hidden⟩
      · rw [← showsTile_iff] at shows
        obtain ⟨r, st, record, stamp⟩ := stamp_of_shows tile shows
        refine ⟨i, r, st, rfl, record, stamp, fun o => ?_, fun kind => ?_, fun kind => ?_, fun kind => ?_⟩
        · dsimp only
          rw [if_pos shows, mem_overlaysOf, lens_of_stamp record stamp, picture_of_stamp record stamp]
        all_goals
          dsimp only
          rw [if_pos shows, labelOn, kind]

/-- Settles O47: what a pane binds to and shows, and how it is drawn. -/
theorem aPaneShowsItsViewByItsAge : Obligations.APaneShowsItsViewByItsAge :=
  ⟨aPaneShowsItsView, aPaneIsDrawnWithItsOverlays⟩

end

end Sys2Proof.Machine
end

section
/-! PROOF. A command at the head of the agent's queue: it is carried out, answered and removed (R166, R167). -/

namespace Sys2Proof.Machine

section
variable {s t u : State} {c : AgentCommand} {n : CommandName} {st : Status} {parts : List (List Byte)}

/-! ### Replies -/

theorem reply_eq (c : AgentCommand) (st : Status) (parts : List (List Byte)) (s : State) :
    reply c st parts s = { s with trunk := (reply c st parts s).trunk } := by
  rw [reply, placeAll_eq]
  rfl

/-- A reply joins the control queue of the ports that stand; the node number is all else it needs (R167). -/
theorem reply_trunk_congr (trunk : t.trunk = s.trunk) (straps : t.straps = s.straps) :
    (reply c st parts t).trunk = (reply c st parts s).trunk := by
  simp only [reply, placeAll_eq, State.withTrunk, State.nodeNumber, trunk, straps]

/-- A command answered and removed: the queue moves on, and the reply joins the ports (R166, R167). -/
def State.answered (c : AgentCommand) (st : Status) (parts : List (List Byte)) (s : State) : State :=
  { s with agent := { s.agent with queue := s.agent.queue.drop 1 }, trunk := (reply c st parts s).trunk }

theorem popCommand_reply (c : AgentCommand) (st : Status) (parts : List (List Byte)) (s : State) :
    popCommand (reply c st parts s) = s.answered c st parts := by
  rw [reply_eq]
  rfl

/-- What a command's work leaves, once it is answered: the reply needs only what stood before. -/
theorem answered_of_same (trunk : t.trunk = s.trunk) (straps : t.straps = s.straps) (c : AgentCommand) (st : Status)
    (parts : List (List Byte)) : t.answered c st parts
      = { t with agent := { t.agent with queue := t.agent.queue.drop 1 }, trunk := (reply c st parts s).trunk } := by
  rw [State.answered, reply_trunk_congr trunk straps]

theorem answers_answered (c : AgentCommand) (st : Status) (parts : List (List Byte)) (s : State) :
    Answers c st parts s (s.answered c st parts) ∧ SameBut [.agent, .trunk] s (s.answered c st parts) :=
  ⟨⟨rfl, rfl⟩, (sameBut_iff_mask _ _ _).mpr (by rfl)⟩

/-! ### The command at the head of the queue (R166) -/

/-- A known command at the head is not disposed of. -/
theorem disposeUnknown_known (head : s.agent.queue.head? = some c) (known : c.name = some n) :
    disposeUnknown s.agent.queue s = s := by
  cases queue : s.agent.queue with
  | nil =>
    rw [queue] at head
    cases head
  | cons d rest =>
    rw [queue] at head
    obtain rfl := Option.some.inj head
    unfold disposeUnknown
    rw [known]
    show s.withAgent { s.agent with queue := d :: rest } = s
    rw [← queue]
    rfl

/-- The command at the head of the queue, when its row applies (R166, R167). -/
theorem runCommand_head (head : s.agent.queue.head? = some c) (known : c.name = some n) {applies : State → Bool}
    (here : applies s = true) (act : AgentCommand → State → State) : runCommand n applies act s
      = popCommand (if allowedIn s.mode n then act c s else reply c .refusedMode [s.refusedResults n] s) := by
  unfold runCommand
  rw [disposeUnknown_known head known]
  dsimp only
  cases queue : s.agent.queue with
  | nil =>
    rw [queue] at head
    cases head
  | cons d rest =>
    rw [queue] at head
    obtain rfl := Option.some.inj head
    exact if_pos (And.intro known here)

theorem allowedIn_of_runs (runs : s.runs n c) : allowedIn s.mode n = true := by
  unfold State.runs at runs
  obtain ⟨-, -, modes⟩ := runs
  cases mode : s.mode with
  | run => rfl
  | standby => rfl
  | bypass => rcases modes mode with rfl | rfl | rfl | rfl <;> rfl

theorem runCommand_runs (runs : s.runs n c) {applies : State → Bool} (here : applies s = true)
    (act : AgentCommand → State → State) : runCommand n applies act s = popCommand (act c s) := by
  rw [runCommand_head runs.1 runs.2.1 here, if_pos (allowedIn_of_runs runs)]

theorem runCommand_refused (head : s.agent.queue.head? = some c) (known : c.name = some n) {applies : State → Bool}
    (here : applies s = true) (barred : allowedIn s.mode n = false) (act : AgentCommand → State → State) :
    runCommand n applies act s = s.answered c .refusedMode [s.refusedResults n] := by
  rw [runCommand_head head known here, barred, if_neg Bool.false_ne_true, popCommand_reply]

end

end Sys2Proof.Machine
end

section
/-! PROOF. The buckets of a stream, and the route commands (R108 to R110). Settles O57. -/

namespace Sys2Proof.Machine

section
variable {s : State} {c : AgentCommand}

theorem primaryBucket_toNat {sid : StreamId} {a b c : Nat} (ha : a < 32) (hb : b < 32) (hc : c < 4)
    (parts : sid.toNat = a + 32 * b + 1024 * c) : (primaryBucket sid).toNat = (a ^^^ b) ^^^ c := by
  have low : (sid.extractLsb' 0 5).toNat = a := by
    rw [BitVec.extractLsb'_toNat, parts, Nat.shiftRight_zero]
    omega
  have middle : (sid.extractLsb' 5 5).toNat = b := by
    rw [BitVec.extractLsb'_toNat, parts, Nat.shiftRight_eq_div_pow]
    omega
  have high : ((sid.extractLsb' 10 2).setWidth 5).toNat = c := by
    rw [BitVec.toNat_setWidth, BitVec.extractLsb'_toNat, parts, Nat.shiftRight_eq_div_pow]
    omega
  rw [primaryBucket, BitVec.toNat_xor, BitVec.toNat_xor, low, middle, high]

theorem xor_31 : ∀ x : BitVec 5, (x ^^^ 31#5).toNat = 31 - x.toNat ∧ x ≠ x ^^^ 31#5 := by decide

theorem wayIndex_val (bucket : BitVec 5) {way : Nat} (small : way < 4) : (wayIndex bucket way).val = bucket.toNat * 4 + way := by
  have := bucket.isLt
  exact Nat.mod_eq_of_lt (by omega)

theorem waysOf_val (sid : StreamId) : (waysOf sid).map Fin.val
    = ((List.range 4).map fun w => (primaryBucket sid).toNat * 4 + w)
      ++ (List.range 4).map fun w => (secondaryBucket sid).toNat * 4 + w := by
  rw [waysOf, List.map_append, List.map_map, List.map_map]
  congr 1
  · exact List.map_congr_left fun w hw => wayIndex_val _ (List.mem_range.mp hw)
  · exact List.map_congr_left fun w hw => wayIndex_val _ (List.mem_range.mp hw)

theorem aStreamHasTwoBuckets : Claim.AStreamHasTwoBuckets := by
  intro sid a b c ha hb hc parts
  dsimp only
  have primary := primaryBucket_toNat ha hb hc parts
  have secondary : (secondaryBucket sid).toNat = ((a ^^^ b) ^^^ c) ^^^ 31 := by
    rw [secondaryBucket, BitVec.toNat_xor, primary]
    rfl
  refine ⟨?_, fun same => ?_, ?_, ?_⟩
  · rw [waysOf_val, primary, secondary]
    simp [List.range_succ, Nat.mul_comm]
  · refine (xor_31 (primaryBucket sid)).2 (BitVec.eq_of_toNat_eq ?_)
    rw [primary]
    exact same.trans secondary.symm
  · rw [← primary]
    exact (primaryBucket sid).isLt
  · rw [← secondary]
    exact (secondaryBucket sid).isLt

theorem findRoute_eq (b : Tables) (sid : StreamId) :
    b.findRoute sid = (waysOf sid).find? fun i : Fin 128 => (b.route[i]).any fun e => e.stream == sid := by
  unfold Tables.findRoute
  congr 1
  funext i
  cases b.route[i] <;> rfl

/-! ### What the route commands do, answered (R109, R110) -/

theorem exec_routeAdd (runs : s.runs .routeAdd c) : exec .routeAdd s = .next (popCommand (routeAdd c s)) :=
  congrArg _ (runCommand_runs runs rfl _)

theorem exec_routeRemove (runs : s.runs .routeRemove c) : exec .routeRemove s = .next (popCommand (routeRemove c s)) :=
  congrArg _ (runCommand_runs runs rfl _)

theorem readFlag_beyond {b : Byte} (beyond : 1 < b.toNat) : readFlag b = none := by
  unfold readFlag
  rw [if_neg (by rintro rfl; exact absurd beyond (by decide)), if_neg (by rintro rfl; exact absurd beyond (by decide))]

theorem directionOf_beyond {n : Nat} (beyond : 3 < n) : directionOf n = none := by
  unfold directionOf
  split
  all_goals grind

theorem routeCommandsChangeTheTable : Claim.RouteCommandsChangeTheTable := by
  intro c s
  dsimp only
  have ways (sid : StreamId) := findRoute_eq s.tables sid
  have refused {row : Instr} {st : Status} (answers : exec row s = .next (s.answered c st [[]])) :
      ∃ t : State, exec row s = .next t ∧ Answers c st [[]] s t ∧ SameBut [.agent, .trunk] s t :=
    ⟨_, answers, answers_answered c st [[]] s⟩
  refine ⟨fun i found => ⟨fun consume d runs small flag dir => ?_, fun runs small => ?_⟩,
    fun missing => ⟨fun consume d runs small flag dir => ⟨fun i empty => ?_, fun full => refused ?_⟩,
      fun runs small => refused ?_⟩, fun runs bad => refused ?_, fun runs beyond => refused ?_,
    fun n isRoute head known bypass => refused ?_, ?_⟩
  · rw [← ways] at found
    rw [exec_routeAdd runs]
    simp only [routeAdd, AgentCommand.args, flag, dir, if_pos small, Tables.placeFor, found]
    rw [popCommand_reply]
    exact congrArg Host.Outcome.next (answered_of_same (s := s) (by rfl) (by rfl) c _ _)
  · rw [← ways] at found
    rw [exec_routeRemove runs]
    simp only [routeRemove, AgentCommand.args, if_pos small, found]
    rw [popCommand_reply]
    exact congrArg Host.Outcome.next (answered_of_same (s := s) (by rfl) (by rfl) c _ _)
  · rw [← ways] at missing
    rw [exec_routeAdd runs]
    simp only [routeAdd, AgentCommand.args, flag, dir, if_pos small, Tables.placeFor, missing, Tables.emptyWay, empty]
    rw [popCommand_reply]
    exact congrArg Host.Outcome.next (answered_of_same (s := s) (by rfl) (by rfl) c _ _)
  · rw [← ways] at missing
    rw [exec_routeAdd runs]
    simp only [routeAdd, AgentCommand.args, flag, dir, if_pos small, Tables.placeFor, missing, Tables.emptyWay, full]
    rw [replyStatus, popCommand_reply]
  · rw [← ways] at missing
    rw [exec_routeRemove runs]
    simp only [routeRemove, AgentCommand.args, if_pos small, missing]
    rw [replyStatus, popCommand_reply]
  · have refuses : routeAdd c s = replyStatus c .badValue s := by
      unfold routeAdd
      dsimp only
      rcases bad with beyond | beyond | beyond
      · split
        · exact if_neg (by exact Nat.not_le.mpr beyond)
        · rfl
      · rw [readFlag_beyond (by exact beyond)]
      · rw [directionOf_beyond (by exact beyond)]
        split <;> simp_all
    rw [exec_routeAdd runs, refuses, replyStatus, popCommand_reply]
  · have refuses : routeRemove c s = replyStatus c .badValue s := if_neg (by exact Nat.not_le.mpr beyond)
    rw [exec_routeRemove runs, refuses, replyStatus, popCommand_reply]
  · rcases isRoute with rfl | rfl
    · exact congrArg _ (runCommand_refused head known rfl (by rw [bypass]; rfl) _)
    · exact congrArg _ (runCommand_refused head known rfl (by rw [bypass]; rfl) _)
  · rw [waysOf_val, secondaryBucket, (xor_31 _).1]

/-- Settles O57: the buckets by their bits, and the commands by where the stream lies. -/
theorem routesAreAddedAndRemoved : Obligations.RoutesAreAddedAndRemoved :=
  ⟨aStreamHasTwoBuckets, routeCommandsChangeTheTable⟩

end

end Sys2Proof.Machine
end

section
/-! PROOF. The layout banks (R150, R151). Settles O58. -/

namespace Sys2Proof.Machine

section
variable {s : State} {c : AgentCommand}

theorem anyRunning_iff : s.anyRunning = true ↔ ∃ sc : Screen, (s.comp.outputs[sc]).running = true := by
  rw [State.anyRunning, Bool.or_eq_true, Fin.exists_fin_two]

/-- Settles O58: each command's work, and its answer. -/
theorem layoutBanksAreAppliedAndCopied : Obligations.LayoutBanksAreAppliedAndCopied := by
  intro c s
  dsimp only
  have applies (runs : s.runs .applyLayouts c) : exec .applyLayouts s = .next ((applyLayouts s).answered c .ok [[]]) :=
    congrArg _ ((runCommand_runs runs rfl _).trans (popCommand_reply ..))
  refine ⟨fun runs running => ?_, fun runs stopped => ?_, fun runs => ?_⟩
  · have kept : applyLayouts s = s.withComp { s.comp with applyImage := some s.tables.pendingBank } :=
      if_pos (anyRunning_iff.mpr running)
    rw [applies runs, kept]
    exact congrArg Host.Outcome.next (answered_of_same (s := s) (by rfl) (by rfl) c _ _)
  · have taken : applyLayouts s = (s.withTables { s.tables with activeBank := s.tables.pendingBank }).withComp
        { s.comp with applyImage := none } := if_neg fun h => stopped (anyRunning_iff.mp h)
    rw [applies runs, taken]
    exact congrArg Host.Outcome.next (answered_of_same (s := s) (by rfl) (by rfl) c _ _)
  · have copies : exec .copyLayouts s = .next ((copyLayouts s).answered c .ok [[]]) :=
      congrArg _ ((runCommand_runs runs rfl _).trans (popCommand_reply ..))
    rw [copies, copyLayouts]
    exact congrArg Host.Outcome.next (answered_of_same (s := s) (by rfl) (by rfl) c _ _)

end

end Sys2Proof.Machine
end

section
/-! PROOF. READ_STATUS: its four cells (R178, R193). -/

namespace Sys2Proof.Machine

section
variable {s : State} {c : AgentCommand}

theorem exec_readStatus (runs : s.runs .readStatus c) : exec .readStatus s = .next (s.answered c .ok s.statusParts) :=
  congrArg _ ((runCommand_runs runs rfl _).trans (popCommand_reply ..))

/-! ### The codes of section 11.4 -/

theorem modeCode_eq (m : Mode) : m.code = byte ([Mode.run, .standby, .bypass].idxOf m) := by cases m <;> rfl

theorem orientCode_eq (o : OrientState) : o.code = byte ([OrientState.none, .found, .conflict].idxOf o) := by
  cases o <;> rfl

theorem trunkLinkCode_eq (x : TrunkLink) : x.code = byte ([TrunkLink.down, .training, .up].idxOf x) := by cases x <;> rfl

theorem cameraLinkCode_eq (x : CameraLink) :
    x.code = byte ([CameraLink.off, .waking, .locked, .lost, .testing, .powerFault].idxOf x) := by cases x <;> rfl

theorem cableCode_eq (x : CableOutcome) :
    cableCode x = byte ([CableOutcome.normal, .openCable, .short, .impedanceFault, .inconclusive].idxOf x) := by
  cases x <;> rfl

theorem pictureCode_eq (x : PictureCondition) :
    x.code = byte ([PictureCondition.live, .noSignal, .frozen, .dark].idxOf x) := by cases x <;> rfl

theorem lensCode_eq (x : LensCondition) :
    x.code = byte ([LensCondition.noReference, .learning, .unrated, .clean, .smeared, .blocked].idxOf x) := by
  cases x <;> rfl

theorem slotCode_eq (x : SlotState) : x.code = byte ([SlotState.free, .filling, .latest, .retired, .evidence].idxOf x) := by
  cases x <;> rfl

/-! ### The lengths of the parts -/

theorem presentTime_length (x : Option NodeTime) : (presentTime x).length = 5 := by cases x <;> rfl

theorem recordBytes_length (x : Option FrameRecord) : (recordBytes x).length = 8 := by cases x <;> rfl

theorem cableBytes_length (x : Option CableResult) : (cableBytes x).length = 3 := by cases x <;> rfl

theorem timeLeft_length (s : State) (p : CamPort) : (s.timeLeft p).length = 2 := by
  unfold State.timeLeft
  split <;> rfl

theorem statusNode_length (s : State) : s.statusNode.length = 27 := by
  simp only [State.statusNode, List.length_append, presentTime_length, List.length_cons, List.length_nil]

theorem statusPort_length (s : State) (p : CamPort) : (s.statusPort p).length = 19 := by
  simp only [State.statusPort, List.length_append, recordBytes_length, cableBytes_length, timeLeft_length,
    List.length_cons, List.length_nil]

theorem power_iff (x : CameraPort) : x.power = true ↔ x.link = .waking ∨ x.link = .locked ∨ x.link = .lost := by
  unfold CameraPort.power
  cases x.link <;> simp [CameraLink.powered]

theorem theStatusIsReadOut : Claim.TheStatusIsReadOut := by
  intro c s runs b four two one side number trunkLink lens o node port position
  have sides (x : Option TrunkPort) : orNone portCode x = side x := by
    rcases x with _ | _ | _ <;> rfl
  have numbers (x : Option Nat) : orNone byte x = number x := by cases x <;> rfl
  have node_eq : s.statusNode = node := by
    have time : presentTime s.orient.lastBeacon = match o.lastBeacon with
        | none => [0, 0, 0, 0, 0]
        | some x => 1 :: four x := by
      show presentTime o.lastBeacon = _
      cases o.lastBeacon <;> rfl
    have screens (f : Screen → List Byte) : (List.finRange 2).flatMap f = f 0 ++ f 1 := by
      simp only [List.finRange_succ, List.finRange_zero, List.map_nil, List.map_cons, List.flatMap_cons, List.flatMap_nil,
        List.append_nil]
      rfl
    simp only [State.statusNode, modeCode_eq, orientCode_eq, sides, numbers, trunkLinkCode_eq, time, node, screens,
      List.append_assoc]
    rfl
  have port_eq (p : CamPort) : s.statusPort p = port p := by
    have power : (s.cams[p]).power = decide ((s.cams[p]).link = .waking ∨ (s.cams[p]).link = .locked
        ∨ (s.cams[p]).link = .lost) := Bool.eq_iff_iff.mpr ((power_iff _).trans decide_eq_true_iff.symm)
    have record : recordBytes (s.cams[p]).lastRecord = match (s.cams[p]).lastRecord with
        | none => List.replicate 8 0
        | some r => 1 :: two r.number.toNat ++ two r.exposure ++ [one r.gain, b r.heater, b r.sensorFault] := by
      cases (s.cams[p]).lastRecord <;> rfl
    have cable : cableBytes (s.cams[p]).cableResult = match (s.cams[p]).cableResult with
        | none => [0, 0, 0]
        | some r =>
          [1, one ([CableOutcome.normal, .openCable, .short, .impedanceFault, .inconclusive].idxOf r.outcome),
            number r.distance] := by
      cases (s.cams[p]).cableResult with
      | none => rfl
      | some r =>
        simp only [cableBytes, cableCode_eq, numbers]
        rfl
    have left : s.timeLeft p = match (s.health[p]).deadline with
        | none => [255, 255]
        | some x => if (s.health[p]).lens = .learning then two (((x - s.nodeTime).toNat + 9999) / 10000) else [255, 255] := by
      unfold State.timeLeft
      cases (s.health[p]).deadline <;> cases (s.health[p]).lens <;> rfl
    simp only [State.statusPort, cameraLinkCode_eq, power, record, cable, pictureCode_eq, lensCode_eq, left, port]
    rfl
  have position_eq (k : Fin 4) : s.statusEvidence k = position k := by
    simp only [State.statusEvidence, position]
    cases s.store.evidence[k] with
    | none => rfl
    | some e =>
      simp only [lensCode_eq, slotCode_eq]
      rfl
  rw [exec_readStatus runs, State.statusParts, node_eq, port_eq, port_eq, port_eq, port_eq, position_eq, position_eq,
    position_eq, position_eq]
  refine ⟨rfl, ?_, fun p => ?_⟩
  · rw [← node_eq, statusNode_length]
    decide
  · rw [← port_eq, statusPort_length]
    decide

end

end Sys2Proof.Machine
end

section
/-! PROOF. The table window, the cause set and the counters read out (R168, R170, R176, R179). Settles O59. -/

namespace Sys2Proof.Machine

section
variable {s : State} {c : AgentCommand}

/-- A refusal answers, and changes nothing else. -/
theorem refusal {row : Instr} {st : Status} {parts : List (List Byte)}
    (answers : exec row s = .next (s.answered c st parts)) :
    ∃ t : State, exec row s = .next t ∧ Answers c st parts s t ∧ SameBut [.agent, .trunk] s t :=
  ⟨_, answers, answers_answered c st parts s⟩

/-! ### The table window (R168, R170) -/

theorem exec_selectTable (runs : s.runs .selectTable c) : exec .selectTable s = .next (popCommand (selectTable c s)) :=
  congrArg _ (runCommand_runs runs rfl _)

theorem exec_readNext (runs : s.runs .readNext c) : exec .readNext s = .next (popCommand (readNext c s)) :=
  congrArg _ (runCommand_runs runs rfl _)

theorem tableOf_beyond {n : Nat} (beyond : 12 < n) : tableOf n = none := by
  unfold tableOf
  split
  all_goals grind

theorem noEntry_none (closed : s.agent.window = none) :
    s.noEntry = Config.absentTableCode :: bytes2 s.agent.pointer := by rw [State.noEntry, closed]

theorem noEntry_some {x : Table} (selected : s.agent.window = some x) :
    s.noEntry = [x.code] ++ bytes2 s.agent.pointer := by
  rw [State.noEntry, selected]
  rfl

/-- READ_NEXT of one to four entries, with a table selected (R170). -/
theorem readNext_some {x : Table} {n : Nat} (number : (byteAt c.args 0).toNat = n) (low : 1 ≤ n) (high : n ≤ 4)
    (selected : s.agent.window = some x) : readNext c s
      = if x.entries ≤ s.agent.pointer then reply c .badIndex [s.noEntry] s
        else reply c (if min n (x.entries - s.agent.pointer) = n then .ok else .badIndex)
          ((List.range (min n (x.entries - s.agent.pointer))).map fun j => s.readPart x (s.agent.pointer + j))
          (s.withPointer (s.agent.pointer + min n (x.entries - s.agent.pointer))) := by
  unfold readNext
  rw [number]
  dsimp only
  rw [if_neg (by omega)]
  simp only [selected]

theorem theTableWindowIsSelectedAndRead : Claim.TheTableWindowIsSelectedAndRead := by
  intro c s
  dsimp only
  refine ⟨fun runs => ⟨fun beyond => refusal ?_, fun x table beyond => refusal ?_, fun x table inside => ?_⟩,
    fun runs => ⟨fun bad => ?_, fun low high closed => refusal ?_, fun x low high selected =>
      ⟨fun past => refusal ?_, fun all => ?_, fun some_ cut => ?_⟩⟩⟩
  · rw [exec_selectTable runs, selectTable, tableOf_beyond (by exact beyond)]
    exact congrArg _ (popCommand_reply ..)
  · have refuses : selectTable c s = replyStatus c .badIndex s := by
      rw [selectTable, show tableOf (byteAt c.args 0).toNat = some x from table]
      exact if_neg (by exact Nat.not_lt.mpr beyond)
    rw [exec_selectTable runs, refuses]
    exact congrArg _ (popCommand_reply ..)
  · have selects : selectTable c s = replyStatus c .ok
        (s.withAgent { s.agent with window := some x, pointer := (halfAt c.args 1).toNat }) := by
      rw [selectTable, show tableOf (byteAt c.args 0).toNat = some x from table]
      exact if_pos (by exact inside)
    rw [exec_selectTable runs, selects, replyStatus, popCommand_reply]
    exact congrArg Host.Outcome.next (answered_of_same (s := s) (by rfl) (by rfl) c _ _)
  · have refuses : readNext c s = reply c .badValue [s.noEntry] s := by
      unfold readNext
      refine if_pos ?_
      rcases bad with zero | many
      · exact .inl (Nat.lt_one_iff.mpr zero)
      · exact .inr many
    have answers : exec .readNext s = .next (s.answered c .badValue [s.noEntry]) := by
      rw [exec_readNext runs, refuses, popCommand_reply]
    refine ⟨fun closed => refusal ?_, fun x selected => refusal ?_⟩
    · rw [answers, noEntry_none closed]
    · rw [answers, noEntry_some selected]
  · have refuses : readNext c s = reply c .badTable [s.noEntry] s := by
      unfold readNext
      dsimp only
      rw [if_neg (by exact not_or.mpr ⟨Nat.not_lt.mpr low, Nat.not_lt.mpr high⟩), closed]
    rw [exec_readNext runs, refuses, popCommand_reply, noEntry_none closed]
  · rw [exec_readNext runs, readNext_some rfl low high selected, if_pos past, popCommand_reply, noEntry_some selected]
  · have whole : min (byteAt (payloadOf c.cell) 0).toNat (x.entries - s.agent.pointer) = (byteAt (payloadOf c.cell) 0).toNat := by
      omega
    rw [exec_readNext runs, readNext_some rfl low high selected, if_neg (by omega)]
    simp only [AgentCommand.args, whole, if_true]
    rw [popCommand_reply]
    exact congrArg Host.Outcome.next (answered_of_same (s := s) (by rfl) (by rfl) c _ _)
  · have part : min (byteAt (payloadOf c.cell) 0).toNat (x.entries - s.agent.pointer) = x.entries - s.agent.pointer := by
      omega
    rw [exec_readNext runs, readNext_some rfl low high selected, if_neg (by omega)]
    simp only [AgentCommand.args, part]
    rw [if_neg (by omega), popCommand_reply, show s.agent.pointer + (x.entries - s.agent.pointer) = x.entries by omega]
    exact congrArg Host.Outcome.next (answered_of_same (s := s) (by rfl) (by rfl) c _ _)

/-! ### The cause set and the counters (R176, R179) -/

theorem exec_readCounters (runs : s.runs .readCounters c) : exec .readCounters s = .next (popCommand (readCounters c s)) :=
  congrArg _ (runCommand_runs runs rfl _)

theorem exec_clearCounters (runs : s.runs .clearCounters c) :
    exec .clearCounters s = .next (popCommand (clearCounters c s)) := congrArg _ (runCommand_runs runs rfl _)

theorem exec_readCauses (runs : s.runs .readCauses c) : exec .readCauses s = .next (popCommand (readCauses c s)) :=
  congrArg _ (runCommand_runs runs rfl _)

theorem groupOf_idxOf (g : CounterGroup) :
    groupOf ([CounterGroup.trunk .a, .trunk .b, .router, .engine].idxOf g) = some g := by
  rcases g with (_ | _) | _ | _ <;> rfl

theorem groupOf_beyond {n : Nat} (beyond : 3 < n) : groupOf n = none := by
  unfold groupOf
  split
  all_goals grind

theorem readFlag_eq {b : Byte} {x : Bool} (named : b = flag x) : readFlag b = some x := by
  rw [named]
  cases x <;> rfl

/-- Something done to each camera port alone. -/
theorem eachPort_withCam (f : CameraPort → CameraPort) (s : State) :
    eachPort (fun p t => t.withCam p (f t.cams[p])) s = { s with cams := Vector.ofFn fun p : CamPort => f s.cams[p] } := by
  have each : eachPort (fun p t => t.withCam p (f t.cams[p])) s = { s with
      cams := (((s.cams.set 0 (f s.cams[(0 : CamPort)])).set 1 (f s.cams[(1 : CamPort)])).set 2
        (f s.cams[(2 : CamPort)])).set 3 (f s.cams[(3 : CamPort)]) } := by
    simp only [eachPort, List.finRange_succ, List.finRange_zero, List.map_nil, List.map_cons, List.foldl_cons, List.foldl_nil]
    simp [State.withCam]
  rw [each]
  congr 1
  refine Vector.ext fun i hi => ?_
  interval_cases i <;> simp

theorem counterParts_trunk (p : TrunkPort) : s.counterParts (.trunk p)
    = [(CounterGroup.trunk p).code :: 0 :: (s.trunk.get p).counters.toList.flatMap bytes4] := by
  have short : (s.trunk.get p).counters.toList.take 12 = (s.trunk.get p).counters.toList :=
    List.take_of_length_le (by simp)
  simp only [State.counterParts, CounterGroup.cells, List.range_one, List.map_cons, List.map_nil, counterPart,
    State.counters, Nat.mul_zero, List.drop_zero, short]
  rfl

theorem counterParts_router : s.counterParts .router
    = [2 :: 0 :: (s.router.counters.toList.take 12).flatMap bytes4,
      2 :: 12 :: [s.router.counters[(12 : Fin 13)]].flatMap bytes4] := by
  have last : (s.router.counters.toList.drop 12).take 12 = [s.router.counters[(12 : Fin 13)]] := by
    rw [List.drop_eq_getElem_cons (by simp), List.drop_eq_nil_of_le (by simp)]
    simp
  simp only [State.counterParts, CounterGroup.cells, List.range_succ, List.range_zero, List.nil_append, List.cons_append,
    List.map_cons, List.map_nil, counterPart, State.counters, Nat.mul_zero, List.drop_zero, Nat.mul_one, last]
  rfl

/-- The 32 counters of the engine group, in three cells (R179, R193). -/
theorem counterParts_engine : s.counterParts .engine
    = [3 :: 0 :: ((s.cams[(0 : CamPort)]).counters.toList ++ (s.cams[(1 : CamPort)]).counters.toList).flatMap bytes4,
      3 :: 12 :: ((s.cams[(2 : CamPort)]).counters.toList ++ (s.cams[(3 : CamPort)]).counters.toList).flatMap bytes4,
      3 :: 24 :: (s.engine.counters.toList ++ s.store.counters.toList).flatMap bytes4] := by
  generalize front : (s.cams[(0 : CamPort)]).counters.toList ++ (s.cams[(1 : CamPort)]).counters.toList = a
  generalize back : (s.cams[(2 : CamPort)]).counters.toList ++ (s.cams[(3 : CamPort)]).counters.toList = b
  generalize rest : s.engine.counters.toList ++ s.store.counters.toList = d
  have all : s.counters .engine = a ++ (b ++ d) := by
    rw [← front, ← back, ← rest]
    simp [State.counters, List.finRange_succ]
  have lengthA : a.length = 12 := by rw [← front]; simp
  have lengthB : b.length = 12 := by rw [← back]; simp
  have lengthD : d.length = 8 := by rw [← rest]; simp
  have first : (s.counters .engine).take 12 = a := by rw [all, List.take_left' lengthA]
  have second : ((s.counters .engine).drop 12).take 12 = b := by
    rw [all, List.drop_left' lengthA, List.take_left' lengthB]
  have third : ((s.counters .engine).drop 24).take 12 = d := by
    rw [all, ← List.append_assoc, List.drop_left' (by rw [List.length_append, lengthA, lengthB]),
      List.take_of_length_le (by rw [lengthD]; decide)]
  simp only [State.counterParts, CounterGroup.cells, List.range_succ, List.range_zero, List.nil_append, List.cons_append,
    List.map_cons, List.map_nil, counterPart, Nat.mul_zero, List.drop_zero, Nat.mul_one, first, second, Nat.reduceMul, third]
  rfl

theorem clearGroup_engine (s : State) : clearGroup .engine s = { s with
    cams := Vector.ofFn fun p : CamPort => { s.cams[p] with counters := Vector.replicate 6 0 }
    engine := { s.engine with counters := Vector.replicate 6 0 }
    store := { s.store with counters := Vector.replicate 2 0 } } := by
  have cams := eachPort_withCam (fun x => { x with counters := Vector.replicate 6 0 }) s
  show ((eachPort (fun p t => t.withCam p { t.cams[p] with counters := Vector.replicate 6 0 }) s).withEngine _).withStore _ = _
  rw [cams]
  rfl

theorem causesAndCountersAreRead : Claim.CausesAndCountersAreRead := by
  intro c s
  dsimp only
  have reads {g : CounterGroup} (runs : s.runs .readCounters c)
      (named : (byteAt c.args 0).toNat = [CounterGroup.trunk .a, .trunk .b, .router, .engine].idxOf g) {clear : Bool}
      (asked : readFlag (byteAt c.args 1) = some clear) :
      exec .readCounters s = .next ((if clear then clearGroup g s else s).answered c .ok (s.counterParts g)) := by
    rw [exec_readCounters runs, readCounters, named, groupOf_idxOf, asked]
    exact congrArg _ (popCommand_reply ..)
  refine ⟨fun runs => ?_, fun g named => ⟨fun runs keep => ?_, fun runs clear => ?_, fun runs beyond => refusal ?_,
    fun runs => ?_⟩, fun beyond => ⟨fun runs => refusal ?_, fun runs => refusal ?_⟩⟩
  · rw [exec_readCauses runs, readCauses, popCommand_reply]
    exact congrArg Host.Outcome.next (answered_of_same (s := s) (by rfl) (by rfl) c _ _)
  · refine (reads runs named (readFlag_eq (x := false) keep)).trans ?_
    rcases g with (_ | _) | _ | _
    · rw [counterParts_trunk]; rfl
    · rw [counterParts_trunk]; rfl
    · rw [counterParts_router]; rfl
    · rw [counterParts_engine]; rfl
  · refine (reads runs named (readFlag_eq (x := true) clear)).trans ?_
    rw [if_pos rfl]
    rcases g with (_ | _) | _ | _
    · rw [counterParts_trunk]; rfl
    · rw [counterParts_trunk]; rfl
    · rw [counterParts_router]; rfl
    · rw [counterParts_engine, clearGroup_engine]; rfl
  · have refuses : readCounters c s = replyStatus c .badValue s := by
      rw [readCounters, AgentCommand.args, named, groupOf_idxOf, readFlag_beyond (by exact beyond)]
    rw [exec_readCounters runs, refuses, replyStatus, popCommand_reply]
  · have clears : exec .clearCounters s = .next ((clearGroup g s).answered c .ok [[]]) := by
      rw [exec_clearCounters runs, clearCounters, AgentCommand.args, named, groupOf_idxOf]
      exact congrArg _ (popCommand_reply ..)
    refine clears.trans ?_
    rcases g with (_ | _) | _ | _
    · rfl
    · rfl
    · rfl
    · rw [clearGroup_engine]; rfl
  · have refuses : readCounters c s = replyStatus c .badValue s := by
      rw [readCounters, groupOf_beyond (by exact beyond)]
    rw [exec_readCounters runs, refuses, replyStatus, popCommand_reply]
  · have refuses : clearCounters c s = replyStatus c .badValue s := by
      rw [clearCounters, groupOf_beyond (by exact beyond)]
    rw [exec_clearCounters runs, refuses, replyStatus, popCommand_reply]

/-- Settles O59: the window, the status, and the causes and counters, each answered cell by cell. -/
theorem tablesCausesAndCountersAreRead : Obligations.TablesCausesAndCountersAreRead :=
  ⟨theTableWindowIsSelectedAndRead, theStatusIsReadOut, causesAndCountersAreRead⟩

end

end Sys2Proof.Machine
end

section
/-! PROOF. The evidence positions released (R51), and fetched (R52). Settles O60. -/

namespace Sys2Proof.Machine

section
variable {s t u : State} {c : AgentCommand} {k : Fin 4} {gone more : Fin 4 → Bool}

/-! ### Releasing positions (R51) -/

/-- A fetch of a released position no longer names it; any other entry stands (R51). -/
def SendEntry.forgetting (gone : Fin 4 → Bool) (e : SendEntry) : SendEntry :=
  match e.kind with
  | .fetch (some k) => if gone k then { e with kind := .fetch none } else e
  | .fetch none | .tile => e

theorem forgetting_gone {e : SendEntry} (kind : e.kind = .fetch (some k)) (named : gone k = true) :
    e.forgetting gone = { e with kind := .fetch none } := by
  rw [SendEntry.forgetting, kind]
  exact if_pos named

theorem forgetting_kept {e : SendEntry} (kept : ∀ k : Fin 4, e.kind = .fetch (some k) → gone k = false) :
    e.forgetting gone = e := by
  unfold SendEntry.forgetting
  split
  next k kind => exact if_neg (by rw [kept k kind]; exact Bool.false_ne_true)
  next => rfl
  next => rfl

theorem forgetting_forgetting (e : SendEntry) :
    (e.forgetting gone).forgetting more = e.forgetting fun k => gone k || more k := by
  match kind : e.kind with
  | .fetch (some k) =>
    cases named : gone k with
    | true =>
      rw [forgetting_gone kind named, forgetting_gone kind (by rw [named, Bool.true_or])]
      rfl
    | false =>
      have stands : e.forgetting gone = e := forgetting_kept fun j same => by
        rw [kind] at same
        cases same
        exact named
      rw [stands, SendEntry.forgetting, SendEntry.forgetting, kind]
      simp only [named, Bool.false_or]
  | .fetch none => simp only [SendEntry.forgetting, kind]
  | .tile => simp only [SendEntry.forgetting, kind]

/-- A pin mark is cleared once for all. -/
theorem unpin_unpin (x : Slot) : x.unpin.unpin = x.unpin := by
  unfold Slot.unpin
  by_cases evidence : x.state = .evidence
  · by_cases unheld : x.holders = 0
    · simp only [if_pos evidence, if_pos unheld]
      rfl
    · simp only [if_pos evidence, if_neg unheld]
      rfl
  · simp only [if_neg evidence]

/-- Some positions of the evidence list released, from `s` to `u` (R51). -/
structure Released (gone : Fin 4 → Bool) (s u : State) : Prop where
  rest : u.store = { s.store with slots := u.store.slots, evidence := u.store.evidence }
  empties : ∀ k : Fin 4, gone k = true → u.store.evidence[k] = none
  keeps : ∀ k : Fin 4, gone k = false → u.store.evidence[k] = s.store.evidence[k]
  unpins : ∀ i : SlotNo, ∀ k : Fin 4, ∀ v : Evidence, gone k = true → s.store.evidence[k] = some v → v.slot = i →
    u.store.slots[i] = (s.store.slots[i]).unpin
  spares : ∀ i : SlotNo, (∀ k : Fin 4, ∀ v : Evidence, gone k = true → s.store.evidence[k] = some v → v.slot ≠ i) →
    u.store.slots[i] = s.store.slots[i]
  trunk : ∀ p : TrunkPort, u.trunk.get p
    = { s.trunk.get p with sendList := (s.trunk.get p).sendList.map (SendEntry.forgetting gone) }
  same : SameBut [.store, .trunk] s u

theorem released_none (s : State) : Released (fun _ => false) s s where
  rest := rfl
  empties _ h := absurd h Bool.false_ne_true
  keeps _ _ := rfl
  unpins _ _ _ h := absurd h Bool.false_ne_true
  spares _ _ := rfl
  trunk p := by
    have stands : (SendEntry.forgetting fun _ => false) = id := funext fun e => forgetting_kept fun _ _ => rfl
    rw [stands, List.map_id]
  same := (sameBut_iff_mask _ _ _).mpr rfl

theorem forget_eq (k : Fin 4) : SendEntry.forget k = SendEntry.forgetting fun j => j == k := by
  funext e
  by_cases named : e.kind = .fetch (some k)
  · rw [forgetting_gone (gone := fun j => j == k) named (beq_self_eq_true k), SendEntry.forget, if_pos named]
  · have kept : e.forgetting (fun j => j == k) = e := forgetting_kept fun j kind => beq_eq_false_iff_ne.mpr fun same => by
      rw [same] at kind
      exact named kind
    rw [kept, SendEntry.forget, if_neg named]

theorem released_position (k : Fin 4) (s : State) : Released (fun j => j == k) s (releasePosition k s) where
  trunk p := by rw [releasePosition_trunk, forget_eq]
  same := (sameBut_iff_mask _ _ _).mpr (mask_releasePosition (by simp) (by simp))
  rest := by
    show s.store.release k = { s.store with slots := (s.store.release k).slots, evidence := (s.store.release k).evidence }
    rcases release_cases s.store k with ⟨-, e⟩ | ⟨v, -, e⟩
    · rw [e]
    · rw [e]
      rfl
  empties j h := by
    obtain rfl := eq_of_beq h
    show (s.store.release j).evidence[j] = none
    rcases release_cases s.store j with ⟨empty, e⟩ | ⟨v, -, e⟩
    · rw [e, empty]
    · rw [e]
      exact getElem_set_same ..
  keeps j h := by
    show (s.store.release k).evidence[j] = _
    rcases release_cases s.store k with ⟨-, e⟩ | ⟨v, -, e⟩
    · rw [e]
    · rw [e]
      exact getElem_set_ne _ (beq_eq_false_iff_ne.mp h).symm _
  unpins i j v h full at_ := by
    obtain rfl := eq_of_beq h
    subst at_
    show (s.store.release j).slots[v.slot] = _
    rcases release_cases s.store j with ⟨empty, -⟩ | ⟨w, here, e⟩
    · rw [full] at empty
      cases empty
    · obtain rfl := Option.some.inj (full.symm.trans here)
      rw [e]
      exact getElem_set_same ..
  spares i away := by
    show (s.store.release k).slots[i] = _
    rcases release_cases s.store k with ⟨-, e⟩ | ⟨v, here, e⟩
    · rw [e]
    · rw [e]
      exact getElem_set_ne _ (away k v (beq_self_eq_true k) here) _

theorem Released.trans (first : Released gone s t) (second : Released more t u) :
    Released (fun k => gone k || more k) s u where
  rest := by rw [second.rest, first.rest]
  empties k h := by
    cases again : more k with
    | true => exact second.empties k again
    | false =>
      rw [again, Bool.or_false] at h
      rw [second.keeps k again, first.empties k h]
  keeps k h := by
    obtain ⟨one, two⟩ := Bool.or_eq_false_iff.mp h
    rw [second.keeps k two, first.keeps k one]
  unpins i k v h full at_ := by
    have later (same : t.store.slots[i] = (s.store.slots[i]).unpin) : u.store.slots[i] = (s.store.slots[i]).unpin := by
      by_cases again : ∃ j : Fin 4, ∃ w : Evidence, more j = true ∧ t.store.evidence[j] = some w ∧ w.slot = i
      · obtain ⟨j, w, named, still, slot⟩ := again
        rw [second.unpins i j w named still slot, same, unpin_unpin]
      · rw [second.spares i fun j w named still slot => again ⟨j, w, named, still, slot⟩, same]
    cases one : gone k with
    | true => exact later (first.unpins i k v one full at_)
    | false =>
      rw [one, Bool.false_or] at h
      by_cases other : ∃ j : Fin 4, ∃ w : Evidence, gone j = true ∧ s.store.evidence[j] = some w ∧ w.slot = i
      · obtain ⟨j, w, named, before, slot⟩ := other
        exact later (first.unpins i j w named before slot)
      · rw [second.unpins i k v h ((first.keeps k one).trans full) at_,
          first.spares i fun j w named before slot => other ⟨j, w, named, before, slot⟩]
  spares i away := by
    have one : t.store.slots[i] = s.store.slots[i] :=
      first.spares i fun k v named => away k v (by rw [named, Bool.true_or])
    rw [second.spares i fun k v named still => ?_, one]
    cases before : gone k with
    | true =>
      rw [first.empties k before] at still
      cases still
    | false => exact away k v (by rw [named, Bool.or_true]) ((first.keeps k before).symm.trans still)
  trunk p := by
    rw [second.trunk, first.trunk]
    have both : SendEntry.forgetting more ∘ SendEntry.forgetting gone = SendEntry.forgetting fun k => gone k || more k :=
      funext forgetting_forgetting
    rw [List.map_map, both]
  same := first.same.trans second.same

theorem released_all (ks : List (Fin 4)) (s : State) : Released ks.contains s (releaseAll ks s) := by
  induction ks generalizing s with
  | nil => exact released_none s
  | cons k ks later =>
    have both := (released_position k s).trans (later (releasePosition k s))
    have union : (k :: ks).contains = fun j => j == k || ks.contains j := funext fun j => List.contains_cons
    rw [union]
    exact both

/-! ### RELEASE_EVIDENCE (R51, R191) -/

theorem exec_releaseEvidence (runs : s.runs .releaseEvidence c) :
    exec .releaseEvidence s = .next (popCommand (releaseEvidence c s)) := congrArg _ (runCommand_runs runs rfl _)

theorem position_ofNat {n : Nat} {k : Fin 4} (named : n = k.val) : Fin.ofNat 4 n = k :=
  Fin.ext (by rw [named]; exact Nat.mod_eq_of_lt k.isLt)

theorem releaseEvidence_position (at_ : (byteAt (payloadOf c.cell) 0).toNat = k.val) : releaseEvidence c s
    = if (s.store.evidence[k]).isNone then replyStatus c .noEvidence s else replyStatus c .ok (releasePosition k s) := by
  have small := at_ ▸ k.isLt
  have number := position_ofNat at_
  subst number
  exact (if_neg (by exact fun all => absurd (all ▸ small : 255 < 4) (by decide))).trans (if_pos small)

theorem releaseEvidence_beyond (low : 4 ≤ (byteAt (payloadOf c.cell) 0).toNat)
    (high : (byteAt (payloadOf c.cell) 0).toNat ≤ 254) : releaseEvidence c s = replyStatus c .badValue s := by
  unfold releaseEvidence
  dsimp only [AgentCommand.args]
  rw [if_neg (by omega), if_neg (by omega)]

theorem evidenceIsReleased : Claim.EvidenceIsReleased := by
  intro c s runs n refuses unpinned forgets releases
  have refused {st : Status} (work : releaseEvidence c s = replyStatus c st s) : refuses st := by
    refine refusal ?_
    rw [exec_releaseEvidence runs, work, replyStatus, popCommand_reply]
  have released {g : Fin 4 → Bool} {gone : Fin 4 → Prop} {u : State} (work : releaseEvidence c s = replyStatus c .ok u)
      (does : Released g s u) (named : ∀ k, gone k ↔ g k = true) : releases gone := by
    have spared {k : Fin 4} (h : ¬ gone k) : g k = false := Bool.eq_false_of_not_eq_true fun e => h ((named k).mpr e)
    refine ⟨u, ?_, does.rest, fun k => ⟨fun h => does.empties k ((named k).mp h), fun h => does.keeps k (spared h)⟩,
      fun i => ⟨?_, fun away => does.spares i fun k v h => away k v ((named k).mpr h)⟩,
      fun p => ⟨?_, ?_, fun i d e before after => ?_⟩, does.same⟩
    · have agent : s.agent = u.agent := does.same .agent (by simp)
      rw [exec_releaseEvidence runs, work, replyStatus, popCommand_reply, State.answered, agent]
    · rintro ⟨k, v, h, full, slot⟩
      exact does.unpins i k v ((named k).mp h) full slot
    · rw [does.trunk]
    · rw [does.trunk]
      exact List.length_map _ |>.symm
    · rw [does.trunk] at after
      have image : e = d.forgetting g := by
        rw [List.getElem?_map, before] at after
        exact (Option.some.inj after).symm
      exact ⟨fun k kind h => image.trans (forgetting_gone kind ((named k).mp h)),
        fun kept => image.trans (forgetting_kept fun k kind => spared (kept k kind))⟩
  have position {k : Fin 4} (at_ : n = k.val) := releaseEvidence_position (s := s) at_
  refine ⟨fun k at_ empty => refused ?_, fun k at_ full => released ?_ (released_position k s) fun j => ?_,
    fun all => released (if_pos all) (released_all (List.finRange 4) s) fun k => ?_, fun low high => refused (releaseEvidence_beyond low high)⟩
  · rw [position at_, empty]
    rfl
  · rw [position at_]
    exact if_neg fun h => full (Option.isNone_iff_eq_none.mp h)
  · exact beq_iff_eq.symm
  · simp

/-! ### FETCH_EVIDENCE (R52, R191) -/

theorem exec_fetchEvidence (runs : s.runs .fetchEvidence c) :
    exec .fetchEvidence s = .next (popCommand (fetchEvidence c s)) := congrArg _ (runCommand_runs runs rfl _)

theorem takeHold_evidence (st : Store) (i : SlotNo) : (st.takeHold i).evidence = st.evidence := by
  unfold Store.takeHold
  dsimp only
  split <;> rfl

theorem refusesFetch_iff (x : Trunk) (sid : StreamId) : x.refusesFetch sid = true
    ↔ 8 ≤ x.sendList.length ∨ ∃ d ∈ x.sendList, d.started = false ∧ d.stream = sid := by
  simp only [Trunk.refusesFetch, Config.sendCapacity, Bool.or_eq_true, decide_eq_true_iff, List.any_eq_true,
    SendEntry.waitsFor_iff]

/-- The work of FETCH_EVIDENCE for a position that holds an entry (R52). -/
theorem fetchEvidence_entry {v : Evidence} (at_ : (byteAt (payloadOf c.cell) 0).toNat = k.val)
    (small : (halfAt (payloadOf c.cell) 1).toNat ≤ 4095) (full : s.store.evidence[k] = some v) : fetchEvidence c s
      = if v.fetching then replyStatus c .busy s
        else s.controllerSide.elim (replyStatus c .refusedState s) fun p =>
          if (s.trunk.get p).refusesFetch (BitVec.ofNat 12 (halfAt (payloadOf c.cell) 1).toNat) then
            replyStatus c .refusedState s
          else replyStatus c .ok (startFetch p k v.slot (BitVec.ofNat 12 (halfAt (payloadOf c.cell) 1).toNat) s) := by
  have inside := at_ ▸ k.isLt
  have number := position_ofNat at_
  subst number
  simp only [fetchEvidence, AgentCommand.args, if_pos (And.intro inside small), full]
  cases s.controllerSide <;> rfl

theorem fetchEvidence_empty (at_ : (byteAt (payloadOf c.cell) 0).toNat = k.val)
    (small : (halfAt (payloadOf c.cell) 1).toNat ≤ 4095) (empty : s.store.evidence[k] = none) :
    fetchEvidence c s = replyStatus c .noEvidence s := by
  have inside := at_ ▸ k.isLt
  have number := position_ofNat at_
  subst number
  simp only [fetchEvidence, AgentCommand.args, if_pos (And.intro inside small), empty]

theorem evidenceIsFetched : Claim.EvidenceIsFetched := by
  intro c s runs n m sid refuses
  have refused {st : Status} (work : fetchEvidence c s = replyStatus c st s) : refuses st := by
    refine refusal ?_
    rw [exec_fetchEvidence runs, work, replyStatus, popCommand_reply]
  refine ⟨fun bad => refused (if_neg fun h => ?_), fun k at_ small => ⟨fun empty => refused (fetchEvidence_empty at_ small empty),
    fun v full => ?_⟩⟩
  · rcases bad with beyond | beyond
    · exact absurd h.1 (Nat.not_lt.mpr beyond)
    · exact absurd h.2 (Nat.not_le.mpr beyond)
  have work := fetchEvidence_entry at_ small full
  have idle (still : v.fetching = false) := work.trans (if_neg (by rw [still]; exact Bool.false_ne_true))
  refine ⟨fun runs => refused (work.trans (if_pos runs)), fun still unknown => refused ?_, fun p still side =>
    ⟨fun refusing => refused ?_, fun room free => ?_⟩⟩
  · rw [idle still, unknown]
    rfl
  · rw [idle still, side]
    exact if_pos ((refusesFetch_iff ..).mpr refusing)
  · have takes : ¬ (s.trunk.get p).refusesFetch sid = true := fun h => by
      rcases (refusesFetch_iff ..).mp h with full | ⟨d, mem, waits⟩
      · exact absurd room (Nat.not_lt.mpr full)
      · exact free d mem waits
    have starts : fetchEvidence c s = replyStatus c .ok (startFetch p k v.slot sid s) := by
      rw [idle still, side]
      exact if_neg takes
    have entry : (s.store.takeHold v.slot).evidence[k] = some v := by rw [takeHold_evidence, full]
    have begun : startFetch p k v.slot sid s = { s with
        store := { s.store.takeHold v.slot with evidence := s.store.evidence.set k (some { v with fetching := true }) }
        trunk := s.trunk.set p { s.trunk.get p with
          sendList := (s.trunk.get p).sendList ++ [⟨.fetch (some k), v.slot, sid, false, none, (s.store.slots[v.slot]).cells⟩] } } := by
      have store : (joinList p (.fetch (some k)) v.slot sid s).store = s.store.takeHold v.slot := rfl
      rw [startFetch]
      dsimp only
      rw [store, Store.setFetching, entry, takeHold_evidence]
      rfl
    rw [exec_fetchEvidence runs, starts, begun, replyStatus, popCommand_reply, State.answered]
    exact congrArg Host.Outcome.next (answered_of_same (by rfl) (by rfl) c _ _)

/-- Settles O60: what is released of the evidence list, and what a fetch starts. -/
theorem evidenceIsReleasedAndFetched : Obligations.EvidenceIsReleasedAndFetched :=
  ⟨evidenceIsReleased, evidenceIsFetched⟩

end

end Sys2Proof.Machine
end

section
/-! PROOF. The checks of the table entries (R1, R20, R58 to R60, R130, R132, R145, R149, R171, R193). -/

namespace Sys2Proof.Machine

section
variable {l : List Byte}

theorem word_eq (l : List Byte) (k : Nat) : 256 * (byteAt l k).toNat + (byteAt l (k + 1)).toNat = (halfAt l k).toNat := by
  rw [halfAt_toNat, Nat.mul_comm]

theorem le_of_readFlag {b : Byte} {x : Bool} (h : readFlag b = some x) : b.toNat ≤ 1 := by
  rw [← flag_of_readFlag h]
  cases x <;> decide

theorem exists_readFlag {b : Byte} (low : b.toNat ≤ 1) : ∃ x, readFlag b = some x := by
  rcases Nat.le_one_iff_eq_zero_or_eq_one.mp low with zero | one
  · exact ⟨false, if_pos (BitVec.eq_of_toNat_eq zero)⟩
  · obtain rfl : b = 1 := BitVec.eq_of_toNat_eq one
    exact ⟨true, rfl⟩

theorem le_of_polarityOf {n : Nat} {x : Polarity} (h : polarityOf n = some x) : n ≤ 1 := by
  unfold polarityOf at h
  split at h
  · exact Nat.zero_le 1
  · exact le_rfl
  · cases h

theorem exists_polarityOf {n : Nat} (low : n ≤ 1) : ∃ x, polarityOf n = some x := by
  interval_cases n
  · exact ⟨_, rfl⟩
  · exact ⟨_, rfl⟩

theorem tilePlan_passes : (readTilePlan l).isSome = true ↔ (byteAt l 0).toNat ≤ 1
    ∧ (halfAt l 1).toNat % 2 = 0 ∧ (halfAt l 1).toNat ≤ 1918 ∧ (halfAt l 3).toNat ≤ 1079 ∧ (halfAt l 5).toNat % 2 = 0
    ∧ (64 ≤ (halfAt l 5).toNat ∧ (halfAt l 5).toNat ≤ 1920) ∧ (48 ≤ (halfAt l 7).toNat ∧ (halfAt l 7).toNat ≤ 1080)
    ∧ (halfAt l 9).toNat % 16 = 0 ∧ (64 ≤ (halfAt l 9).toNat ∧ (halfAt l 9).toNat ≤ 1280)
    ∧ (halfAt l 9).toNat ≤ (halfAt l 5).toNat ∧ (halfAt l 11).toNat % 8 = 0
    ∧ (48 ≤ (halfAt l 11).toNat ∧ (halfAt l 11).toNat ≤ 720) ∧ (halfAt l 11).toNat ≤ (halfAt l 7).toNat
    ∧ (byteAt l 13).toNat ≤ 1 ∧ (1 ≤ (byteAt l 14).toNat ∧ (byteAt l 14).toNat ≤ 4) ∧ (halfAt l 15).toNat ≤ 4095
    ∧ (byteAt l 17).toNat ≤ 1 ∧ (byteAt l 18).toNat ≤ 1 := by
  constructor
  · intro h
    unfold readTilePlan at h
    dsimp only at h
    split at h
    next ok =>
      split at h
      next hen hmi hlu hse =>
        simp only [tileSizeOk, Bool.and_eq_true, decide_eq_true_eq, beq_iff_eq] at ok
        have := le_of_readFlag hen
        have := le_of_readFlag hmi
        have := le_of_readFlag hlu
        have := le_of_readFlag hse
        omega
      next => cases h
    next => cases h
  · rintro ⟨en, cx, cx', cy, cw, cw', ch, ow, ow', wide, oh, oh', high, mi, dv, sid, lu, se⟩
    obtain ⟨_, hen⟩ := exists_readFlag en
    obtain ⟨_, hmi⟩ := exists_readFlag mi
    obtain ⟨_, hlu⟩ := exists_readFlag lu
    obtain ⟨_, hse⟩ := exists_readFlag se
    unfold readTilePlan
    dsimp only
    rw [if_pos]
    · simp only [hen, hmi, hlu, hse, Option.isSome_some]
    · simp only [tileSizeOk, Bool.and_eq_true, decide_eq_true_eq, beq_iff_eq]
      omega

theorem cameraConfig_passes : (readCameraConfig l).isSome = true ↔ (byteAt l 0).toNat ≤ 1 ∧ (byteAt l 1).toNat ≤ 1
    ∧ 1 ≤ (byteAt l 2).toNat ∧ (byteAt l 3).toNat ≤ 1 ∧ (byteAt l 4).toNat ≤ 96 := by
  constructor
  · intro h
    unfold readCameraConfig at h
    dsimp only at h
    split at h
    next ok =>
      split at h
      next hen hsv hmo =>
        simp only [Bool.and_eq_true, decide_eq_true_eq] at ok
        exact ⟨le_of_readFlag hen, le_of_readFlag hsv, ok.1, le_of_readFlag hmo, ok.2⟩
      next => cases h
    next => cases h
  · rintro ⟨en, sv, iv, mo, gain⟩
    obtain ⟨_, hen⟩ := exists_readFlag en
    obtain ⟨_, hsv⟩ := exists_readFlag sv
    obtain ⟨_, hmo⟩ := exists_readFlag mo
    unfold readCameraConfig
    dsimp only
    rw [if_pos (by simp only [Bool.and_eq_true, decide_eq_true_eq]; exact ⟨iv, gain⟩)]
    simp only [hen, hsv, hmo, Option.isSome_some]

/-- An entry with no other checks than a test passes where the test does. -/
theorem isSome_ite {α : Type} {p : Prop} [Decidable p] {x : α} : (if p then some x else none).isSome = true ↔ p := by
  split
  next h => exact iff_of_true rfl h
  next h => exact iff_of_false Bool.false_ne_true h

theorem lensParams_passes : (readLensParams l).isSome = true ↔ (byteAt l 0).toNat < (byteAt l 1).toNat
    ∧ (byteAt l 3).toNat < (byteAt l 4).toNat ∧ (byteAt l 6).toNat < (byteAt l 5).toNat ∧ 1 ≤ (byteAt l 7).toNat
    ∧ (byteAt l 7).toNat < (byteAt l 8).toNat ∧ (byteAt l 8).toNat ≤ 144 ∧ 1 ≤ (byteAt l 9).toNat
    ∧ (byteAt l 9).toNat < (byteAt l 7).toNat ∧ (1 ≤ (halfAt l 10).toNat ∧ (halfAt l 10).toNat ≤ 4095) := by
  refine isSome_ite.trans ?_
  simp only [LensParams.valid, Bool.and_eq_true, decide_eq_true_eq, and_assoc]

theorem reference_passes :
    (readReference l).isSome = true ↔ (halfAt l 0).toNat ≤ 4095 ∨ (halfAt l 0).toNat = 65535 := by
  unfold readReference
  dsimp only
  split
  next low => exact iff_of_true rfl (.inl low)
  next high => exact isSome_ite.trans (or_iff_right high).symm

theorem door_passes : (readDoor l).isSome = true
    ↔ ((byteAt l 0).toNat ≤ 31 ∨ (byteAt l 0).toNat = 255) ∧ (1 ≤ (byteAt l 1).toNat ∧ (byteAt l 1).toNat ≤ 2) := by
  constructor
  · intro h
    unfold readDoor at h
    dsimp only at h
    split at h
    next hcam hsd =>
      refine ⟨?_, ?_⟩
      · split at hcam
        next small => exact .inl small
        next =>
          split at hcam
          next absent => exact .inr absent
          next => cases hcam
      · split at hsd
        next one => omega
        next two => omega
        next => cases hsd
    next => cases h
  · rintro ⟨camera, low, high⟩
    have side : (byteAt l 1).toNat = 1 ∨ (byteAt l 1).toNat = 2 := by omega
    unfold readDoor
    dsimp only
    rcases camera with small | absent
    · rw [if_pos small]
      rcases side with one | two
      · rw [one]; rfl
      · rw [two]; rfl
    · rw [absent, if_neg (by decide), if_pos rfl]
      rcases side with one | two
      · rw [one]; rfl
      · rw [two]; rfl

theorem condition_valid_iff (l : List Byte) (k : Nat) : (readCondition l k).valid = true ↔ (byteAt l (k + 2)).toNat ≤ 7
    ∧ (((byteAt l k).toNat = 0 ∧ (halfAt l (k + 3)).toNat ≤ 1000) ∨ ((byteAt l k).toNat = 1 ∧ (halfAt l (k + 3)).toNat ≤ 1)
      ∨ ((byteAt l k).toNat = 2 ∧ (1 ≤ (byteAt l (k + 1)).toNat ∧ (byteAt l (k + 1)).toNat ≤ 16)
        ∧ (halfAt l (k + 3)).toNat ≤ 7)
      ∨ ((3 ≤ (byteAt l k).toNat ∧ (byteAt l k).toNat ≤ 5)
        ∧ (1 ≤ (byteAt l (k + 1)).toNat ∧ (byteAt l (k + 1)).toNat ≤ 3) ∧ (halfAt l (k + 3)).toNat ≤ 16)
      ∨ ((byteAt l k).toNat = 6 ∧ (halfAt l (k + 3)).toNat ≤ 3)
      ∨ ((byteAt l k).toNat = 7 ∧ (halfAt l (k + 3)).toNat ≤ 32)) := by
  unfold Condition.valid readCondition
  dsimp only
  rw [Bool.and_eq_true, decide_eq_true_iff, Nat.lt_succ_iff]
  refine and_congr_right fun _ => ?_
  generalize (byteAt l k).toNat = field
  split
  all_goals simp only [Bool.and_eq_true, decide_eq_true_eq, Bool.false_eq_true, true_and, false_iff]
  all_goals grind

theorem rule_passes : (readRule l).isSome = true ↔ (byteAt l 0).toNat ≤ 1 ∧ (readCondition l 1).valid = true
    ∧ (byteAt l 6).toNat ≤ 1 ∧ ((byteAt l 6).toNat = 1 → (readCondition l 7).valid = true ∧ (byteAt l 12).toNat ≤ 1)
    ∧ (byteAt l 13).toNat ≤ 15 ∧ (byteAt l 14).toNat ≤ 3 ∧ (byteAt l 15).toNat ≤ 100 := by
  have set {x : Bool} (h : readFlag (byteAt l 6) = some x) : (byteAt l 6).toNat = 1 ↔ x = true := by
    rw [← flag_of_readFlag h]
    cases x <;> decide
  constructor
  · intro h
    unfold readRule at h
    dsimp only at h
    split at h
    next ok =>
      simp only [Bool.and_eq_true, decide_eq_true_eq] at ok
      obtain ⟨⟨⟨valid, lay⟩, urgency⟩, hold⟩ := ok
      split at h
      next hasB hen hhas =>
        have present : hasB = true → (readCondition l 7).valid = true ∧ (byteAt l 12).toNat ≤ 1 := by
          intro isSet
          have ok := isSome_ite.mp h
          simpa [isSet] using ok
        exact ⟨le_of_readFlag hen, valid, le_of_readFlag hhas, fun one => present ((set hhas).mp one), lay, urgency, hold⟩
      next => cases h
    next => cases h
  · rintro ⟨en, valid, has, present, lay, urgency, hold⟩
    obtain ⟨_, hen⟩ := exists_readFlag en
    obtain ⟨hasB, hhas⟩ := exists_readFlag has
    unfold readRule
    dsimp only
    rw [if_pos (by simp only [Bool.and_eq_true, decide_eq_true_eq]; exact ⟨⟨⟨valid, lay⟩, urgency⟩, hold⟩)]
    simp only [hen, hhas]
    refine isSome_ite.mpr ?_
    cases hasB with
    | false => rfl
    | true =>
      obtain ⟨validB, join⟩ := present ((set hhas).mpr rfl)
      simp only [validB, join, decide_true, Bool.and_self, Bool.or_true]

theorem sourceOf_of {n : Nat} : (∃ x, sourceOf n = some x) ↔ n ≤ 2 := by
  constructor
  · rintro ⟨x, h⟩
    unfold sourceOf at h
    split at h
    · omega
    · omega
    · omega
    · cases h
  · intro low
    interval_cases n
    all_goals exact ⟨_, rfl⟩

theorem labelOf_of {n : Nat} : (∃ x, labelOf n = some x) ↔ n ≤ 2 := by
  constructor
  · rintro ⟨x, h⟩
    unfold labelOf at h
    split at h
    · omega
    · omega
    · omega
    · cases h
  · intro low
    interval_cases n
    all_goals exact ⟨_, rfl⟩

/-- The kinds of a pane record's source and label by their codes (R149). -/
theorem sourceKind_iff {n : Nat} {x : SourceKind} (h : sourceOf n = some x) :
    (x = .fixed ↔ n = 0) ∧ (x = .doorFocus ↔ n = 1) ∧ (x = .none ↔ n = 2) := by
  have low := sourceOf_of.mp ⟨x, h⟩
  interval_cases n <;> (obtain rfl := Option.some.inj h; decide)

theorem labelKind_fixed_iff {n : Nat} {x : LabelKind} (h : labelOf n = some x) : x = .fixed ↔ n = 1 := by
  have low := labelOf_of.mp ⟨x, h⟩
  interval_cases n <;> (obtain rfl := Option.some.inj h; decide)

theorem pane_valid_iff (q : Pane) : q.valid = true ↔ q.x ≤ 1919 ∧ q.y ≤ 1079
    ∧ (q.source = .fixed → q.camera.toNat ≤ 31 ∧ q.rendition.toNat ≤ 1)
    ∧ (q.source = .doorFocus → (1 ≤ q.side.toNat ∧ q.side.toNat ≤ 3) ∧ (1 ≤ q.rank.toNat ∧ q.rank.toNat ≤ 4)
      ∧ q.focusRendition.toNat ≤ 1)
    ∧ (q.hasFallback = true → q.fallbackCamera.toNat ≤ 31 ∧ q.fallbackRendition.toNat ≤ 1)
    ∧ (q.labelKind = .fixed → q.labelNumber.toNat ≤ 99) ∧ (40 ≤ q.staleAge ∧ q.staleAge ≤ 1000)
    ∧ q.staleAge < q.blankAge ∧ q.blankAge ≤ 10000 := by
  have source : q.sourceOk = true ↔ (q.source = .fixed → q.camera.toNat ≤ 31 ∧ q.rendition.toNat ≤ 1)
      ∧ (q.source = .doorFocus → (1 ≤ q.side.toNat ∧ q.side.toNat ≤ 3) ∧ (1 ≤ q.rank.toNat ∧ q.rank.toNat ≤ 4)
        ∧ q.focusRendition.toNat ≤ 1) := by
    unfold Pane.sourceOk
    cases q.source <;> simp [and_assoc]
  have fallback : (!q.hasFallback || (q.fallbackCamera.toNat ≤ 31 && q.fallbackRendition.toNat ≤ 1)) = true
      ↔ (q.hasFallback = true → q.fallbackCamera.toNat ≤ 31 ∧ q.fallbackRendition.toNat ≤ 1) := by
    cases q.hasFallback <;> simp
  have label : (q.labelKind != .fixed || q.labelNumber.toNat ≤ 99) = true
      ↔ (q.labelKind = .fixed → q.labelNumber.toNat ≤ 99) := by
    cases q.labelKind <;> simp
  unfold Pane.valid
  simp only [Bool.and_eq_true, source, fallback, label, decide_eq_true_eq, and_assoc]

theorem pane_passes : (readPane l).isSome = true ↔ (halfAt l 0).toNat ≤ 1919 ∧ (halfAt l 2).toNat ≤ 1079
    ∧ (byteAt l 4).toNat ≤ 2 ∧ ((byteAt l 4).toNat = 0 → (byteAt l 5).toNat ≤ 31 ∧ (byteAt l 6).toNat ≤ 1)
    ∧ ((byteAt l 4).toNat = 1 → (1 ≤ (byteAt l 7).toNat ∧ (byteAt l 7).toNat ≤ 3)
      ∧ (1 ≤ (byteAt l 8).toNat ∧ (byteAt l 8).toNat ≤ 4) ∧ (byteAt l 10).toNat ≤ 1)
    ∧ (byteAt l 11).toNat ≤ 1 ∧ ((byteAt l 11).toNat = 1 → (byteAt l 12).toNat ≤ 31 ∧ (byteAt l 13).toNat ≤ 1)
    ∧ (byteAt l 14).toNat ≤ 2 ∧ ((byteAt l 14).toNat = 1 → (byteAt l 15).toNat ≤ 99)
    ∧ (40 ≤ (halfAt l 16).toNat ∧ (halfAt l 16).toNat ≤ 1000) ∧ (halfAt l 16).toNat < (halfAt l 18).toNat
    ∧ (halfAt l 18).toNat ≤ 10000 := by
  have set {x : Bool} (h : readFlag (byteAt l 11) = some x) : (byteAt l 11).toNat = 1 ↔ x = true := by
    rw [← flag_of_readFlag h]
    cases x <;> decide
  constructor
  · intro h
    unfold readPane at h
    split at h
    next src fb lab hsrc hfb hlab =>
      obtain ⟨x, y, fixed, door, fallback, label, stale⟩ := (pane_valid_iff _).mp (isSome_ite.mp h)
      obtain ⟨isFixed, isDoor, -⟩ := sourceKind_iff hsrc
      exact ⟨x, y, sourceOf_of.mp ⟨_, hsrc⟩, fun zero => fixed (isFixed.mpr zero), fun one => door (isDoor.mpr one),
        le_of_readFlag hfb, fun one => fallback ((set hfb).mp one), labelOf_of.mp ⟨_, hlab⟩,
        fun one => label ((labelKind_fixed_iff hlab).mpr one), stale⟩
    next => cases h
  · rintro ⟨x, y, source, fixed, door, flagged, fallback, kind, label, stale⟩
    obtain ⟨_, hsrc⟩ := sourceOf_of.mpr source
    obtain ⟨_, hfb⟩ := exists_readFlag flagged
    obtain ⟨_, hlab⟩ := labelOf_of.mpr kind
    obtain ⟨isFixed, isDoor, -⟩ := sourceKind_iff hsrc
    unfold readPane
    simp only [hsrc, hfb, hlab]
    exact isSome_ite.mpr ((pane_valid_iff _).mpr ⟨x, y, fun k => fixed (isFixed.mp k), fun k => door (isDoor.mp k),
      fun k => fallback ((set hfb).mpr k), fun k => label ((labelKind_fixed_iff hlab).mp k), stale⟩)

theorem outputConfig_passes : (readOutputConfig l).isSome = true ↔ (byteAt l 0).toNat ≤ 1 ∧ (byteAt l 1).toNat ≤ 5
    ∧ (byteAt l 2).toNat ≤ 15 ∧ (byteAt l 3).toNat ≤ 15 ∧ (byteAt l 4).toNat ≤ 7 := by
  constructor
  · intro h
    unfold readOutputConfig at h
    dsimp only at h
    split at h
    next ok =>
      rw [Option.isSome_map] at h
      obtain ⟨_, hen⟩ := Option.isSome_iff_exists.mp h
      simp only [Bool.and_eq_true, decide_eq_true_eq, and_assoc] at ok
      exact ⟨le_of_readFlag hen, ok⟩
    next => cases h
  · rintro ⟨en, ok⟩
    obtain ⟨_, hen⟩ := exists_readFlag en
    unfold readOutputConfig
    dsimp only
    rw [if_pos (by simp only [Bool.and_eq_true, decide_eq_true_eq, and_assoc]; exact ok), hen]
    rfl

theorem nodeParams_passes : (readNodeParams l).isSome = true ↔ (1 ≤ (byteAt l 0).toNat ∧ (byteAt l 0).toNat ≤ 15)
    ∧ (10 ≤ (byteAt l 1).toNat ∧ (byteAt l 1).toNat ≤ 250) ∧ (100 ≤ (halfAt l 2).toNat ∧ (halfAt l 2).toNat ≤ 2000)
    ∧ (byteAt l 4).toNat ≤ 60 ∧ (byteAt l 5).toNat ≤ 1 ∧ (byteAt l 6).toNat ≤ 1 := by
  constructor
  · intro h
    unfold readNodeParams at h
    dsimp only at h
    split at h
    next ok =>
      split at h
      next hlp hcp =>
        simp only [Bool.and_eq_true, decide_eq_true_eq] at ok
        have := le_of_polarityOf hlp
        have := le_of_polarityOf hcp
        omega
      next => cases h
    next => cases h
  · rintro ⟨share, context, state, survey, lens, chime⟩
    obtain ⟨_, hlp⟩ := exists_polarityOf lens
    obtain ⟨_, hcp⟩ := exists_polarityOf chime
    unfold readNodeParams
    dsimp only
    rw [if_pos (by simp only [Bool.and_eq_true, decide_eq_true_eq]; omega)]
    simp only [hlp, hcp, Option.isSome_some]

theorem entriesAreCheckedByTheirRules : Claim.EntriesAreCheckedByTheirRules := by
  intro i l b w within condition
  have word (k : Nat) : w k = (halfAt l k).toNat := word_eq l k
  have conditions (k : Nat) : condition k ↔ (readCondition l k).valid = true := by
    rw [condition_valid_iff]
    simp only [condition, within, word]
    rfl
  have weight : entryPasses .weight i l = true ↔ b 0 ≤ 3 := isSome_ite
  have header : (readLayoutHeader l).isSome = true ↔ b 0 ≤ 9 := isSome_ite
  simp only [word, conditions, within]
  refine ⟨tilePlan_passes, cameraConfig_passes, lensParams_passes, reference_passes, weight, door_passes,
    fun x isRules => ?_, fun isHeader => ?_, fun isPane => ?_, outputConfig_passes, nodeParams_passes⟩
  · rcases isRules with rfl | rfl
    · exact rule_passes
    · exact rule_passes
  · rw [entryPasses, if_pos isHeader]
    exact header
  · rw [entryPasses, if_neg isPane]
    exact pane_passes

end

end Sys2Proof.Machine
end

section
/-! PROOF. Unknown and refused commands (R166, R167, R169). Settles O52. -/

namespace Sys2Proof.Machine

section
variable {s : State} {c d : AgentCommand} {n : CommandName}

theorem unknownCommandsAreAnswered : Claim.UnknownCommandsAreAnswered := by
  intro s c d n pending queue unknown known
  have disposed (u : State) : disposeUnknown [c, d] u
      = { reply c .badCommand [[]] u with agent := { (reply c .badCommand [[]] u).agent with queue := [d] } } := by
    rw [disposeUnknown, unknown]
    dsimp only
    rw [disposeUnknown, known]
    rfl
  have row : step s = .next (idle s) := by rw [step, pending]
  refine ⟨idle s, row, ?_, ?_, ?_⟩
  all_goals
    unfold idle
    dsimp only [State.withNodeTime]
    rw [queue, disposed, reply_eq]
  · rfl
  · exact reply_trunk_congr (by rfl) (by rfl)
  · have agentStep {x : State} (queue : x.agent.queue = [d]) (window : x.agent.window = s.agent.window) :
        commandRow s.agent.window n ∈ x.dueSteps ++ x.agentStep := by
      refine List.mem_append_right _ ?_
      rw [State.agentStep, queue]
      dsimp only
      rw [known, window]
      exact List.mem_singleton_self _
    dsimp only [State.withPending]
    split
    · exact List.mem_reverse.mpr (agentStep (by rfl) (by rfl))
    · exact agentStep (by rfl) (by rfl)

/-! ### The row of each command -/

/-- Every row of a command of the agent runs it at the head of the queue, where it applies (R166). -/
theorem exec_commandRow (w : Option Table) (n : CommandName) : ∃ (applies : State → Bool)
    (act : AgentCommand → State → State), (∀ s : State, exec (commandRow w n) s = .next (runCommand n applies act s))
      ∧ ∀ s : State, s.agent.window = w → applies s = true := by
  have selected {t : Table} (s : State) (h : s.agent.window = some t) : selects t s = true := by
    rw [selects, h]
    exact beq_self_eq_true _
  have unselected {w : Option Table} (s : State) (h : s.agent.window = w)
      (none : w = none ∨ w = some .route ∨ w = some .layoutActive) : selectsNone s = true := by
    rw [selectsNone, h]
    rcases none with rfl | rfl | rfl <;> rfl
  cases n
  case writeNext =>
    rcases w with _ | x
    · exact ⟨_, _, fun _ => rfl, fun s h => unselected s h (.inl rfl)⟩
    · cases x
      case route => exact ⟨_, _, fun _ => rfl, fun s h => unselected s h (.inr (.inl rfl))⟩
      case layoutActive => exact ⟨_, _, fun _ => rfl, fun s h => unselected s h (.inr (.inr rfl))⟩
      case rules0 => exact ⟨_, _, fun _ => rfl, fun s h => by exact Bool.or_eq_true_iff.mpr (.inl (selected s h))⟩
      case rules1 => exact ⟨_, _, fun _ => rfl, fun s h => by exact Bool.or_eq_true_iff.mpr (.inr (selected s h))⟩
      all_goals exact ⟨_, _, fun _ => rfl, selected⟩
  all_goals exact ⟨_, _, fun _ => rfl, fun _ _ => rfl⟩

/-- The commands that BYPASS does not allow (R167). -/
theorem allowedIn_bypass (n : CommandName) : n ≠ .setMode → n ≠ .readStatus → n ≠ .readCauses → n ≠ .restart →
    allowedIn .bypass n = false := by
  cases n <;> decide

theorem runCommand_empty (empty : s.agent.queue = []) (applies : State → Bool) (act : AgentCommand → State → State) :
    runCommand n applies act s = s := by
  unfold runCommand
  dsimp only
  rw [empty]
  rfl

/-- An entry that a write refuses: its index is past the last, or it fails its checks (R169). -/
theorem writeEntry_refuses {α : Type} {entries : Nat} {read : List Byte → Option α} (busy : State → Bool)
    (take : α → State → State) (c : AgentCommand) (s : State) :
    (entries ≤ s.agent.pointer → writeEntry entries read busy take c s = replyStatus c .badIndex s)
      ∧ (s.agent.pointer < entries → (read c.args).isSome = false →
        writeEntry entries read busy take c s = replyStatus c .badValue s) := by
  refine ⟨fun past => if_pos past, fun inside fails => ?_⟩
  unfold writeEntry
  rw [if_neg (Nat.not_le.mpr inside), Option.isSome_eq_false_iff.mp fails |> Option.isNone_iff_eq_none.mp]

/-- A write row of a table refuses what is past its last entry, and what fails its checks (R169). -/
theorem exec_writeRow {x : Table} (notRoute : x ≠ .route) (notActive : x ≠ .layoutActive) :
    ∃ (applies : State → Bool) (act : AgentCommand → State → State),
      (∀ s : State, exec (commandRow (some x) .writeNext) s = .next (runCommand .writeNext applies act s))
      ∧ ∀ s : State, s.agent.window = some x → applies s = true ∧ ∀ c : AgentCommand,
        (x.entries ≤ s.agent.pointer → act c s = replyStatus c .badIndex s)
        ∧ (s.agent.pointer < x.entries → entryPasses x s.agent.pointer c.args = false →
          act c s = replyStatus c .badValue s) := by
  have selected {t : Table} (s : State) (h : s.agent.window = some t) : selects t s = true := by
    rw [selects, h]
    exact beq_self_eq_true _
  cases x
  case route => exact absurd rfl notRoute
  case layoutActive => exact absurd rfl notActive
  case rules0 =>
    exact ⟨_, _, fun _ => rfl, fun s h => ⟨by exact Bool.or_eq_true_iff.mpr (.inl (selected s h)),
      fun c => writeEntry_refuses neverBusy _ c s⟩⟩
  case rules1 =>
    exact ⟨_, _, fun _ => rfl, fun s h => ⟨by exact Bool.or_eq_true_iff.mpr (.inr (selected s h)),
      fun c => writeEntry_refuses neverBusy _ c s⟩⟩
  case layoutPending =>
    refine ⟨_, _, fun _ => rfl, fun s h => ⟨selected s h, fun c => ?_⟩⟩
    obtain ⟨past, fails⟩ := writeEntry_refuses (entries := 160) (read := readLayoutEntry s.agent.pointer) neverBusy
      takeLayoutEntry c s
    refine ⟨past, fun inside bad => fails inside ?_⟩
    rw [← bad, entryPasses, readLayoutEntry]
    split
    · exact Option.isSome_map
    · exact Option.isSome_map
  all_goals exact ⟨_, _, fun _ => rfl, fun s h => ⟨selected s h, fun c => writeEntry_refuses _ _ c s⟩⟩

theorem refusedCommandsChangeNothing : Claim.RefusedCommandsChangeNothing := by
  intro c s answers refuses table
  have entry (n : CommandName) :
      s.refusedResults n = if n = .readNext then table :: bytes2 s.agent.pointer else [] := by
    unfold State.refusedResults State.noEntry
    rfl
  refine ⟨fun n head known bypass notMode notStatus notCauses notRestart => refusal ?_, fun w n empty => ?_,
    fun runs none => refusal ?_, fun x runs window notRoute notActive past => refusal ?_,
    fun x writes notRoute notActive fails => refusal ?_⟩
  · obtain ⟨applies, act, row, here⟩ := exec_commandRow s.agent.window n
    have barred : allowedIn s.mode n = false := by
      rw [bypass]
      exact allowedIn_bypass n notMode notStatus notCauses notRestart
    rw [row, runCommand_refused head known (here s rfl) barred, entry]
  · obtain ⟨applies, act, row, -⟩ := exec_commandRow w n
    rw [row, runCommand_empty empty]
  · have nothing : selectsNone s = true := by
      unfold selectsNone
      rcases none with h | h | h <;> rw [h] <;> rfl
    exact congrArg _ ((runCommand_runs runs nothing _).trans (popCommand_reply ..))
  · obtain ⟨applies, act, row, here⟩ := exec_writeRow notRoute notActive
    obtain ⟨applied, does⟩ := here s window
    rw [row, runCommand_runs runs applied, (does c).1 past, replyStatus, popCommand_reply]
  · obtain ⟨runs, window, inside⟩ := writes
    obtain ⟨applies, act, row, here⟩ := exec_writeRow notRoute notActive
    obtain ⟨applied, does⟩ := here s window
    rw [row, runCommand_runs runs applied, (does c).2 inside fails, replyStatus, popCommand_reply]

/-- Settles O52: unknown commands, refused ones, and the checks of the entries. -/
theorem unknownAndRefusedCommandsAreAnswered : Obligations.UnknownAndRefusedCommandsAreAnswered :=
  ⟨unknownCommandsAreAnswered, refusedCommandsChangeNothing, entriesAreCheckedByTheirRules⟩

end

end Sys2Proof.Machine
end

section
/-! PROOF. The writes of TILE_PLAN, LAYOUT_PENDING, DOOR, RULES, OUTPUT_CONFIG and NODE_PARAMS. Settles O53. -/

namespace Sys2Proof.Machine

section
variable {s t x : State} {c : AgentCommand} {sc : Screen}

/-! ### A write of an entry (R169) -/

/-- A row that takes the writes of a table runs its work. -/
theorem runCommand_writes {table : Table} (writes : s.writes c table) {applies : State → Bool}
    (here : s.agent.window = some table → applies s = true) (act : AgentCommand → State → State) :
    runCommand .writeNext applies act s = popCommand (act c s) :=
  runCommand_runs writes.1 (here writes.2.1) act

theorem selects_of_window {table : Table} (selected : s.agent.window = some table) : selects table s = true := by
  rw [selects, selected]
  exact beq_self_eq_true _

/-- An entry that passes is taken, the pointer moves on, and the write is answered OK (R169). -/
theorem popCommand_writeEntry {α : Type} {entries : Nat} {read : List Byte → Option α} {busy : State → Bool} {e : α}
    (inside : s.agent.pointer < entries) (passes : read (payloadOf c.cell) = some e) (idle : busy s = false)
    (take : α → State → State) : popCommand (writeEntry entries read busy take c s)
      = ((take e s).withPointer (s.agent.pointer + 1)).answered c .ok [[]] := by
  have written : writeEntry entries read busy take c s
      = replyStatus c .ok ((take e s).withPointer (s.agent.pointer + 1)) := by
    unfold writeEntry
    rw [if_neg (Nat.not_le.mpr inside), AgentCommand.args, passes]
    dsimp only
    rw [idle, if_neg Bool.false_ne_true]
  rw [written, replyStatus, popCommand_reply]

/-- A LAYOUT_PENDING write is read by its index (R148, R149). -/
theorem writes_layoutPending (writes : s.writes c .layoutPending) {e : LayoutEntry}
    (passes : readLayoutEntry s.agent.pointer (payloadOf c.cell) = some e) : exec .writeLayoutPending s
      = .next (((takeLayoutEntry e s).withPointer (s.agent.pointer + 1)).answered c .ok [[]]) := by
  have row : exec .writeLayoutPending s = .next (runCommand .writeNext (selects .layoutPending)
    (fun c t => writeEntry 160 (readLayoutEntry t.agent.pointer) neverBusy takeLayoutEntry c t) s) := rfl
  rw [row, runCommand_writes writes selects_of_window]
  exact congrArg _ (popCommand_writeEntry writes.2.2 passes rfl takeLayoutEntry)

/-- A RULES write is its own screen's (R132). -/
theorem writes_rules (runs : s.runs .writeNext c) (inside : s.agent.pointer < 16) {e : Rule}
    (passes : readRule (payloadOf c.cell) = some e)
    (window : s.agent.window = some (if sc = 0 then .rules0 else .rules1)) : exec .writeRules s
      = .next (((takeRule sc e s).withPointer (s.agent.pointer + 1)).answered c .ok [[]]) := by
  have row : exec .writeRules s = .next (runCommand .writeNext (fun t => selects .rules0 t || selects .rules1 t)
    (fun c t => writeEntry 16 readRule neverBusy (takeRule (if selects .rules0 t then 0 else 1)) c t) s) := rfl
  have screen : (if selects .rules0 s then (0 : Screen) else 1) = sc := by
    rw [selects, window]
    fin_cases sc <;> rfl
  have here : (selects .rules0 s || selects .rules1 s) = true := by
    rw [selects, selects, window]
    fin_cases sc <;> rfl
  rw [row, runCommand_runs runs here, screen]
  exact congrArg _ (popCommand_writeEntry inside passes rfl (takeRule sc))

theorem tableWritesStoreTheirEntry : Claim.TableWritesStoreTheirEntry := by
  intro c s
  dsimp only
  refine ⟨fun e writes passes => ?_, fun n writes isHeader passes => ?_, fun q writes isPane passes => ?_,
    fun e writes passes => ?_, fun e writes passes => ?_, fun e writes passes => ?_⟩
  · have row : exec .writeTilePlan s = .next (((takeTilePlan e s).withPointer (s.agent.pointer + 1)).answered c .ok [[]]) :=
      congrArg _ ((runCommand_writes writes selects_of_window _).trans
        (popCommand_writeEntry writes.2.2 passes rfl takeTilePlan))
    rw [row]
    exact congrArg Host.Outcome.next (answered_of_same (s := s) (by rfl) (by rfl) c _ _)
  · rw [writes_layoutPending writes (e := .header n) (by rw [readLayoutEntry, if_pos isHeader, passes]; rfl)]
    exact congrArg Host.Outcome.next (answered_of_same (s := s) (by rfl) (by rfl) c _ _)
  · rw [writes_layoutPending writes (e := .pane q) (by rw [readLayoutEntry, if_neg isPane, passes]; rfl)]
    exact congrArg Host.Outcome.next (answered_of_same (s := s) (by rfl) (by rfl) c _ _)
  · have row : exec .writeDoor s = .next (((takeDoor e s).withPointer (s.agent.pointer + 1)).answered c .ok [[]]) :=
      congrArg _ ((runCommand_writes writes selects_of_window _).trans
        (popCommand_writeEntry writes.2.2 passes rfl takeDoor))
    rw [row, takeDoor, evaluateBoth_eq]
    exact congrArg Host.Outcome.next (answered_of_same (s := s) (by rfl) (by rfl) c _ _)
  · rw [writes_rules (sc := 0) writes.1 writes.2.2 passes writes.2.1, takeRule, evaluate_eq]
    exact congrArg Host.Outcome.next (answered_of_same (s := s) (by rfl) (by rfl) c _ _)
  · rw [writes_rules (sc := 1) writes.1 writes.2.2 passes writes.2.1, takeRule, evaluate_eq]
    exact congrArg Host.Outcome.next (answered_of_same (s := s) (by rfl) (by rfl) c _ _)

end

end Sys2Proof.Machine
end

section
/-! PROOF. The writes of OUTPUT_CONFIG and NODE_PARAMS (R128, R143, R146, R171, R185). Settles O53. -/

namespace Sys2Proof.Machine

section
variable {s t x y : State} {c : AgentCommand} {sc : Screen}

/-! ### An evaluation beside an output (R143, R146) -/

/-- What an evaluation reads of a state, and may change: the parts of an output wiped, with the ACTIVE bank. -/
def State.sight (s : State) : State := { s.mask unseen with
  comp := { Compositor.reset with pulseEnd := s.comp.pulseEnd }
  tables := { s.tables with activeBank := Tables.reset.activeBank } }

theorem evaluate_sight (sc : Screen) (s : State) : evaluate sc s.sight = (evaluate sc s).sight := by
  have wanted : s.sight.wanted sc = s.wanted sc := rfl
  have selection : s.sight.selection = s.selection := rfl
  have time : s.sight.nodeTime = s.nodeTime := rfl
  have head : s.sight.isHead = s.isHead := rfl
  have config : s.sight.tables.outputConfig = s.tables.outputConfig := rfl
  unfold evaluate
  dsimp only
  rw [wanted, selection, time, head, config]
  split
  · rfl
  · split
    · split <;> rfl
    · rfl

theorem parts_of_sight (alike : x.sight = y.sight) : x.selection = y.selection ∧ x.comp.pulseEnd = y.comp.pulseEnd := by
  have selection := congrArg State.selection alike
  have pulse := congrArg (fun s : State => s.comp.pulseEnd) alike
  exact ⟨selection, pulse⟩

/-- Two states that look alike to an evaluation are evaluated alike. -/
theorem evaluate_alike (alike : x.sight = y.sight) (sc : Screen) : (evaluate sc x).selection = (evaluate sc y).selection
    ∧ (evaluate sc x).comp.pulseEnd = (evaluate sc y).comp.pulseEnd := by
  exact parts_of_sight (by rw [← evaluate_sight, ← evaluate_sight, alike])

theorem evaluate_comp (sc : Screen) (s : State) :
    (evaluate sc s).comp = { s.comp with pulseEnd := (evaluate sc s).comp.pulseEnd } := by
  unfold evaluate
  dsimp only
  split
  · rfl
  · split
    · split <;> rfl
    · rfl

/-! ### An output that takes a write of its entry (R146) -/

/-- A frame start of an output depends on its frame, not on whether it was RUNNING. -/
theorem frameStart_running (sc : Screen) (s : State) : frameStart sc { s with
    comp := { s.comp with outputs := s.comp.outputs.set sc { s.comp.outputs[sc] with running := true } } }
      = frameStart sc s := by
  have held : ((s.comp.outputs.set sc { s.comp.outputs[sc] with running := true })[sc]).held = (s.comp.outputs[sc]).held :=
    (congrArg Output.held (getElem_set_same _ sc _)).trans rfl
  rw [frameStart_eq, frameStart_eq]
  refine if_congr Iff.rfl ?_ ?_
  all_goals
    simp only [State.frameBegun, State.withOutput, State.withComp, State.withStore, held, Vector.set_set]
    rfl

theorem stopOutput_eq (sc : Screen) (s : State) : stopOutput sc s = { s with
    store := s.store.endHolds (s.comp.outputs[sc]).held
    comp := { s.comp with outputs := s.comp.outputs.set sc ⟨false, none⟩ } } := rfl

/-- What an output does with a write leaves alone what an evaluation reads. -/
theorem outputTakes_sight (sc : Screen) (old new : OutputConfig) (s : State) : (outputTakes sc old new s).sight = s.sight := by
  have starts : (frameStart sc s).sight = s.sight := by
    rw [frameStart_eq]
    split <;> rfl
  unfold outputTakes
  split
  · split
    · split
      · split
        · rfl
        · exact starts
      · rfl
    · split
      · exact starts
      · rfl
  · rfl

/-- What an output does with a write touches its own output, and leaves the chime. -/
theorem outputTakes_other (sc : Screen) (old new : OutputConfig) (s : State) :
    ∃ o image, (outputTakes sc old new s).comp = { s.comp with outputs := s.comp.outputs.set sc o, applyImage := image } := by
  have stands : ∃ o image, s.comp = { s.comp with outputs := s.comp.outputs.set sc o, applyImage := image } :=
    ⟨s.comp.outputs[sc], s.comp.applyImage,
      congrArg (fun v => { s.comp with outputs := v }) (Vector.set_getElem_self _).symm⟩
  have starts : ∃ o image, (frameStart sc s).comp
      = { s.comp with outputs := s.comp.outputs.set sc o, applyImage := image } := by
    obtain ⟨o, e⟩ := frameStart_comp sc s
    exact ⟨o, none, e⟩
  unfold outputTakes
  split
  · split
    · split
      · split
        · exact stands
        · exact starts
      · exact ⟨⟨false, none⟩, s.comp.applyImage, rfl⟩
    · split
      · exact starts
      · exact stands
  · exact stands

/-- An OUTPUT_CONFIG write: the output takes it as the evaluation finds the selection or leaves it, and the screen is
evaluated (R143, R146). -/
theorem takeOutputConfig_eq (e : OutputConfig) (s : State) :
    let sc : Screen := Fin.ofNat 2 s.agent.pointer
    let base : State := { s with tables := { s.tables with outputConfig := s.tables.outputConfig.set sc e } }
    ∃ x, (x = base ∨ x = evaluate sc base) ∧ takeOutputConfig e s = { outputTakes sc s.tables.outputConfig[sc] e x with
      selection := (evaluate sc base).selection
      comp := { (outputTakes sc s.tables.outputConfig[sc] e x).comp with pulseEnd := (evaluate sc base).comp.pulseEnd } } := by
  intro sc base
  unfold takeOutputConfig
  dsimp only
  split
  · refine ⟨evaluate sc base, .inr rfl, ?_⟩
    obtain ⟨selection, pulse⟩ := parts_of_sight (outputTakes_sight sc s.tables.outputConfig[sc] e (evaluate sc base))
    show outputTakes sc s.tables.outputConfig[sc] e (evaluate sc base) = _
    rw [← selection, ← pulse]
  · refine ⟨base, .inl rfl, ?_⟩
    obtain ⟨selection, pulse⟩ := evaluate_alike (outputTakes_sight sc s.tables.outputConfig[sc] e base) sc
    show evaluate sc (outputTakes sc s.tables.outputConfig[sc] e base) = _
    rw [evaluate_eq, evaluate_comp, selection, pulse]

theorem outputTakes_stands {old new : OutputConfig} (stands : s.straps.cabEnd = false
    ∨ ((s.comp.outputs[sc]).running = false ∧ new.enabled = false)
    ∨ ((s.comp.outputs[sc]).running = true ∧ new.enabled = true ∧ new.mode = old.mode)) :
    outputTakes sc old new s = s := by
  unfold outputTakes
  rcases stands with body | ⟨off, stays⟩ | ⟨runs, stays, same⟩
  · rw [body]
    rfl
  · rw [off, stays]
    split <;> rfl
  · simp only [runs, stays, same, if_true, ite_self]

theorem outputTakes_stops {old new : OutputConfig} (cab : s.straps.cabEnd = true)
    (runs : (s.comp.outputs[sc]).running = true) (ends : new.enabled = false) :
    outputTakes sc old new s = stopOutput sc s := by
  unfold outputTakes
  rw [cab, runs, ends]
  rfl

theorem outputTakes_starts {old new : OutputConfig} (cab : s.straps.cabEnd = true) (enabled : new.enabled = true)
    (begins : (s.comp.outputs[sc]).running = false ∨ new.mode ≠ old.mode) : outputTakes sc old new s = frameStart sc s := by
  unfold outputTakes
  rw [cab, enabled]
  cases runs : (s.comp.outputs[sc]).running with
  | false => rfl
  | true =>
    rcases begins with off | other
    · rw [runs] at off
      cases off
    · exact if_neg other

/-- The frame that a frame start leaves, on a head or elsewhere. -/
theorem frameStart_frame (sc : Screen) (s : State) : ((frameStart sc s).comp.outputs[sc]).running = true
    ∧ ∃ f : ScreenFrame, ((frameStart sc s).comp.outputs[sc]).frame = some f ∧ f.composed = s.isHead
      ∧ f.background = (s.tables.outputConfig[sc]).colour := by
  cases head : s.isHead with
  | true =>
    rw [(frameStart_head head sc).2]
    exact ⟨rfl, _, rfl, rfl, rfl⟩
  | false =>
    rw [(frameStart_follows head sc).2]
    exact ⟨rfl, _, rfl, rfl, rfl⟩

/-- The state that takes an OUTPUT_CONFIG write, answered: what the output does, and what the evaluation leaves. -/
theorem outputWriteTakesEffect (e : OutputConfig) (writes : s.writes c .outputConfig)
    (passes : readOutputConfig (payloadOf c.cell) = some e) : exec .writeOutputConfig s
      = .next (((takeOutputConfig e s).withPointer (s.agent.pointer + 1)).answered c .ok [[]]) := by
  have row : exec .writeOutputConfig s = .next (runCommand .writeNext (selects .outputConfig)
    (writeEntry 2 readOutputConfig neverBusy takeOutputConfig) s) := rfl
  rw [row, runCommand_writes writes selects_of_window]
  exact congrArg _ (popCommand_writeEntry writes.2.2 passes rfl takeOutputConfig)

theorem writes_nodeParams (e : NodeParams) (writes : s.writes c .nodeParams)
    (passes : readNodeParams (payloadOf c.cell) = some e) : exec .writeNodeParams s
      = .next (((takeNodeParams e s).withPointer (s.agent.pointer + 1)).answered c .ok [[]]) := by
  have row : exec .writeNodeParams s = .next (runCommand .writeNext (selects .nodeParams)
    (writeEntry 1 readNodeParams neverBusy takeNodeParams) s) := rfl
  rw [row, runCommand_writes writes selects_of_window]
  exact congrArg _ (popCommand_writeEntry writes.2.2 passes rfl takeNodeParams)

/-- A write is answered from what stood before it (R167, R169). -/
theorem answered_write {w : State} (agent : w.agent = s.agent) (trunk : w.trunk = s.trunk) (straps : w.straps = s.straps)
    (c : AgentCommand) : let t := (w.withPointer (s.agent.pointer + 1)).answered c .ok [[]]
      t.agent = { s.agent with pointer := s.agent.pointer + 1, queue := s.agent.queue.drop 1 }
        ∧ t.trunk = (reply c .ok [[]] s).trunk := by
  refine ⟨?_, reply_trunk_congr trunk straps⟩
  show ({ w.agent with pointer := s.agent.pointer + 1, queue := w.agent.queue.drop 1 } : Agent) = _
  rw [agent]

/-- The state in which a NODE_PARAMS write moves the staleness expiry (R128, R185). -/
def State.withNodeParams (e : NodeParams) (s : State) : State :=
  let time : Option NodeTime :=
    if e.surveyInterval = 0 then none else some (s.nodeTime + BitVec.ofNat 32 (600000 * e.surveyInterval))
  { s with
    tables := { s.tables with nodeParams := e }
    survey := if s.mode = .standby then { s.survey with due := time } else s.survey }

theorem takeNodeParams_eq (e : NodeParams) (s : State) : takeNodeParams e s = retime (s.withNodeParams e) := by
  have span : 10 * (60000 * e.surveyInterval) = 600000 * e.surveyInterval := by omega
  unfold takeNodeParams State.withNodeParams
  dsimp only
  congr 1
  by_cases standby : s.mode = .standby
  · rw [if_pos standby, if_pos (by exact standby), ← span]
    rfl
  · rw [if_neg standby, if_neg (by exact standby)]
    rfl

theorem retime_stale (stale : s.vehicle.fresh = false ∨ s.vehicle.lastState = none) : retime s = s := by
  unfold retime
  rcases stale with stale | never
  · rw [stale]
    rfl
  · rw [never]
    exact ite_self _

theorem retime_fresh {b : NodeTime} (fresh : s.vehicle.fresh = true) (last : s.vehicle.lastState = some b) : retime s
    = if reached s.nodeTime (s.stalenessExpiry b) then clearFresh s
      else s.withVehicle { s.vehicle with expiry := some (s.stalenessExpiry b) } := by
  unfold retime
  rw [if_pos fresh, last]

/-- Clearing fresh with the expiry already past brings both evaluations (R128). -/
theorem clearFresh_withNodeParams (e : NodeParams) (s : State) : let w := clearFresh (s.withNodeParams e)
    let stale : Vehicle := { s.vehicle with fresh := false, expiry := none }
    let seen := evaluateBoth { s with tables := { s.tables with nodeParams := e }, vehicle := stale }
    w.vehicle = stale ∧ w.selection = seen.selection ∧ w.comp = seen.comp := by
  intro w stale seen
  have alike := evaluateBoth_seen (s := (s.withNodeParams e).withVehicle stale)
    (t := { s with tables := { s.tables with nodeParams := e }, vehicle := stale }) (by rfl)
  refine ⟨?_, alike.1, alike.2⟩
  show (evaluateBoth ((s.withNodeParams e).withVehicle stale)).vehicle = stale
  rw [evaluateBoth_eq]
  rfl

/-- What an output finds at a write: the write's tables, and of the evaluation the selection and the chime. -/
theorem taken_eq {base : State} (taken : x = base ∨ x = evaluate sc base) :
    ∃ selection pulse, x = { base with selection := selection, comp := { base.comp with pulseEnd := pulse } } := by
  rcases taken with rfl | rfl
  · exact ⟨x.selection, x.comp.pulseEnd, rfl⟩
  · refine ⟨(evaluate sc base).selection, (evaluate sc base).comp.pulseEnd, ?_⟩
    rw [← evaluate_comp]
    exact evaluate_eq sc base

/-- What an OUTPUT_CONFIG write leaves (R143, R145, R146). -/
theorem outputConfigTaken (c : AgentCommand) (e : OutputConfig) (s : State) :
    let t := ((takeOutputConfig e s).withPointer (s.agent.pointer + 1)).answered c .ok [[]]
    let sc : Screen := Fin.ofNat 2 s.agent.pointer
    let old := s.tables.outputConfig[sc]
    let o := s.comp.outputs[sc]
    let running (x : State) : State :=
      { x with comp := { x.comp with outputs := x.comp.outputs.set sc { o with running := true } } }
    let tables : Tables := { s.tables with outputConfig := s.tables.outputConfig.set sc e }
    let base : State := { s with tables := tables }
    (t.agent = { s.agent with pointer := s.agent.pointer + 1, queue := s.agent.queue.drop 1 }
      ∧ t.trunk = (reply c .ok [[]] s).trunk)
    ∧ t.tables.outputConfig = tables.outputConfig
    ∧ (∀ other : Screen, other ≠ sc → t.comp.outputs[other] = s.comp.outputs[other]
      ∧ t.selection[other] = s.selection[other])
    ∧ t.selection = (evaluate sc base).selection ∧ t.comp.pulseEnd = (evaluate sc base).comp.pulseEnd
    ∧ (s.straps.cabEnd = false ∨ (o.running = false ∧ e.enabled = false)
        ∨ (o.running = true ∧ e.enabled = true ∧ e.mode = old.mode) →
      t.comp.outputs[sc] = o ∧ t.store = s.store ∧ t.tables = tables ∧ t.comp.applyImage = s.comp.applyImage)
    ∧ (s.straps.cabEnd = true → o.running = true → e.enabled = false →
      t.comp.outputs[sc] = ⟨false, none⟩ ∧ t.store = s.store.endHolds o.held ∧ t.tables = tables
        ∧ t.comp.applyImage = s.comp.applyImage)
    ∧ (s.straps.cabEnd = true → e.enabled = true → o.running = false ∨ e.mode ≠ old.mode →
      (t.comp.outputs[sc]).running = true ∧ t.comp.applyImage = none
        ∧ (∃ f : ScreenFrame, (t.comp.outputs[sc]).frame = some f ∧ f.composed = s.isHead
          ∧ f.background = e.colour)
        ∧ ∃ x u : State, (x = base ∨ x = evaluate sc base)
          ∧ exec (.screenFrameStart sc) (running x) = .next u
          ∧ t.comp.outputs = u.comp.outputs ∧ t.store = u.store ∧ t.tables = u.tables)
    ∧ SameBut [.store, .selection, .comp, .tables, .agent, .trunk] s t := by
  intro t sc old o running tables base
  obtain ⟨x, taken, work⟩ := takeOutputConfig_eq e s
  obtain ⟨selection, pulse, found⟩ := taken_eq taken
  have colour : (tables.outputConfig[sc]).colour = e.colour := congrArg OutputConfig.colour (getElem_set_same _ sc _)
  have whole : t = (({ outputTakes sc old e x with
      selection := (evaluate sc base).selection
      comp := { (outputTakes sc old e x).comp with pulseEnd := (evaluate sc base).comp.pulseEnd } }).withPointer
        (s.agent.pointer + 1)).answered c .ok [[]] := congrArg (fun w : State => (w.withPointer _).answered c .ok [[]]) work
  have same : t.mask [.store, .selection, .comp, .tables, .agent, .trunk]
      = s.mask [.store, .selection, .comp, .tables, .agent, .trunk] := by
    have quiet : t.mask [.store, .selection, .comp, .tables, .agent, .trunk]
        = (takeOutputConfig e s).mask [.store, .selection, .comp, .tables, .agent, .trunk] := rfl
    rw [quiet, mask_takeOutputConfig (by simp) (by simp) (by simp) (by simp)]
  have kept : SameBut [.tables, .selection, .comp, .store] (takeOutputConfig e s) s :=
    (sameBut_iff_mask _ _ _).mpr (mask_takeOutputConfig (by simp) (by simp) (by simp) (by simp)).symm
  have agent : (takeOutputConfig e s).agent = s.agent := kept .agent (by simp)
  have trunk : (takeOutputConfig e s).trunk = s.trunk := kept .trunk (by simp)
  have straps : (takeOutputConfig e s).straps = s.straps := kept .straps (by simp)
  refine ⟨answered_write agent trunk straps c, ?_⟩
  rw [whole]
  obtain ⟨o', image, comp⟩ := outputTakes_other sc old e x
  have tablesOf := congrArg (fun s : State => s.tables.outputConfig) (outputTakes_sight sc old e x)
  refine ⟨?_, fun other apart => ⟨?_, ?_⟩, rfl, rfl, fun stands => ?_, fun cab runs ends => ?_,
    fun cab enabled begins => ?_, by rw [← whole]; exact (sameBut_iff_mask _ _ _).mpr same⟩
  · show (outputTakes sc old e x).tables.outputConfig = _
    exact tablesOf.trans (by rw [found]; rfl)
  · show ((outputTakes sc old e x).comp.outputs)[other] = _
    rw [comp, found]
    exact getElem_set_ne _ apart.symm o'
  · show (evaluate sc base).selection[other] = _
    rw [evaluate_selection]
    exact getElem_set_ne _ apart.symm _
  · rw [outputTakes_stands (s := x) (by rw [found]; exact stands), found]
    exact ⟨rfl, rfl, rfl, rfl⟩
  · rw [outputTakes_stops (s := x) (by rw [found]; exact cab) (by rw [found]; exact runs) ends, stopOutput_eq, found]
    exact ⟨getElem_set_same .., rfl, rfl, rfl⟩
  · rw [outputTakes_starts (s := x) (by rw [found]; exact cab) enabled (by rw [found]; exact begins)]
    obtain ⟨runs, f, frame, composed, background⟩ := frameStart_frame sc x
    obtain ⟨out, frameComp⟩ := frameStart_comp sc x
    refine ⟨runs, congrArg Compositor.applyImage frameComp, ⟨f, frame, ?_, ?_⟩, x, frameStart sc x, taken, ?_, rfl, rfl, rfl⟩
    · rw [composed, found]
      rfl
    · rw [background, ← colour, found]
    · have output : x.comp.outputs[sc] = o := by rw [found]
      rw [exec_screenFrameStart, if_pos (congrArg Output.running (getElem_set_same _ sc _))]
      dsimp only [running]
      rw [← output]
      exact congrArg Host.Outcome.next (frameStart_running sc x)

theorem outputAndNodeWritesTakeEffect : Claim.OutputAndNodeWritesTakeEffect := by
  intro c s
  dsimp only
  refine ⟨fun e writes passes => ?_, fun e writes passes => ?_⟩
  · refine ⟨((takeOutputConfig e s).withPointer (s.agent.pointer + 1)).answered c .ok [[]],
      outputWriteTakesEffect e writes passes, ?_⟩
    exact outputConfigTaken c e s
  · refine ⟨((takeNodeParams e s).withPointer (s.agent.pointer + 1)).answered c .ok [[]],
      writes_nodeParams e writes passes, ?_⟩
    have same := (sameBut_iff_mask [.vehicle, .selection, .comp] (s.withNodeParams e) (retime (s.withNodeParams e))).mpr
      (mask_retime (by simp) (by simp) (by simp))
    rw [takeNodeParams_eq]
    have tables : (s.withNodeParams e).tables = (retime (s.withNodeParams e)).tables := same .tables (by simp)
    have survey : (s.withNodeParams e).survey = (retime (s.withNodeParams e)).survey := same .survey (by simp)
    have agent : (s.withNodeParams e).agent = (retime (s.withNodeParams e)).agent := same .agent (by simp)
    have trunk : (s.withNodeParams e).trunk = (retime (s.withNodeParams e)).trunk := same .trunk (by simp)
    have straps : (s.withNodeParams e).straps = (retime (s.withNodeParams e)).straps := same .straps (by simp)
    refine ⟨answered_write (by exact agent.symm) (by exact trunk.symm) (by exact straps.symm) c, by exact tables.symm,
      by exact survey.symm, fun stale => ?_, fun b fresh last => ⟨fun early => ?_, fun late => ?_⟩, ?_⟩
    · rw [retime_stale (s := s.withNodeParams e) stale]
      exact ⟨rfl, rfl, rfl⟩
    · have waits : ¬ reached (s.withNodeParams e).nodeTime ((s.withNodeParams e).stalenessExpiry b) = true := by
        rw [show reached (s.withNodeParams e).nodeTime ((s.withNodeParams e).stalenessExpiry b) = false from early]
        exact Bool.false_ne_true
      rw [retime_fresh (s := s.withNodeParams e) fresh last, if_neg waits]
      exact ⟨rfl, rfl, rfl⟩
    · have cleared := clearFresh_withNodeParams e s
      rw [retime_fresh (s := s.withNodeParams e) fresh last, if_pos (by exact late)]
      dsimp only at cleared ⊢
      generalize clearFresh (s.withNodeParams e) = w at cleared ⊢
      exact cleared
    · refine (sameBut_iff_mask _ _ _).mpr ?_
      have masked : (retime (s.withNodeParams e)).mask [.vehicle, .selection, .comp, .survey, .tables, .agent, .trunk]
          = s.mask [.vehicle, .selection, .comp, .survey, .tables, .agent, .trunk] := by
        rw [mask_retime (by simp) (by simp) (by simp)]
        rfl
      exact masked

/-- Settles O53: an answered write is its take function's work; OUTPUT_CONFIG goes by `takeOutputConfig_eq`, NODE_PARAMS
by `takeNodeParams_eq` and the staleness expiry it moves. -/
theorem tableWritesTakeEffect : Obligations.TableWritesTakeEffect :=
  ⟨tableWritesStoreTheirEntry, outputAndNodeWritesTakeEffect⟩

end

end Sys2Proof.Machine
end

section
/-! PROOF. The alert lines (R161 to R163), and the state after a reset (R180, R181). Settles O45 and O49. -/

namespace Sys2Proof.Machine

section
variable {s t : State}

/-! ### The chime through a change of head and of mode -/

theorem pulseEnd_of_same {l : List Part} (same : SameBut l s t) (comp : Part.comp ∉ l) :
    t.comp.pulseEnd = s.comp.pulseEnd := congrArg Compositor.pulseEnd (same .comp comp).symm

theorem pulseEnd_of_mask {l : List Part} (same : t.mask l = s.mask l) (comp : Part.comp ∉ l) :
    t.comp.pulseEnd = s.comp.pulseEnd := pulseEnd_of_same ((sameBut_iff_mask _ _ _).mpr same) comp

theorem pulseEnd_stopComposing (s : State) : (stopComposing s).comp.pulseEnd = s.comp.pulseEnd :=
  (stopComposing_stopped s).pulse

/-- The parts that a command may change without touching the screens. -/
def screenless : List Part :=
  [.nodeTime, .cellCount, .straps, .cabActive, .mode, .cams, .health, .engine, .store, .trunk, .orient, .controllerSide,
    .router, .vehicle, .selection, .alarm, .agent, .survey, .tables]

theorem pulseEnd_of_screenless (same : t.mask screenless = s.mask screenless) : t.comp.pulseEnd = s.comp.pulseEnd :=
  pulseEnd_of_mask same (by decide)

theorem pulseEnd_reevaluateCandidacy (s : State) : (reevaluateCandidacy s).comp.pulseEnd = s.comp.pulseEnd := by
  unfold reevaluateCandidacy
  split
  · rfl
  · split
    · exact pulseEnd_of_screenless (by simp [screenless])
    · unfold endCandidacy
      split
      · exact pulseEnd_of_screenless (by simp [screenless])
      · exact (pulseEnd_stopComposing _).trans (pulseEnd_of_screenless (by simp [screenless]))

theorem pulseEnd_orientMode (s : State) : (orientMode s).comp.pulseEnd = s.comp.pulseEnd := by
  unfold orientMode
  dsimp only
  split
  · exact (pulseEnd_of_screenless (by simp [screenless])).trans (pulseEnd_reevaluateCandidacy s)
  · exact pulseEnd_reevaluateCandidacy s

theorem pulseEnd_changeMode (m : Mode) (s : State) : (changeMode m s).comp.pulseEnd = s.comp.pulseEnd := by
  have entered : (enterMode m (leaveMode s.mode (s.withMode m))).comp.pulseEnd = s.comp.pulseEnd :=
    pulseEnd_of_screenless (by simp [screenless])
  have ports (x : State) : (eachPort reevaluateDemand x).comp.pulseEnd = x.comp.pulseEnd :=
    pulseEnd_of_screenless (by simp [screenless])
  unfold changeMode
  dsimp only
  split
  · rw [pulseEnd_orientMode, ports, entered]
  · rw [ports, pulseEnd_orientMode, entered]

theorem pulseEnd_takeBeacon (p : TrunkPort) (h n : Nat) (s : State) :
    (takeBeacon p h n s).comp.pulseEnd = s.comp.pulseEnd := by
  unfold takeBeacon
  split
  · split
    · exact (pulseEnd_stopComposing _).trans (pulseEnd_of_screenless (by simp [screenless]))
    · rfl
  · split
    · exact pulseEnd_of_screenless (by simp [screenless])
    · rfl

theorem pulseEnd_takeControl (p : TrunkPort) (c : Cell) {act : State → State}
    (kept : ∀ x : State, (act x).comp.pulseEnd = x.comp.pulseEnd) (s : State) :
    (takeControl p c act s).comp.pulseEnd = s.comp.pulseEnd := by
  have handed : (handOn p s).comp.pulseEnd = s.comp.pulseEnd := pulseEnd_of_screenless (by simp [screenless])
  unfold takeControl
  dsimp only
  split
  · rw [kept, handed]
  · exact handed

theorem pulseEnd_popCommand (s : State) : (popCommand s).comp.pulseEnd = s.comp.pulseEnd :=
  pulseEnd_of_screenless (by simp [screenless])

theorem pulseEnd_reply (c : AgentCommand) (st : Status) (parts : List (List Byte)) (s : State) :
    (reply c st parts s).comp.pulseEnd = s.comp.pulseEnd := pulseEnd_of_screenless (by simp [screenless])

theorem pulseEnd_runCommand (n : CommandName) (applies : State → Bool) {act : AgentCommand → State → State}
    (kept : ∀ c x, (act c x).comp.pulseEnd = x.comp.pulseEnd) (s : State) :
    (runCommand n applies act s).comp.pulseEnd = s.comp.pulseEnd := by
  have disposed : (disposeUnknown s.agent.queue s).comp.pulseEnd = s.comp.pulseEnd :=
    pulseEnd_of_screenless (by simp [screenless])
  unfold runCommand
  dsimp only
  split
  · rfl
  · split
    · rw [pulseEnd_popCommand]
      split
      · rw [kept, disposed]
      · rw [pulseEnd_reply, disposed]
    · rfl

theorem pulseEnd_setMode (c : AgentCommand) (s : State) : (setMode c s).comp.pulseEnd = s.comp.pulseEnd := by
  unfold setMode
  split
  · exact pulseEnd_reply ..
  · refine (pulseEnd_reply ..).trans ?_
    split
    · rfl
    · exact pulseEnd_changeMode ..

/-- The commands that can change both the head role and the screens. -/
theorem touched_orient_comp {i : Instr} (orient : Part.orient ∈ Instr.touched i) (comp : Part.comp ∈ Instr.touched i) :
    i = .cabActiveRise ∨ i = .cabActiveFall ∨ (∃ p c, i = .beacon p c) ∨ i = .setMode ∨ i = .restart
      ∨ (∃ x, i = .powerOnReset x) ∨ ∃ x, i = .resetLine x := by
  cases i <;> simp [Instr.touched] at orient comp ⊢

/-- A command that ends the head role lets the chime's pulse run (R163). -/
theorem pulseEnd_of_head_lost {i : Instr} (restart : i ≠ .restart)
    (reset : ∀ y : Straps, i ≠ .powerOnReset y ∧ i ≠ .resetLine y) (head : s.isHead = true) (run : exec i s = .next t)
    (lost : t.isHead = false) : t.comp.pulseEnd = s.comp.pulseEnd := by
  obtain ⟨u, run', same⟩ := everyCommandKeepsToItsParts i s
  obtain rfl : u = t := Host.Outcome.next.inj (run'.symm.trans run)
  by_cases orient : Part.orient ∈ Instr.touched i
  swap
  · have stands : s.orient = u.orient := same .orient orient
    rw [State.isHead, ← stands] at lost
    exact absurd (head.symm.trans lost) (by decide)
  by_cases comp : Part.comp ∈ Instr.touched i
  swap
  · exact pulseEnd_of_same same comp
  rcases touched_orient_comp orient comp with rfl | rfl | ⟨p, c, rfl⟩ | rfl | rfl | ⟨x, rfl⟩ | ⟨x, rfl⟩
  · rw [exec_rise] at run
    rw [← Host.Outcome.next.inj run]
    split
    · rfl
    · split
      · exact pulseEnd_changeMode ..
      · exact pulseEnd_reevaluateCandidacy _
  · rw [exec_fall] at run
    rw [← Host.Outcome.next.inj run]
    split
    · exact pulseEnd_reevaluateCandidacy _
    · rfl
  · have row : exec (.beacon p c) s
        = .next (if s.routes p c (some .beacon) then takeControl p c (routeBeacon p c) s else s) := rfl
    rw [← Host.Outcome.next.inj (row.symm.trans run)]
    split
    · refine pulseEnd_takeControl p c (fun x => ?_) s
      unfold routeBeacon
      split
      · rfl
      · exact pulseEnd_takeBeacon ..
    · rfl
  · have row : exec .setMode s = .next (runCommand .setMode always setMode s) := rfl
    rw [← Host.Outcome.next.inj (row.symm.trans run)]
    exact pulseEnd_runCommand _ _ pulseEnd_setMode s
  · exact absurd rfl restart
  · exact absurd rfl (reset x).1
  · exact absurd rfl (reset x).2

/-! ### The resets (R180, R181) -/

/-- Settles O49: of what a reset leaves, only candidacy is evaluated, and the trunk ports are DOWN. -/
theorem resetsBeginAfresh : Obligations.ResetsBeginAfresh := by
  intro x s
  dsimp only
  have fresh (now : NodeTime) (cells : Nat) : reevaluateCandidacy (s.afterReset x now cells) = { State.reset with
      nodeTime := now
      cellCount := cells
      straps := x
      cabActive := s.cabActive
      mode := if x.bypassStart then .bypass else .run
      selection := Vector.replicate 2 ⟨0, 3, now, 0, none⟩
      orient := if x.cabEnd && s.cabActive && !x.bypassStart then
          ⟨.found, some (x.node.toNat + 1), none, some 0, none, true, none, some (now + 100)⟩
        else ⟨.none, none, none, none, none, false, none, none⟩
      agent := ⟨[], none, 0, if x.cabEnd && s.cabActive && !x.bypassStart then [⟨.orientationChange, 0, false⟩] else [],
        false, true⟩
      swapTies := s.swapTies
      pending := s.pending } := by
    have may : (s.afterReset x now cells).mayBeHead = (x.cabEnd && s.cabActive && !x.bypassStart) := by
      obtain ⟨node, cab, bypass⟩ := x
      cases bypass <;> rfl
    have mode : (s.afterReset x now cells).mode = if x.bypassStart then .bypass else .run := rfl
    cases head : x.cabEnd && s.cabActive && !x.bypassStart with
    | false =>
      rw [head] at may
      rw [reevaluateCandidacy, may, if_pos (by rfl)]
      rfl
    | true =>
      rw [head] at may
      rw [reevaluateCandidacy, may, if_neg (by exact fun h => Bool.noConfusion h)]
      rfl
  exact ⟨congrArg Host.Outcome.next (fresh 0 0), congrArg Host.Outcome.next (fresh s.nodeTime s.cellCount)⟩

theorem reset_leaves {x : Straps} (run : exec (.powerOnReset x) s = .next t ∨ exec (.resetLine x) s = .next t) :
    t.alarm = 0 ∧ t.comp.pulseEnd = none ∧ t.tables = Tables.reset := by
  obtain ⟨power, line⟩ := resetsBeginAfresh x s
  rcases run with run | run
  · rw [← Host.Outcome.next.inj (power.symm.trans run)]
    exact ⟨rfl, rfl, rfl⟩
  · rw [← Host.Outcome.next.inj (line.symm.trans run)]
    exact ⟨rfl, rfl, rfl⟩

/-! ### ALERT_CHIME (R161, R163) -/

theorem pulseEnd_frameStart (sc : Screen) (s : State) : (frameStart sc s).comp.pulseEnd = s.comp.pulseEnd := by
  obtain ⟨o, e⟩ := frameStart_comp sc s
  rw [e]

theorem pulseEnd_restart (c : AgentCommand) (s : State) : (restart c s).comp.pulseEnd = none := by
  have ports (x : State) : (eachPort reevaluateDemand x).comp.pulseEnd = x.comp.pulseEnd :=
    pulseEnd_of_screenless (by simp [screenless])
  have begins (sc : Screen) (x : State) : (if x.straps.cabEnd && (x.tables.outputConfig[sc]).enabled then
      frameStart sc x else x).comp.pulseEnd = x.comp.pulseEnd := by
    split
    · exact pulseEnd_frameStart sc x
    · rfl
  have starts (x : State) : (startOutputs x).comp.pulseEnd = x.comp.pulseEnd := by
    unfold startOutputs
    dsimp only
    rw [begins, begins]
  have fresh : (replyStatus c .ok (keepCopy c s s.afterRestart)).comp.pulseEnd = none :=
    (pulseEnd_reply ..).trans rfl
  unfold restart
  dsimp only
  rw [starts]
  split
  · rw [pulseEnd_reevaluateCandidacy, ports, fresh]
  · rw [ports, pulseEnd_reevaluateCandidacy, fresh]

theorem alertChime_of_none (quiet : s.comp.pulseEnd = none) : s.alertChime = false := by
  rw [State.alertChime, quiet]
  exact Bool.and_false _

theorem aChimeRequestPulsesTheLine : Claim.AChimeRequestPulsesTheLine := by
  intro x s
  have row : exec .pulseEnd s
      = .next (if due s.nodeTime s.comp.pulseEnd then s.withComp { s.comp with pulseEnd := none } else s) := rfl
  refine ⟨⟨rfl, Bool.and_true _⟩, fun late => ⟨_, row.trans (congrArg _ (if_pos late)), rfl, alertChime_of_none rfl,
    (sameBut_iff_mask _ _ _).mpr rfl⟩, fun early => row.trans (congrArg _ (if_neg ?_)),
    fun i t restart reset head run lost => pulseEnd_of_head_lost restart reset head run lost, fun t run => ?_,
    fun c t runs run => ?_⟩
  · rw [early]
    exact Bool.false_ne_true
  · obtain ⟨-, quiet, -⟩ := reset_leaves run
    exact ⟨quiet, alertChime_of_none quiet⟩
  · have row : exec .restart s = .next (runCommand .restart always restart s) := rfl
    rw [runCommand_runs runs (by rfl) restart] at row
    have quiet : t.comp.pulseEnd = none := by
      rw [← Host.Outcome.next.inj (row.symm.trans run), pulseEnd_popCommand, pulseEnd_restart]
    exact ⟨quiet, alertChime_of_none quiet⟩

/-! ### ALERT_LENS and the levels (R161, R162) -/

theorem orient_of_same {l : List Part} (same : SameBut l s t) (orient : Part.orient ∉ l) : t.orient = s.orient :=
  (same .orient orient).symm

theorem candidate_reportOrientation (o : Orientation) (s : State) : (reportOrientation o s).orient = s.orient :=
  orient_of_same (l := [.agent, .trunk]) ((sameBut_iff_mask _ _ _).mpr (by simp)) (by decide)

/-- A node that may not be head is no candidate once its candidacy is evaluated (R97). -/
theorem candidate_of_barred (barred : s.mayBeHead = false) : (reevaluateCandidacy s).orient.candidate = false := by
  unfold reevaluateCandidacy
  rw [barred]
  split
  next same => exact same.symm
  next =>
    rw [if_neg Bool.false_ne_true]
    unfold endCandidacy
    split
    · rw [candidate_reportOrientation]
      rfl
    · rw [orient_of_same (stopComposing_stopped _).same (by decide), candidate_reportOrientation]
      rfl

/-- A change of mode out of RUN leaves no candidate (R97, R182). -/
theorem candidate_changeMode {m : Mode} (away : m ≠ .run) (s : State) :
    (changeMode m s).orient.candidate = false := by
  have barred {x : State} (mode : x.mode = m) : x.mayBeHead = false := by
    rw [State.mayBeHead, mode, beq_false_of_ne away, Bool.and_false]
  have oriented {x : State} (mode : x.mode = m) : (orientMode x).orient.candidate = false := by
    unfold orientMode
    dsimp only
    split
    · rw [forgetHead, candidate_reportOrientation]
      exact candidate_of_barred (barred mode)
    · exact candidate_of_barred (barred mode)
  have enters : SameBut [.health, .trunk, .store, .survey, .engine, .router] (s.withMode m)
      (enterMode m (leaveMode s.mode (s.withMode m))) := (sameBut_iff_mask _ _ _).mpr (by simp)
  have entered : (enterMode m (leaveMode s.mode (s.withMode m))).mode = m := (enters .mode (by decide)).symm
  have ports (x : State) : SameBut [.cams, .health, .engine, .store, .agent, .trunk] x (eachPort reevaluateDemand x) :=
    (sameBut_iff_mask _ _ _).mpr (by simp)
  unfold changeMode
  dsimp only
  split
  · exact oriented ((ports _ .mode (by decide)).symm.trans entered)
  · rw [orient_of_same (ports _) (by decide)]
    exact oriented entered

theorem alertLens_of_bystander (bystander : s.orient.candidate = false) : s.alertLens = false := by
  rw [State.alertLens, State.isHead, bystander, Bool.false_and, Bool.and_false, Bool.false_and]

theorem alertLens_of_same (straps : t.straps = s.straps) (orient : t.orient = s.orient) (alarm : t.alarm = s.alarm) :
    t.alertLens = s.alertLens := by
  rw [State.alertLens, State.alertLens, State.isHead, State.isHead, straps, orient, alarm]

theorem lineLevel_eq (v : Polarity) (asserted : Bool) :
    lineLevel v asserted = if v = .highTrue then asserted else !asserted := by
  cases v <;> rfl

theorem takeNodeParams_stands (e : NodeParams) (s : State) : (takeNodeParams e s).straps = s.straps
    ∧ (takeNodeParams e s).orient = s.orient ∧ (takeNodeParams e s).alarm = s.alarm
    ∧ (takeNodeParams e s).tables.nodeParams = e := by
  have same : SameBut [.vehicle, .selection, .comp] (s.withNodeParams e) (retime (s.withNodeParams e)) :=
    (sameBut_iff_mask _ _ _).mpr (mask_retime (by simp) (by simp) (by simp))
  have tables : (s.withNodeParams e).tables = (retime (s.withNodeParams e)).tables := same .tables (by decide)
  rw [takeNodeParams_eq]
  exact ⟨(same .straps (by decide)).symm, (same .orient (by decide)).symm, (same .alarm (by decide)).symm,
    congrArg Tables.nodeParams tables.symm⟩

theorem exec_setMode {c : AgentCommand} {m : Mode} (runs : s.runs .setMode c)
    (mode : modeOf (byteAt (payloadOf c.cell) 0).toNat = some m) : exec .setMode s
      = .next ((if m = s.mode then s else changeMode m s).answered c .ok [[]]) := by
  have row : exec .setMode s = .next (runCommand .setMode always setMode s) := rfl
  have work : setMode c s = replyStatus c .ok (if m = s.mode then s else changeMode m s) := by
    unfold setMode
    rw [show modeOf (byteAt c.args 0).toNat = some m from mode]
  rw [row, runCommand_runs runs (by rfl) setMode, work]
  exact congrArg Host.Outcome.next (popCommand_reply ..)

theorem alertLinesFollowTheirState : Claim.AlertLinesFollowTheirState := by
  intro x s
  dsimp only
  refine ⟨?_, ?_, lineLevel_eq .., lineLevel_eq .., fun c e writes passes => ?_,
    fun candidate low cab run none => ?_, fun high => ?_, fun c m runs mode other away => ?_, fun t run => ?_⟩
  · simp [State.alertLens, and_assoc]
  · simp [State.alertChime, Option.isSome_iff_ne_none]
  · refine ⟨_, writes_nodeParams e writes passes, ?_⟩
    obtain ⟨straps, orient, alarm, tables⟩ := takeNodeParams_stands e s
    have asserted : (takeNodeParams e s).alertLens = s.alertLens := alertLens_of_same straps orient alarm
    refine ⟨asserted, (lineLevel_eq ..).trans ?_, fun stale => (lineLevel_eq ..).trans ?_⟩
    · show (if (takeNodeParams e s).tables.nodeParams.lensPolarity = .highTrue then (takeNodeParams e s).alertLens
        else !(takeNodeParams e s).alertLens) = _
      rw [asserted, tables]
    · show (if (takeNodeParams e s).tables.nodeParams.chimePolarity = .highTrue then (takeNodeParams e s).alertChime
        else !(takeNodeParams e s).alertChime) = _
      rw [tables, takeNodeParams_eq, retime_stale (s := s.withNodeParams e) (.inl stale)]
      rfl
  · obtain ⟨-, -, begins, -⟩ := cabActiveMakesAHead s candidate
    obtain ⟨t, rise, -, orient, -, same⟩ := begins low cab run fun h found => absurd (none.symm.trans found) (by decide)
    have straps : s.straps = t.straps := same .straps (by simp)
    have alarm : s.alarm = t.alarm := same .alarm (by simp)
    refine ⟨t, rise, ?_⟩
    rw [State.alertLens, State.isHead, orient, ← straps, ← alarm, cab]
    rfl
  · refine ⟨_, (exec_fall s).trans (congrArg _ (if_pos high)), alertLens_of_bystander (candidate_of_barred ?_)⟩
    rw [State.mayBeHead, State.withCabActive_cabActive, Bool.and_false, Bool.false_and]
  · refine ⟨_, exec_setMode runs mode, ?_⟩
    rw [if_neg other]
    exact alertLens_of_bystander (candidate_changeMode away s)
  · obtain ⟨alarm, pulse, tables⟩ := reset_leaves run
    rw [State.alertLensLevel, State.alertChimeLevel, tables, alertChime_of_none pulse, State.alertLens, alarm]
    exact ⟨congrArg (lineLevel .highTrue) (Bool.and_false _), rfl⟩

/-- Settles O45: the chime's end is moved by a request, its expiry and the resets alone; ALERT_LENS follows the head role
and the alarm count. -/
theorem theAlertLinesFollowTheirRules : Obligations.TheAlertLinesFollowTheirRules :=
  ⟨aChimeRequestPulsesTheLine, alertLinesFollowTheirState⟩

end

end Sys2Proof.Machine
end

section
/-! PROOF. What follows a change of the lens condition (R77, R78), and a write that adds causes (R169). -/

namespace Sys2Proof.Machine

section
variable {s t u : State} {p : CamPort} {before lens : LensCondition}

/-! ### The pin request and the cause of a change (R49, R77, R78) -/

/-- A pin request reads the store, the node time and its own arguments, and changes the store alone. -/
theorem pinRequest_alike (store : u.store = s.store) (time : u.nodeTime = s.nodeTime) (c : CameraId)
    (lens : LensCondition) (cov : Nat) : pinRequest c lens cov u
      = ({ u with store := (pinRequest c lens cov s).1.store }, (pinRequest c lens cov s).2) := by
  unfold pinRequest
  rw [← store, ← time]
  cases u.store.viewMap[viewOf c 0] with
  | none => simp only [countStore, State.withStore, store]
  | some i =>
    dsimp only
    split
    · rw [← store]
    · split
      · simp only [countStore, State.withStore, store]
      · cases u.store.emptyPosition with
        | none => simp only [countStore, State.withStore, store]
        | some k => rfl

/-- What a lens event asks of the store: the pin request of a worsening (R78). -/
def State.lensAsked (s : State) (p : CamPort) (before lens : LensCondition) (cov : Nat) : State × Bool :=
  if worsens before lens then pinRequest (s.cameraId p) lens cov s else (s, false)

/-- What a lens event adds to the cause set: LENS_CHANGE, with the evidence flag of its request (R77, R78). -/
def State.lensTold (s : State) (p : CamPort) (before lens : LensCondition) (cov : Nat) : State :=
  if lens = before then s else addCause .lensChange p.val (s.lensAsked p before lens cov).2 s

theorem worsens_self (lens : LensCondition) : worsens lens lens = false := by
  cases lens <;> rfl

theorem lensAsked_self (s : State) (p : CamPort) (lens : LensCondition) (cov : Nat) :
    s.lensAsked p lens lens cov = (s, false) := by
  rw [State.lensAsked, worsens_self]
  exact if_neg Bool.false_ne_true

/-- Between conditions of which the first is rated, a worsening is a step up (R78). -/
theorem worsens_iff : worsens before lens = true ↔ (lens = .smeared ∧ before ≠ .smeared ∧ before ≠ .blocked)
    ∨ (lens = .blocked ∧ before ≠ .blocked) := by
  cases lens <;> simp [worsens]

/-- A lens event behind a change of other parts asks and tells what it would have asked and told before it. -/
theorem lensEvent_eq (news : SameNews s u) (store : u.store = s.store) (time : u.nodeTime = s.nodeTime)
    (p : CamPort) (before : LensCondition) : lensEvent p before u = { u with
      store := (s.lensAsked p before (u.health[p]).lens (u.health[p]).coverage).1.store
      agent := (s.lensTold p before (u.health[p]).lens (u.health[p]).coverage).agent
      trunk := (s.lensTold p before (u.health[p]).lens (u.health[p]).coverage).trunk } := by
  have camera : u.cameraId p = s.cameraId p := by rw [State.cameraId, State.cameraId, news.straps]
  unfold lensEvent
  dsimp only
  by_cases same : (u.health[p]).lens = before
  · rw [if_pos same, same, lensAsked_self, State.lensTold, if_pos rfl, ← store, news.agent, news.trunk]
  · rw [if_neg same, State.lensTold, if_neg same]
    unfold State.lensAsked
    split
    · rw [camera, pinRequest_alike store time]
      have behind : SameNews s { u with
          store := (pinRequest (s.cameraId p) (u.health[p]).lens (u.health[p]).coverage s).1.store } :=
        ⟨news.agent, news.trunk, news.side, news.straps, news.ties⟩
      exact addCause_news behind ..
    · rw [addCause_news news, ← store]
      rfl

theorem sameBut_lensTold (s : State) (p : CamPort) (before lens : LensCondition) (cov : Nat) :
    SameBut [.agent, .trunk] s (s.lensTold p before lens cov) := by
  unfold State.lensTold
  split
  · exact fun x _ => by cases x <;> rfl
  · exact sameBut_addCause _ _ _ s

/-- Adding a cause leaves the agent's queue. -/
theorem addCause_queue (k : CauseKind) (n : Nat) (e : Bool) (s : State) :
    (addCause k n e s).agent.queue = s.agent.queue := by
  unfold addCause
  dsimp only
  split
  · rw [sendNotice_agent]
    rfl
  · rfl

theorem addTogether_queue (cs : List (CauseKind × Nat)) (s : State) : (addTogether cs s).agent.queue = s.agent.queue := by
  unfold addTogether
  generalize (if s.swapTies then cs.reverse else cs) = l
  induction l generalizing s with
  | nil => rfl
  | cons c l later => exact (later (addCause c.1 c.2 false s)).trans (addCause_queue ..)

theorem lensTold_queue (s : State) (p : CamPort) (before lens : LensCondition) (cov : Nat) :
    (s.lensTold p before lens cov).agent.queue = s.agent.queue := by
  unfold State.lensTold
  split
  · rfl
  · exact addCause_queue ..

/-! ### A write that adds causes (R167, R169) -/

/-- A write answered behind what it told. -/
theorem answered_told (agent : t.agent = u.agent) (trunk : t.trunk = u.trunk) (straps : t.straps = u.straps)
    (queue : u.agent.queue = s.agent.queue) (c : AgentCommand) (i : Nat) :
    let w := (t.withPointer i).answered c .ok [[]]
    w.agent = { u.agent with pointer := i, queue := s.agent.queue.drop 1 } ∧ w.trunk = (reply c .ok [[]] u).trunk := by
  refine ⟨?_, reply_trunk_congr trunk straps⟩
  show ({ t.agent with pointer := i, queue := t.agent.queue.drop 1 } : Agent) = _
  rw [agent, queue]

theorem writes_answered {cs : List (CauseKind × Nat)} (adds : Adds cs s t) (straps : t.straps = s.straps)
    (c : AgentCommand) : Writes c cs s ((t.withPointer (s.agent.pointer + 1)).answered c .ok [[]]) :=
  answered_told adds.1 adds.2 (straps.trans (sameBut_addTogether cs s .straps (by decide))) (addTogether_queue cs s) c _

end

end Sys2Proof.Machine
end

section
/-! PROOF. The writes of LENS_PARAMS, WEIGHT and REFERENCE (R58 to R60, R73, R76 to R78). Settles O56. -/

namespace Sys2Proof.Machine

section
variable {s t u : State} {p : CamPort} {h : Health}

/-! ### A record judged anew (R76) -/

/-- One move of the lens condition, unrated ones standing (R74). -/
def LensParams.moves (e : LensParams) (cov : Nat) (lens : LensCondition) : LensCondition :=
  if lens = .clean then (if e.tBlock ≤ cov then .blocked else if e.tWarn ≤ cov then .smeared else .clean)
  else if lens = .smeared then
    (if e.tBlock ≤ cov then .blocked else if cov ≤ e.tWarn - e.h then .clean else .smeared)
  else if lens = .blocked then
    (if cov ≤ e.tBlock - e.h then (if cov ≤ e.tWarn - e.h then .clean else .smeared) else .blocked)
  else lens

theorem moveLens_eq (e : LensParams) (cov : Nat) (lens : LensCondition) : moveLens e cov lens = e.moves cov lens := by
  cases lens <;> rfl

theorem moved_eq (h : Health) (e : LensParams) : h.moved e = { h with lens := e.moves h.coverage h.lens } := by
  unfold Health.moved
  rw [moveLens_eq]
  cases lens : h.lens with
  | clean | smeared | blocked => rfl
  | noReference | learning | unrated => exact congrArg (fun l => { h with lens := l }) lens

/-- A lens event behind a write of the tables and of port `p`'s record. -/
theorem lensEvent_written (p : CamPort) (before : LensCondition) (tables : Tables) (k : Health) (s : State) :
    lensEvent p before ((s.withTables tables).withHealth p k) = { s with
      tables := tables
      health := s.health.set p k
      store := (s.lensAsked p before k.lens k.coverage).1.store
      agent := (s.lensTold p before k.lens k.coverage).agent
      trunk := (s.lensTold p before k.lens k.coverage).trunk } := by
  have own : ((s.withTables tables).withHealth p k).health[p] = k := getElem_set_same ..
  have event := lensEvent_eq (s := s) (u := (s.withTables tables).withHealth p k) ⟨rfl, rfl, rfl, rfl, rfl⟩ rfl rfl p before
  rw [own] at event
  exact event

theorem moved_recovered (e : LensParams) {w : Vector Nat 192} {p : CamPort} {cov : Nat}
    (covers : coverageOf w p h.zones = cov) : (h.recovered w p).moved e
      = { h with coverage := cov, lens := e.moves cov h.lens } := by
  rw [Health.recovered, covers, moved_eq]

/-- A worsening of a condition that moved by the table of R74 (R78). -/
theorem worsens_moves (e : LensParams) (cov : Nat) (lens : LensCondition) : worsens lens (e.moves cov lens) = true
    ↔ (e.moves cov lens = .smeared ∧ lens = .clean) ∨ (e.moves cov lens = .blocked ∧ lens ≠ .blocked) := by
  have rows : e.moves cov lens = .smeared → lens ≠ .blocked → lens = .clean ∨ lens = .smeared := by
    intro becomes other
    unfold LensParams.moves at becomes
    cases lens
    case clean => exact .inl rfl
    case smeared => exact .inr rfl
    case blocked => exact absurd rfl other
    all_goals exact LensCondition.noConfusion becomes
  rw [worsens_iff]
  constructor
  · rintro (⟨smeared, stood, open_⟩ | blocked)
    · exact .inl ⟨smeared, (rows smeared open_).resolve_right stood⟩
    · exact .inr blocked
  · rintro (⟨smeared, clean⟩ | blocked)
    · exact .inl ⟨smeared, by rw [clean]; decide, by rw [clean]; decide⟩
    · exact .inr blocked

theorem lensAsked_moves (e : LensParams) (cov : Nat) (lens : LensCondition) (p : CamPort) (s : State) :
    s.lensAsked p lens (e.moves cov lens) cov
      = if (e.moves cov lens = .smeared ∧ lens = .clean) ∨ (e.moves cov lens = .blocked ∧ lens ≠ .blocked) then
          pinRequest (s.cameraId p) (e.moves cov lens) cov s else (s, false) :=
  if_congr (worsens_moves e cov lens) rfl rfl

theorem lensTold_straps (s : State) (p : CamPort) (before lens : LensCondition) (cov : Nat) :
    (s.lensTold p before lens cov).straps = s.straps := (sameBut_lensTold s p before lens cov .straps (by decide)).symm

/-- A write answered behind the lens event of a record put in (R77, R78, R169). -/
theorem lensEvent_answered (c : AgentCommand) (i : Nat) (p : CamPort) (before : LensCondition) (tables : Tables)
    (k : Health) (s : State) :
    let asked := s.lensAsked p before k.lens k.coverage
    let told := s.lensTold p before k.lens k.coverage
    let t := ((lensEvent p before ((s.withTables tables).withHealth p k)).withPointer i).answered c .ok [[]]
    t.tables = tables ∧ t.health = s.health.set p k ∧ t.store = asked.1.store
      ∧ t.agent = { told.agent with pointer := i, queue := s.agent.queue.drop 1 }
      ∧ t.trunk = (reply c .ok [[]] told).trunk ∧ SameBut [.tables, .health, .store, .agent, .trunk] s t := by
  have event := lensEvent_written p before tables k s
  have straps := lensTold_straps s p before k.lens k.coverage
  have queue := lensTold_queue s p before k.lens k.coverage
  dsimp only
  generalize lensEvent p before ((s.withTables tables).withHealth p k) = w at event ⊢
  generalize (s.lensAsked p before k.lens k.coverage).1.store = store at event ⊢
  generalize s.lensTold p before k.lens k.coverage = told at event straps queue ⊢
  subst event
  obtain ⟨agent, trunk⟩ := answered_told (s := s) (u := told) (t := { s with
    tables := tables, health := s.health.set p k, store := store, agent := told.agent, trunk := told.trunk })
    rfl rfl straps.symm queue c i
  exact ⟨rfl, rfl, rfl, agent, trunk, (sameBut_iff_mask _ _ _).mpr rfl⟩

/-- A record judged anew (R76). -/
def Health.judged (h : Health) (e : LensParams) (w : Vector Nat 192) (p : CamPort) : Health :=
  let zones : Vector Zone 48 := Vector.ofFn fun z : ZoneNo =>
    let x := h.zones[z]
    { x with obscured := if e.sOn ≤ x.score then true else if x.score ≤ e.sOff then false else x.obscured }
  let cov := ((List.finRange 48).map fun z : ZoneNo => if (zones[z]).obscured then w[zoneEntry p z] else 0).sum
  { h with zones := zones, coverage := cov, lens := e.moves cov h.lens }

theorem judged_eq (h : Health) (e : LensParams) (w : Vector Nat 192) (p : CamPort) :
    ((h.rejudged e).recovered w p).moved e = h.judged e w p := by
  rw [Health.recovered, moved_eq, coverageOf_eq_sum]
  unfold Health.rejudged Health.judged
  rfl

theorem reevaluateLens_eq (p : CamPort) (tables : Tables) (s : State) : reevaluateLens p (s.withTables tables)
    = lensEvent p (s.health[p]).lens
      ((s.withTables tables).withHealth p ((s.health[p]).judged tables.lensParams[p] tables.weight p)) := by
  rw [← judged_eq]
  rfl

theorem judged_lens (h : Health) (e : LensParams) (w : Vector Nat 192) (p : CamPort) :
    (h.judged e w p).lens = e.moves (h.judged e w p).coverage h.lens := by
  unfold Health.judged
  rfl

/-- A write that judges port `p` anew (R76 to R78). -/
theorem judgesAnew (c : AgentCommand) (row : Instr) (i : Nat) (p : CamPort) (tables : Tables)
    (run : exec row s = .next (((reevaluateLens p (s.withTables tables)).withPointer i).answered c .ok [[]])) :
    let h := s.health[p]
    let k := h.judged tables.lensParams[p] tables.weight p
    let worse : Prop := (k.lens = .smeared ∧ h.lens = .clean) ∨ (k.lens = .blocked ∧ h.lens ≠ .blocked)
    let asked := if worse then pinRequest (s.cameraId p) k.lens k.coverage s else (s, false)
    let told := if k.lens = h.lens then s else addCause .lensChange p.val asked.2 s
    ∃ t : State, exec row s = .next t ∧ t.tables = tables ∧ t.health = s.health.set p k ∧ t.store = asked.1.store
      ∧ t.agent = { told.agent with pointer := i, queue := s.agent.queue.drop 1 }
      ∧ t.trunk = (reply c .ok [[]] told).trunk ∧ SameBut [.tables, .health, .store, .agent, .trunk] s t := by
  intro h k worse asked told
  have asks : s.lensAsked p h.lens k.lens k.coverage = asked := by
    have moved := lensAsked_moves tables.lensParams[p] k.coverage h.lens p s
    rw [← judged_lens h tables.lensParams[p] tables.weight p] at moved
    exact moved
  have tells : s.lensTold p h.lens k.lens k.coverage = told := by
    show (if k.lens = h.lens then s else addCause .lensChange p.val (s.lensAsked p h.lens k.lens k.coverage).2 s) = told
    rw [asks]
  have answered := lensEvent_answered c i p h.lens tables k s
  dsimp only at answered
  rw [asks, tells] at answered
  rw [reevaluateLens_eq] at run
  exact ⟨_, run, answered⟩

theorem lensWritesAreReevaluated : Claim.LensWritesAreReevaluated := by
  intro c s l i follows
  refine ⟨fun e writes passes => ?_, fun w writes passes => ?_⟩
  · have row : exec .writeLensParams s = .next (runCommand .writeNext (selects .lensParams)
      (writeEntry 4 readLensParams neverBusy takeLensParams) s) := rfl
    rw [runCommand_writes writes selects_of_window] at row
    exact judgesAnew c .writeLensParams (i + 1) _ _
      (row.trans (congrArg _ (popCommand_writeEntry writes.2.2 passes rfl takeLensParams)))
  · have row : exec .writeWeight s = .next (runCommand .writeNext (selects .weight)
      (writeEntry 192 readWeight neverBusy takeWeight) s) := rfl
    rw [runCommand_writes writes selects_of_window] at row
    exact judgesAnew c .writeWeight (i + 1) _ _
      (row.trans (congrArg _ (popCommand_writeEntry writes.2.2 passes rfl takeWeight)))

/-! ### A REFERENCE write (R60) -/

theorem lensAsked_quiet {before lens : LensCondition} (quiet : worsens before lens = false) (p : CamPort) (cov : Nat)
    (s : State) : s.lensAsked p before lens cov = (s, false) := by
  rw [State.lensAsked, quiet]
  exact if_neg Bool.false_ne_true

theorem lensTold_quiet {before lens : LensCondition} (quiet : worsens before lens = false) (p : CamPort) (cov : Nat)
    (s : State) : s.lensTold p before lens cov
      = addTogether (if lens = before then [] else [(.lensChange, p.val)]) s := by
  rw [State.lensTold, lensAsked_quiet quiet]
  split
  · exact (addTogether_nil s).symm
  · exact (addTogether_single ..).symm

/-- A record wiped behind a write of one zone is the record wiped (R60). -/
theorem wiped_set (h : Health) (z : ZoneNo) (lens : LensCondition) :
    ({ ({ h with zones := h.zones.set z { h.zones[z] with score := 0, obscured := false } } : Health).wiped with
      lens := lens } : Health) = { h with
        zones := Vector.ofFn fun k : ZoneNo => { h.zones[k] with score := 0, obscured := false }
        coverage := 0
        unusableRun := 0
        lens := lens } := by
  have zones : (Vector.ofFn fun k : ZoneNo => ({ (h.zones.set z { h.zones[z] with score := 0, obscured := false })[k] with
      score := 0, obscured := false } : Zone)) = Vector.ofFn fun k : ZoneNo => { h.zones[k] with score := 0, obscured := false } := by
    congr 1
    funext k
    by_cases here : z = k
    · rw [here, getElem_set_same]
    · rw [getElem_set_ne _ here]
  unfold Health.wiped
  rw [zones]

theorem allAbsent_iff (b : Tables) (p : CamPort) :
    b.allAbsent p = true ↔ ∀ k : ZoneNo, b.reference[zoneEntry p k] = none := by
  simp [Tables.allAbsent, Option.isNone_iff_eq_none]

/-- A record after a REFERENCE write of a zone that leaves a reference to a port that had one (R60, R73, R74). -/
theorem afterReference_present (h : Health) (z : ZoneNo) (e : LensParams) (w : Vector Nat 192) (p : CamPort)
    (had : h.lens ≠ .noReference) :
    let began : Vector Zone 48 := h.zones.set z { h.zones[z] with score := 0, obscured := false }
    let cov := ((List.finRange 48).map fun k : ZoneNo => if (began[k]).obscured then w[zoneEntry p k] else 0).sum
    h.afterReference z false e w p = { h with zones := began, coverage := cov, lens := e.moves cov h.lens } := by
  intro began cov
  unfold Health.afterReference
  dsimp only
  rw [if_neg Bool.false_ne_true, if_neg had]
  exact moved_recovered (h := { h with zones := began }) e (coverageOf_eq_sum w p began)

/-- A rated condition moves by the last three rows of R74. -/
theorem rated_moves {lens : LensCondition} (rated : lens = .clean ∨ lens = .smeared ∨ lens = .blocked) (e : LensParams)
    (cov : Nat) : e.moves cov lens
      = if lens = .clean then (if e.tBlock ≤ cov then .blocked else if e.tWarn ≤ cov then .smeared else .clean)
        else if lens = .smeared then
          (if e.tBlock ≤ cov then .blocked else if cov ≤ e.tWarn - e.h then .clean else .smeared)
        else if cov ≤ e.tBlock - e.h then (if cov ≤ e.tWarn - e.h then .clean else .smeared) else .blocked := by
  rcases rated with rfl | rfl | rfl <;> rfl

theorem aReferenceWriteIsTaken : Claim.AReferenceWriteIsTaken := by
  intro c v s writes passes i p z h tables none_ began wiped e cov rated lens worse asked told
  have row : exec .writeReference s = .next (runCommand .writeNext (selects .reference)
    (writeEntry 192 readReference learningAtPointer takeReference) s) := rfl
  rw [runCommand_writes writes selects_of_window] at row
  refine ⟨fun learning => ?_, fun idle => ?_⟩
  · have busy : learningAtPointer s = true := by
      rw [learningAtPointer]
      exact beq_iff_eq.mpr learning
    have refused : writeEntry 192 readReference learningAtPointer takeReference c s = replyStatus c .busy s := by
      unfold writeEntry
      rw [if_neg (Nat.not_le.mpr (by exact writes.2.2)), AgentCommand.args, passes]
      exact if_pos busy
    rw [refused, replyStatus, popCommand_reply] at row
    exact ⟨_, row, answers_answered ..⟩
  · have free : learningAtPointer s = false := beq_false_of_ne idle
    rw [popCommand_writeEntry (entries := 192) (by exact writes.2.2) passes free takeReference] at row
    have work : takeReference v s = lensEvent p h.lens ((s.withTables tables).withHealth p
      (h.afterReference z (tables.allAbsent p) e s.tables.weight p)) := rfl
    have answered := lensEvent_answered c (i + 1) p h.lens tables (h.afterReference z (tables.allAbsent p) e s.tables.weight p) s
    dsimp only at answered
    rw [← work] at answered
    obtain ⟨same, health, store, agent, trunk, rest⟩ := answered
    generalize ((takeReference v s).withPointer (i + 1)).answered c .ok [[]] = t at same health store agent trunk rest row
    have quiet {k : Health} (is : h.afterReference z (tables.allAbsent p) e s.tables.weight p = k)
        (stands : worsens h.lens k.lens = false) : t.health = s.health.set p k ∧ t.store = s.store
          ∧ Writes c (if k.lens = h.lens then [] else [(.lensChange, p.val)]) s t := by
      rw [is, lensAsked_quiet stands] at store
      rw [is, lensTold_quiet stands] at agent trunk
      exact ⟨by rw [health, is], store, agent, trunk⟩
    have present_ (present : ¬ none_) : tables.allAbsent p = false :=
      Bool.eq_false_of_not_eq_true fun all => present ((allAbsent_iff tables p).mp all)
    have becomes (present : ¬ none_) (had : h.lens ≠ .noReference) :
        h.afterReference z (tables.allAbsent p) e s.tables.weight p
          = { h with zones := began, coverage := cov, lens := e.moves cov h.lens } := by
      rw [present_ present]
      exact afterReference_present h z e s.tables.weight p had
    refine ⟨t, row, same, fun absent => ?_, fun present missed => ?_, fun present unrated => ?_, fun present had => ?_, rest⟩
    · have is : h.afterReference z (tables.allAbsent p) e s.tables.weight p = { wiped with lens := .noReference } := by
        rw [(allAbsent_iff tables p).mpr absent]
        exact wiped_set h z .noReference
      have rests : worsens h.lens .noReference = false := rfl
      obtain ⟨record, slots, writes⟩ := quiet is rests
      refine ⟨record, slots, ?_⟩
      rw [show (if h.lens = .noReference then [] else [(CauseKind.lensChange, p.val)])
        = if LensCondition.noReference = h.lens then [] else [(CauseKind.lensChange, p.val)] from if_congr eq_comm rfl rfl]
      exact writes
    · have is : h.afterReference z (tables.allAbsent p) e s.tables.weight p = { wiped with lens := .unrated } := by
        rw [present_ present]
        unfold Health.afterReference
        dsimp only
        rw [if_neg Bool.false_ne_true, if_pos missed]
        exact wiped_set h z .unrated
      obtain ⟨record, slots, writes⟩ := quiet is rfl
      rw [if_neg (by rw [missed]; exact LensCondition.noConfusion)] at writes
      exact ⟨record, slots, writes⟩
    · have is := becomes present (by rw [unrated]; exact LensCondition.noConfusion)
      have stays : e.moves cov h.lens = h.lens := by
        rw [unrated]
        rfl
      rw [stays] at is
      obtain ⟨record, slots, writes⟩ := quiet is (worsens_self h.lens)
      rw [if_pos rfl] at writes
      exact ⟨record, slots, writes⟩
    · have is := becomes present (by rintro missed; rcases had with e | e | e <;> exact absurd (e.symm.trans missed) (by decide))
      have moves : e.moves cov h.lens = lens := rated_moves had e cov
      have asks : s.lensAsked p h.lens lens cov = asked := by
        have moved := lensAsked_moves e cov h.lens p s
        rw [moves] at moved
        exact moved
      have tells : s.lensTold p h.lens lens cov = told := by
        show (if lens = h.lens then s else addCause .lensChange p.val (s.lensAsked p h.lens lens cov).2 s) = told
        rw [asks]
      rw [moves] at is
      rw [is, asks] at store
      rw [is, tells] at agent trunk
      exact ⟨by rw [health, is], store, agent, trunk⟩

/-- Settles O56: a write puts a record in and one lens event follows, answered behind it. -/
theorem lensAndReferenceWritesAreTaken : Obligations.LensAndReferenceWritesAreTaken :=
  ⟨lensWritesAreReevaluated, aReferenceWriteIsTaken⟩

end

end Sys2Proof.Machine
end

section
/-! PROOF. A CAMERA_CONFIG write (R1, R2, R8). Settles O54. -/

namespace Sys2Proof.Machine

section
variable {s t w : State} {p : CamPort} {c : AgentCommand}

theorem sameBut_answered {l : List Part} (same : SameBut l s w) (agent : Part.agent ∈ l) (trunk : Part.trunk ∈ l)
    (i : Nat) (c : AgentCommand) (st : Status) (parts : List (List Byte)) :
    SameBut l s ((w.withPointer i).answered c st parts) := by
  have quiet : SameBut [.agent, .trunk] w ((w.withPointer i).answered c st parts) := (sameBut_iff_mask _ _ _).mpr rfl
  exact same.trans (quiet.mono (by simp [agent, trunk]))

theorem abandonProduction_withTables (k : PlanNo) (b : Tables) (s : State) :
    abandonProduction k (s.withTables b) = (abandonProduction k s).withTables b := by
  unfold abandonProduction
  rw [State.withTables_engine]
  split <;> rfl

theorem endBadly_withTables (p : CamPort) (b : Tables) (s : State) :
    endBadly p (s.withTables b) = (endBadly p s).withTables b := by
  unfold endBadly
  rw [abandonProduction_withTables, abandonProduction_withTables]
  rfl

/-- A change of link state of a port as it stands. -/
theorem linkMoved_self (p : CamPort) (new : CameraLink) (extra : List (CauseKind × Nat)) (s : State) :
    LinkMoved p s.cams[p] new extra s (moveLink p new extra s) := by
  have moved := linkMoved (s := s) (p := p) (c := s.cams[p]) rfl new extra
  rw [withCam_self] at moved
  exact moved

theorem demand_iff (awake : s.mode ≠ .bypass) (p : CamPort) : s.demand p = true
    ↔ (s.mode = .run ∧ (s.tables.cameraConfig[p]).enabled = true) ∨ s.survey.port = some p
      ∨ (s.health[p]).relearnHold = true := by
  simp [State.demand, awake, or_assoc]

theorem allowed_writes {table : Table} (writes : s.writes c table) : s.mode ≠ .bypass := by
  intro bypass
  rcases writes.1.2.2 bypass with e | e | e | e <;> cases e

/-- What a port does with a write of its entry, by its link state (R2, R8). -/
theorem cameraTakes_stands (stands : ((s.cams[p]).link = .off ∧ s.demand p = false)
    ∨ ((s.cams[p]).power = true ∧ s.demand p = true)) : cameraTakes p s = s := by
  unfold cameraTakes reevaluateDemand
  rcases stands with ⟨off, idle⟩ | ⟨power, wants⟩
  · rw [off, idle]
    rfl
  · rw [wants]
    rw [CameraPort.power] at power
    cases link : (s.cams[p]).link with
    | waking | locked | lost => rfl
    | off | testing | powerFault =>
      rw [link] at power
      cases power

theorem cameraTakes_wakes (off : (s.cams[p]).link = .off) (wants : s.demand p = true) :
    cameraTakes p s = moveLink p .waking [] s := by
  unfold cameraTakes reevaluateDemand
  rw [off, wants]
  rfl

theorem cameraTakes_sleeps (power : (s.cams[p]).link = .waking ∨ (s.cams[p]).link = .locked ∨ (s.cams[p]).link = .lost)
    (idle : s.demand p = false) : cameraTakes p s = moveLink p .off [] s := by
  unfold cameraTakes reevaluateDemand
  rcases power with link | link | link <;> rw [link, idle] <;> rfl

/-- A port that the write moves between link states other than LOCKED. -/
theorem moved_unlocked {base : State} {new : CameraLink} (cams : base.cams = s.cams) (news : SameNews s base)
    (time : base.nodeTime = s.nodeTime) (old : (s.cams[p]).link ≠ .locked) (unlocked : new ≠ .locked) :
    (moveLink p new [] base).cams = s.cams.set p ((s.cams[p]).newly new s.nodeTime)
      ∧ Adds [(.cameraLink, p.val)] s (moveLink p new [] base)
      ∧ SameBut [.cams, .agent, .trunk] base (moveLink p new [] base) := by
  have moved := moveLink_unlocked (s := base) (p := p) (new := new) (by rw [cams]; exact old) unlocked
  rw [moved, addCause_cams, cams, time, ← addTogether_single]
  refine ⟨?_, (news.trans (sameNews_withCam ..)).adds _, (sameBut_iff_mask _ _ _).mpr (by simp)⟩
  rw [State.withCam_cams, cams]

/-- Settles O54: the write is a change of the tables, and the port takes it by its link state and its demand. -/
theorem aCameraConfigWriteIsTakenByThePort : Obligations.ACameraConfigWriteIsTakenByThePort := by
  intro c e s writes passes p x wants tables waking off
  have row : exec .writeCameraConfig s = .next (runCommand .writeNext (selects .cameraConfig)
    (writeEntry 4 readCameraConfig neverBusy takeCameraConfig) s) := rfl
  rw [runCommand_writes writes selects_of_window,
    popCommand_writeEntry (entries := 4) (by exact writes.2.2) passes (by rfl) takeCameraConfig] at row
  have work : takeCameraConfig e s = cameraTakes p (s.withTables tables) := rfl
  rw [work] at row
  have news : SameNews s (s.withTables tables) := ⟨rfl, rfl, rfl, rfl, rfl⟩
  have written : SameBut [.tables] s (s.withTables tables) := (sameBut_iff_mask _ _ _).mpr rfl
  have demand : (s.withTables tables).demand p = true ↔ wants := by
    have entry : (tables.cameraConfig[p]).enabled = e.enabled := congrArg CameraConfig.enabled (getElem_set_same ..)
    have iff := demand_iff (s := s.withTables tables) (allowed_writes writes) p
    rw [State.withTables_tables, entry] at iff
    exact iff
  have idle (none : ¬ wants) : (s.withTables tables).demand p = false :=
    Bool.eq_false_of_not_eq_true fun h => none (demand.mp h)
  have keeps : SameBut [.cams, .health, .engine, .store, .survey, .agent, .trunk] (s.withTables tables)
      (cameraTakes p (s.withTables tables)) := (sameBut_iff_mask _ _ _).mpr (by simp)
  have straps : (cameraTakes p (s.withTables tables)).straps = s.straps := (keeps .straps (by decide)).symm
  have stored : (cameraTakes p (s.withTables tables)).tables = tables := (keeps .tables (by decide)).symm
  generalize taken : cameraTakes p (s.withTables tables) = w at row keeps straps stored
  have told {cs : List (CauseKind × Nat)} (adds : Adds cs s w) :
      Writes c cs s ((w.withPointer (s.agent.pointer + 1)).answered c .ok [[]]) := writes_answered adds straps c
  have frame {l : List Part} (same : SameBut l (s.withTables tables) w) (tables : Part.tables ∈ l) (agent : Part.agent ∈ l)
      (trunk : Part.trunk ∈ l) : SameBut l s ((w.withPointer (s.agent.pointer + 1)).answered c .ok [[]]) :=
    sameBut_answered ((written.mono (by simp [tables])).trans same) agent trunk _ c _ _
  refine ⟨_, row, stored, fun stands => ?_, fun link demanded => ?_, fun link ended => ?_, fun link ended => ?_,
    fun link other => ?_, fun link => ?_⟩
  · have still : w = s.withTables tables := by
      rw [← taken]
      exact cameraTakes_stands (stands.imp (And.imp_right idle) (And.imp_right demand.mpr))
    have nothing : Adds [] s w := by
      rw [still]
      exact ⟨by rw [addTogether_nil]; rfl, by rw [addTogether_nil]; rfl⟩
    exact ⟨by rw [still]; rfl, told nothing, frame (by rw [still]; exact fun x _ => by cases x <;> rfl)
      (by decide) (by decide) (by decide)⟩
  · rw [cameraTakes_wakes (by exact link) (demand.mpr demanded)] at taken
    obtain ⟨cams, adds, same⟩ := moved_unlocked (s := s) (p := p) (base := s.withTables tables) (new := .waking) rfl news rfl
      (by rw [show (s.cams[p]).link = .off from link]; decide) (by decide)
    rw [taken] at cams adds same
    exact ⟨cams, told adds, frame (same.mono (by simp)) (by decide) (by decide) (by decide)⟩
  · rw [cameraTakes_sleeps (by rcases link with e | e; exact .inl e; exact .inr (.inr e)) (idle ended)] at taken
    obtain ⟨cams, adds, same⟩ := moved_unlocked (s := s) (p := p) (base := s.withTables tables) (new := .off) rfl news rfl
      (by rcases link with e | e <;> rw [show (s.cams[p]).link = _ from e] <;> decide) (by decide)
    rw [taken] at cams adds same
    exact ⟨cams, told adds, frame (same.mono (by simp)) (by decide) (by decide) (by decide)⟩
  · rw [cameraTakes_sleeps (s := s.withTables tables) (.inr (.inl link)) (idle ended)] at taken
    have moved := linkMoved_self p .off [] (s.withTables tables)
    rw [taken] at moved
    have locked : ((s.withTables tables).cams[p]).link = .locked := link
    obtain ⟨cams, health, engine, store, adds, same⟩ := moved
    rw [afterLink_lost locked (by decide)] at health adds
    rw [if_pos locked, endBadly_withTables] at engine store
    refine ⟨cams, health, engine, store, told ?_, frame (same.mono (by simp)) (by decide) (by decide) (by decide)⟩
    have causes := adds.of_sameNews news
    simp only [eq_comm (a := PictureCondition.noSignal)] at causes
    exact causes
  · have moves : cameraTakes p (s.withTables tables)
        = moveLink p (if (s.withTables tables).demand p then .waking else .off) [] (s.withTables tables) := by
      rw [← changeLink_other (s := s.withTables tables) (by exact other)]
      unfold cameraTakes
      rw [show ((s.withTables tables).cams[p]).link = .powerFault from link]
    have goes {new : CameraLink} (unlocked : new ≠ .locked) (goes : w = moveLink p new [] (s.withTables tables)) :
        ((w.withPointer (s.agent.pointer + 1)).answered c .ok [[]]).cams = s.cams.set p (x.newly new s.nodeTime)
          ∧ Writes c [(.cameraLink, p.val)] s ((w.withPointer (s.agent.pointer + 1)).answered c .ok [[]])
          ∧ SameBut [.cams, .tables, .agent, .trunk] s ((w.withPointer (s.agent.pointer + 1)).answered c .ok [[]]) := by
      obtain ⟨cams, adds, same⟩ := moved_unlocked (s := s) (p := p) (base := s.withTables tables) rfl news rfl
        (by rw [show (s.cams[p]).link = .powerFault from link]; decide) unlocked
      rw [← goes] at cams adds same
      exact ⟨cams, told adds, frame (same.mono (by simp)) (by decide) (by decide) (by decide)⟩
    rw [taken] at moves
    by_cases wanted : wants
    · rw [if_pos (demand.mpr wanted)] at moves
      rw [if_pos wanted]
      exact goes (by decide) moves
    · rw [if_neg (fun h => wanted (demand.mp h))] at moves
      rw [if_neg wanted]
      exact goes (by decide) moves
  · have moves : cameraTakes p (s.withTables tables) = (s.withTables tables).withCam p { x with faultKept := false } := by
      unfold cameraTakes
      rw [show ((s.withTables tables).cams[p]).link = .testing from link]
      rfl
    rw [taken] at moves
    have nothing : Adds [] s w := by
      rw [moves]
      exact ⟨by rw [addTogether_nil]; rfl, by rw [addTogether_nil]; rfl⟩
    exact ⟨by rw [moves]; rfl, told nothing, frame (by rw [moves]; exact (sameBut_iff_mask _ _ _).mpr rfl)
      (by decide) (by decide) (by decide)⟩

end

end Sys2Proof.Machine
end

section
/-! PROOF. The survey leaves its port and takes the next (R186). -/

namespace Sys2Proof.Machine

section
variable {s v t told : State} {p q : CamPort}

/-! ### The next port of the survey -/

theorem surveyPasses_iff : s.surveyPasses q
    ↔ ¬ ((s.tables.cameraConfig[q]).surveyMember = true ∧ (s.cams[q]).link ≠ .testing ∧ (s.cams[q]).link ≠ .powerFault) := by
  rw [State.surveyPasses, ← Bool.not_eq_true, not_and_or, not_and_or, not_not, not_not]

/-- The survey takes a port that it does not pass over (R186). -/
def State.surveyTaking (s : State) (q : CamPort) : State :=
  reevaluateDemand q (s.withSurvey { s.survey with
    phase := if (s.cams[q]).link = .locked then .skip else .waitLock, port := some q, count := 0 })

theorem surveyTake_passes (passes : s.surveyPasses q) (qs : List CamPort) : surveyTake (q :: qs) s = surveyTake qs s := by
  rw [surveyTake]
  rcases passes with stranger | testing | fault
  · rw [stranger, if_neg Bool.false_ne_true]
  · rw [testing]
    exact ite_self _
  · rw [fault]
    exact ite_self _

theorem surveyTake_stops (stops : ¬ s.surveyPasses q) (qs : List CamPort) : surveyTake (q :: qs) s = s.surveyTaking q := by
  obtain ⟨member, testing, fault⟩ := not_not.mp (mt surveyPasses_iff.mpr stops)
  rw [surveyTake, if_pos member, State.surveyTaking]
  cases link : (s.cams[q]).link with
  | testing => exact absurd link testing
  | powerFault => exact absurd link fault
  | locked => rfl
  | off | waking | lost => rfl

/-- With every port passed over the survey is over; else it takes the first that it does not pass over. -/
theorem surveyTake_over {qs : List CamPort} (all : ∀ q ∈ qs, s.surveyPasses q) :
    surveyTake qs s = s.withSurvey { s.survey with phase := .idle, port := none, count := 0 } := by
  induction qs with
  | nil => rfl
  | cons q qs later =>
    rw [surveyTake_passes (all q List.mem_cons_self), later fun r mem => all r (List.mem_cons_of_mem q mem)]

theorem surveyTake_next {before after : List CamPort} (all : ∀ q ∈ before, s.surveyPasses q) (stops : ¬ s.surveyPasses q) :
    surveyTake (before ++ q :: after) s = s.surveyTaking q := by
  induction before with
  | nil => exact surveyTake_stops stops after
  | cons r before later =>
    rw [List.cons_append, surveyTake_passes (all r List.mem_cons_self), later fun x mem => all x (List.mem_cons_of_mem r mem)]

/-- The ports above one, up to a port among them and behind it. -/
theorem portsAbove_split : ∀ p q : CamPort, p < q →
    portsAbove p = (portsAbove p).filter (fun r => decide (r < q)) ++ q :: portsAbove q := by
  decide

theorem mem_portsAbove : q ∈ portsAbove p ↔ p < q := by
  simp [portsAbove]

/-! ### The power of the port it takes -/

theorem demand_survey (mode : s.mode = .standby) (port : s.survey.port = some q) : s.demand q = true := by
  simp [State.demand, mode, port]

/-- The port taken is powered when it is OFF, and stands otherwise (R3, R186). -/
theorem reevaluateDemand_taken (mode : s.mode = .standby) (port : s.survey.port = some q) : reevaluateDemand q s
    = if (s.cams[q]).link = .off then addCause .cameraLink q.val false (s.withCam q ((s.cams[q]).newly .waking s.nodeTime))
      else s := by
  unfold reevaluateDemand
  rw [demand_survey mode port]
  cases link : (s.cams[q]).link with
  | off =>
    rw [if_pos rfl]
    exact moveLink_unlocked (by rw [link]; decide) (by decide)
  | waking | locked | lost | testing | powerFault => rfl

/-- The state in which the survey has left port `p`, before it takes the next. -/
structure SurveyFree (p : CamPort) (s v : State) : Prop where
  tables : v.tables = s.tables
  time : v.nodeTime = s.nodeTime
  mode : v.mode = .standby
  survey : v.survey = { s.survey with port := none }
  cams : ∀ q : CamPort, q ≠ p → v.cams[q] = s.cams[q]

theorem SurveyFree.passes_iff (free : SurveyFree p s v) (above : p < q) : v.surveyPasses q ↔ s.surveyPasses q := by
  rw [State.surveyPasses, State.surveyPasses, free.tables, free.cams q (ne_of_gt above)]

/-- What the survey's move from port `p` to the next leaves (R186). -/
structure SurveyMoved (p : CamPort) (told s v t : State) : Prop where
  moves : SurveyMovesOn p s t
  tells : SurveyTells p told s t
  own : t.cams[p] = v.cams[p]
  same : SameBut [.cams, .survey, .agent, .trunk] v t

theorem surveyTakesNext_unique {r : CamPort} (one : s.surveyTakesNext p q) (other : s.surveyTakesNext p r) : q = r := by
  rcases lt_trichotomy q r with lower | same | higher
  · exact absurd (other.2.2 q one.1 lower) one.2.1
  · exact same
  · exact absurd (one.2.2 r other.1 higher) other.2.1

theorem exists_surveyTakesNext (some_ : ¬ ∀ q : CamPort, p < q → s.surveyPasses q) : ∃ q, s.surveyTakesNext p q := by
  have nonempty : {q : CamPort | p < q ∧ ¬ s.surveyPasses q}.Nonempty := by
    by_contra empty
    exact some_ fun q above => by_contra fun stops => empty ⟨q, above, stops⟩
  obtain ⟨q, ⟨above, stops⟩, lowest⟩ := WellFounded.has_min wellFounded_lt _ nonempty
  exact ⟨q, above, stops, fun r below lower => by_contra fun stops => lowest r ⟨below, stops⟩ lower⟩

theorem surveyTake_moved (free : SurveyFree p s v) (news : SameNews told v) :
    SurveyMoved p told s v (surveyTake (portsAbove p) v) := by
  by_cases ended : ∀ q : CamPort, p < q → s.surveyPasses q
  · have ends : surveyTake (portsAbove p) v = v.withSurvey { v.survey with phase := .idle, port := none, count := 0 } :=
      surveyTake_over fun q mem => (free.passes_iff (mem_portsAbove.mp mem)).mpr (ended q (mem_portsAbove.mp mem))
    have nobody (q : CamPort) (next : s.surveyTakesNext p q) : False := next.2.1 (ended q next.1)
    rw [ends]
    refine ⟨⟨fun _ => ?_, fun q next => (nobody q next).elim, fun q other => ⟨fun next => (nobody q next).elim,
      fun _ => free.cams q other⟩⟩, ⟨fun _ => ⟨news.agent.symm, news.trunk.symm⟩, fun q next => (nobody q next).elim⟩, rfl,
      (sameBut_iff_mask _ _ _).mpr rfl⟩
    rw [State.withSurvey_survey, free.survey]
  · obtain ⟨q, next⟩ := exists_surveyTakesNext ended
    obtain ⟨above, stops, lower⟩ := next
    have takes : surveyTake (portsAbove p) v = v.surveyTaking q := by
      rw [portsAbove_split p q above]
      refine surveyTake_next (fun r mem => ?_) (mt (free.passes_iff above).mp stops)
      rw [List.mem_filter, mem_portsAbove, decide_eq_true_iff] at mem
      exact (free.passes_iff mem.1).mpr (lower r mem.1 mem.2)
    have link : v.cams[q] = s.cams[q] := free.cams q (ne_of_gt above)
    have same {r : CamPort} (other : s.surveyTakesNext p r) : r = q := surveyTakesNext_unique other ⟨above, stops, lower⟩
    have taking : v.surveyTaking q = if (s.cams[q]).link = .off then
        addCause .cameraLink q.val false ((v.withSurvey { s.survey with
          phase := if (s.cams[q]).link = .locked then .skip else .waitLock, port := some q, count := 0 }).withCam q
            ((s.cams[q]).newly .waking s.nodeTime))
        else v.withSurvey { s.survey with
          phase := if (s.cams[q]).link = .locked then .skip else .waitLock, port := some q, count := 0 } := by
      rw [State.surveyTaking, reevaluateDemand_taken (by exact free.mode) (by rfl), State.withSurvey_cams, link, free.survey,
        State.withSurvey_nodeTime, free.time]
    rw [takes, taking]
    by_cases off : (s.cams[q]).link = .off
    · rw [if_pos off, if_neg (by rw [off]; decide)]
      generalize woken : (v.withSurvey { s.survey with phase := .waitLock, port := some q, count := 0 }).withCam q
        ((s.cams[q]).newly .waking s.nodeTime) = w
      have told_ : SameBut [.agent, .trunk] w (addCause .cameraLink q.val false w) := sameBut_addCause _ _ _ w
      have wnews : SameNews told w := news.trans (by rw [← woken]; exact ⟨rfl, rfl, rfl, rfl, rfl⟩)
      have added := wnews.addCause .cameraLink q.val false
      have cams : (addCause .cameraLink q.val false w).cams = v.cams.set q ((s.cams[q]).newly .waking s.nodeTime) := by
        rw [addCause_cams, ← woken]
        rfl
      have survey : (addCause .cameraLink q.val false w).survey
          = { s.survey with phase := .waitLock, port := some q, count := 0 } := by
        rw [← told_ .survey (by decide), ← woken]
        rfl
      refine ⟨⟨fun all => absurd (all q above) stops, fun r other => ?_, fun r other => ⟨fun next _ => ?_, fun stands => ?_⟩⟩,
        ⟨fun none => absurd off (none q ⟨above, stops, lower⟩), fun r other _ => ?_⟩, ?_, ?_⟩
      · obtain rfl := same other
        rw [survey, if_neg (by rw [off]; decide)]
      · obtain rfl := same next
        rw [cams, getElem_set_same]
      · have apart : q ≠ r := by
          rintro rfl
          exact stands.elim (fun h => h ⟨above, stops, lower⟩) fun h => h off
        rw [cams, getElem_set_ne _ apart, free.cams r other]
      · obtain rfl := same other
        exact ⟨added.agent.symm, added.trunk.symm⟩
      · rw [cams, getElem_set_ne _ (ne_of_gt above)]
      · have first : SameBut [.cams, .survey] v w := by
          rw [← woken]
          exact (sameBut_iff_mask _ _ _).mpr rfl
        exact (first.mono (by simp)).trans (told_.mono (by simp))
    · rw [if_neg off]
      refine ⟨⟨fun all => absurd (all q above) stops, fun r other => ?_, fun r other => ⟨fun next here => ?_, fun _ => free.cams r other⟩⟩,
        ⟨fun _ => ⟨news.agent.symm, news.trunk.symm⟩, fun r other here => ?_⟩, rfl, (sameBut_iff_mask _ _ _).mpr rfl⟩
      · obtain rfl := same other
        rfl
      · obtain rfl := same next
        exact absurd here off
      · obtain rfl := same other
        exact absurd here off

end

end Sys2Proof.Machine
end

section
/-! PROOF. CABLE_CHECK and RELEARN (R13 to R15, R79, R80, R184). Settles O55. -/

namespace Sys2Proof.Machine

section
variable {s t u v told : State} {p : CamPort} {c : AgentCommand}

theorem portOf_beyond {b : Byte} (beyond : 3 < b.toNat) : portOf b = none := if_neg (by omega)

theorem portOf_eq {b : Byte} (at_ : b.toNat = p.val) : portOf b = some p := by
  rw [portOf, at_, if_pos p.isLt]
  exact congrArg some (position_ofNat rfl)

theorem SameNews.of_adds {cs : List (CauseKind × Nat)} {l : List Part} (adds : Adds cs s t) (same : SameBut l s t)
    (side : Part.controllerSide ∉ l) (straps : Part.straps ∉ l) (ties : Part.swapTies ∉ l) :
    SameNews (Machine.addTogether cs s) t := by
  have told := sameBut_addTogether cs s
  exact ⟨adds.1.symm, adds.2.symm, (told .controllerSide (by decide)).symm.trans (same .controllerSide side),
    (told .straps (by decide)).symm.trans (same .straps straps), (told .swapTies (by decide)).symm.trans (same .swapTies ties)⟩

/-- A command answered behind its work. -/
theorem answered_work {w : State} (queue : w.agent.queue = s.agent.queue) :
    (w.answered c .ok [[]]).agent = { w.agent with queue := s.agent.queue.drop 1 }
      ∧ (w.answered c .ok [[]]).trunk = (reply c .ok [[]] w).trunk ∧ SameBut [.agent, .trunk] w (w.answered c .ok [[]]) := by
  refine ⟨?_, rfl, (sameBut_iff_mask _ _ _).mpr rfl⟩
  rw [← queue]
  rfl

/-- What a change to a link state other than LOCKED leaves, by whether the port was LOCKED (R9, R61). -/
theorem LinkMoved.away {k : CameraPort} {new : CameraLink} {extra : List (CauseKind × Nat)}
    (moved : LinkMoved p k new extra s t) (away : new ≠ .locked) :
    t.health = (if (s.cams[p]).link = .locked then s.health.set p (s.health[p]).noSignal else s.health)
      ∧ Adds (extra ++ if (s.cams[p]).link = .locked then s.lossCauses p else [(.cameraLink, p.val)]) s t := by
  have health := moved.health
  have adds := moved.adds
  rw [afterLink_away away] at health adds
  by_cases locked : (s.cams[p]).link = .locked
  · rw [if_pos locked] at health adds ⊢
    simp only [eq_comm (a := PictureCondition.noSignal)] at adds
    rw [List.append_assoc] at adds
    exact ⟨health, by rw [if_pos locked]; exact adds⟩
  · rw [if_neg locked] at health adds ⊢
    rw [if_pos rfl, List.append_nil] at adds
    exact ⟨health.trans (Vector.set_getElem_self _), by rw [if_neg locked]; exact adds⟩

/-- A survey that leaves its port takes the next (R186, R187): `u` is the port's change, `v` its demand judged anew. -/
theorem surveyLeave_moved {cs : List (CauseKind × Nat)} {l : List Part} (mode : s.mode = .standby)
    (adds : Adds cs s v) (same : SameBut l s v) (parts : ∀ x ∈ l, x ∈ [Part.cams, .health, .engine, .store, .survey, .agent, .trunk])
    (survey : v.survey = { s.survey with port := none }) (cams : ∀ q : CamPort, q ≠ p → v.cams[q] = s.cams[q])
    (judged : reevaluateDemand p (u.withSurvey { u.survey with port := none }) = v) :
    SurveyMoved p (addTogether cs s) s v (surveyLeave p u) := by
  have stands {x : Part} (away : x ∉ [Part.cams, .health, .engine, .store, .survey, .agent, .trunk]) : x ∉ l :=
    fun mem => away (parts x mem)
  rw [surveyLeave, judged]
  exact surveyTake_moved ⟨(same .tables (stands (by decide))).symm, (same .nodeTime (stands (by decide))).symm,
    (same .mode (stands (by decide))).symm.trans mode, survey, cams⟩
    (.of_adds adds same (stands (by decide)) (stands (by decide)) (stands (by decide)))

theorem SurveyTells.queue (tells : SurveyTells p told s t) : t.agent.queue = told.agent.queue := by
  by_cases woken : ∃ q : CamPort, s.surveyTakesNext p q ∧ (s.cams[q]).link = .off
  · obtain ⟨q, next, off⟩ := woken
    rw [(tells.2 q next off).1, addCause_queue]
  · rw [(tells.1 fun q next off => woken ⟨q, next, off⟩).1]

theorem aCableCheckStarts : Claim.ACableCheckStarts := by
  intro c s runs refuses
  have row : exec .cableCheck s = .next (popCommand (cableCheck c s)) := congrArg _ (runCommand_runs runs rfl _)
  have refused {st : Status} (work : cableCheck c s = replyStatus c st s) : refuses st := by
    refine refusal ?_
    rw [row, work, replyStatus, popCommand_reply]
  refine ⟨fun beyond => refused ?_, fun p at_ => ?_⟩
  · rw [cableCheck, AgentCommand.args, portOf_beyond beyond]
  have work : cableCheck c s = if (s.cams[p]).link = .testing then replyStatus c .busy s else replyStatus c .ok (startCheck p s) := by
    rw [cableCheck, AgentCommand.args, portOf_eq at_]
  intro x wasLocked testing told ended starts
  have moved := linkMoved (s := s) (p := p) (c := { x with faultKept := decide (x.link = .powerFault) }) rfl .testing []
  generalize movedTo : moveLink p .testing [] (s.withCam p { x with faultKept := decide (x.link = .powerFault) }) = m at moved
  obtain ⟨health_, adds⟩ := moved.away (by decide)
  have answers (idle : x.link ≠ .testing) : popCommand (cableCheck c s) = (startCheck p s).answered c .ok [[]] := by
    rw [work, if_neg idle, replyStatus, popCommand_reply]
  have cam : m.cams[p] = testing := by
    rw [moved.cams, getElem_set_same]
    rfl
  have begins {u : State} (idle : x.link ≠ .testing) (run : startCheck p s = u) (cam : u.cams[p] = testing)
      (health : u.health = m.health) (engine : u.engine = m.engine) (store : u.store = m.store)
      (queue : u.agent.queue = s.agent.queue) : starts u (u.answered c .ok [[]]) := by
    obtain ⟨agent, trunk, same⟩ := answered_work (s := s) (c := c) queue
    exact ⟨row.trans (congrArg Host.Outcome.next ((answers idle).trans (by rw [run]))), cam, health.trans health_,
      engine.trans moved.engine, store.trans moved.store, agent, trunk, same⟩
  have start : startCheck p s = surveyReacts p m := congrArg (surveyReacts p) movedTo
  have port : m.survey = s.survey := (moved.same .survey (by decide)).symm
  refine ⟨fun busy => refused (work.trans (if_pos busy)), fun idle other => ?_, fun idle own standby => ?_⟩
  · have started : startCheck p s = m := start.trans (surveyReacts_other (by rw [port]; exact other))
    have queue : m.agent.queue = s.agent.queue := by
      rw [adds.1, addTogether_queue]
    refine ⟨m, _, begins idle started cam rfl rfl rfl queue, moved.cams, adds.1, adds.2, moved.same⟩
  · have left : startCheck p s = surveyLeave p m := by
      rw [start, surveyReacts, port, if_pos own, cam]
      rfl
    have judged : reevaluateDemand p (m.withSurvey { m.survey with port := none }) = m.withSurvey { m.survey with port := none } := by
      unfold reevaluateDemand
      rw [State.withSurvey_cams, cam]
      rfl
    have quiet : SameBut [.survey] m (m.withSurvey { m.survey with port := none }) := (sameBut_iff_mask _ _ _).mpr rfl
    obtain ⟨moves, tells, own_, same⟩ := surveyLeave_moved (p := p) (u := m) standby (v := m.withSurvey { m.survey with port := none })
      (cs := if (s.cams[p]).link = .locked then s.lossCauses p else [(.cameraLink, p.val)]) adds
      (((moved.same.mono (by simp)).trans (quiet.mono (by simp)) :
        SameBut [.cams, .health, .engine, .store, .survey, .agent, .trunk] s _)) (fun x mem => mem)
      (by rw [State.withSurvey_survey, port]) (fun q apart => by rw [State.withSurvey_cams, moved.cams, getElem_set_ne _ (Ne.symm apart)]) judged
    refine ⟨surveyLeave p m, _, begins idle left (own_.trans cam) (same .health (by decide)).symm
      (same .engine (by decide)).symm (same .store (by decide)).symm (tells.queue.trans (addTogether_queue ..)), moves, tells, ?_⟩
    exact ((moved.same.mono (by simp)).trans (quiet.mono (by simp))).trans (same.mono (by simp))

/-! ### RELEARN (R79, R80, R184) -/

theorem pair_eq {α : Type} {x y : Pair α} (a : x.get .a = y.get .a) (b : x.get .b = y.get .b) : x = y := by
  obtain ⟨xa, xb⟩ := x
  obtain ⟨ya, yb⟩ := y
  exact congr (congrArg Pair.mk a) b

/-- The health record that learning starts with (R80, R184). -/
def Health.learning (h : Health) (s : State) : Health := { h with
  lens := .learning, keptAside := some h.lens, progress := 0, unusableRun := 0,
  zones := Vector.ofFn fun z : ZoneNo => { h.zones[z] with scratchSum := 0, scratchCount := 0 },
  deadline := some (s.nodeTime + 6000000), relearnHold := decide (s.mode = .standby) }

/-- The evidence of a camera (R80). -/
def State.evidenceOf (s : State) (p : CamPort) (k : Fin 4) : Bool :=
  (s.store.evidence[k]).any fun v => v.camera == s.cameraId p

theorem positionsOf_contains (s : State) (p : CamPort) : (s.store.positionsOf (s.cameraId p)).contains = s.evidenceOf p := by
  funext k
  have mem : (s.store.positionsOf (s.cameraId p)).contains k = true ↔ s.evidenceOf p k = true := by
    rw [List.contains_iff_mem, Store.positionsOf, List.mem_filter, State.evidenceOf]
    cases s.store.evidence[k] <;> simp
  exact Bool.eq_iff_iff.mpr mem

/-- Learning starts (R77, R80): the record, the evidence released, and the change told. -/
theorem startLearning_eq (idle : (s.health[p]).lens ≠ .learning) : ∃ u, startLearning p s = addCause .lensChange p.val false u
    ∧ Released (s.evidenceOf p) (s.withHealth p ((s.health[p]).learning s)) u
    ∧ ((∀ k : Fin 4, s.evidenceOf p k = false) → u = s.withHealth p ((s.health[p]).learning s)) := by
  have own : (s.withHealth p ((s.health[p]).learning s)).health[p] = (s.health[p]).learning s := getElem_set_same ..
  have begun : startLearning p s = lensEvent p (s.health[p]).lens (releaseAll (s.store.positionsOf (s.cameraId p))
      (s.withHealth p ((s.health[p]).learning s))) := by
    have hold : (s.mode == .standby) = decide (s.mode = .standby) := rfl
    unfold startLearning Health.learning
    rw [hold]
    rfl
  have released := released_all (s.store.positionsOf (s.cameraId p)) (s.withHealth p ((s.health[p]).learning s))
  rw [positionsOf_contains] at released
  refine ⟨releaseAll (s.store.positionsOf (s.cameraId p)) (s.withHealth p ((s.health[p]).learning s)), ?_, released,
    fun none => ?_⟩
  · have lens : ((releaseAll (s.store.positionsOf (s.cameraId p)) (s.withHealth p ((s.health[p]).learning s))).health[p]).lens
        = .learning := by
      have stands : (releaseAll (s.store.positionsOf (s.cameraId p)) (s.withHealth p ((s.health[p]).learning s))).health
          = (s.withHealth p ((s.health[p]).learning s)).health := (released.same .health (by decide)).symm
      rw [stands, own]
      rfl
    rw [begun]
    unfold lensEvent
    dsimp only
    rw [lens, if_neg (Ne.symm idle)]
    exact if_neg Bool.false_ne_true
  · have empty : s.store.positionsOf (s.cameraId p) = [] := List.eq_nil_iff_forall_not_mem.mpr fun k mem => by
      have mine : s.evidenceOf p k = true := by
        rw [← positionsOf_contains]
        exact List.contains_iff_mem.mpr mem
      exact Bool.false_ne_true ((none k).symm.trans mine)
    rw [empty]
    rfl

theorem learningStarts : Claim.LearningStarts := by
  intro c s runs refuses
  have row : exec .relearn s = .next (popCommand (relearn c s)) := congrArg _ (runCommand_runs runs rfl _)
  have refused {st : Status} (work : relearn c s = replyStatus c st s) : refuses st := by
    refine refusal ?_
    rw [row, work, replyStatus, popCommand_reply]
  refine ⟨fun beyond => refused ?_, fun p at_ => ?_⟩
  · rw [relearn, AgentCommand.args, portOf_beyond beyond]
  have work : relearn c s = if (s.health[p]).lens = .learning then replyStatus c .busy s
      else if s.mode = .run ∧ (s.cams[p]).link.powered = false then replyStatus c .refusedState s
      else if s.mode = .standby ∧ ((s.cams[p]).link = .testing ∨ (s.cams[p]).link = .powerFault) then replyStatus c .refusedState s
      else replyStatus c .ok (if s.mode = .standby then reevaluateDemand p (startLearning p s) else startLearning p s) := by
    rw [relearn, AgentCommand.args, portOf_eq at_]
  intro x h mine forget forgets released noted told
  refine ⟨fun busy => refused (work.trans (if_pos busy)), fun idle run unpowered => refused ?_,
    fun idle standby away => refused ?_, fun idle powered => ?_⟩
  · rw [work, if_neg idle, if_pos ⟨run, unpowered⟩]
  · rw [work, if_neg idle, if_neg (by rw [standby]; exact fun h => nomatch h.1), if_pos ⟨standby, away⟩]
  · have awake : ¬ (s.mode = .run ∧ (s.cams[p]).link.powered = false) := by
      rintro ⟨run, unpowered⟩
      rcases powered with power | ⟨standby, -⟩
      · exact Bool.false_ne_true (unpowered.symm.trans power)
      · exact absurd (run.symm.trans standby) (by decide)
    have sound : ¬ (s.mode = .standby ∧ ((s.cams[p]).link = .testing ∨ (s.cams[p]).link = .powerFault)) := by
      rintro ⟨-, away⟩
      rcases powered with power | ⟨-, off⟩
      · rcases away with link | link <;> rw [CameraPort.power, link] at power <;> cases power
      · rcases away with link | link <;> exact absurd (off.symm.trans link) (by decide)
    rw [if_neg idle, if_neg awake, if_neg sound] at work
    obtain ⟨u, begun, gone, whole⟩ := startLearning_eq idle
    have start : SameBut [.health] s (s.withHealth p (h.learning s)) := (sameBut_iff_mask _ _ _).mpr rfl
    have unsaid : SameBut [.health, .store, .trunk] s u := (start.mono (by simp)).trans (gone.same.mono (by simp))
    have news : SameNews released u := by
      refine ⟨unsaid .agent (by decide), ?_, unsaid .controllerSide (by decide), unsaid .straps (by decide),
        unsaid .swapTies (by decide)⟩
      have ports (q : TrunkPort) : released.trunk.get q = u.trunk.get q := by
        rw [gone.trunk]
        cases q <;> rfl
      exact pair_eq (ports .a) (ports .b)
    obtain ⟨w, learns⟩ : ∃ w, w = startLearning p s := ⟨_, rfl⟩
    have noted_ : SameNews noted w := by
      rw [learns, begun]
      exact news.addCause ..
    have same : SameBut [.health, .store, .agent, .trunk] s w := by
      rw [learns, begun]
      exact (unsaid.mono (by simp)).trans ((sameBut_addCause _ _ _ u).mono (by simp))
    have kept : SameBut [.agent, .trunk] u w := by
      rw [learns, begun]
      exact sameBut_addCause _ _ _ u
    have health : w.health = s.health.set p (h.learning s) := (kept .health (by decide)).symm.trans (gone.same .health (by decide)).symm
    have cams : w.cams = s.cams := (same .cams (by decide)).symm
    have final : (if s.mode = .standby then reevaluateDemand p w else w) = if x.link = .off then
        addCause .cameraLink p.val false (w.withCam p (x.newly .waking s.nodeTime)) else w := by
      have demanded (standby : s.mode = .standby) : w.demand p = true := by
        have mode : w.mode = .standby := (same .mode (by decide)).symm.trans standby
        have hold : (w.health[p]).relearnHold = true := by
          rw [health, getElem_set_same]
          exact decide_eq_true standby
        exact (demand_iff (by rw [mode]; decide) p).mpr (.inr (.inr hold))
      by_cases off : x.link = .off
      · have standby : s.mode = .standby := by
          rcases powered with power | ⟨standby, -⟩
          · rw [CameraPort.power, off] at power
            cases power
          · exact standby
        rw [if_pos standby, if_pos off, reevaluateDemand, demanded standby, cams, show (s.cams[p]).link = .off from off]
        refine (moveLink_unlocked (by rw [cams, show (s.cams[p]).link = .off from off]; decide) (by decide)).trans ?_
        rw [cams, ← same .nodeTime (by decide)]
      · rw [if_neg off]
        split
        next standby =>
          rw [reevaluateDemand, demanded standby, cams]
          cases link : (s.cams[p]).link with
          | off => exact absurd link off
          | waking | locked | lost | testing | powerFault => rfl
        next => rfl
    obtain ⟨f, is⟩ : ∃ f, f = if x.link = .off then addCause .cameraLink p.val false (w.withCam p (x.newly .waking s.nodeTime))
      else w := ⟨_, rfl⟩
    rw [← learns, final, ← is] at work
    have toldOf : SameNews told f := by
      rw [is]
      show SameNews (if x.link = .off then addCause .cameraLink p.val false noted else noted) _
      split
      · exact (noted_.trans (sameNews_withCam ..)).addCause ..
      · exact noted_
    have rests : SameBut [.cams, .agent, .trunk] w f := by
      rw [is]
      split
      · exact (sameBut_iff_mask _ _ _).mpr (by simp)
      · exact fun x _ => by cases x <;> rfl
    have queue : f.agent.queue = s.agent.queue := by
      have noted__ : noted.agent.queue = s.agent.queue := addCause_queue ..
      rw [← toldOf.agent]
      show (if x.link = .off then addCause .cameraLink p.val false noted else noted).agent.queue = _
      split
      · rw [addCause_queue, noted__]
      · exact noted__
    obtain ⟨agent, trunk, answered⟩ := answered_work (s := s) (c := c) queue
    have replied : (f.answered c .ok [[]]).trunk = (reply c .ok [[]] told).trunk :=
      reply_trunk_congr toldOf.trunk.symm toldOf.straps.symm
    have store : (f.answered c .ok [[]]).store = u.store := (rests .store (by decide)).symm.trans (kept .store (by decide)).symm
    refine ⟨f.answered c .ok [[]], ?_, ?_, ?_, ?_, replied, fun k => ?_, fun i => ⟨fun away => ?_, fun mine_ => ?_⟩, ?_, ?_,
      fun none => ⟨?_, replied⟩, ?_⟩
    · rw [row, work, replyStatus, popCommand_reply]
    · exact (rests .health (by decide)).symm.trans health
    · show f.cams = _
      rw [is]
      split
      · rw [addCause_cams, State.withCam_cams, cams]
      · exact cams
    · rw [agent, toldOf.agent]
    · rw [store]
      cases mine_ : mine k with
      | true => exact (gone.empties k mine_).trans (if_pos rfl).symm
      | false => exact (gone.keeps k mine_).trans (if_neg Bool.false_ne_true).symm
    · rw [store]
      exact gone.spares i fun k v named full => away k v full named
    · rw [store]
      obtain ⟨k, v, full, named, slot⟩ := mine_
      exact gone.unpins i k v named full slot
    · rw [store, gone.rest]
      rfl
    · rw [store, gone.rest]
      rfl
    · have nobody (k : Fin 4) : s.evidenceOf p k = false := by
        rw [State.evidenceOf]
        cases full : s.store.evidence[k] with
        | none => rfl
        | some v => exact beq_false_of_ne (none k v full)
      rw [store, whole nobody]
      rfl
    · exact ((same.mono (by simp)).trans (rests.mono (by simp))).trans (answered.mono (by simp))

/-- Settles O55: a cable check is a change of link state, with the survey's move where it had the port; learning is a new
record, the camera's evidence released, and in STANDBY the port's demand. -/
theorem cableChecksAndLearningStart : Obligations.CableChecksAndLearningStart := ⟨aCableCheckStarts, learningStarts⟩

end

end Sys2Proof.Machine
end

section
/-! PROOF. RESTART (R173). Settles O50. -/

namespace Sys2Proof.Machine

section
variable {s t x y : State} {p : CamPort} {n : Nat} {C : Cause → Prop}

/-! ### The causes of a node that knows no controller side -/

/-- Nothing of the agent but its causes has been touched since its reset, and no NOTICE can go out. -/
structure Silent (n : Nat) (C : Cause → Prop) (s : State) : Prop where
  side : s.controllerSide = none
  agent : s.agent = { Agent.reset with causes := s.agent.causes }
  room : s.agent.causes.length ≤ n
  mem : ∀ c : Cause, c ∈ s.agent.causes ↔ C c
  plain : ∀ c ∈ s.agent.causes, c.evidence = false

theorem addCause_silent (side : s.controllerSide = none) (k : CauseKind) (m : Nat) (e : Bool) : addCause k m e s
    = s.withAgent { s.agent with
      causes := (joinCause ⟨k, m, e⟩ s.agent.causes s.agent.overflow).causes
      overflow := (joinCause ⟨k, m, e⟩ s.agent.causes s.agent.overflow).overflow } := by
  unfold addCause
  dsimp only
  rw [sendNotice_of_held (.inr (by exact side)), ite_self]

theorem Silent.addCause (silent : Silent n C s) (room : n < 24) {k : CauseKind} (other : k ≠ .lensChange) (m : Nat) :
    Silent (n + 1) (fun c => C c ∨ c = ⟨k, m, false⟩) (addCause k m false s)
      ∧ SameBut [.agent] s (Machine.addCause k m false s) := by
  have overflow : s.agent.overflow = false := by rw [silent.agent]; rfl
  have joins := joinCause_cases ⟨k, m, false⟩ s.agent.causes s.agent.overflow
  rw [addCause_silent silent.side]
  refine ⟨?_, (sameBut_iff_mask _ _ _).mpr rfl⟩
  rcases joins with ⟨_, -, -, marked, -⟩ | ⟨old, found, -, e⟩ | ⟨-, -, e⟩ | ⟨-, full, -⟩ | ⟨-, full, -⟩
  · cases marked
  · have here := List.mem_of_find?_eq_some found
    have alike : old = ⟨k, m, false⟩ := by
      have same := List.find?_some found
      simp only [Cause.alike, Bool.and_eq_true, beq_iff_eq] at same
      obtain ⟨kind, subject⟩ := same
      have plain := silent.plain old here
      rw [kind, subject, ← plain]
    rw [e]
    refine ⟨silent.side, ?_, Nat.le_succ_of_le silent.room, fun c => (silent.mem c).trans ⟨.inl, fun h => ?_⟩, silent.plain⟩
    · rw [silent.agent]
      rfl
    · rcases h with h | rfl
      · exact h
      · exact (silent.mem _).mp (alike ▸ here)
  · rw [e]
    refine ⟨silent.side, ?_, ?_, fun c => ?_, fun c mem => ?_⟩
    · rw [silent.agent]
      rfl
    · exact (List.length_append).trans_le (Nat.succ_le_succ silent.room)
    · rw [State.withAgent_agent, List.mem_append, silent.mem, List.mem_singleton]
    · rw [State.withAgent_agent, List.mem_append, List.mem_singleton] at mem
      rcases mem with mem | rfl
      · exact silent.plain c mem
      · rfl
  · exact absurd (full.trans silent.room) (Nat.not_le.mpr room)
  · exact absurd (full.trans silent.room) (Nat.not_le.mpr room)

theorem Silent.of_same {l : List Part} (silent : Silent n C s) (same : SameBut l s t) (side : Part.controllerSide ∉ l)
    (agent : Part.agent ∉ l) : Silent n C t := by
  have agents : s.agent = t.agent := same .agent agent
  have sides : s.controllerSide = t.controllerSide := same .controllerSide side
  obtain ⟨side, agent, room, mem, plain⟩ := silent
  rw [sides] at side
  rw [agents] at agent room mem plain
  exact ⟨side, agent, room, mem, plain⟩

/-! ### The camera ports after a RESTART (R18) -/

/-- Some ports, OFF before, have taken their power demand (R2, R18). -/
structure Woken (ps : List CamPort) (n : Nat) (C : Cause → Prop) (s t : State) : Prop where
  cams : ∀ p : CamPort, t.cams[p] = if p ∈ ps ∧ s.demand p = true then (s.cams[p]).newly .waking s.nodeTime else s.cams[p]
  silent : Silent (n + ps.length) (fun c => C c ∨ ∃ p ∈ ps, s.demand p = true ∧ c = ⟨.cameraLink, p.val, false⟩) t
  same : SameBut [.cams, .agent] s t

theorem demand_of_same {l : List Part} (same : SameBut l s t) (mode : Part.mode ∉ l) (tables : Part.tables ∉ l)
    (survey : Part.survey ∉ l) (health : Part.health ∉ l) (p : CamPort) : t.demand p = s.demand p := by
  have modes : s.mode = t.mode := same .mode mode
  have entries : s.tables = t.tables := same .tables tables
  have surveys : s.survey = t.survey := same .survey survey
  have records : s.health = t.health := same .health health
  rw [State.demand, State.demand, modes, entries, surveys, records]

theorem Silent.iff {D : Cause → Prop} (silent : Silent n C s) (same : ∀ c, C c ↔ D c) : Silent n D s :=
  ⟨silent.side, silent.agent, silent.room, fun c => (silent.mem c).trans (same c), silent.plain⟩

theorem woken_ports (silent : Silent n C s) (off : ∀ p : CamPort, (s.cams[p]).link = .off) (ps : List CamPort)
    (once : ps.Nodup) (room : n + ps.length ≤ 24) :
    Woken ps n C s (ps.foldl (fun t p => reevaluateDemand p t) s) := by
  induction ps using List.reverseRecOn with
  | nil =>
    refine ⟨fun p => (if_neg fun h => absurd h.1 List.not_mem_nil).symm, silent.iff fun c => ?_, fun x _ => by cases x <;> rfl⟩
    simp
  | append_singleton ps q earlier =>
    rw [List.nodup_append] at once
    obtain ⟨once, -, apart⟩ := once
    rw [List.length_append, List.length_singleton] at room
    obtain ⟨cams, woken, same⟩ := earlier once (by omega)
    rw [List.foldl_append, List.foldl_cons, List.foldl_nil]
    generalize ps.foldl (fun t p => reevaluateDemand p t) s = u at cams woken same
    have fresh : q ∉ ps := fun mem => apart q mem q List.mem_cons_self rfl
    have own : u.cams[q] = s.cams[q] := (cams q).trans (if_neg fun h => fresh h.1)
    have demand : u.demand q = s.demand q := demand_of_same same (by decide) (by decide) (by decide) (by decide) q
    have time : u.nodeTime = s.nodeTime := (same .nodeTime (by decide)).symm
    have link : (u.cams[q]).link = .off := by rw [own, off]
    have inside (p : CamPort) : p ∈ ps ++ [q] ↔ p ∈ ps ∨ p = q := by rw [List.mem_append, List.mem_singleton]
    have length : n + (ps ++ [q]).length = n + ps.length + 1 := by rw [List.length_append]; rfl
    cases wants : s.demand q with
    | false =>
      have stays : reevaluateDemand q u = u := by
        unfold reevaluateDemand
        rw [link, demand, wants]
        rfl
      rw [stays]
      refine ⟨fun p => (cams p).trans (if_congr ⟨fun h => ⟨(inside p).mpr (.inl h.1), h.2⟩, fun h => ?_⟩ rfl rfl), ?_, same⟩
      · refine ⟨((inside p).mp h.1).resolve_right ?_, h.2⟩
        rintro rfl
        exact Bool.false_ne_true (wants.symm.trans h.2)
      · rw [length]
        refine ⟨woken.side, woken.agent, woken.room.trans (Nat.le_succ _), fun c => (woken.mem c).trans ?_, woken.plain⟩
        refine or_congr_right ⟨fun ⟨p, mem, h⟩ => ⟨p, (inside p).mpr (.inl mem), h⟩, fun ⟨p, mem, h, e⟩ => ?_⟩
        refine ⟨p, ((inside p).mp mem).resolve_right ?_, h, e⟩
        rintro rfl
        exact Bool.false_ne_true (wants.symm.trans h)
    | true =>
      have wakes : reevaluateDemand q u = Machine.addCause .cameraLink q.val false
          (u.withCam q ((s.cams[q]).newly .waking s.nodeTime)) := by
        unfold reevaluateDemand
        rw [link, demand, wants]
        refine (moveLink_unlocked (by rw [link]; decide) (by decide)).trans ?_
        rw [own, time]
      have powered : SameBut [.cams] u (u.withCam q ((s.cams[q]).newly .waking s.nodeTime)) := (sameBut_iff_mask _ _ _).mpr rfl
      obtain ⟨told, kept⟩ := (woken.of_same powered (by decide) (by decide)).addCause (by omega) (k := .cameraLink) (by decide) q.val
      rw [wakes]
      refine ⟨fun p => ?_, ?_, (same.trans (powered.mono (by simp))).trans (kept.mono (by simp))⟩
      · rw [addCause_cams, State.withCam_cams]
        by_cases here : q = p
        · subst here
          rw [getElem_set_same, if_pos ⟨(inside q).mpr (.inr rfl), wants⟩]
        · rw [getElem_set_ne _ here, cams]
          exact if_congr ⟨fun h => ⟨(inside p).mpr (.inl h.1), h.2⟩,
            fun h => ⟨((inside p).mp h.1).resolve_right (Ne.symm here), h.2⟩⟩ rfl rfl
      · rw [length]
        refine told.iff fun c => ?_
        rw [or_assoc]
        refine or_congr_right ⟨fun h => ?_, fun ⟨p, mem, h, e⟩ => ?_⟩
        · rcases h with ⟨p, mem, h⟩ | rfl
          · exact ⟨p, (inside p).mpr (.inl mem), h⟩
          · exact ⟨q, (inside q).mpr (.inr rfl), wants, rfl⟩
        · rcases (inside p).mp mem with mem | rfl
          · exact .inl ⟨p, mem, h, e⟩
          · exact .inr e

/-! ### The head role after a RESTART (R97, R107) -/

theorem placeBeacon_agent (p : TrunkPort) (head hops : Nat) (s : State) : (placeBeacon p head hops s).agent = s.agent := by
  unfold placeBeacon
  split
  · rw [placeControl_eq]
    rfl
  · rfl

theorem sameBut_beacons (s : State) : SameBut [.trunk] s (beaconBoth s) := by
  refine (sameBut_beaconBoth s).narrow fun x mem away => ?_
  have agent : (beaconBoth s).agent = s.agent := (placeBeacon_agent ..).trans (placeBeacon_agent ..)
  simp only [List.mem_cons, List.not_mem_nil, or_false] at mem away
  rcases mem with rfl | rfl
  · exact agent.symm
  · exact absurd rfl away

/-- A node that may be head has become it, from no record (R97). -/
structure Headed (n : Nat) (C : Cause → Prop) (s t : State) : Prop where
  orient : t.orient = if s.mayBeHead then s.headRecord else Orientation.reset
  trunk : ∀ p : TrunkPort, t.trunk.get p
    = if s.mayBeHead then (s.trunk.get p).beaconed (beaconCell s.nodeNumber 0) else s.trunk.get p
  silent : Silent (n + 1) (fun c => C c ∨ (s.mayBeHead = true ∧ c = ⟨.orientationChange, 0, false⟩)) t
  same : SameBut [.orient, .trunk, .agent] s t

theorem headed (silent : Silent n C s) (room : n < 24) (unknown : s.orient = Orientation.reset) :
    Headed n C s (reevaluateCandidacy s) := by
  have candidate : s.orient.candidate = false := by rw [unknown]; rfl
  cases may : s.mayBeHead with
  | false =>
    have stays : reevaluateCandidacy s = s := by
      rw [reevaluateCandidacy, may, candidate]
      rfl
    rw [stays]
    refine ⟨by rw [may]; exact unknown, fun p => by rw [may]; rfl, ?_, fun x _ => by cases x <;> rfl⟩
    refine ⟨silent.side, silent.agent, silent.room.trans (Nat.le_succ _), fun c => (silent.mem c).trans ?_, silent.plain⟩
    rw [may]
    simp
  | true =>
    have becomes : reevaluateCandidacy s = becomeHead s := by
      have lower : s.lowerHead = none := by
        unfold State.lowerHead
        rw [unknown]
        rfl
      rw [reevaluateCandidacy, may, candidate, if_neg (by decide), if_pos rfl, beginCandidacy, lower]
    have told : becomeHead s = Machine.addCause .orientationChange 0 false (beaconBoth (s.withOrient s.headRecord)) := by
      have record : (beaconBoth (s.withOrient s.headRecord)).orient = s.headRecord :=
        ((sameBut_beaconBoth _) .orient (by decide)).symm
      rw [becomeHead, reportOrientation_eq, record, orientCauses_of_state, addTogether_single]
      rw [unknown]
      exact OrientState.noConfusion
    have record : SameBut [.orient] s (s.withOrient s.headRecord) := (sameBut_iff_mask _ _ _).mpr rfl
    have beacons := sameBut_beacons (s.withOrient s.headRecord)
    have both : SameBut [.orient, .trunk] s (beaconBoth (s.withOrient s.headRecord)) :=
      (record.mono (by simp)).trans (beacons.mono (by simp))
    obtain ⟨silent, kept⟩ := (silent.of_same both (by decide) (by decide)).addCause room (k := .orientationChange) (by decide) 0
    rw [becomes, told]
    refine ⟨?_, fun p => ?_, ?_, (both.mono (by simp)).trans (kept.mono (by simp))⟩
    · rw [← kept .orient (by decide), ← beacons .orient (by decide), may]
      rfl
    · rw [← kept .trunk (by decide), beaconBoth_trunk, may]
      rfl
    · exact silent.iff fun c => by rw [may]; simp

/-! ### The screens after a RESTART (R146) -/

/-- A frame start of an empty store binds no slot, and takes and ends no hold. -/
theorem frameStart_empty (sc : Screen) (empty : ∀ v : ViewNo, s.store.viewMap[v] = none)
    (idle : (s.comp.outputs[sc]).held = []) (image : s.comp.applyImage = none) :
    ∃ f, frameStart sc s = s.withOutput sc ⟨true, some f⟩ := by
  have begun : s.frameBegun sc = s := by
    have comp : ({ s.comp with applyImage := none } : Compositor) = s.comp := by rw [← image]
    rw [State.frameBegun, idle, comp, State.appliedBank, image]
    rfl
  have slotless (q : Pane) (mode : Nat) : (s.drawPane mode q).slot = none := by
    cases shown : s.resolve q with
    | blank => rw [drawPane_blank shown]
    | noCamera d => rw [drawPane_noCamera shown]
    | view v d => rw [drawPane_absent shown (empty v)]
  have held : (s.composedFrame sc).held = [] := by
    refine List.eq_nil_iff_forall_not_mem.mpr fun i mem => ?_
    obtain ⟨d, drawn, slot⟩ := (mem_held_composedFrame sc s i).mp mem
    obtain ⟨q, -, rfl⟩ := List.mem_map.mp drawn
    rw [slotless] at slot
    cases slot
  rw [frameStart_eq, begun, idle, held]
  split
  · exact ⟨_, rfl⟩
  · exact ⟨_, rfl⟩

/-- The enabled outputs of a cab-end node have started, each on its own (R146). -/
structure Started (s t : State) : Prop where
  running : ∀ sc : Screen, (t.comp.outputs[sc]).running = (s.straps.cabEnd && (s.tables.outputConfig[sc]).enabled)
  image : t.comp.applyImage = none
  pulse : t.comp.pulseEnd = s.comp.pulseEnd
  same : SameBut [.comp] s t

theorem started_one (sc : Screen) (empty : ∀ v : ViewNo, s.store.viewMap[v] = none)
    (off : s.comp.outputs[sc] = ⟨false, none⟩) (image : s.comp.applyImage = none) : ∃ o : Output,
      (if s.straps.cabEnd && (s.tables.outputConfig[sc]).enabled then frameStart sc s else s) = s.withOutput sc o
        ∧ o.running = (s.straps.cabEnd && (s.tables.outputConfig[sc]).enabled) := by
  cases starts : s.straps.cabEnd && (s.tables.outputConfig[sc]).enabled with
  | true =>
    obtain ⟨f, begun⟩ := frameStart_empty sc empty (by rw [off]; rfl) image
    exact ⟨_, begun, rfl⟩
  | false =>
    refine ⟨s.comp.outputs[sc], ?_, by rw [off]⟩
    have same : s.comp.outputs.set sc s.comp.outputs[sc] = s.comp.outputs := Vector.set_getElem_self _
    rw [State.withOutput, same]
    rfl

theorem started (empty : ∀ v : ViewNo, s.store.viewMap[v] = none) (off : ∀ sc : Screen, s.comp.outputs[sc] = ⟨false, none⟩)
    (image : s.comp.applyImage = none) : Started s (startOutputs s) := by
  obtain ⟨a, first, aRuns⟩ := started_one 0 empty (off 0) image
  have apart : (s.withOutput 0 a).comp.outputs[(1 : Screen)] = ⟨false, none⟩ :=
    (getElem_set_ne _ (by decide) a).trans (off 1)
  obtain ⟨b, second, bRuns⟩ := started_one (s := s.withOutput 0 a) 1 empty apart image
  have whole : startOutputs s = (s.withOutput 0 a).withOutput 1 b :=
    (congrArg (fun x : State => if x.straps.cabEnd && (x.tables.outputConfig[(1 : Screen)]).enabled then frameStart 1 x
      else x) first).trans second
  rw [whole]
  refine ⟨fun sc => ?_, image, rfl, (sameBut_iff_mask _ _ _).mpr rfl⟩
  match sc with
  | 0 => exact (congrArg Output.running ((getElem_set_ne _ (by decide) b).trans (getElem_set_same _ 0 a))).trans aRuns
  | 1 => exact (congrArg Output.running (getElem_set_same _ 1 b)).trans bRuns

/-! ### RESTART (R173) -/

/-- The state with its reply placed, before anything follows (R173). -/
def State.restarted (s : State) (c : AgentCommand) : State := replyStatus c .ok (keepCopy c s s.afterRestart)

/-- What follows at once: the ports, the head role and the screens, in either order of the first two. -/
structure Followed (s t : State) : Prop where
  cams : ∀ p : CamPort, t.cams[p] = if s.demand p = true then (s.cams[p]).newly .waking s.nodeTime else s.cams[p]
  orient : t.orient = if s.mayBeHead then s.headRecord else Orientation.reset
  trunk : ∀ p : TrunkPort, t.trunk.get p
    = if s.mayBeHead then (s.trunk.get p).beaconed (beaconCell s.nodeNumber 0) else s.trunk.get p
  silent : Silent 5 (fun c => (∃ p : CamPort, s.demand p = true ∧ c = ⟨.cameraLink, p.val, false⟩)
    ∨ (s.mayBeHead = true ∧ c = ⟨.orientationChange, 0, false⟩)) t
  same : SameBut [.cams, .orient, .trunk, .agent] s t

theorem mayBeHead_of_same {l : List Part} (same : SameBut l s t) (mode : Part.mode ∉ l) (straps : Part.straps ∉ l)
    (cab : Part.cabActive ∉ l) : t.mayBeHead = s.mayBeHead := by
  have modes : s.mode = t.mode := same .mode mode
  have numbers : s.straps = t.straps := same .straps straps
  have levels : s.cabActive = t.cabActive := same .cabActive cab
  rw [State.mayBeHead, State.mayBeHead, modes, numbers, levels]

theorem followed (silent : Silent 0 (fun _ => False) s) (off : ∀ p : CamPort, (s.cams[p]).link = .off)
    (unknown : s.orient = Orientation.reset) : Followed s (if s.swapTies then
      reevaluateCandidacy (eachPort reevaluateDemand s) else eachPort reevaluateDemand (reevaluateCandidacy s)) := by
  have every (P : CamPort → Prop) : (∃ p ∈ List.finRange 4, P p) ↔ ∃ p, P p :=
    ⟨fun ⟨p, _, h⟩ => ⟨p, h⟩, fun ⟨p, h⟩ => ⟨p, List.mem_finRange p, h⟩⟩
  split
  · obtain ⟨cams, woken, kept⟩ := woken_ports silent off (List.finRange 4) (List.nodup_finRange 4) (by decide)
    obtain ⟨orient, trunk, told, same⟩ := headed woken (by decide) ((kept .orient (by decide)).symm.trans unknown)
    have may := mayBeHead_of_same kept (by decide) (by decide) (by decide)
    have record : State.headRecord ((List.finRange 4).foldl (fun t p => reevaluateDemand p t) s) = s.headRecord := by
      rw [State.headRecord, State.headRecord, State.nodeNumber, State.nodeNumber, ← kept .straps (by decide),
        ← kept .nodeTime (by decide)]
    have number : State.nodeNumber ((List.finRange 4).foldl (fun t p => reevaluateDemand p t) s) = s.nodeNumber := by
      rw [State.nodeNumber, State.nodeNumber, ← kept .straps (by decide)]
    rw [may, record] at orient
    rw [may] at told
    refine ⟨fun p => ?_, orient, fun p => ?_, told.iff fun c => ?_, (kept.mono (by simp)).trans (same.mono (by simp))⟩
    · rw [eachPort, ← same .cams (by decide), cams]
      exact if_congr (and_iff_right (List.mem_finRange p)) rfl rfl
    · have ports := trunk p
      rw [may, number, ← kept .trunk (by decide)] at ports
      exact ports
    · rw [every, false_or]
  · obtain ⟨orient, trunk, told, kept⟩ := headed silent (by decide) unknown
    have cams_ : (reevaluateCandidacy s).cams = s.cams := (kept .cams (by decide)).symm
    obtain ⟨cams, woken, same⟩ := woken_ports told (by rw [cams_]; exact off) (List.finRange 4) (List.nodup_finRange 4) (by decide)
    have demand (p : CamPort) : (reevaluateCandidacy s).demand p = s.demand p :=
      demand_of_same kept (by decide) (by decide) (by decide) (by decide) p
    refine ⟨fun p => ?_, (same .orient (by decide)).symm.trans orient, fun p => ?_, woken.iff fun c => ?_,
      (kept.mono (by simp)).trans (same.mono (by simp))⟩
    · rw [eachPort, cams, cams_, demand, ← kept .nodeTime (by decide)]
      exact if_congr (and_iff_right (List.mem_finRange p)) rfl rfl
    · rw [eachPort, ← same .trunk (by decide), trunk]
    · simp only [demand]
      rw [every, false_or, or_comm]

/-- What a RESTART that has been answered holds, before anything follows (R107, R173). -/
theorem restarted_eq (s : State) (c : AgentCommand) : ∃ trunk, s.restarted c = { s.afterRestart with trunk := trunk }
    ∧ (∀ p : TrunkPort, trunk.get p = { (s.trunk.get p).afterRestart with
      control := (trunk.get p).control, bypassPath := (trunk.get p).bypassPath })
    ∧ (trunk.get c.arrival).control = [replyCell s.nodeNumber (commandTag c.cell) .ok 0 1 []]
    ∧ (trunk.get c.arrival).bypassPath = []
    ∧ (trunk.get c.arrival.other).control = ((s.trunk.get c.arrival.other).control.filter c.isCopy).take 1
    ∧ (trunk.get c.arrival.other).bypassPath = if ((s.trunk.get c.arrival.other).control.filter c.isCopy).isEmpty then
      ((s.trunk.get c.arrival.other).bypassPath.filter c.isCopy).take 1 else [] := by
  have replied : (replyStatus c .ok (keepCopy c s s.afterRestart)) = (keepCopy c s s.afterRestart).withTrunk c.arrival
      (((keepCopy c s s.afterRestart).trunk.get c.arrival).queued (replyCell s.nodeNumber (commandTag c.cell) .ok 0 1 [])) :=
    placeAll_eq ..
  refine ⟨(s.restarted c).trunk, ?_, ?_⟩
  · rw [State.restarted, replied]
    rfl
  · rw [State.restarted, replied, State.withTrunk_trunk]
    have ports (p : TrunkPort) : s.afterRestart.trunk.get p = (s.trunk.get p).afterRestart := by cases p <;> rfl
    have apart : c.arrival ≠ c.arrival.other := by cases c.arrival <;> decide
    have own : (keepCopy c s s.afterRestart).trunk.get c.arrival = (s.trunk.get c.arrival).afterRestart := by
      rw [keepCopy, State.withTrunk_trunk, Pair.get_set_ne _ apart, ports]
    have copy : (keepCopy c s s.afterRestart).trunk.get c.arrival.other = { (s.trunk.get c.arrival.other).afterRestart with
        control := ((s.trunk.get c.arrival.other).control.filter c.isCopy).take 1
        bypassPath := if ((s.trunk.get c.arrival.other).control.filter c.isCopy).isEmpty then
          ((s.trunk.get c.arrival.other).bypassPath.filter c.isCopy).take 1 else [] } := by
      rw [keepCopy, State.withTrunk_trunk, Pair.get_set_same, ports]
    have queued : ((s.trunk.get c.arrival).afterRestart).queued (replyCell s.nodeNumber (commandTag c.cell) .ok 0 1 [])
        = { (s.trunk.get c.arrival).afterRestart with
          control := [replyCell s.nodeNumber (commandTag c.cell) .ok 0 1 []] } := rfl
    rw [own, queued]
    refine ⟨fun p => ?_, ?_, ?_, ?_, ?_⟩
    · by_cases here : p = c.arrival
      · rw [here, Pair.get_set_same]
      · have there : p = c.arrival.other := eq_other_of_ne here
        rw [there, Pair.get_set_ne _ apart.symm, copy]
    · rw [Pair.get_set_same]
    · rw [Pair.get_set_same]
      rfl
    · rw [Pair.get_set_ne _ apart.symm, copy]
    · rw [Pair.get_set_ne _ apart.symm, copy]

theorem isCopy_iff (c : AgentCommand) (x : Cell) :
    c.isCopy x = true ↔ (byteAt c.cell 1).toNat % 16 = 15 ∧ x = c.cell := by
  rw [AgentCommand.isCopy, Bool.and_eq_true, beq_iff_eq, beq_iff_eq]
  rfl

theorem filter_copy_isEmpty (c : AgentCommand) (cs : List Cell) : (cs.filter c.isCopy).isEmpty = true
    ↔ ¬ ((byteAt c.cell 1).toNat % 16 = 15 ∧ c.cell ∈ cs) := by
  rw [List.isEmpty_iff, List.filter_eq_nil_iff]
  refine ⟨fun none ⟨all, mem⟩ => none _ mem ((isCopy_iff ..).mpr ⟨all, rfl⟩), fun missing x mem copy => ?_⟩
  obtain ⟨all, rfl⟩ := (isCopy_iff ..).mp copy
  exact missing ⟨all, mem⟩

/-- The first copy of a RESTART among some cells (R173). -/
theorem take_copy (c : AgentCommand) (cs : List Cell) : (cs.filter c.isCopy).take 1
    = if (byteAt c.cell 1).toNat % 16 = 15 ∧ c.cell ∈ cs then [c.cell] else [] := by
  split
  next found =>
    obtain ⟨all, here⟩ := found
    have mem : c.cell ∈ cs.filter c.isCopy := List.mem_filter.mpr ⟨here, (isCopy_iff ..).mpr ⟨all, rfl⟩⟩
    match kept : cs.filter c.isCopy with
    | [] =>
      rw [kept] at mem
      cases mem
    | x :: xs =>
      have first : x ∈ cs.filter c.isCopy := by rw [kept]; exact List.mem_cons_self
      rw [((isCopy_iff c x).mp (List.mem_filter.mp first).2).2]
      rfl
  next missing =>
    rw [List.isEmpty_iff.mp ((filter_copy_isEmpty c cs).mpr missing)]
    rfl

/-- Settles O50: the restarted state is silent, and what follows at once is the same in either order. -/
theorem restartKeepsTheTables : Obligations.RestartKeepsTheTables := by
  intro c s runs isHead forAll other beacon answer
  obtain ⟨u, run, touched⟩ := everyCommandKeepsToItsParts .restart s
  have row : exec .restart s = .next (popCommand (restart c s)) := congrArg _ (runCommand_runs runs rfl _)
  obtain rfl : popCommand (restart c s) = u := Host.Outcome.next.inj (row.symm.trans run)
  obtain ⟨trunk, begun, ports, control, path, copy, copyPath⟩ := restarted_eq s c
  have silent : Silent 0 (fun _ => False) (s.restarted c) := by
    rw [begun]
    exact ⟨rfl, rfl, le_rfl, fun c => List.mem_nil_iff c, fun c mem => absurd mem List.not_mem_nil⟩
  have cam (p : CamPort) : (s.restarted c).cams[p] = CameraPort.reset := by
    rw [begun]
    exact Vector.getElem_replicate _
  have record (p : CamPort) : (s.restarted c).health[p] = s.restartHealth p := by
    rw [begun]
    exact Vector.getElem_ofFn _
  have demand (p : CamPort) : (s.restarted c).demand p = true ↔ (s.tables.cameraConfig[p]).enabled = true := by
    have mode : (s.restarted c).mode = .run := by rw [begun]; rfl
    have survey : (s.restarted c).survey.port = none := by rw [begun]; rfl
    have entry : (s.restarted c).tables.cameraConfig = s.tables.cameraConfig := by rw [begun]; rfl
    have hold : ((s.restarted c).health[p]).relearnHold = false := by rw [record]; rfl
    rw [demand_iff (by rw [mode]; decide), mode, survey, entry, hold]
    simp
  have may : (s.restarted c).mayBeHead = isHead := by
    rw [begun]
    exact Bool.and_true _
  have headOf : (s.restarted c).headRecord
      = ⟨.found, some (s.straps.node.toNat + 1), none, some 0, none, true, none, some (s.nodeTime + 100)⟩ := by
    rw [begun]
    rfl
  have number : (s.restarted c).nodeNumber = s.straps.node.toNat + 1 := by
    rw [begun]
    rfl
  have trunks (p : TrunkPort) : (s.restarted c).trunk.get p = trunk.get p := by rw [begun]
  obtain ⟨cams, orient, beacons, told, same⟩ := followed silent (fun p => by rw [cam]; rfl) (by rw [begun]; rfl)
  have whole : restart c s = startOutputs (if (s.restarted c).swapTies then
      reevaluateCandidacy (eachPort reevaluateDemand (s.restarted c))
      else eachPort reevaluateDemand (reevaluateCandidacy (s.restarted c))) := rfl
  generalize (if (s.restarted c).swapTies then reevaluateCandidacy (eachPort reevaluateDemand (s.restarted c))
      else eachPort reevaluateDemand (reevaluateCandidacy (s.restarted c))) = v at cams orient beacons told same whole
  rw [begun] at same
  have store : v.store = Store.reset := (same .store (by decide)).symm
  have comp : v.comp = Compositor.reset := (same .comp (by decide)).symm
  have tables : v.tables = { s.tables with activeBank := s.appliedBank } := (same .tables (by decide)).symm
  have straps : v.straps = s.straps := (same .straps (by decide)).symm
  obtain ⟨running, image, pulse, kept⟩ := started (s := v)
    (fun w => by rw [store]; exact Vector.getElem_replicate _) (fun sc => by rw [comp]; exact Vector.getElem_replicate _)
    (by rw [comp]; rfl)
  rw [← whole] at running image pulse kept
  generalize restart c s = w at running image pulse kept row touched
  have agent : w.agent = { Agent.reset with causes := w.agent.causes } := by
    rw [← kept .agent (by decide)]
    exact told.agent
  have link (p : TrunkPort) : (trunk.get p).link = (s.trunk.get p).link := by rw [ports]; rfl
  have short (p : TrunkPort) : (trunk.get p).control.length < 32 := by
    by_cases here : p = c.arrival
    · rw [here, control]
      show 1 < 32
      decide
    · rw [eq_other_of_ne here, copy]
      exact (List.length_take_le ..).trans_lt (by decide)
  have trunkOf (p : TrunkPort) : w.trunk.get p = { trunk.get p with control := (trunk.get p).control ++ beacon (s.trunk.get p) } := by
    rw [← kept .trunk (by decide), beacons, may, number, trunks]
    cases head : isHead with
    | false =>
      have none : beacon (s.trunk.get p) = [] := if_neg fun h => Bool.false_ne_true (head.symm.trans h.1)
      rw [none, List.append_nil]
      rfl
    | true =>
      rw [if_pos rfl, Trunk.beaconed]
      by_cases up : (s.trunk.get p).link = .up
      · have one : beacon (s.trunk.get p) = [mkCell [0x10] [byte (s.straps.node.toNat + 1), 0]] := if_pos ⟨head, up⟩
        rw [if_pos ((link p).trans up), Trunk.queued, if_pos (short p), one]
        rfl
      · have none : beacon (s.trunk.get p) = [] := if_neg fun h => up h.2
        rw [if_neg (by rw [link]; exact up), none, List.append_nil]
  have others {x : Part} (away : x ∉ [Part.comp, .cams, .orient, .trunk, .agent]) :
      x.same { s.afterRestart with trunk := trunk } w := by
    simp only [List.mem_cons, not_or] at away
    exact Part.same_trans (same x (by simp [away])) (kept x (by simp [away]))
  refine ⟨popCommand w, row, (others (x := .mode) (by decide)).symm, (others (x := .store) (by decide)).symm,
    (others (x := .engine) (by decide)).symm, (others (x := .router) (by decide)).symm,
    (others (x := .vehicle) (by decide)).symm, (others (x := .controllerSide) (by decide)).symm,
    (others (x := .alarm) (by decide)).symm, (others (x := .survey) (by decide)).symm,
    (others (x := .tables) (by decide)).symm, fun sc => ?_, fun p => ?_, fun p => ?_, ?_, image, ?_,
    fun sc => ?_, ?_, fun x => ?_, fun p => ?_, ?_, ?_, ?_, ?_, touched⟩
  · show w.selection[sc] = _
    rw [← show s.afterRestart.selection = w.selection from others (x := .selection) (by decide)]
    exact Vector.getElem_ofFn _
  · show w.cams[p] = _
    rw [← kept .cams (by decide), cams, cam]
    refine if_congr (demand p) ?_ rfl
    rw [begun]
    rfl
  · show w.health[p] = _
    rw [← show s.afterRestart.health = w.health from others (x := .health) (by decide)]
    refine (Vector.getElem_ofFn _).trans (congrArg Health.reset (if_congr (allAbsent_iff s.tables p) rfl rfl))
  · show w.orient = _
    rw [← kept .orient (by decide), orient, may, headOf]
    rfl
  · show w.comp.pulseEnd = none
    rw [pulse, comp]
    rfl
  · show (w.comp.outputs[sc]).running = _
    rw [running, straps, tables]
  · show ({ w.agent with queue := w.agent.queue.drop 1 } : Agent) = { Agent.reset with causes := w.agent.causes }
    rw [agent]
    rfl
  · show x ∈ w.agent.causes ↔ _
    rw [← kept .agent (by decide), told.mem]
    exact or_congr (exists_congr fun p => and_congr_left fun _ => demand p) (by rw [may])
  · rw [show (popCommand w).trunk.get p = _ from trunkOf p]
    exact congrArg (fun y => { y with control := (trunk.get p).control ++ beacon (s.trunk.get p) }) (ports p)
  · show (w.trunk.get c.arrival).control = _
    rw [trunkOf, control]
    rfl
  · show (w.trunk.get c.arrival).bypassPath = []
    rw [trunkOf, path]
  · show (w.trunk.get c.arrival.other).control = _
    rw [trunkOf, copy, take_copy]
    exact congrArg (· ++ beacon other) (if_congr (and_congr_left fun _ => decide_eq_true_iff.symm) rfl rfl)
  · show (w.trunk.get c.arrival.other).bypassPath = _
    rw [trunkOf, copyPath, take_copy, ← ite_and]
    refine if_congr ?_ rfl rfl
    rw [filter_copy_isEmpty, show forAll = true ↔ (byteAt c.cell 1).toNat % 16 = 15 from decide_eq_true_iff]
    exact ⟨fun ⟨h, all, path⟩ => ⟨all, fun mem => h ⟨all, mem⟩, path⟩, fun ⟨all, h, path⟩ => ⟨fun both => h both.2, all, path⟩⟩


end

end Sys2Proof.Machine
end

section
/-! PROOF. Learning that fails at its deadline (R83, R184). Settles O28. -/

namespace Sys2Proof.Machine

section
variable {s t v : State} {p : CamPort} {kept : LensCondition}

theorem failed_eq (h : Health) (e : LensParams) (aside : h.keptAside = some kept) : h.failed e
    = { h with lens := e.moves h.coverage kept, keptAside := none, deadline := none, relearnHold := false } := by
  have back : h.restored = kept := by rw [Health.restored, aside]
  rw [Health.failed, moved_eq, back]

/-- What a failed learning tells: LEARN_FAILED, and LENS_CHANGE behind it (R77, R83). -/
def State.failTold (s : State) (p : CamPort) (lens : LensCondition) (cov : Nat) : State :=
  addCause .lensChange p.val (s.lensAsked p .learning lens cov).2 (addCause .learnFailed p.val false s)

theorem lensAsked_alike {u : State} (store : u.store = s.store) (time : u.nodeTime = s.nodeTime) (straps : u.straps = s.straps)
    (p : CamPort) (before lens : LensCondition) (cov : Nat) :
    (u.lensAsked p before lens cov).1.store = (s.lensAsked p before lens cov).1.store
      ∧ (u.lensAsked p before lens cov).2 = (s.lensAsked p before lens cov).2 := by
  have camera : u.cameraId p = s.cameraId p := by rw [State.cameraId, State.cameraId, straps]
  unfold State.lensAsked
  split
  · rw [camera, pinRequest_alike store time]
    exact ⟨rfl, rfl⟩
  · exact ⟨store, rfl⟩

theorem moves_ne_learning (ready : kept ≠ .learning) (e : LensParams) (cov : Nat) : e.moves cov kept ≠ .learning := by
  unfold LensParams.moves
  cases kept with
  | learning => exact absurd rfl ready
  | noReference | unrated => exact LensCondition.noConfusion
  | clean | smeared | blocked => split_ifs <;> exact LensCondition.noConfusion

/-- A failed learning, before any change of power (R77, R78, R83). -/
theorem failLearning_whole (aside : (s.health[p]).keptAside = some kept) (ready : kept ≠ .learning) :
    let h := s.health[p]
    let lens := (s.tables.lensParams[p]).moves h.coverage kept
    failLearning p s = { s with
      health := s.health.set p { h with lens := lens, keptAside := none, deadline := none, relearnHold := false }
      store := (s.lensAsked p .learning lens h.coverage).1.store
      agent := (s.failTold p lens h.coverage).agent
      trunk := (s.failTold p lens h.coverage).trunk } := by
  intro h lens
  have moved : lens ≠ .learning := moves_ne_learning ready _ _
  obtain ⟨k, record⟩ : ∃ k : Health, k = { h with lens := lens, keptAside := none, deadline := none, relearnHold := false } :=
    ⟨_, rfl⟩
  have work := failLearning_eq p s
  rw [failed_eq (s.health[p]) s.tables.lensParams[p] aside, ← record] at work
  have told : SameBut [.agent, .trunk] (s.withHealth p k) (addCause .learnFailed p.val false (s.withHealth p k)) :=
    sameBut_addCause _ _ _ _
  have quiet : SameBut [.agent, .trunk] s (addCause .learnFailed p.val false s) := sameBut_addCause _ _ _ _
  have put : SameNews s (s.withHealth p k) := ⟨rfl, rfl, rfl, rfl, rfl⟩
  have event := lensEvent_eq (s := addCause .learnFailed p.val false s) (u := addCause .learnFailed p.val false (s.withHealth p k))
    (put.addCause ..) ((told .store (by decide)).symm.trans (quiet .store (by decide)))
    ((told .nodeTime (by decide)).symm.trans (quiet .nodeTime (by decide))) p .learning
  have own : (addCause .learnFailed p.val false (s.withHealth p k)).health[p] = k := by
    rw [← show (s.withHealth p k).health = _ from told .health (by decide)]
    exact getElem_set_same ..
  obtain ⟨slots, flag⟩ := lensAsked_alike (s := s) (quiet .store (by decide)).symm (quiet .nodeTime (by decide)).symm
    (quiet .straps (by decide)).symm p .learning k.lens k.coverage
  have tells : (addCause .learnFailed p.val false s).lensTold p .learning k.lens k.coverage = s.failTold p k.lens k.coverage := by
    rw [State.lensTold, if_neg (by rw [record]; exact moved), flag]
    rfl
  rw [own, slots, tells] at event
  rw [work, event, addCause_news put, record]
  rfl

theorem exec_learningDeadline (learning : (s.health[p]).lens = .learning) (late : due s.nodeTime (s.health[p]).deadline = true) :
    exec (.learningDeadline p) s
      = .next (if (s.health[p]).relearnHold then reevaluateDemand p (failLearning p s) else failLearning p s) :=
  congrArg Host.Outcome.next (if_pos ⟨learning, late⟩)

/-- A port whose power demand is judged anew, by its link state (R2, R3). -/
theorem reevaluateDemand_eq (p : CamPort) (s : State) : reevaluateDemand p s
    = if (s.cams[p]).link = .off ∧ s.demand p = true then moveLink p .waking [] s
      else if (s.cams[p]).power = true ∧ s.demand p = false then moveLink p .off [] s else s := by
  unfold reevaluateDemand CameraPort.power
  cases (s.cams[p]).link <;> cases s.demand p <;> rfl

/-- What a port's demand leaves of its health record: the picture and the runs are a lost port's, or all stands (R61). -/
theorem reevaluateDemand_health (p : CamPort) (s : State) : (reevaluateDemand p s).health = s.health
    ∨ (reevaluateDemand p s).health = s.health.set p (s.health[p]).noSignal := by
  have goes {new : CameraLink} (away : new ≠ .locked) : (moveLink p new [] s).health = s.health
      ∨ (moveLink p new [] s).health = s.health.set p (s.health[p]).noSignal := by
    obtain ⟨health, -⟩ := (linkMoved_self p new [] s).away away
    rw [health]
    split
    · exact .inr rfl
    · exact .inl rfl
  rw [reevaluateDemand_eq]
  split
  · exact goes (by decide)
  · split
    · exact goes (by decide)
    · exact .inl rfl

/-- What a port's demand, judged anew, leaves (R2, R3, R61). -/
theorem demand_judged (p : CamPort) (s : State) :
    let t := reevaluateDemand p s
    let link := (s.cams[p]).link
    ((s.cams[p]).power = true ∧ s.demand p = true ∨ link = .off ∧ s.demand p = false ∨ link = .testing
        ∨ link = .powerFault → t = s)
      ∧ (link = .off → s.demand p = true → t.cams = s.cams.set p ((s.cams[p]).newly .waking s.nodeTime)
        ∧ Adds [(.cameraLink, p.val)] s t ∧ SameBut [.cams, .agent, .trunk] s t)
      ∧ (link = .waking ∨ link = .lost → s.demand p = false → t.cams = s.cams.set p ((s.cams[p]).newly .off s.nodeTime)
        ∧ Adds [(.cameraLink, p.val)] s t ∧ SameBut [.cams, .agent, .trunk] s t)
      ∧ (link = .locked → s.demand p = false → t.cams = s.cams.set p ((s.cams[p]).newly .off s.nodeTime)
        ∧ t.health = s.health.set p (s.health[p]).noSignal ∧ t.engine = (endBadly p s).engine
        ∧ t.store = (endBadly p s).store ∧ Adds (s.lossCauses p) s t
        ∧ SameBut [.cams, .health, .engine, .store, .agent, .trunk] s t) := by
  intro t link
  have eq : t = _ := reevaluateDemand_eq p s
  refine ⟨fun stands => ?_, fun off wants => ?_, fun away idle => ?_, fun locked idle => ?_⟩
  · rw [eq, if_neg ?_, if_neg ?_]
    · rintro ⟨power, idle⟩
      rcases stands with ⟨-, wants⟩ | ⟨off, -⟩ | testing | fault
      · exact Bool.false_ne_true (idle.symm.trans wants)
      all_goals
        rw [CameraPort.power, show (s.cams[p]).link = _ by assumption] at power
        cases power
    · rintro ⟨off, wants⟩
      rcases stands with ⟨power, -⟩ | ⟨-, idle⟩ | testing | fault
      · rw [CameraPort.power, off] at power
        cases power
      · exact Bool.false_ne_true (idle.symm.trans wants)
      · exact absurd (off.symm.trans testing) (by decide)
      · exact absurd (off.symm.trans fault) (by decide)
  · rw [eq, if_pos ⟨off, wants⟩]
    exact moved_unlocked rfl (.refl s) rfl (by rw [show (s.cams[p]).link = .off from off]; decide) (by decide)
  · have powered : (s.cams[p]).power = true := by
      rw [CameraPort.power]
      rcases away with e | e <;> rw [show (s.cams[p]).link = _ from e] <;> rfl
    rw [eq, if_neg fun h => Bool.false_ne_true (idle.symm.trans h.2), if_pos ⟨powered, idle⟩]
    exact moved_unlocked rfl (.refl s) rfl
      (by rcases away with e | e <;> rw [show (s.cams[p]).link = _ from e] <;> decide) (by decide)
  · have powered : (s.cams[p]).power = true := by
      rw [CameraPort.power, show (s.cams[p]).link = .locked from locked]
      rfl
    rw [eq, if_neg fun h => Bool.false_ne_true (idle.symm.trans h.2), if_pos ⟨powered, idle⟩]
    have moved := linkMoved_self p .off [] s
    obtain ⟨health, adds⟩ := moved.away (by decide)
    have engine := moved.engine
    have store := moved.store
    rw [if_pos (by exact locked)] at health adds engine store
    exact ⟨moved.cams, health, engine, store, adds, moved.same⟩

/-- Settles O28: the record fails and is told, and then the port's demand is judged without the hold. -/
theorem learningFailsAtItsDeadline : Obligations.LearningFailsAtItsDeadline := by
  intro p kept s h e c learning late aside ready lens asked told
  have whole := failLearning_whole aside ready
  have asks : s.lensAsked p .learning lens c = asked := by
    have worse : worsens .learning lens = true ↔ lens = .smeared ∨ lens = .blocked := by
      cases lens <;> simp [worsens]
    exact if_congr worse rfl rfl
  have tells : s.failTold p lens c = told := by
    rw [State.failTold, asks]
  dsimp only at whole
  rw [show (s.tables.lensParams[p]).moves (s.health[p]).coverage kept = lens from rfl, asks, tells] at whole
  have row := exec_learningDeadline learning late
  have own : (s.health.set p { h with relearnHold := false })[p] = { h with relearnHold := false } := getElem_set_same ..
  have without : failLearning p { s with health := s.health.set p { h with relearnHold := false } } = failLearning p s := by
    have put : ({ s with health := s.health.set p { h with relearnHold := false } } : State).withHealth p
        (({ h with relearnHold := false } : Health).failed e) = s.withHealth p (h.failed e) :=
      congrArg (fun v => { s with health := v }) (Vector.set_set ..)
    rw [failLearning_eq, failLearning_eq]
    dsimp only
    rw [own, put]
  have first : exec (.learningDeadline p) { s with health := s.health.set p { h with relearnHold := false } }
      = .next (failLearning p s) := by
    rw [exec_learningDeadline (s := { s with health := s.health.set p { h with relearnHold := false } })
      ((congrArg Health.lens own).trans learning) ((congrArg (fun k : Health => due s.nodeTime k.deadline) own).trans late),
      without, if_neg]
    dsimp only
    rw [own]
    exact Bool.false_ne_true
  generalize failLearning p s = v at whole row first
  have cams : v.cams = s.cams := by rw [whole]
  have record : v.health[p] = { h with lens := lens, keptAside := none, deadline := none, relearnHold := false } := by
    rw [whole]
    exact getElem_set_same ..
  have time : v.nodeTime = s.nodeTime := by rw [whole]
  have demand : v.demand p = true ↔ (s.mode = .run ∧ (s.tables.cameraConfig[p]).enabled = true)
      ∨ (s.mode ≠ .bypass ∧ s.survey.port = some p) := by
    rw [State.demand, record, show v.mode = s.mode by rw [whole], show v.tables = s.tables by rw [whole],
      show v.survey = s.survey by rw [whole]]
    cases s.mode <;> simp
  have idle {a : Prop} (iff : v.demand p = true ↔ a) (none : ¬ a) : v.demand p = false :=
    Bool.eq_false_of_not_eq_true fun h => none (iff.mp h)
  have judged := demand_judged p v
  dsimp only at judged
  rw [cams, time] at judged
  obtain ⟨stands, wakes, sleeps, loses⟩ := judged
  have same : SameBut [.health, .store, .agent, .trunk] s v := by
    rw [whole]
    exact (sameBut_iff_mask _ _ _).mpr rfl
  rw [show (s.health[p]).relearnHold = h.relearnHold from rfl] at row
  have either (w : State) (is : w = if h.relearnHold then reevaluateDemand p v else v) :
      w.health[p] = v.health[p] ∨ w.health[p] = (v.health[p]).noSignal := by
    have health : w.health = v.health ∨ w.health = v.health.set p (v.health[p]).noSignal := by
      rw [is]
      split
      · exact reevaluateDemand_health p v
      · exact .inl rfl
    rcases health with e | e
    · rw [e]
      exact .inl rfl
    · rw [e, getElem_set_same]
      exact .inr rfl
  have keeps (w : State) (is : w = if h.relearnHold then reevaluateDemand p v else v) : (w.health[p]).lens = lens
      ∧ (w.health[p]).keptAside = none ∧ (w.health[p]).deadline = none ∧ (w.health[p]).relearnHold = false := by
    rcases either w is with e | e
    · rw [e, record]
      exact ⟨rfl, rfl, rfl, rfl⟩
    · rw [e, record]
      exact ⟨rfl, rfl, rfl, rfl⟩
  obtain ⟨w, is⟩ : ∃ w, w = if h.relearnHold then reevaluateDemand p v else v := ⟨_, rfl⟩
  obtain ⟨lens_, aside_, deadline_, hold_⟩ := keeps w is
  rw [← is] at row
  have held (hold : h.relearnHold = true) : w = reevaluateDemand p v := is.trans (if_pos hold)
  have told_ : v.store = asked.1.store ∧ v.agent = told.agent ∧ v.trunk = told.trunk := by
    rw [whole]
    exact ⟨rfl, rfl, rfl⟩
  obtain ⟨store, agent, trunk⟩ := told_
  refine ⟨w, row, lens_, aside_, deadline_, hold_, fun free => ?_, fun hold standby other power => ?_,
    fun hold standby port power => ?_, fun hold => ⟨v, first, ?_, fun off wants => ?_, fun away none => ?_, fun locked none => ?_⟩⟩
  · have stood : w = v := is.trans (if_neg (by rw [free]; exact Bool.false_ne_true))
    rw [stood]
    refine ⟨store, agent, trunk, ?_, same⟩
    rw [whole]
    show s.health.set p _ = s.health.set p _
    rw [← free]
  · have unwanted : v.demand p = false := idle demand fun h => by
      rcases h with ⟨run, -⟩ | ⟨-, port⟩
      · exact absurd (standby.symm.trans run) (by decide)
      · exact other port
    have off : w.cams = s.cams.set p ((s.cams[p]).newly .off s.nodeTime) := by
      rw [held hold]
      rw [CameraPort.power] at power
      cases link : (s.cams[p]).link with
      | waking => exact (sleeps (.inl link) unwanted).1
      | lost => exact (sleeps (.inr link) unwanted).1
      | locked => exact (loses link unwanted).1
      | off | testing | powerFault =>
        rw [link] at power
        cases power
    rw [off, getElem_set_same]
    rfl
  · have stood : w = v := (held hold).trans (stands (.inl ⟨power, demand.mpr (.inr ⟨by rw [standby]; decide, port⟩)⟩))
    rw [stood]
    exact ⟨store, agent, trunk, same⟩
  · rw [held hold]
    refine fun stood => stands (stood.imp (And.imp_right demand.mpr) (Or.imp_left (And.imp_right (idle demand))))
  · rw [held hold]
    exact wakes off (demand.mpr wants)
  · rw [held hold]
    exact sleeps away (idle demand none)
  · rw [held hold]
    exact loses locked (idle demand none)

end

end Sys2Proof.Machine
end

section
/-! PROOF. A frame that a LOCKED port's health monitor takes: the record, the references and the causes (R62 to R82). -/

namespace Sys2Proof.Machine

section
variable {s u : State} {p : CamPort} {st : FrameStats}

/-! ### A sample, by the lens condition (R66 to R69, R81, R82) -/

/-- A record of port `p` finds a sample usable (R67). -/
def State.finds (s : State) (p : CamPort) (st : FrameStats) (h : Health) : Bool :=
  h.usable st s.tables.lensParams[p] s.tables.cameraConfig[p] s.vehicle (s.surveyPhaseOf p == .burst)

/-- The sample that completes a port's learning (R82). -/
def State.finishes (s : State) (p : CamPort) (st : FrameStats) (h : Health) : Bool :=
  h.lens == .learning && s.finds p st h && 32 ≤ h.progress + 1

/-- A record whose learning completes (R82). -/
def Health.finished (h : Health) : Health :=
  { h.wiped with lens := .clean, keptAside := none, deadline := none, relearnHold := false }

/-- The record that a sample leaves (R66). -/
def State.sampled (s : State) (p : CamPort) (st : FrameStats) (h : Health) : Health :=
  match h.lens with
  | .noReference => h
  | .learning =>
    if s.finds p st h then
      if 32 ≤ h.progress + 1 then (h.learned s.tables.lensParams[p] st).finished else h.learned s.tables.lensParams[p] st
    else h
  | .unrated | .clean | .smeared | .blocked =>
    if s.finds p st h then h.scored s.tables.lensParams[p] st s.tables.reference s.tables.weight p else h.unusable

/-- The tables with what a port has learned (R82). -/
def State.taught (s : State) (p : CamPort) (h : Health) : Tables :=
  { s.tables with reference := learnedTable s.tables.reference p h.zones }

theorem withHealth_self (p : CamPort) (s : State) : s.withHealth p s.health[p] = s :=
  congrArg (fun v => { s with health := v }) (Vector.set_getElem_self ..)

theorem completeLearning_eq (k : Health) (s : State) : completeLearning p (s.withHealth p k) = { s with
    health := s.health.set p k.finished
    tables := s.taught p k
    agent := (addCause .learnDone p.val false s).agent
    trunk := (addCause .learnDone p.val false s).trunk } := by
  have own : (s.withHealth p k).health[p] = k := getElem_set_same ..
  have put : SameNews s (((s.withHealth p k).withTables (s.taught p k)).withHealth p k.finished) := ⟨rfl, rfl, rfl, rfl, rfl⟩
  have set : ((s.withHealth p k).withTables (s.taught p k)).withHealth p k.finished
      = { s with health := s.health.set p k.finished, tables := s.taught p k } :=
    congrArg (fun v => { s with health := v, tables := s.taught p k }) (Vector.set_set ..)
  have work : completeLearning p (s.withHealth p k)
      = addCause .learnDone p.val false (((s.withHealth p k).withTables (s.taught p k)).withHealth p k.finished) := by
    unfold completeLearning
    rw [own]
    rfl
  rw [work, addCause_news put, set]
  rfl

/-- What a sample does, by the record it finds. -/
theorem takeSample_eq (p : CamPort) (st : FrameStats) (s : State) : takeSample p st s =
    if s.finishes p st s.health[p] then { s with
      health := s.health.set p (s.sampled p st s.health[p])
      tables := s.taught p ((s.health[p]).learned s.tables.lensParams[p] st)
      agent := (addCause .learnDone p.val false s).agent
      trunk := (addCause .learnDone p.val false s).trunk }
    else s.withHealth p (s.sampled p st s.health[p]) := by
  unfold takeSample State.sampled State.finishes
  have usable : s.usable p st = s.finds p st s.health[p] := rfl
  dsimp only
  rw [usable]
  have own := withHealth_self p s
  generalize s.health[p] = h at own ⊢
  cases lens : h.lens with
  | noReference => exact own.symm
  | learning =>
    cases s.finds p st h with
    | false => exact own.symm
    | true =>
      by_cases last : 32 ≤ h.progress + 1
      · simp only [if_true, if_pos last, decide_eq_true last, beq_self_eq_true, Bool.and_self]
        exact completeLearning_eq _ s
      · simp only [if_true, if_neg last, decide_eq_false last, Bool.and_false, Bool.false_eq_true, if_false]
  | unrated | clean | smeared | blocked =>
    have other {l : LensCondition} (ne : l ≠ .learning) (b c : Bool) : ¬ ((l == .learning && b && c) = true) := by
      rw [beq_eq_false_iff_ne.mpr ne]
      exact Bool.false_ne_true
    dsimp only
    rw [if_neg (other (by decide) _ _)]
    split <;> rfl

/-! ### A frame (R62 to R66) -/

/-- The record after the runs and the sample count of a taken frame (R63 to R66). -/
def State.counted (s : State) (p : CamPort) (st : FrameStats) : Health :=
  { s.runsAfter p st with sampleCount := (s.sampleCountAfter p).1 }

/-- The record that a taken frame leaves (R62). -/
def State.frameHealth (s : State) (p : CamPort) (st : FrameStats) : Health :=
  if s.samples p then s.sampled p st (s.counted p st) else s.counted p st

/-- The taken frame completes the port's learning (R82). -/
def State.completes (s : State) (p : CamPort) (st : FrameStats) : Bool :=
  s.samples p && s.finishes p st (s.counted p st)

/-- The tables that a taken frame leaves (R82). -/
def State.frameTables (s : State) (p : CamPort) (st : FrameStats) : Tables :=
  if s.completes p st then s.taught p ((s.counted p st).learned s.tables.lensParams[p] st) else s.tables

/-- A taken frame's PICTURE_CHANGE (R65). -/
def State.pictureTold (s : State) (p : CamPort) (st : FrameStats) : State :=
  if (s.runsAfter p st).picture = (s.health[p]).picture then s else addCause .pictureChange p.val false s

/-- What a taken frame tells before its tiles: PICTURE_CHANGE and LEARN_DONE (R65, R82). -/
def State.frameTold (s : State) (p : CamPort) (st : FrameStats) : State :=
  if s.completes p st then addCause .learnDone p.val false (s.pictureTold p st) else s.pictureTold p st

theorem sameBut_pictureTold (s : State) (p : CamPort) (st : FrameStats) :
    SameBut [.agent, .trunk] s (s.pictureTold p st) := by
  unfold State.pictureTold
  split
  · exact fun x _ => by cases x <;> rfl
  · exact sameBut_addCause _ _ _ s

theorem sameBut_frameTold (s : State) (p : CamPort) (st : FrameStats) :
    SameBut [.agent, .trunk] s (s.frameTold p st) := by
  unfold State.frameTold
  split
  · exact (sameBut_pictureTold s p st).trans (sameBut_addCause _ _ _ _)
  · exact sameBut_pictureTold s p st

/-- The record, the sample count in it, and the picture's cause, before any sample. -/
theorem takeFrame_counted (p : CamPort) (st : FrameStats) (s : State) :
    let u : State := { s with
      health := s.health.set p (s.counted p st)
      agent := (s.pictureTold p st).agent
      trunk := (s.pictureTold p st).trunk }
    takeFrame p st s = if s.samples p then takeSample p st u else u := by
  intro u
  obtain ⟨t, shown⟩ : ∃ t, t = s.withHealth p (s.runsAfter p st) := ⟨_, rfl⟩
  have own : t.health[p] = s.runsAfter p st := by
    rw [shown]
    exact getElem_set_same ..
  have put : SameNews s t := by
    rw [shown]
    exact ⟨rfl, rfl, rfl, rfl, rfl⟩
  have told : (if (t.health[p]).picture = (s.health[p]).picture then t else addCause .pictureChange p.val false t)
      = t.news (s.pictureTold p st) := by
    unfold State.pictureTold
    rw [own]
    split
    · rw [State.news, put.agent, put.trunk]
    · exact addCause_news put ..
  have counts : (t.news (s.pictureTold p st)).sampleCountAfter p = s.sampleCountAfter p := by
    have count : (t.health[p]).sampleCount = (s.health[p]).sampleCount := by
      rw [own]
      rfl
    have phase : t.surveyPhaseOf p = s.surveyPhaseOf p := by rw [shown]; rfl
    have tables : t.tables = s.tables := by rw [shown]; rfl
    show t.sampleCountAfter p = _
    unfold State.sampleCountAfter
    rw [count, phase, tables]
  have twice : (t.news (s.pictureTold p st)).withHealth p (s.counted p st) = u := by
    rw [shown]
    exact congrArg (fun v => ({ u with health := v } : State)) (Vector.set_set ..)
  have work : takeFrame p st s =
      (let w := if (t.health[p]).picture = (s.health[p]).picture then t else addCause .pictureChange p.val false t
       let k := w.sampleCountAfter p
       let v := w.withHealth p { w.health[p] with sampleCount := k.1 }
       if k.2 then takeSample p st v else v) := by
    rw [shown]
    rfl
  have mine : (t.news (s.pictureTold p st)).health[p] = s.runsAfter p st := own
  rw [work, told]
  dsimp only
  rw [counts, mine, show ({ s.runsAfter p st with sampleCount := (s.sampleCountAfter p).1 } : Health) = s.counted p st
    from rfl, twice]
  rfl

/-- What the health monitor does with a taken frame. -/
theorem takeFrame_eq (p : CamPort) (st : FrameStats) (s : State) : takeFrame p st s = { s with
    health := s.health.set p (s.frameHealth p st)
    tables := s.frameTables p st
    agent := (s.frameTold p st).agent
    trunk := (s.frameTold p st).trunk } := by
  rw [takeFrame_counted]
  unfold State.frameHealth State.frameTables State.frameTold State.completes
  cases s.samples p with
  | false => rfl
  | true =>
    obtain ⟨u, is⟩ : ∃ u : State, u = { s with
      health := s.health.set p (s.counted p st)
      agent := (s.pictureTold p st).agent
      trunk := (s.pictureTold p st).trunk } := ⟨_, rfl⟩
    have own : u.health[p] = s.counted p st := by
      rw [is]
      exact getElem_set_same ..
    have finishes : u.finishes p st u.health[p] = s.finishes p st (s.counted p st) := by
      rw [own, is]
      rfl
    have sampled : u.sampled p st u.health[p] = s.sampled p st (s.counted p st) := by
      rw [own, is]
      rfl
    have set (k : Health) : u.health.set p k = s.health.set p k := by
      rw [is]
      exact Vector.set_set ..
    have news : SameNews (s.pictureTold p st) u := by
      rw [is]
      have same := sameBut_pictureTold s p st
      exact ⟨rfl, rfl, (same .controllerSide (by decide)).symm, (same .straps (by decide)).symm,
        (same .swapTies (by decide)).symm⟩
    rw [← is, if_pos rfl, takeSample_eq, finishes, sampled, Bool.true_and]
    split
    · rw [addCause_news news, set, State.taught, own, is]
      rfl
    · rw [State.withHealth, set, is]
      rfl

end

end Sys2Proof.Machine
end

section
/-! PROOF. A good frame end in LOCKED: the port, the take, the tiles and the lens event (R6, R30, R62, R77). -/

namespace Sys2Proof.Machine

section
variable {s t u : State} {p : CamPort} {f : OpenFrame} {pic : Picture} {st : FrameStats}

/-! ### The port and the take -/

theorem endGood_eq (p : CamPort) (f : OpenFrame) (s : State) :
    endGood p f s = { s with cams := s.cams.set p ((s.cams[p]).took f s.nodeTime) } := by
  have counted (k : PortCounter) (c : CameraPort) : countCam p k (s.withCam p c)
      = s.withCam p { c with counters := bump k.place c.counters } := by
    have own : (s.withCam p c).cams[p] = c := getElem_set_same ..
    unfold countCam
    rw [own]
    exact congrArg (fun v => { s with cams := v }) (Vector.set_set ..)
  have second : bump 1 (bump 0 (s.cams[p]).counters)
      = ((s.cams[p]).counters.set 0 (increment (s.cams[p]).counters[(0 : Fin 6)])).set 1
        (increment (s.cams[p]).counters[(1 : Fin 6)]) :=
    congrArg (fun x => (bump 0 (s.cams[p]).counters).set 1 (increment x)) (bump_other (by decide) _)
  unfold endGood CameraPort.took CameraPort.ended
  dsimp only
  rw [counted]
  cases f.isRepeat with
  | false => rfl
  | true =>
    rw [if_pos rfl, counted]
    exact congrArg (fun v => s.withCam p { s.cams[p] with
      stallTimer := some (s.after Config.stallTime), openFrame := none, prevNumber := some f.record.number, counters := v })
      second

theorem frameTold_congr (news : SameNews s u) (health : u.health = s.health) (tables : u.tables = s.tables)
    (survey : u.survey = s.survey) (vehicle : u.vehicle = s.vehicle) (p : CamPort) (st : FrameStats) :
    (u.frameTold p st).agent = (s.frameTold p st).agent ∧ (u.frameTold p st).trunk = (s.frameTold p st).trunk := by
  obtain ⟨v, is⟩ : ∃ v : State, v = { s with cams := u.cams } := ⟨_, rfl⟩
  have runs : u.runsAfter p st = s.runsAfter p st := by rw [State.runsAfter, health, tables]; rfl
  have phase : u.surveyPhaseOf p = s.surveyPhaseOf p := by rw [State.surveyPhaseOf, survey]; rfl
  have count : u.sampleCountAfter p = s.sampleCountAfter p := by
    unfold State.sampleCountAfter
    rw [health, tables, phase]
  have completes : u.completes p st = s.completes p st := by
    unfold State.completes State.samples State.finishes State.finds State.counted
    rw [count, runs, tables, vehicle, phase]
  have shown : SameNews (s.pictureTold p st) (u.pictureTold p st) := by
    unfold State.pictureTold
    rw [runs, health]
    split
    · exact news
    · exact news.addCause ..
  unfold State.frameTold
  rw [completes]
  split
  · have told := shown.addCause .learnDone p.val false
    exact ⟨told.agent.symm, told.trunk.symm⟩
  · exact ⟨shown.agent.symm, shown.trunk.symm⟩

/-- What a good frame end in LOCKED leaves before its tiles: the port, the sums, the record, the references and the
causes (R6, R34, R62). -/
def State.framed (s : State) (p : CamPort) (f : OpenFrame) (pic : Picture) : State := { s with
  cams := s.cams.set p ((s.cams[p]).took f s.nodeTime)
  engine := { s.engine with sums := s.engine.sums.set p (gather pic.luma f.width f.height) }
  health := s.health.set p (s.frameHealth p (f.statsOf pic))
  tables := s.frameTables p (f.statsOf pic)
  agent := (s.frameTold p (f.statsOf pic)).agent
  trunk := (s.frameTold p (f.statsOf pic)).trunk }

theorem framed_health (p : CamPort) (f : OpenFrame) (pic : Picture) (s : State) :
    (s.framed p f pic).health[p] = s.frameHealth p (f.statsOf pic) := getElem_set_same ..

/-- The tiles of a frame, rendition 0 before 1 (R30). -/
def completeBoth (p : CamPort) (pic : Picture) (s : State) : State := completeTile p 1 pic (completeTile p 0 pic s)

/-- A good frame end before the survey's count. -/
def State.lensed (s : State) (p : CamPort) (f : OpenFrame) (pic : Picture) : State :=
  lensEvent p (s.health[p]).lens (completeBoth p pic (s.framed p f pic))

theorem frameTaken_framed (p : CamPort) (f : OpenFrame) (pic : Picture) (s : State) :
    frameTaken p f pic s = completeBoth p pic (s.framed p f pic) := by
  obtain ⟨agent, trunk⟩ := frameTold_congr (s := s)
    (u := State.withSums p (gather pic.luma f.width f.height)
      { s with cams := s.cams.set p ((s.cams[p]).took f s.nodeTime) })
    ⟨rfl, rfl, rfl, rfl, rfl⟩ rfl rfl rfl rfl p (f.statsOf pic)
  have taken : takeFrame p (f.statsOf pic) ((endGood p f s).withSums p (gather pic.luma f.width f.height))
      = s.framed p f pic := by
    rw [endGood_eq, takeFrame_eq, agent, trunk]
    rfl
  exact congrArg (completeBoth p pic) taken

theorem goodEnd_lensed (p : CamPort) (f : OpenFrame) (pic : Picture) (s : State) : goodEnd p f pic s =
    if (s.health[p]).relearnHold && !((surveyCount p (s.lensed p f pic)).health[p]).relearnHold then
      reevaluateDemand p (surveyCount p (s.lensed p f pic)) else surveyCount p (s.lensed p f pic) := by
  rw [goodEnd_eq, frameTaken_framed]
  rfl

theorem surveyCount_other (other : s.survey.port ≠ some p) : surveyCount p s = s := by
  unfold surveyCount State.surveyPhaseOf
  rw [if_neg other]

/-! ### The tiles of a frame -/

/-- The parts that the tiles of a frame change. -/
def tileParts : List Part := [.store, .engine, .alarm, .selection, .comp, .trunk]

theorem sameBut_completeBoth (p : CamPort) (pic : Picture) (s : State) : SameBut tileParts s (completeBoth p pic s) :=
  (sameBut_iff_mask _ _ _).mpr (by
    unfold completeBoth
    rw [mask_completeTile, mask_completeTile] <;> decide)

theorem completeBoth_still (still : ∀ r : Fin 2, s.engine.productions[planOf p r] = none) (pic : Picture) :
    completeBoth p pic s = s := by
  rw [completeBoth, completeTile_none (still 0), completeTile_none (still 1)]

theorem lensEvent_keeps (p : CamPort) (before : LensCondition) (s : State) :
    SameBut [.store, .agent, .trunk] s (lensEvent p before s) := by
  rw [lensEvent_eq (.refl s) rfl rfl]
  exact (sameBut_iff_mask _ _ _).mpr rfl

theorem lensed_keeps (p : CamPort) (f : OpenFrame) (pic : Picture) (s : State) :
    SameBut (.agent :: tileParts) (s.framed p f pic) (s.lensed p f pic) :=
  ((sameBut_completeBoth p pic _).mono (by decide)).trans ((lensEvent_keeps p _ _).mono (by decide))

/-- A good frame end in LOCKED is the whole work of a taken frame. -/
theorem exec_goodEnd (locked : (s.cams[p]).link = .locked) (frame : (s.cams[p]).openFrame = some f)
    (good : f.goodWith pic = true) : exec (.frameEnd p pic) s = .next (goodEnd p f pic s) := by
  have listens : (s.cams[p]).listens = true := (listens_iff _).mpr (.inr locked)
  rw [exec_frameEnd, frameEnd_of_open frame listens, if_pos good, if_pos locked]

/-- A frame that neither the survey nor a relearn hold has to do with. -/
theorem exec_takesFrame (takes : s.takesFrame p f pic) : exec (.frameEnd p pic) s = .next (s.lensed p f pic) := by
  obtain ⟨locked, frame, good, other, free⟩ := takes
  have survey := lensed_keeps p f pic s .survey (by decide)
  have counts := goodEnd_lensed p f pic s
  generalize s.lensed p f pic = v at survey counts ⊢
  have same : surveyCount p v = v := surveyCount_other fun h => other ((congrArg Survey.port survey).trans h)
  rw [exec_goodEnd locked frame good, counts, same, free, Bool.false_and, if_neg Bool.false_ne_true]

end

end Sys2Proof.Machine
end

section
/-! PROOF. What a taken frame leaves of its port's record, and what it tells (R63 to R68, R77, R78). -/

namespace Sys2Proof.Machine

section
variable {s t u : State} {p : CamPort} {f : OpenFrame} {pic : Picture} {st : FrameStats} {h : Health}

/-! ### The runs and the sample count (R63 to R66) -/

theorem dark_iff (st : FrameStats) (level : Nat) : st.dark level = true ↔ ∀ z : ZoneNo, st.mean[z] < level := by
  unfold FrameStats.dark
  rw [List.all_eq_true]
  constructor
  · intro all z
    exact of_decide_eq_true (all _ (Vector.mem_toList_iff.mpr (Vector.getElem_mem z.isLt)))
  · intro all m mem
    obtain ⟨i, lt, rfl⟩ := Vector.mem_iff_getElem.mp (Vector.mem_toList_iff.mp mem)
    exact decide_eq_true (all ⟨i, lt⟩)

theorem alike_iff (h : Health) (st : FrameStats) :
    h.alike st = true ↔ st.isRepeat = true ∨ h.prevSignature = some st.signature := by
  simp [Health.alike]

/-- The runs of a taken frame (R63 to R65). -/
theorem runsAfter_eq (s : State) (p : CamPort) (st : FrameStats) :
    let h := s.health[p]
    let same := if st.isRepeat = true ∨ h.prevSignature = some st.signature then min 25 (h.sameRun + 1) else 0
    let dark := if ∀ z : ZoneNo, st.mean[z] < (s.tables.lensParams[p]).darkLevel then min 10 (h.darkRun + 1) else 0
    s.runsAfter p st = { h with
      sameRun := same, darkRun := dark, prevSignature := some st.signature,
      picture := if same = 25 then .frozen else if dark = 10 then .dark else .live } := by
  intro h same dark
  have alike : (if h.alike st then min 25 (h.sameRun + 1) else 0) = same := if_congr (alike_iff h st) rfl rfl
  have shade : (if st.dark (s.tables.lensParams[p]).darkLevel then min 10 (h.darkRun + 1) else 0) = dark :=
    if_congr (dark_iff st _) rfl rfl
  unfold State.runsAfter Health.runs pictureFrom
  dsimp only
  rw [show s.health[p] = h from rfl, alike, shade]

theorem surveyPhaseOf_other (other : s.survey.port ≠ some p) : s.surveyPhaseOf p = .idle := if_neg other

theorem sampleCountAfter_other (other : s.survey.port ≠ some p) : s.sampleCountAfter p =
    if (s.tables.cameraConfig[p]).interval ≤ (s.health[p]).sampleCount + 1 then (0, true)
    else ((s.health[p]).sampleCount + 1, false) := by
  unfold State.sampleCountAfter
  rw [surveyPhaseOf_other other]

theorem counted_other (other : s.survey.port ≠ some p) (st : FrameStats) : s.counted p st = { s.runsAfter p st with
    sampleCount := if (s.tables.cameraConfig[p]).interval ≤ (s.health[p]).sampleCount + 1 then 0
      else (s.health[p]).sampleCount + 1 } := by
  rw [State.counted, sampleCountAfter_other other]
  split <;> rfl

theorem samples_other (other : s.survey.port ≠ some p) : s.samples p = true ↔
    (s.tables.cameraConfig[p]).interval ≤ (s.health[p]).sampleCount + 1 := by
  rw [State.samples, sampleCountAfter_other other]
  split
  next le => exact iff_of_true rfl le
  next lt => exact iff_of_false Bool.false_ne_true lt

/-! ### Usable samples (R67) -/

theorem litCount_eq (st : FrameStats) (e : LensParams) : st.litCount e
    = ((List.finRange 48).filter fun z => decide (e.dmin ≤ st.mean[z] ∧ st.mean[z] ≤ e.dmax)).length := by
  have means : st.mean.toList = (List.finRange 48).map fun z => st.mean[z] := by
    apply List.ext_getElem <;> simp
  unfold FrameStats.litCount
  rw [means, List.filter_map, List.length_map]
  refine congrArg List.length (List.filter_congr fun z _ => ?_)
  simp [LensParams.lit]

theorem finds_iff (s : State) (p : CamPort) (st : FrameStats) (h : Health) :
    s.finds p st h = true ↔ s.usableSample p h.picture st := by
  have burst : (s.surveyPhaseOf p == .burst) = true ↔ s.survey.port = some p ∧ s.survey.phase = .burst := by
    rw [beq_iff_eq, State.surveyPhaseOf]
    split
    next port => exact ⟨fun phase => ⟨port, phase⟩, And.right⟩
    next port => exact iff_of_false (by decide) fun both => port both.1
  unfold State.finds Health.usable motionOk State.usableSample
  rw [litCount_eq]
  simp only [Bool.and_eq_true, Bool.or_eq_true, decide_eq_true_eq, beq_iff_eq, Bool.not_eq_true', and_assoc, or_assoc]
  rw [← beq_iff_eq (a := s.surveyPhaseOf p), burst]

/-! ### The record (R62 to R66) -/

/-- A frame that is no sample, or finds NO_REFERENCE, moves the runs and the sample count alone. -/
theorem frameHealth_counted (quiet : s.samples p = false ∨ (s.health[p]).lens = .noReference) :
    s.frameHealth p st = s.counted p st ∧ s.completes p st = false := by
  have lens : (s.counted p st).lens = (s.health[p]).lens := rfl
  unfold State.frameHealth State.completes State.sampled State.finishes
  rw [lens]
  rcases quiet with other | absent
  · rw [other]
    exact ⟨rfl, rfl⟩
  · rw [absent]
    exact ⟨ite_self _, Bool.and_false _⟩

/-- What a usable sample of a LEARNING port moves: the scratch of its zones and the progress (R81). -/
theorem learned_moves (h : Health) (e : LensParams) (st : FrameStats) :
    ∃ zones, h.learned e st = { h with zones := zones, progress := h.progress + 1 } := ⟨_, rfl⟩

/-- A sample leaves the runs and the picture. -/
theorem sampled_keeps (s : State) (p : CamPort) (st : FrameStats) (h : Health) :
    (s.sampled p st h).sameRun = h.sameRun ∧ (s.sampled p st h).darkRun = h.darkRun
      ∧ (s.sampled p st h).picture = h.picture ∧ (s.sampled p st h).sampleCount = h.sampleCount := by
  obtain ⟨zones, learned⟩ := learned_moves h s.tables.lensParams[p] st
  unfold State.sampled
  rw [learned]
  cases h.lens with
  | noReference => exact ⟨rfl, rfl, rfl, rfl⟩
  | learning =>
    dsimp only
    split
    · split <;> exact ⟨rfl, rfl, rfl, rfl⟩
    · exact ⟨rfl, rfl, rfl, rfl⟩
  | unrated | clean | smeared | blocked =>
    dsimp only
    split <;> exact ⟨rfl, rfl, rfl, rfl⟩

theorem frameHealth_keeps (s : State) (p : CamPort) (st : FrameStats) :
    (s.frameHealth p st).sameRun = (s.runsAfter p st).sameRun ∧ (s.frameHealth p st).darkRun = (s.runsAfter p st).darkRun
      ∧ (s.frameHealth p st).picture = (s.runsAfter p st).picture
      ∧ (s.frameHealth p st).sampleCount = (s.sampleCountAfter p).1 := by
  unfold State.frameHealth
  split
  · exact sampled_keeps s p st (s.counted p st)
  · exact ⟨rfl, rfl, rfl, rfl⟩

/-- A frame completes the learning when it ends it. -/
theorem completes_iff (s : State) (p : CamPort) (st : FrameStats) :
    s.completes p st = true ↔ (s.health[p]).lens = .learning ∧ (s.frameHealth p st).lens ≠ .learning := by
  have lens : (s.counted p st).lens = (s.health[p]).lens := rfl
  unfold State.completes State.frameHealth
  cases samples : s.samples p with
  | false => exact iff_of_false Bool.false_ne_true fun both => both.2 both.1
  | true =>
    rw [Bool.true_and, if_pos rfl, State.finishes, ← lens]
    unfold State.sampled
    generalize s.counted p st = k
    obtain ⟨zones, learned⟩ := learned_moves k s.tables.lensParams[p] st
    rw [learned]
    cases learns : k.lens with
    | learning =>
      cases s.finds p st k with
      | false => exact iff_of_false Bool.false_ne_true fun both => both.2 learns
      | true =>
        by_cases last : 32 ≤ k.progress + 1
        · rw [decide_eq_true last, if_pos rfl, if_pos last]
          exact iff_of_true rfl ⟨rfl, LensCondition.noConfusion⟩
        · rw [decide_eq_false last, if_pos rfl, if_neg last, Bool.and_false]
          exact iff_of_false Bool.false_ne_true fun both => both.2 rfl
    | noReference | unrated | clean | smeared | blocked => exact iff_of_false Bool.false_ne_true fun both => LensCondition.noConfusion both.1

/-! ### A frame end (R30, R62, R77) -/

theorem lensed_health (p : CamPort) (f : OpenFrame) (pic : Picture) (s : State) :
    (s.lensed p f pic).health = s.health.set p (s.frameHealth p (f.statsOf pic)) :=
  ((lensed_keeps p f pic s) .health (by decide)).symm

theorem lensed_cams (p : CamPort) (f : OpenFrame) (pic : Picture) (s : State) :
    (s.lensed p f pic).cams = s.cams.set p ((s.cams[p]).took f s.nodeTime) :=
  ((lensed_keeps p f pic s) .cams (by decide)).symm

theorem lensed_tables (p : CamPort) (f : OpenFrame) (pic : Picture) (s : State) :
    (s.lensed p f pic).tables = s.frameTables p (f.statsOf pic) :=
  ((lensed_keeps p f pic s) .tables (by decide)).symm

theorem sameNews_framed (p : CamPort) (f : OpenFrame) (pic : Picture) (s : State) :
    SameNews (s.frameTold p (f.statsOf pic)) (s.framed p f pic) := by
  have same := sameBut_frameTold s p (f.statsOf pic)
  exact ⟨rfl, rfl, (same .controllerSide (by decide)).symm, (same .straps (by decide)).symm, (same .swapTies (by decide)).symm⟩

/-- What a taken frame without a tile tells: LENS_CHANGE behind PICTURE_CHANGE and LEARN_DONE (R77). -/
def State.frameLensTold (s : State) (p : CamPort) (st : FrameStats) : State :=
  let g := s.frameHealth p st
  let before := (s.health[p]).lens
  if g.lens = before then s.frameTold p st
  else addCause .lensChange p.val (s.lensAsked p before g.lens g.coverage).2 (s.frameTold p st)

/-- A frame end with no tile in production. -/
theorem lensed_still (still : ∀ r : Fin 2, s.engine.productions[planOf p r] = none) : s.lensed p f pic = { s.framed p f pic with
    store := (s.lensAsked p (s.health[p]).lens (s.frameHealth p (f.statsOf pic)).lens
      (s.frameHealth p (f.statsOf pic)).coverage).1.store
    agent := (s.frameLensTold p (f.statsOf pic)).agent
    trunk := (s.frameLensTold p (f.statsOf pic)).trunk } := by
  have same := sameBut_frameTold s p (f.statsOf pic)
  have none : completeBoth p pic (s.framed p f pic) = s.framed p f pic :=
    completeBoth_still (s := s.framed p f pic) still pic
  have event := lensEvent_eq (sameNews_framed p f pic s) (same .store (by decide)) (same .nodeTime (by decide)) p (s.health[p]).lens
  obtain ⟨slots, flag⟩ := lensAsked_alike (s := s) (same .store (by decide)).symm (same .nodeTime (by decide)).symm
    (same .straps (by decide)).symm p (s.health[p]).lens (s.frameHealth p (f.statsOf pic)).lens
    (s.frameHealth p (f.statsOf pic)).coverage
  rw [framed_health, slots, State.lensTold, flag] at event
  rw [State.lensed, none, event]
  rfl

/-- Where the lens condition stands, nothing is asked of the store. -/
theorem frameLensTold_self (stands : (s.frameHealth p st).lens = (s.health[p]).lens) :
    s.frameLensTold p st = s.frameTold p st := if_pos stands

theorem taken_stats (locked : (s.cams[p]).link = .locked) (frame : (s.cams[p]).openFrame = some f) (good : f.goodWith pic = true) :
    s.taken p pic = some (f.statsOf pic) := by
  unfold State.taken
  rw [frame]
  exact if_pos ⟨locked, good⟩

/-- A row that stands for a frame end is that frame end where its test holds, and nothing elsewhere. -/
theorem frameEndIf_eq (locked : (s.cams[p]).link = .locked) (frame : (s.cams[p]).openFrame = some f)
    (good : f.goodWith pic = true) (test : FrameStats → Bool) :
    frameEndIf p pic test s = if test (f.statsOf pic) then frameEnd p pic s else s := by
  unfold frameEndIf
  rw [taken_stats locked frame good]

theorem frameEndIf_runs (locked : (s.cams[p]).link = .locked) (frame : (s.cams[p]).openFrame = some f)
    (good : f.goodWith pic = true) {test : FrameStats → Bool} (holds : test (f.statsOf pic) = true)
    {i : Instr} (row : exec i s = .next (frameEndIf p pic test s)) : exec i s = exec (.frameEnd p pic) s := by
  rw [row, frameEndIf_eq locked frame good, if_pos holds]
  rfl

theorem frameEndIf_idle (locked : (s.cams[p]).link = .locked) (frame : (s.cams[p]).openFrame = some f)
    (good : f.goodWith pic = true) {test : FrameStats → Bool} (fails : test (f.statsOf pic) = false)
    {i : Instr} (row : exec i s = .next (frameEndIf p pic test s)) : exec i s = .next s := by
  rw [row, frameEndIf_eq locked frame good, fails]
  rfl

end

end Sys2Proof.Machine
end

section
/-! PROOF. The zones of a frame, measured (R33 to R35). -/

namespace Sys2Proof.Machine

section
variable {f : OpenFrame} {pic : Picture}

/-- The lines of a table of samples. -/
def grid (w h : Nat) (g : Nat → Nat → Byte) : List (List Byte) := (List.range h).map fun j => (List.range w).map fun i => g i j

/-- The sum of a number over a rectangle of places. -/
def sumOver (w h : Nat) (g : Nat → Nat → Nat) : Nat := ((List.range h).map fun j => ((List.range w).map fun i => g i j).sum).sum

theorem take_drop_eq_range {α : Type} (l : List α) (d : α) {a k : Nat} (h : a + k ≤ l.length) :
    (l.drop a).take k = (List.range k).map fun i => l.getD (a + i) d := by
  rw [take_drop_eq_map_getD l d h, List.range'_eq_map_range, List.map_map]
  rfl

theorem foldl_sum {α : Type} (g : α → Nat) (l : List α) : l.foldl (fun t a => t + g a) 0 = (l.map g).sum := by
  rw [List.sum_eq_foldl_nat, List.foldl_map]

/-- Each place of a line with the next one. -/
theorem zipWith_next {α β : Type} (g : α → α → β) (a : Nat → α) (n : Nat) :
    List.zipWith g ((List.range n).map a) (((List.range n).map a).drop 1) = (List.range (n - 1)).map fun i => g (a i) (a (i + 1)) := by
  apply List.ext_getElem
  · simp
  · intro i _ _
    simp [Nat.add_comm]

theorem zipWith_range {α β : Type} (g : α → α → β) (a b : Nat → α) (n : Nat) :
    List.zipWith g ((List.range n).map a) ((List.range n).map b) = (List.range n).map fun i => g (a i) (b i) := by
  apply List.ext_getElem <;> simp

theorem distance_eq (a b : Byte) : distance a b = (b.toNat - a.toNat) + (a.toNat - b.toNat) := by
  unfold distance
  split <;> omega

/-- The sums of a table of samples: luma, and the gradient over the pairs of neighbours (R34). -/
theorem zoneSums_grid (w h : Nat) (g : Nat → Nat → Byte) : zoneSums (grid w h g) =
    ⟨sumOver w h fun i j => (g i j).toNat,
      (sumOver (w - 1) h fun i j => ((g (i + 1) j).toNat - (g i j).toNat) + ((g i j).toNat - (g (i + 1) j).toNat))
        + sumOver w (h - 1) fun i j => ((g i (j + 1)).toNat - (g i j).toNat) + ((g i j).toNat - (g i (j + 1)).toNat)⟩ := by
  have luma (j : Nat) : sumBytes ((List.range w).map fun i => g i j) = ((List.range w).map fun i => (g i j).toNat).sum := by
    rw [sumBytes, foldl_sum, List.map_map]
    rfl
  have along (j : Nat) : lineGradient ((List.range w).map fun i => g i j)
      = ((List.range (w - 1)).map fun i =>
        ((g (i + 1) j).toNat - (g i j).toNat) + ((g i j).toNat - (g (i + 1) j).toNat)).sum := by
    rw [lineGradient, zipWith_next distance (fun i => g i j), ← List.sum_eq_foldl_nat]
    simp only [distance_eq]
  have down (j : Nat) : (List.zipWith distance ((List.range w).map fun i => g i j) ((List.range w).map fun i => g i (j + 1))).foldl
      (· + ·) 0 = ((List.range w).map fun i =>
        ((g i (j + 1)).toNat - (g i j).toNat) + ((g i j).toNat - (g i (j + 1)).toNat)).sum := by
    rw [zipWith_range, ← List.sum_eq_foldl_nat]
    simp only [distance_eq]
  unfold zoneSums columnGradient grid sumOver
  rw [foldl_sum, foldl_sum, List.map_map, List.map_map, zipWith_next, ← List.sum_eq_foldl_nat]
  simp only [Function.comp_def, luma, along, down]

/-! ### The zones of a frame (R33) -/

/-- The width of a zone. -/
def zoneWidth (w : Nat) (z : ZoneNo) : Nat := if z.val % 8 = 7 then w - 7 * (w / 8) else w / 8

/-- The height of a zone. -/
def zoneHeight (h : Nat) (z : ZoneNo) : Nat := if z.val / 8 = 5 then h - 5 * (h / 6) else h / 6

theorem zone_right (w : Nat) (z : ZoneNo) : z.val % 8 * (w / 8) + zoneWidth w z ≤ w := by
  have column : z.val % 8 < 8 := Nat.mod_lt _ (by decide)
  unfold zoneWidth
  generalize z.val % 8 = k at column ⊢
  interval_cases k <;> simp only [reduceIte, Nat.reduceEqDiff, if_false] <;> omega

theorem zone_bottom (h : Nat) (z : ZoneNo) : z.val / 8 * (h / 6) + zoneHeight h z ≤ h := by
  have line : z.val / 8 < 6 := Nat.div_lt_of_lt_mul z.isLt
  unfold zoneHeight
  generalize z.val / 8 = k at line ⊢
  interval_cases k <;> simp only [reduceIte, Nat.reduceEqDiff, if_false] <;> omega

/-- A zone is a table of the frame's samples. -/
theorem zoneLines_grid (good : f.goodWith pic = true) (z : ZoneNo) : zoneLines pic.luma f.width f.height z
    = grid (zoneWidth f.width z) (zoneHeight f.height z) fun i j =>
      byteAt (pic.luma.getD (z.val / 8 * (f.height / 6) + j) []) (z.val % 8 * (f.width / 8) + i) := by
  unfold OpenFrame.goodWith at good
  rw [Bool.and_eq_true, beq_iff_eq, List.all_eq_true] at good
  obtain ⟨lines, widths⟩ := good
  have bottom := zone_bottom f.height z
  have right := zone_right f.width z
  show ((pic.luma.drop (z.val / 8 * (f.height / 6))).take (zoneHeight f.height z)).map
    (fun l => (l.drop (z.val % 8 * (f.width / 8))).take (zoneWidth f.width z)) = _
  rw [take_drop_eq_range pic.luma [] (by rw [lines]; exact bottom), List.map_map, grid]
  refine List.map_congr_left fun j inside => ?_
  have below : z.val / 8 * (f.height / 6) + j < pic.luma.length := by
    rw [lines]
    exact Nat.lt_of_lt_of_le (Nat.add_lt_add_left (List.mem_range.mp inside) _) bottom
  have width : (pic.luma.getD (z.val / 8 * (f.height / 6) + j) []).length = f.width := by
    rw [List.getD_eq_getElem _ _ below]
    exact beq_iff_eq.mp (widths _ (List.getElem_mem below))
  exact take_drop_eq_range _ 0 (by rw [width]; exact right)

theorem sum_le {α : Type} (g : α → Nat) {b : Nat} (l : List α) (le : ∀ a, g a ≤ b) : (l.map g).sum ≤ l.length * b := by
  have each := List.sum_le_card_nsmul (l.map g) b fun x mem => by
    obtain ⟨a, -, rfl⟩ := List.mem_map.mp mem
    exact le a
  rwa [List.length_map] at each

theorem sumOver_le {g : Nat → Nat → Nat} {b : Nat} (le : ∀ i j, g i j ≤ b) (w h : Nat) : sumOver w h g ≤ w * h * b := by
  have line (j : Nat) : ((List.range w).map fun i => g i j).sum ≤ w * b := by
    have each := sum_le (fun i => g i j) (List.range w) fun i => le i j
    rwa [List.length_range] at each
  have all := sum_le (fun j => ((List.range w).map fun i => g i j).sum) (List.range h) line
  rw [List.length_range] at all
  calc sumOver w h g ≤ h * (w * b) := all
    _ = w * h * b := by ring

/-- R33 to R35. -/
theorem zonesAreMeasured : Claim.ZonesAreMeasured := by
  intro f pic good st y apart total
  have sums (z : ZoneNo) : (gather pic.luma f.width f.height)[z] = zoneSums (zoneLines pic.luma f.width f.height z) :=
    Vector.getElem_ofFn ..
  have mean (z : ZoneNo) : st.mean[z] = ((gather pic.luma f.width f.height)[z]).luma / zonePixels f.width f.height z :=
    Vector.getElem_ofFn ..
  have texture (z : ZoneNo) : st.texture[z]
      = min 4095 (16 * ((gather pic.luma f.width f.height)[z]).gradient / zonePixels f.width f.height z) :=
    Vector.getElem_ofFn ..
  have signature : st.signature = ((List.finRange 48).map fun z => st.mean[z] * 4096 + st.texture[z]).sum := foldl_sum ..
  have dark (z : ZoneNo) : st.mean[z] ≤ 255 := by
    rw [mean, sums, zoneLines_grid good, zoneSums_grid]
    refine Nat.div_le_of_le_mul (sumOver_le (fun i j => ?_) _ _)
    exact Nat.le_of_lt_succ (BitVec.isLt _)
  have flat (z : ZoneNo) : st.texture[z] ≤ 4095 := by
    rw [texture]
    exact Nat.min_le_left ..
  refine ⟨fun z => ?_, signature, ?_, rfl, rfl⟩
  · dsimp only
    rw [mean, texture, sums, zoneLines_grid good, zoneSums_grid]
    exact ⟨rfl, rfl⟩
  · rw [signature]
    have bound := sum_le (b := 255 * 4096 + 4095) (fun z => st.mean[z] * 4096 + st.texture[z]) (List.finRange 48)
      fun z => Nat.add_le_add (Nat.mul_le_mul_right _ (dark z)) (flat z)
    rwa [List.length_finRange] at bound

end

end Sys2Proof.Machine
end

section
/-! PROOF. Good frames and their runs (R6, R11, R33 to R35, R62 to R66). Settles O23. -/

namespace Sys2Proof.Machine

section
variable {s : State} {p : CamPort} {f : OpenFrame} {pic : Picture} {st : FrameStats}

/-- R6, R11, R62 to R66: the record moves by its runs and its sample count, and no lens event follows. -/
theorem aGoodFrameIsTaken : Claim.AGoodFrameIsTaken := by
  intro p f pic s takes first second quiet c h st counted same dark picture
  have still (r : Fin 2) : s.engine.productions[planOf p r] = none := by
    match r with
    | 0 => exact first
    | 1 => exact second
  have other := takes.2.2.2.1
  have runs := runsAfter_eq s p st
  dsimp only at runs
  obtain ⟨record, learns⟩ := frameHealth_counted (s := s) (p := p) (st := st) (by
    refine quiet.imp_left fun short => Bool.eq_false_of_not_eq_true fun sample => ?_
    exact Nat.not_le.mpr short ((samples_other other).mp sample))
  have stands : (s.frameHealth p st).lens = (s.health[p]).lens := by
    rw [record, State.counted, runs]
  have told : s.frameLensTold p st = s.pictureTold p st := by
    rw [frameLensTold_self stands, State.frameTold, learns]
    rfl
  have adds : Adds (if picture = h.picture then [] else [(.pictureChange, p.val)]) s (s.pictureTold p st) := by
    have own : (s.runsAfter p st).picture = picture := by
      rw [runs]
      rfl
    rw [State.pictureTold, own]
    split
    · exact ⟨by rw [addTogether_nil], by rw [addTogether_nil]⟩
    · exact ⟨by rw [addTogether_single], by rw [addTogether_single]⟩
  have tables : s.frameTables p st = s.tables := by
    rw [State.frameTables, learns]
    rfl
  have whole := lensed_still (p := p) (f := f) (pic := pic) still
  rw [show f.statsOf pic = st from rfl, stands, lensAsked_self, told] at whole
  have health : s.frameHealth p st = { h with
      sameRun := same, darkRun := dark, prevSignature := some st.signature, picture := picture,
      sampleCount := if (s.tables.cameraConfig[p]).interval ≤ h.sampleCount + 1 then 0 else h.sampleCount + 1 } := by
    rw [record, counted_other other, runs]
    rfl
  refine ⟨_, exec_takesFrame takes, lensed_cams p f pic s, ?_, ?_, ?_, ?_⟩
  · rw [lensed_health, show f.statsOf pic = st from rfl, health]
  · rw [whole]
    rfl
  · rw [whole]
    exact adds
  · rw [whole, State.framed, show f.statsOf pic = st from rfl, tables]
    exact (sameBut_iff_mask _ _ _).mpr rfl

/-- R63 to R65: a run that becomes full shows in the picture of the frame end that fills it. -/
theorem aFullRunFreezesOrDarkensThePicture : Claim.AFullRunFreezesOrDarkensThePicture := by
  intro p f pic s takes h st alike isDark
  have run := exec_takesFrame takes
  obtain ⟨locked, frame, good, -⟩ := takes
  have runs := runsAfter_eq s p st
  dsimp only at runs
  obtain ⟨sameRun, darkRun, picture, -⟩ := frameHealth_keeps s p st
  have record : (s.lensed p f pic).health[p] = s.frameHealth p st := by
    rw [lensed_health]
    exact getElem_set_same ..
  refine ⟨fun is full => ?_, fun is full => ?_, fun fails => ?_, fun fails => ?_⟩
  · have becomes : (s.runsAfter p st).sameRun = 25 := by
      rw [runs, show (s.health[p]).sameRun = 24 from full]
      exact if_pos is
    refine ⟨_, (frameEndIf_runs locked frame good ?_ rfl).trans run, run, ?_, ?_⟩
    · exact decide_eq_true ⟨by rw [show (s.health[p]).sameRun = 24 from full]; decide, becomes⟩
    · rw [record, sameRun, becomes]
    · rw [record, picture]
      rw [runs] at becomes ⊢
      exact if_pos becomes
  · have becomes : (s.runsAfter p st).darkRun = 10 := by
      rw [runs, show (s.health[p]).darkRun = 9 from full]
      exact if_pos is
    refine ⟨_, (frameEndIf_runs locked frame good ?_ rfl).trans run, run, ?_, ?_⟩
    · exact decide_eq_true ⟨by rw [show (s.health[p]).darkRun = 9 from full]; decide, becomes⟩
    · rw [record, darkRun, becomes]
    · have frozen : (s.runsAfter p st).sameRun = 25 ↔ alike ∧ 24 ≤ h.sameRun := by
        rw [runs]
        show (if alike then min 25 (h.sameRun + 1) else 0) = 25 ↔ _
        by_cases is : alike
        · rw [if_pos is]
          constructor
          · intro full
            exact ⟨is, by omega⟩
          · rintro ⟨-, full⟩
            omega
        · rw [if_neg is]
          exact iff_of_false (by decide) fun both => is both.1
      rw [record, picture, ← if_congr frozen rfl rfl]
      rw [runs] at becomes ⊢
      exact if_congr Iff.rfl rfl (if_pos becomes)
  · refine frameEndIf_idle locked frame good ?_ rfl
    refine decide_eq_false ?_
    rintro ⟨open_, full⟩
    rw [runs] at full
    have full : (if alike then min 25 (h.sameRun + 1) else 0) = 25 := full
    rcases fails with apart | short
    · rw [if_neg apart] at full
      exact absurd full (by decide)
    · split at full <;> omega
  · refine frameEndIf_idle locked frame good ?_ rfl
    refine decide_eq_false ?_
    rintro ⟨open_, full⟩
    rw [runs] at full
    have full : (if isDark then min 10 (h.darkRun + 1) else 0) = 10 := full
    rcases fails with bright | short
    · rw [if_neg bright] at full
      exact absurd full (by decide)
    · split at full <;> omega

/-- Settles O23. -/
theorem aGoodFrameFeedsTheRuns : Obligations.AGoodFrameFeedsTheRuns :=
  ⟨aGoodFrameIsTaken, zonesAreMeasured, aFullRunFreezesOrDarkensThePicture⟩

end

end Sys2Proof.Machine
end

section
/-! PROOF. Samples, scored or counted (R66 to R75). Settles O25. -/

namespace Sys2Proof.Machine

section
variable {s : State} {p : CamPort} {f : OpenFrame} {pic : Picture} {st : FrameStats}

/-- A sample of a port that the survey has not taken begins the count again, and leaves what the lens condition says. -/
theorem frameHealth_sample (other : s.survey.port ≠ some p)
    (sample : (s.tables.cameraConfig[p]).interval ≤ (s.health[p]).sampleCount + 1) (st : FrameStats) :
    s.frameHealth p st = s.sampled p st { s.runsAfter p st with sampleCount := 0 } := by
  rw [State.frameHealth, if_pos ((samples_other other).mpr sample), counted_other other, if_pos sample]

theorem finds_runs (s : State) (p : CamPort) (st : FrameStats) :
    s.finds p st { s.runsAfter p st with sampleCount := 0 } = true ↔ s.usableSample p (s.runsAfter p st).picture st :=
  finds_iff ..

theorem completes_of_lens (learns : (s.health[p]).lens ≠ .learning) (st : FrameStats) : s.completes p st = false :=
  Bool.eq_false_of_not_eq_true fun completes => learns ((completes_iff s p st).mp completes).1

theorem frameTables_of_incomplete (learns : s.completes p st = false) : s.frameTables p st = s.tables := by
  rw [State.frameTables, learns]
  rfl

theorem frameTold_of_incomplete (learns : s.completes p st = false) : s.frameTold p st = s.pictureTold p st := by
  rw [State.frameTold, learns]
  rfl

/-! ### Scores (R70 to R74) -/

theorem scoreZone_eq (e : LensParams) (mean texture : Nat) (reference : Option Nat) (x : Zone) :
    scoreZone e mean texture reference x = match reference with
      | none => x
      | some r =>
        if e.dmin ≤ mean ∧ mean ≤ e.dmax ∧ e.minTexture ≤ r then
          let q := min 255 (256 * texture / r)
          let score := if q < e.qLow then min 15 (x.score + 1) else if q < e.qHigh then x.score else x.score - 1
          { x with
            score := score
            obscured := if e.sOn ≤ score then true else if score ≤ e.sOff then false else x.obscured }
        else x := by
  cases reference with
  | none => rfl
  | some r =>
    have test : (e.lit mean && decide (e.minTexture ≤ r)) = true ↔ e.dmin ≤ mean ∧ mean ≤ e.dmax ∧ e.minTexture ≤ r := by
      simp [LensParams.lit, and_assoc]
    exact if_congr test rfl rfl

theorem rateFromClean_rated (e : LensParams) (c : Nat) :
    rateFromClean e c = .clean ∨ rateFromClean e c = .smeared ∨ rateFromClean e c = .blocked := by
  unfold rateFromClean
  split
  · exact .inr (.inr rfl)
  · split
    · exact .inr (.inl rfl)
    · exact .inl rfl

theorem sampled_scored {h : Health} (lens : h.lens = .unrated ∨ h.lens = .clean ∨ h.lens = .smeared ∨ h.lens = .blocked)
    (usable : s.finds p st h = true) :
    s.sampled p st h = h.scored s.tables.lensParams[p] st s.tables.reference s.tables.weight p := by
  unfold State.sampled
  rcases lens with is | is | is | is <;> rw [is] <;> exact if_pos usable

theorem sampled_unusable {h : Health} (lens : h.lens = .unrated ∨ h.lens = .clean ∨ h.lens = .smeared ∨ h.lens = .blocked)
    (useless : s.finds p st h = false) : s.sampled p st h = h.unusable := by
  unfold State.sampled
  rcases lens with is | is | is | is <;> rw [is] <;> exact if_neg (by rw [useless]; exact Bool.false_ne_true)

/-- A sample that moves nothing (R66, R81). -/
theorem sampled_stands {h : Health} (quiet : h.lens = .noReference ∨ (h.lens = .learning ∧ s.finds p st h = false)) :
    s.sampled p st h = h := by
  unfold State.sampled
  rcases quiet with absent | ⟨learning, idle⟩
  · rw [absent]
  · rw [idle]
    cases is : h.lens with
    | learning => rfl
    | noReference | unrated | clean | smeared | blocked => cases is.symm.trans learning

/-- An unusable sample of a rated port, or of an UNRATED one (R68). -/
theorem unusable_eq (k : Health) : k.unusable = { k with
    unusableRun := min 300 (k.unusableRun + 1)
    lens := if (k.lens = .clean ∨ k.lens = .smeared ∨ k.lens = .blocked) ∧ 299 ≤ k.unusableRun then .unrated
      else k.lens } := by
  have full : min 300 (k.unusableRun + 1) = 300 ↔ 299 ≤ k.unusableRun := by omega
  have rates : k.lens.rated = true ↔ k.lens = .clean ∨ k.lens = .smeared ∨ k.lens = .blocked := by
    cases k.lens <;> simp [LensCondition.rated]
  exact congrArg (fun l => { k with unusableRun := min 300 (k.unusableRun + 1), lens := l })
    (if_congr ((and_congr full rates).trans And.comm) rfl rfl)

/-- A sample row is the frame end of a sample. -/
theorem exec_sample (takes : s.takesFrame p f pic)
    (sample : (s.tables.cameraConfig[p]).interval ≤ (s.health[p]).sampleCount + 1) :
    exec (.sample p pic) s = .next (s.lensed p f pic) := by
  have run := exec_takesFrame takes
  obtain ⟨locked, frame, good, other, -⟩ := takes
  exact (frameEndIf_runs locked frame good ((samples_other other).mpr sample) rfl).trans run

/-- R66 to R74, R77, R78: the record is scored, and its lens event follows. -/
theorem aUsableSampleIsScored : Claim.AUsableSampleIsScored := by
  intro p f pic s takes h e st runs sample usable rating zones c fromClean start lens worse shown asked told
  have other := takes.2.2.2.1
  have live : runs.picture = .live := usable.1
  have ratings : start = .clean ∨ start = .smeared ∨ start = .blocked := by
    rcases rating with is | is
    · rw [show start = fromClean h.coverage from if_pos is]
      exact rateFromClean_rated e h.coverage
    · have judged : start = h.lens := if_neg (by rcases is with is | is | is <;> rw [is] <;> exact LensCondition.noConfusion)
      rw [judged]
      exact is
  have record : s.frameHealth p st = { runs with
      sampleCount := 0, unusableRun := 0, zones := zones, coverage := c, lens := lens } := by
    have scores : (Vector.ofFn fun z : ZoneNo => scoreZone e st.mean[z] st.texture[z] s.tables.reference[zoneEntry p z] h.zones[z])
        = zones := congrArg Vector.ofFn (funext fun z => scoreZone_eq ..)
    have covers : coverageOf s.tables.weight p zones = c := coverageOf_eq_sum ..
    have moves : moveLens e c start = lens := (moveLens_eq e c start).trans (rated_moves ratings e c)
    rw [frameHealth_sample other sample, sampled_scored (by exact rating) ((finds_runs s p st).mpr usable)]
    unfold Health.scored
    dsimp only
    rw [show (s.runsAfter p st).zones = h.zones from rfl, scores, covers]
    exact congrArg (fun l => ({ runs with
      sampleCount := 0, unusableRun := 0, zones := zones, coverage := c, lens := l } : Health)) moves
  have learns : s.completes p st = false := completes_of_lens (by
    show h.lens ≠ _
    rcases rating with is | is | is | is <;> rw [is] <;> exact LensCondition.noConfusion) st
  have shows : s.pictureTold p st = shown := if_congr (by
    show runs.picture = h.picture ↔ _
    rw [live]
    exact eq_comm) rfl rfl
  have asks : s.lensAsked p h.lens lens c = asked := if_congr (worsens_iff.trans Or.comm) rfl rfl
  have tells : s.frameLensTold p st = told := by
    unfold State.frameLensTold
    dsimp only
    rw [record, frameTold_of_incomplete learns, shows]
    exact congrArg (fun b => if lens = h.lens then shown else addCause .lensChange p.val b shown) (congrArg Prod.snd asks)
  refine ⟨_, exec_sample takes sample, exec_takesFrame takes, ?_, fun still => ?_⟩
  · rw [lensed_health]
    exact congrArg (fun k => s.health.set p k) record
  · have whole := lensed_still (p := p) (f := f) (pic := pic) still
    rw [show f.statsOf pic = st from rfl, tells, record] at whole
    dsimp only at whole
    rw [show (s.health[p]).lens = h.lens from rfl, asks] at whole
    rw [whole]
    refine ⟨rfl, rfl, rfl, ?_⟩
    rw [State.framed, show f.statsOf pic = st from rfl, frameTables_of_incomplete learns]
    exact (sameBut_iff_mask _ _ _).mpr rfl

/-- R66, R68, R75, R81: an unusable sample moves the run, and a sample that finds no reference nothing. -/
theorem anUnusableSampleIsCounted : Claim.AnUnusableSampleIsCounted := by
  intro p f pic s takes h runs rated sample
  have row := exec_sample takes sample
  have run := exec_takesFrame takes
  have other := takes.2.2.2.1
  have whole := frameHealth_sample other sample (f.statsOf pic)
  have health := lensed_health p f pic s
  have lens : runs.lens = h.lens := rfl
  have count : runs.unusableRun = h.unusableRun := rfl
  have rows (useless : ¬ s.usableSample p runs.picture (f.statsOf pic)) : s.usableAfter p (f.statsOf pic) = false
      ∧ s.finds p (f.statsOf pic) { runs with sampleCount := 0 } = false :=
    ⟨Bool.eq_false_of_not_eq_true fun found => useless ((finds_iff s p (f.statsOf pic) runs).mp found),
      Bool.eq_false_of_not_eq_true fun found => useless ((finds_runs ..).mp found)⟩
  have samples : s.samples p = true := (samples_other other).mpr sample
  obtain ⟨locked, frame, good, -⟩ := takes
  rw [show s.runsAfter p (f.statsOf pic) = runs from rfl] at whole
  refine ⟨fun rating useless small => ⟨_, row, run, ?_, fun last => ?_, fun other => ?_⟩, fun quiet => ⟨_, row, run, ?_⟩⟩
  · obtain ⟨-, idle⟩ := rows useless
    generalize runs = k at whole lens count idle ⊢
    rw [health, whole, sampled_unusable (by rw [lens]; exact rating.symm) idle, unusable_eq]
    dsimp only
    rw [lens, count]
  · obtain ⟨idle, -⟩ := rows useless
    refine (frameEndIf_runs locked frame good ?_ rfl).trans run
    have rates : ((s.health[p]).lens.rated || (s.health[p]).lens == .unrated) = true := by
      rcases rating with is | is
      · rcases is with is | is | is <;> rw [show (s.health[p]).lens = _ from is] <;> rfl
      · rw [show (s.health[p]).lens = _ from is]
        rfl
    rw [samples, show (s.health[p]).unusableRun = 299 from last, idle, rates]
    rfl
  · refine frameEndIf_idle locked frame good ?_ rfl
    rw [show ((s.health[p]).unusableRun == 299) = false from beq_eq_false_iff_ne.mpr other, Bool.and_false, Bool.false_and,
      Bool.false_and]
  · rw [health, whole, sampled_stands (quiet.imp_right fun both => ⟨both.1, (rows both.2).2⟩)]

/-- Settles O25. -/
theorem samplesAreScoredOrCounted : Obligations.SamplesAreScoredOrCounted :=
  ⟨aUsableSampleIsScored, anUnusableSampleIsCounted⟩

end

end Sys2Proof.Machine
end

section
/-! PROOF. What the tiles of a frame read: not the camera ports, and of the health records what their stamp takes
(R30, R36, R44, R135). -/

namespace Sys2Proof.Machine

section
variable {s t u : State} {p : CamPort} {f : OpenFrame} {pic : Picture} {st : FrameStats}

/-- The camera ports, the health records and the references of another state put in. -/
def State.dress (s t : State) : State :=
  { s with cams := t.cams, health := t.health, tables := { s.tables with reference := t.tables.reference } }

theorem evaluate_dress (sc : Screen) (s t : State) : evaluate sc (s.dress t) = (evaluate sc s).dress t := by
  have wanted : (s.dress t).wanted sc = s.wanted sc := rfl
  have selection : (s.dress t).selection = s.selection := rfl
  have time : (s.dress t).nodeTime = s.nodeTime := rfl
  have head : (s.dress t).isHead = s.isHead := rfl
  have outputs : (s.dress t).tables.outputConfig = s.tables.outputConfig := rfl
  unfold evaluate
  rw [wanted, selection, time, head, outputs]
  dsimp only
  split
  · rfl
  · split
    · split <;> rfl
    · rfl

theorem evaluateBoth_dress (s t : State) : evaluateBoth (s.dress t) = (evaluateBoth s).dress t := by
  rw [evaluateBoth, evaluate_dress, evaluate_dress, evaluateBoth]

theorem publishTile_dress (i : SlotNo) (v : ViewNo) (s t : State) :
    publishTile i v (s.dress t) = (publishTile i v s).dress t := by
  by_cases same : (s.store.publish i v).alarmCount = s.alarm
  · have bare : publishTile i v s = s.withStore (s.store.publish i v) := if_pos same
    have dressed : publishTile i v (s.dress t) = (s.dress t).withStore (s.store.publish i v) := if_pos same
    rw [bare, dressed]
    rfl
  · have bare : publishTile i v s = evaluateBoth ((s.withStore (s.store.publish i v)).withAlarm
        (s.store.publish i v).alarmCount) := if_neg same
    have dressed : publishTile i v (s.dress t) = evaluateBoth (((s.dress t).withStore (s.store.publish i v)).withAlarm
        (s.store.publish i v).alarmCount) := if_neg same
    rw [bare, dressed, ← evaluateBoth_dress]
    rfl

theorem requestSend_dress (p : TrunkPort) (i : SlotNo) (sid : StreamId) (s t : State) :
    requestSend p i sid (s.dress t) = (requestSend p i sid s).dress t := by
  have trunk : (s.dress t).trunk = s.trunk := rfl
  unfold requestSend
  rw [trunk]
  dsimp only
  split
  · split <;> rfl
  · split <;> rfl

theorem placeRequests_dress (i : SlotNo) (sid : StreamId) (s t : State) :
    placeRequests i sid (s.dress t) = (placeRequests i sid s).dress t := by
  have route : (s.dress t).sendRoute sid = s.sendRoute sid := rfl
  unfold placeRequests
  rw [route]
  cases s.sendRoute sid with
  | one p => exact requestSend_dress ..
  | both => exact (congrArg (requestSend .b i sid) (requestSend_dress ..)).trans (requestSend_dress ..)
  | noHead | noController | selfHead | nowhere => rfl

/-! ### A tile with its stamp given (R30, R31, R36) -/

/-- The tile of a rendition completed with a stamp, published and requested. -/
def State.tiled (s : State) (p : CamPort) (r : Fin 2) (pic : Picture) (x : Stamp) : State :=
  match s.engine.productions[planOf p r] with
  | none => s
  | some pr =>
    let v := countEngine .tilesMade (publishTile pr.slot x.view
      ((s.withStore (s.store.complete pr.slot x (makeTile pic pr.plan pr.crop))).withProduction (planOf p r) none))
    if pr.plan.send then placeRequests pr.slot pr.plan.stream v else v

theorem completeTile_tiled (p : CamPort) (r : Fin 2) (pic : Picture) (s : State) :
    completeTile p r pic s = s.tiled p r pic (s.stampFor p r) := rfl

theorem tiled_dress (r : Fin 2) (x : Stamp) : (s.dress t).tiled p r pic x = (s.tiled p r pic x).dress t := by
  have engine : (s.dress t).engine = s.engine := rfl
  unfold State.tiled
  rw [engine]
  cases s.engine.productions[planOf p r] with
  | none => rfl
  | some pr =>
    dsimp only
    have made := publishTile_dress pr.slot x.view ((s.withStore (s.store.complete pr.slot x
      (makeTile pic pr.plan pr.crop))).withProduction (planOf p r) none) t
    have counted : countEngine .tilesMade (publishTile pr.slot x.view (((s.dress t).withStore
        ((s.dress t).store.complete pr.slot x (makeTile pic pr.plan pr.crop))).withProduction (planOf p r) none))
        = (countEngine .tilesMade (publishTile pr.slot x.view ((s.withStore (s.store.complete pr.slot x
          (makeTile pic pr.plan pr.crop))).withProduction (planOf p r) none))).dress t :=
      congrArg (countEngine .tilesMade) made
    rw [counted]
    split
    · exact placeRequests_dress ..
    · rfl

/-- A tile reads of the ports, the records and the references no more than its stamp. -/
theorem completeTile_dress {r : Fin 2} (stamp : (s.dress t).stampFor p r = s.stampFor p r) :
    completeTile p r pic (s.dress t) = (completeTile p r pic s).dress t := by
  rw [completeTile_tiled, stamp, tiled_dress, completeTile_tiled]

/-- A tile leaves what it does not make. -/
theorem sameBut_completeTile (p : CamPort) (r : Fin 2) (pic : Picture) (s : State) : SameBut tileParts s (completeTile p r pic s) :=
  (sameBut_iff_mask _ _ _).mpr (by rw [mask_completeTile] <;> decide)

theorem stampFor_congr (straps : t.straps = s.straps) (time : t.nodeTime = s.nodeTime)
    (picture : (t.health[p]).picture = (s.health[p]).picture) (lens : (t.health[p]).lens = (s.health[p]).lens)
    (coverage : (t.health[p]).coverage = (s.health[p]).coverage) (r : Fin 2) : t.stampFor p r = s.stampFor p r := by
  unfold State.stampFor State.cameraId
  rw [straps, time, picture, lens, coverage]

/-- The stamp of rendition 1 does not depend on the tile of rendition 0. -/
theorem stampFor_completeTile (p : CamPort) (r q : Fin 2) (pic : Picture) (s : State) :
    (completeTile p q pic s).stampFor p r = s.stampFor p r := by
  have same := sameBut_completeTile p q pic s
  have health := same .health (by decide)
  exact stampFor_congr (same .straps (by decide)).symm (same .nodeTime (by decide)).symm
    (congrArg (fun v : Vector Health 4 => (v[p]).picture) health).symm (congrArg (fun v : Vector Health 4 => (v[p]).lens) health).symm
    (congrArg (fun v : Vector Health 4 => (v[p]).coverage) health).symm r

theorem completeBoth_dress (stamp : ∀ r, (s.dress t).stampFor p r = s.stampFor p r) :
    completeBoth p pic (s.dress t) = (completeBoth p pic s).dress t := by
  unfold completeBoth
  rw [completeTile_dress (stamp 0)]
  refine completeTile_dress ?_
  have later := (stampFor_completeTile p 1 0 pic (s.dress t)).trans ((stamp 1).trans (stampFor_completeTile p 1 0 pic s).symm)
  rwa [completeTile_dress (stamp 0)] at later

/-! ### Productions -/

theorem tiled_productions (r : Fin 2) (x : Stamp) :
    (s.tiled p r pic x).engine.productions = s.engine.productions.set (planOf p r) none := by
  unfold State.tiled
  cases made : s.engine.productions[planOf p r] with
  | none =>
    have self : s.engine.productions.set (planOf p r) s.engine.productions[planOf p r] = s.engine.productions :=
      Vector.set_getElem_self ..
    rw [made] at self
    exact self.symm
  | some pr =>
    obtain ⟨-, engine⟩ := publishTile_trunk pr.slot x.view
      ((s.withStore (s.store.complete pr.slot x (makeTile pic pr.plan pr.crop))).withProduction (planOf p r) none)
    have counted : (countEngine .tilesMade (publishTile pr.slot x.view
        ((s.withStore (s.store.complete pr.slot x (makeTile pic pr.plan pr.crop))).withProduction (planOf p r) none))).engine.productions
        = s.engine.productions.set (planOf p r) none := congrArg Engine.productions engine
    dsimp only
    split
    · rw [placeRequests_productions, counted]
    · exact counted

end

end Sys2Proof.Machine
end

section
/-! PROOF. Usable samples that a LEARNING port takes (R81, R82). -/

namespace Sys2Proof.Machine

section
variable {s : State} {p : CamPort} {f : OpenFrame} {pic : Picture} {st : FrameStats}

/-! ### The references learned (R82) -/

theorem zoneEntry_inj {p q : CamPort} {z w : ZoneNo} : zoneEntry p z = zoneEntry q w ↔ p = q ∧ z = w := by
  have hp := p.isLt
  have hq := q.isLt
  have hz := z.isLt
  have hw := w.isLt
  unfold zoneEntry
  rw [Fin.ext_iff, Fin.ext_iff, Fin.ext_iff]
  simp only [Fin.val_ofNat]
  omega

theorem getElem_foldl_learned (p q : CamPort) (z : ZoneNo) (g : ZoneNo → Option Nat) (l : List ZoneNo)
    (t : Vector (Option Nat) 192) : (l.foldl (fun t w => t.set (zoneEntry p w) (g w)) t)[zoneEntry q z]
      = if q = p ∧ z ∈ l then g z else t[zoneEntry q z] := by
  induction l generalizing t with
  | nil => exact (if_neg fun both => List.not_mem_nil both.2).symm
  | cons w l ih =>
    rw [List.foldl_cons, ih]
    by_cases here : zoneEntry p w = zoneEntry q z
    · obtain ⟨rfl, rfl⟩ := zoneEntry_inj.mp here
      rw [getElem_set_same, ite_self, if_pos ⟨rfl, List.mem_cons_self ..⟩]
    · rw [getElem_set_ne _ here]
      refine if_congr (and_congr_right fun same => ?_) rfl rfl
      rw [List.mem_cons]
      exact ⟨.inr, fun mem => mem.resolve_left fun e => here (by rw [same, e])⟩

theorem getElem_learnedTable (references : Vector (Option Nat) 192) (p q : CamPort) (zones : Vector Zone 48) (z : ZoneNo) :
    (learnedTable references p zones)[zoneEntry q z] = if q = p then (zones[z]).reference else references[zoneEntry q z] := by
  unfold learnedTable
  rw [getElem_foldl_learned p q z fun w => (zones[w]).reference]
  exact if_congr (and_iff_left (List.mem_finRange z)) rfl rfl

/-! ### The record (R81, R82) -/

/-- A zone of a usable sample of a LEARNING port (R81). -/
def Zone.taught (x : Zone) (e : LensParams) (mean texture : Nat) : Zone :=
  if e.dmin ≤ mean ∧ mean ≤ e.dmax then
    { x with scratchSum := x.scratchSum + texture, scratchCount := x.scratchCount + 1 } else x

theorem learned_eq (h : Health) (e : LensParams) (st : FrameStats) : h.learned e st = { h with
    zones := Vector.ofFn fun z : ZoneNo => (h.zones[z]).taught e st.mean[z] st.texture[z]
    progress := h.progress + 1 } := by
  have lit (z : ZoneNo) : (if e.lit st.mean[z] = true then
      ({ h.zones[z] with
        scratchSum := (h.zones[z]).scratchSum + st.texture[z], scratchCount := (h.zones[z]).scratchCount + 1 } : Zone)
      else h.zones[z]) = (h.zones[z]).taught e st.mean[z] st.texture[z] :=
    if_congr (by simp [LensParams.lit]) rfl rfl
  exact congrArg (fun g => { h with zones := Vector.ofFn g, progress := h.progress + 1 }) (funext lit)

/-- The record of a sample that is learned, from the zones of the record before it. -/
theorem learned_counted {h k : Health} (zones : k.zones = h.zones) (progress : k.progress = h.progress) (e : LensParams)
    (st : FrameStats) : ({ k with sampleCount := 0 } : Health).learned e st = { k with
      sampleCount := 0
      zones := Vector.ofFn fun z : ZoneNo => (h.zones[z]).taught e st.mean[z] st.texture[z]
      progress := h.progress + 1 } := by
  rw [learned_eq, ← zones, ← progress]

theorem finished_eq (h : Health) : h.finished = { h with
    zones := Vector.ofFn fun z : ZoneNo => { h.zones[z] with score := 0, obscured := false }
    coverage := 0, unusableRun := 0, lens := .clean, keptAside := none, deadline := none, relearnHold := false } := by
  unfold Health.finished Health.wiped
  rfl

theorem sampled_learning {h : Health} (learning : h.lens = .learning) (usable : s.finds p st h = true) : s.sampled p st h =
    if 32 ≤ h.progress + 1 then (h.learned s.tables.lensParams[p] st).finished else h.learned s.tables.lensParams[p] st := by
  unfold State.sampled
  rw [usable]
  cases is : h.lens with
  | learning => rfl
  | noReference | unrated | clean | smeared | blocked => cases is.symm.trans learning

theorem finishes_of_learning {h : Health} (learning : h.lens = .learning) (usable : s.finds p st h = true) :
    s.finishes p st h = decide (32 ≤ h.progress + 1) := by
  rw [State.finishes, learning, usable]
  rfl

/-- R81, R82: the record learns, and with the 32nd sample it is a new lens's. -/
theorem usableSamplesAreLearned : Claim.UsableSamplesAreLearned := by
  intro p f pic s takes h e st runs learning sample usable taught shown told still
  have row := exec_sample takes sample
  have run := exec_takesFrame takes
  have other := takes.2.2.2.1
  have free := takes.2.2.2.2
  have samples : s.samples p = true := (samples_other other).mpr sample
  have found : s.finds p st { runs with sampleCount := 0 } = true := (finds_runs ..).mpr usable
  have after : s.usableAfter p st = true := (finds_iff s p st runs).mpr usable
  have record := frameHealth_sample other sample st
  rw [show s.runsAfter p st = runs from rfl, sampled_learning (by exact learning) found] at record
  have learned : ({ runs with sampleCount := 0 } : Health).learned s.tables.lensParams[p] st
      = { runs with sampleCount := 0, zones := Vector.ofFn taught, progress := h.progress + 1 } :=
    learned_counted (h := h) (k := runs) rfl rfl e st
  rw [learned, show ({ runs with sampleCount := 0 } : Health).progress = h.progress from rfl] at record
  have counted : s.counted p st = { runs with sampleCount := 0 } := by
    rw [counted_other other, if_pos sample]
  have completes : s.completes p st = decide (32 ≤ h.progress + 1) := by
    rw [State.completes, samples, counted, finishes_of_learning (by exact learning) found]
    rfl
  have health := lensed_health p f pic s
  have tables := lensed_tables p f pic s
  have shows : s.pictureTold p st = shown := if_congr (by
    show runs.picture = h.picture ↔ _
    rw [show runs.picture = .live from usable.1]
    exact eq_comm) rfl rfl
  have whole (none : still) := lensed_still (p := p) (f := f) (pic := pic) none
  obtain ⟨locked, frame, good, -⟩ := takes
  rw [show f.statsOf pic = st from rfl] at health tables whole
  have test : (s.samples p && (s.health[p]).lens == .learning && s.usableAfter p st && 32 ≤ (s.health[p]).progress + 1)
      = decide (32 ≤ h.progress + 1) := by
    rw [samples, after, show (s.health[p]).lens = .learning from learning]
    rfl
  refine ⟨_, row, run, fun early => ?_, fun last => ?_⟩
  · have short : ¬ 32 ≤ h.progress + 1 := by omega
    rw [if_neg short] at record
    rw [decide_eq_false short] at completes
    have tell : s.frameLensTold p st = shown := by
      rw [frameLensTold_self (by rw [record]; rfl), frameTold_of_incomplete completes, shows]
    have stands := frameTables_of_incomplete completes
    refine ⟨tables.trans stands, frameEndIf_idle locked frame good (test.trans (decide_eq_false short)) rfl, by rw [health, record], fun none => ?_⟩
    have eq := whole none
    rw [tell, show (s.frameHealth p st).lens = (s.health[p]).lens by rw [record]; rfl, lensAsked_self] at eq
    rw [eq, State.framed, show f.statsOf pic = st from rfl, stands]
    exact ⟨rfl, rfl, (sameBut_iff_mask _ _ _).mpr rfl⟩
  · have full : 32 ≤ h.progress + 1 := by omega
    rw [if_pos full, finished_eq] at record
    rw [decide_eq_true full] at completes
    have wiped : (Vector.ofFn fun z : ZoneNo =>
        ({ (Vector.ofFn taught)[z] with score := 0, obscured := false } : Zone))
        = Vector.ofFn fun z => { taught z with score := 0, obscured := false } := by
      refine congrArg Vector.ofFn (funext fun z => ?_)
      have own : (Vector.ofFn taught)[z] = taught z := Vector.getElem_ofFn ..
      rw [own]
    dsimp only at record
    rw [wiped] at record
    have clean : (s.frameHealth p st).lens = .clean := by rw [record]
    have teaches : s.frameTables p st = { s.tables with
        reference := learnedTable s.tables.reference p (Vector.ofFn taught) } := by
      rw [State.frameTables, completes, counted, learned]
      rfl
    have tell : s.frameLensTold p st = told := by
      rw [State.frameLensTold, clean, State.frameTold, completes, shows, show (s.health[p]).lens = .learning from learning]
      rfl
    refine ⟨(frameEndIf_runs locked frame good (test.trans (decide_eq_true full)) rfl).trans run, ?_, fun q z => ?_, ?_, fun none => ?_⟩
    · rw [health, record]
      exact congrArg (fun b => s.health.set p ({ runs with
        sampleCount := 0, zones := Vector.ofFn fun z => { taught z with score := 0, obscured := false },
        progress := h.progress + 1, coverage := 0, unusableRun := 0, lens := .clean, keptAside := none,
        deadline := none, relearnHold := b } : Health)) free.symm
    · have own : (Vector.ofFn taught)[z] = taught z := Vector.getElem_ofFn ..
      rw [tables, teaches]
      dsimp only
      rw [getElem_learnedTable, own]
      rfl
    · rw [tables, teaches]
    · have eq := whole none
      rw [tell, clean, show (s.health[p]).lens = .learning from learning] at eq
      rw [eq, State.framed]
      exact ⟨rfl, rfl, (sameBut_iff_mask _ _ _).mpr rfl⟩

end

end Sys2Proof.Machine
end

section
/-! PROOF. A relearn hold that ends with its learning (R82, R184). Settles O26. -/

namespace Sys2Proof.Machine

section
variable {s t u v : State} {p : CamPort} {f : OpenFrame} {pic : Picture} {st : FrameStats} {b : Bool}

/-- A port's relearn hold, set or cleared. -/
def State.holding (s : State) (p : CamPort) (b : Bool) : State := s.withHealth p { s.health[p] with relearnHold := b }

theorem holding_health (s : State) (p : CamPort) (b : Bool) :
    (s.holding p b).health[p] = { s.health[p] with relearnHold := b } := getElem_set_same ..

theorem holding_self (held : (s.health[p]).relearnHold = b) : s.holding p b = s := by
  have own : ({ s.health[p] with relearnHold := b } : Health) = s.health[p] := by rw [← held]
  rw [State.holding, own, withHealth_self]

theorem holding_holding (s : State) (p : CamPort) (a b : Bool) : (s.holding p a).holding p b = s.holding p b := by
  rw [State.holding, holding_health]
  exact congrArg (fun x => { s with health := x }) (Vector.set_set ..)

theorem sameNews_holding (s : State) (p : CamPort) (b : Bool) : SameNews s (s.holding p b) := ⟨rfl, rfl, rfl, rfl, rfl⟩

/-! ### The record -/

/-- What a sample does does not depend on the hold, which ends with the learning (R82). -/
theorem sampled_holding (s : State) (p : CamPort) (st : FrameStats) (h : Health) (b : Bool) :
    s.sampled p st { h with relearnHold := b }
      = { s.sampled p st h with relearnHold := if s.finishes p st h then false else b } := by
  obtain ⟨k, is⟩ : ∃ k : Health, k = { h with relearnHold := b } := ⟨_, rfl⟩
  have lens : k.lens = h.lens := by rw [is]
  have finds : s.finds p st k = s.finds p st h := by rw [is]; rfl
  have progress : k.progress = h.progress := by rw [is]
  have unfinished (fails : s.finishes p st h = false) (stands : s.sampled p st k = { s.sampled p st h with relearnHold := b }) :
      s.sampled p st k = { s.sampled p st h with relearnHold := if s.finishes p st h then false else b } := by
    rw [stands, fails]
    rfl
  have other (ne : h.lens ≠ .learning) : s.finishes p st h = false := by
    rw [State.finishes, beq_eq_false_iff_ne.mpr ne]
    rfl
  rw [← is]
  by_cases learning : h.lens = .learning
  · cases found : s.finds p st h with
    | false =>
      refine unfinished (by rw [State.finishes, found, Bool.and_false, Bool.false_and]) ?_
      rw [sampled_stands (.inr ⟨lens.trans learning, finds.trans found⟩), sampled_stands (.inr ⟨learning, found⟩), is]
    | true =>
      rw [sampled_learning (lens.trans learning) (finds.trans found), sampled_learning learning found,
        finishes_of_learning learning found, progress, learned_eq, learned_eq, is]
      by_cases last : 32 ≤ h.progress + 1
      · rw [if_pos last, if_pos last, finished_eq, finished_eq, decide_eq_true last]
        rfl
      · rw [if_neg last, if_neg last, decide_eq_false last]
        rfl
  · refine unfinished (other learning) ?_
    by_cases absent : h.lens = .noReference
    · rw [sampled_stands (.inl (lens.trans absent)), sampled_stands (.inl absent), is]
    · have judged : h.lens = .unrated ∨ h.lens = .clean ∨ h.lens = .smeared ∨ h.lens = .blocked := by
        cases named : h.lens with
        | learning => exact absurd named learning
        | noReference => exact absurd named absent
        | unrated => exact .inl rfl
        | clean => exact .inr (.inl rfl)
        | smeared => exact .inr (.inr (.inl rfl))
        | blocked => exact .inr (.inr (.inr rfl))
      have judged' : k.lens = .unrated ∨ k.lens = .clean ∨ k.lens = .smeared ∨ k.lens = .blocked := by rwa [lens]
      cases found : s.finds p st h with
      | false =>
        rw [sampled_unusable judged' (finds.trans found), sampled_unusable judged found, is]
        rfl
      | true =>
        rw [sampled_scored judged' (finds.trans found), sampled_scored judged found, is]
        unfold Health.scored
        rfl

theorem runsAfter_holding (s : State) (p : CamPort) (b : Bool) (st : FrameStats) :
    (s.holding p b).runsAfter p st = { s.runsAfter p st with relearnHold := b } := by
  rw [State.runsAfter, holding_health]
  rfl

theorem counted_holding (s : State) (p : CamPort) (b : Bool) (st : FrameStats) :
    (s.holding p b).counted p st = { s.counted p st with relearnHold := b }
      ∧ (s.holding p b).samples p = s.samples p := by
  have count : (s.holding p b).sampleCountAfter p = s.sampleCountAfter p := by
    unfold State.sampleCountAfter
    rw [holding_health]
    rfl
  rw [State.counted, runsAfter_holding, State.samples, count]
  exact ⟨rfl, rfl⟩

theorem completes_holding (s : State) (p : CamPort) (b : Bool) (st : FrameStats) :
    (s.holding p b).completes p st = s.completes p st := by
  obtain ⟨counted, samples⟩ := counted_holding s p b st
  rw [State.completes, counted, samples]
  rfl

theorem frameHealth_holding (s : State) (p : CamPort) (b : Bool) (st : FrameStats) : (s.holding p b).frameHealth p st
    = { s.frameHealth p st with relearnHold := if s.completes p st then false else b } := by
  obtain ⟨counted, samples⟩ := counted_holding s p b st
  have work : (s.holding p b).sampled p st = s.sampled p st := rfl
  unfold State.frameHealth State.completes
  rw [counted, samples, work, sampled_holding]
  cases s.samples p <;> rfl

theorem frameTables_holding (s : State) (p : CamPort) (b : Bool) (st : FrameStats) :
    (s.holding p b).frameTables p st = s.frameTables p st := by
  obtain ⟨counted, -⟩ := counted_holding s p b st
  unfold State.frameTables
  rw [completes_holding, counted, learned_eq, learned_eq]
  rfl

theorem frameTold_holding (s : State) (p : CamPort) (b : Bool) (st : FrameStats) :
    SameNews (s.frameTold p st) ((s.holding p b).frameTold p st) := by
  have shown : SameNews (s.pictureTold p st) ((s.holding p b).pictureTold p st) := by
    unfold State.pictureTold
    rw [runsAfter_holding, holding_health]
    dsimp only
    split
    · exact sameNews_holding s p b
    · exact (sameNews_holding s p b).addCause ..
  unfold State.frameTold
  rw [completes_holding]
  split
  · exact shown.addCause ..
  · exact shown

/-! ### The frame end -/

theorem framed_holding (s : State) (p : CamPort) (b : Bool) (f : OpenFrame) (pic : Picture) :
    (s.holding p b).framed p f pic
      = (s.framed p f pic).holding p (if s.completes p (f.statsOf pic) then false else b) := by
  have told := frameTold_holding s p b (f.statsOf pic)
  have put (k : Health) : (s.holding p b).health.set p k = (s.health.set p (s.frameHealth p (f.statsOf pic))).set p k :=
    (Vector.set_set ..).trans (Vector.set_set ..).symm
  have right (c : Bool) : (s.framed p f pic).holding p c
      = (s.framed p f pic).withHealth p { s.frameHealth p (f.statsOf pic) with relearnHold := c } := by
    rw [State.holding, framed_health]
  rw [right, State.framed, frameHealth_holding, frameTables_holding, ← told.agent, ← told.trunk, put]
  rfl

theorem completeBoth_holding (s : State) (p : CamPort) (b : Bool) (pic : Picture) :
    completeBoth p pic (s.holding p b) = (completeBoth p pic s).holding p b := by
  have stamp (r : Fin 2) : (s.dress (s.holding p b)).stampFor p r = s.stampFor p r := by
    have own : (s.dress (s.holding p b)).health[p] = { s.health[p] with relearnHold := b } := holding_health s p b
    refine stampFor_congr (s := s) (t := s.dress (s.holding p b)) rfl rfl ?_ ?_ ?_ r <;> rw [own]
  have same := sameBut_completeBoth p pic s
  have work := completeBoth_dress (s := s) (t := s.holding p b) (pic := pic) stamp
  have cams := same .cams (by decide)
  have health := same .health (by decide)
  have tables := same .tables (by decide)
  generalize completeBoth p pic s = w at work cams health tables ⊢
  refine Eq.trans work ?_
  have ports : (s.holding p b).cams = w.cams := cams
  have records : (s.holding p b).health = (w.holding p b).health := by
    show s.health.set p { s.health[p] with relearnHold := b } = w.health.set p { w.health[p] with relearnHold := b }
    rw [show s.health = w.health from health]
  have references : (s.holding p b).tables.reference = w.tables.reference := congrArg Tables.reference tables
  rw [State.dress, ports, records, references]
  rfl

theorem lensEvent_holding (s : State) (p : CamPort) (b : Bool) (before : LensCondition) :
    lensEvent p before (s.holding p b) = (lensEvent p before s).holding p b := by
  have own := holding_health s p b
  have held := lensEvent_eq (sameNews_holding s p b) rfl rfl p before
  have bare := lensEvent_eq (.refl s) rfl rfl p before
  rw [own] at held
  rw [held, bare]
  rfl

theorem lensed_holding (s : State) (p : CamPort) (b : Bool) (f : OpenFrame) (pic : Picture) :
    (s.holding p b).lensed p f pic
      = (s.lensed p f pic).holding p (if s.completes p (f.statsOf pic) then false else b) := by
  have lens : ((s.holding p b).health[p]).lens = (s.health[p]).lens := by rw [holding_health]
  rw [State.lensed, framed_holding, completeBoth_holding, lensEvent_holding, lens, State.lensed]

/-! ### The demand without the hold (R2, R184) -/

theorem completeBoth_idle (p : CamPort) (r : Fin 2) (pic : Picture) (s : State) :
    (completeBoth p pic s).engine.productions[planOf p r] = none := by
  unfold completeBoth
  rw [completeTile_tiled, tiled_productions, completeTile_tiled, tiled_productions]
  match r with
  | 0 =>
    rw [getElem_set_ne _ (planOf_ne p)]
    exact getElem_set_same ..
  | 1 => exact getElem_set_same ..

theorem endBadly_idle (idle : ∀ r : Fin 2, s.engine.productions[planOf p r] = none) :
    endBadly p s = s.withSums p noSums := by
  have skip (r : Fin 2) : abandonProduction (planOf p r) s = s := by rw [abandonProduction, idle r]
  rw [endBadly, skip 0, skip 1]

theorem only_store : ∀ x ∈ [Part.cams, .health, .engine, .store, .agent, .trunk],
    x ∉ [Part.cams, .health, .engine, .agent, .trunk] → x = .store := by decide

/-- What a frame teaches leaves the configurations of the ports. -/
theorem frameTables_config (s : State) (p : CamPort) (st : FrameStats) :
    (s.frameTables p st).cameraConfig = s.tables.cameraConfig := by
  unfold State.frameTables State.taught
  split <;> rfl

theorem completes_spec (other : s.survey.port ≠ some p) (st : FrameStats) : s.completes p st = true ↔
    (s.health[p]).lens = .learning ∧ (s.tables.cameraConfig[p]).interval ≤ (s.health[p]).sampleCount + 1
      ∧ s.usableSample p (s.runsAfter p st).picture st ∧ 31 ≤ (s.health[p]).progress := by
  have last : decide (32 ≤ (s.counted p st).progress + 1) = true ↔ 31 ≤ (s.health[p]).progress := by
    rw [decide_eq_true_eq]
    exact Nat.succ_le_succ_iff
  have learns : ((s.counted p st).lens == .learning) = true ↔ (s.health[p]).lens = .learning := beq_iff_eq
  have found : s.finds p st (s.counted p st) = true ↔ s.usableSample p (s.runsAfter p st).picture st := finds_iff ..
  rw [State.completes, State.finishes, Bool.and_eq_true, Bool.and_eq_true, Bool.and_eq_true, samples_other other, last,
    learns, found]
  tauto

/-- R82, R184: the hold goes with the learning, and the port's demand is judged without it. -/
theorem aRelearnHoldEndsWithItsLearning : Claim.ARelearnHoldEndsWithItsLearning := by
  intro p f pic s h locked frame good other held without st completes stays
  obtain ⟨w, is⟩ : ∃ w, w = s.holding p false := ⟨_, rfl⟩
  have whole : w.holding p true = s := by
    rw [is, holding_holding]
    exact holding_self held
  have record : w.health[p] = { h with relearnHold := false } := by
    rw [is]
    exact holding_health s p false
  have takes : w.takesFrame p f pic := by
    refine ⟨?_, ?_, good, ?_, by rw [record]⟩ <;> rw [is] <;> assumption
  have without_ : exec (.frameEnd p pic) without = .next (w.lensed p f pic) := by
    rw [← exec_takesFrame takes, is]
    rfl
  have spec : w.completes p st = true ↔ completes := by
    have mine : w.completes p st = s.completes p st := by
      rw [is]
      exact completes_holding s p false st
    rw [mine]
    exact completes_spec other st
  have lensed := lensed_holding w p true f pic
  rw [whole, show f.statsOf pic = st from rfl] at lensed
  have free : ((w.lensed p f pic).health[p]).relearnHold = false := by
    rw [lensed_health, getElem_set_same, is, frameHealth_holding]
    exact ite_self _
  have keeps := lensed_keeps p f pic w
  have survey : (w.lensed p f pic).survey = s.survey := by
    rw [← show (w.framed p f pic).survey = (w.lensed p f pic).survey from keeps .survey (by decide), is]
    rfl
  have mode : (w.lensed p f pic).mode = s.mode := by
    rw [← show (w.framed p f pic).mode = (w.lensed p f pic).mode from keeps .mode (by decide), is]
    rfl
  have time : (w.lensed p f pic).nodeTime = s.nodeTime := by
    rw [← show (w.framed p f pic).nodeTime = (w.lensed p f pic).nodeTime from keeps .nodeTime (by decide), is]
    rfl
  have config : (w.lensed p f pic).tables.cameraConfig = s.tables.cameraConfig := by
    rw [lensed_tables, frameTables_config, is]
    rfl
  have link : ((w.lensed p f pic).cams[p]).link = .locked := by
    rw [lensed_cams, getElem_set_same]
    exact takes.1
  have picture : ((w.lensed p f pic).health[p]).picture ≠ .noSignal := by
    obtain ⟨-, -, shows, -⟩ := frameHealth_keeps w p st
    rw [lensed_health, getElem_set_same, show f.statsOf pic = st from rfl, shows]
    exact pictureFrom_ne _ _
  have idle (r : Fin 2) : (w.lensed p f pic).engine.productions[planOf p r] = none := by
    have engine := (lensEvent_keeps p (w.health[p]).lens (completeBoth p pic (w.framed p f pic))) .engine (by decide)
    rw [← show _ = (w.lensed p f pic).engine from engine]
    exact completeBoth_idle ..
  have row : exec (.frameEnd p pic) s = .next (goodEnd p f pic s) := exec_goodEnd locked frame good
  have same : surveyCount p (s.lensed p f pic) = s.lensed p f pic := by
    refine surveyCount_other fun port => other ?_
    rw [lensed] at port
    exact (congrArg Survey.port survey).symm.trans port
  rw [goodEnd_lensed, same, held, lensed] at row
  generalize w.lensed p f pic = u at *
  cases ends : w.completes p st with
  | false =>
    have never : ¬ completes := fun all => Bool.false_ne_true (ends.symm.trans (spec.mpr all))
    have held' : ((u.holding p true).health[p]).relearnHold = true := by rw [holding_health]
    rw [ends, if_neg Bool.false_ne_true, held'] at row
    exact ⟨_, u, row, without_, fun _ => rfl, fun all => absurd all never, fun all => absurd all never⟩
  | true =>
    have always : completes := spec.mp ends
    rw [ends, if_pos rfl, holding_self free, free] at row
    have demand : u.demand p = true ↔ stays := by
      rw [State.demand, free, mode, config, survey]
      show _ ↔ s.mode = .run ∧ (s.tables.cameraConfig[p]).enabled = true
      cases s.mode <;> simp [other]
    obtain ⟨stands, -, -, loses⟩ := demand_judged p u
    have power : (u.cams[p]).power = true := by
      rw [CameraPort.power, link]
      rfl
    refine ⟨_, u, row, without_, fun never => absurd always never, fun _ stay => ?_, fun _ gone => ?_⟩
    · exact stands (.inl ⟨power, demand.mpr stay⟩)
    · obtain ⟨cams, health, engine, store, adds, rest⟩ :=
        loses link (Bool.eq_false_of_not_eq_true fun wants => gone (demand.mp wants))
      rw [endBadly_idle idle] at engine store
      rw [time] at cams
      refine ⟨cams, health, engine, ?_, rest.narrow fun x mem out => ?_⟩
      · rwa [State.lossCauses, if_neg picture] at adds
      · rw [only_store x mem out]
        exact store.symm

/-- Settles O26. -/
theorem learningTakesThirtyTwoUsableSamples : Obligations.LearningTakesThirtyTwoUsableSamples :=
  ⟨usableSamplesAreLearned, aRelearnHoldEndsWithItsLearning⟩

end

end Sys2Proof.Machine
end

section
/-! PROOF. The tiles of a good frame, published and requested between the causes of the take and of the lens event
(R30, R36, R44, R77, R135). Settles O24. -/

namespace Sys2Proof.Machine

section
variable {s t u v : State} {p : CamPort} {f : OpenFrame} {pic : Picture} {st : FrameStats}

/-! ### A tile, counted before its evaluation -/

theorem evaluate_withEngine (sc : Screen) (e : Engine) (s : State) :
    evaluate sc (s.withEngine e) = (evaluate sc s).withEngine e := by
  have wanted : (s.withEngine e).wanted sc = s.wanted sc := rfl
  have selection : (s.withEngine e).selection = s.selection := rfl
  have time : (s.withEngine e).nodeTime = s.nodeTime := rfl
  have head : (s.withEngine e).isHead = s.isHead := rfl
  have tables : (s.withEngine e).tables = s.tables := rfl
  unfold evaluate
  rw [wanted, selection, time, head, tables]
  dsimp only
  split
  · rfl
  · split
    · split <;> rfl
    · rfl

theorem evaluateBoth_withEngine (e : Engine) (s : State) : evaluateBoth (s.withEngine e) = (evaluateBoth s).withEngine e := by
  rw [evaluateBoth, evaluate_withEngine, evaluate_withEngine, evaluateBoth]

/-- A published tile that the engine counts. -/
theorem publishTile_counted (i : SlotNo) (x : ViewNo) (k : EngineCounter) (s : State) :
    let v := countEngine k (s.withStore (s.store.publish i x))
    countEngine k (publishTile i x s)
      = if v.store.alarmCount = s.alarm then v else evaluateBoth { v with alarm := v.store.alarmCount } := by
  intro v
  by_cases same : (s.store.publish i x).alarmCount = s.alarm
  · have bare : publishTile i x s = s.withStore (s.store.publish i x) := if_pos same
    rw [if_pos (by exact same), bare]
  · have bare : publishTile i x s = evaluateBoth ((s.withStore (s.store.publish i x)).withAlarm
        (s.store.publish i x).alarmCount) := if_neg same
    have engine : (evaluateBoth ((s.withStore (s.store.publish i x)).withAlarm
        (s.store.publish i x).alarmCount)).engine = s.engine := by
      rw [evaluateBoth_eq]
      rfl
    rw [if_neg (by exact same), bare, countEngine, engine, ← evaluateBoth_withEngine]
    rfl

/-- A production completed with a stamp, published, counted, evaluated and requested, in that order (R30, R36, R44,
R135). -/
def State.tileDone (s : State) (p : CamPort) (r : Fin 2) (pic : Picture) (x : Stamp) : Option Production → State
  | none => s
  | some pr =>
    let y := s.store.slots[pr.slot]
    let v : State := { s with
      store := (s.store.setSlot pr.slot { y with
        record := y.record.map fun z => { z with stamp := some x }
        data := makeTile pic pr.plan pr.crop }).publish pr.slot x.view
      engine := { s.engine with
        productions := s.engine.productions.set (planOf p r) none
        counters := s.engine.counters.set 0 (increment s.engine.counters[(0 : Fin 6)]) } }
    let n := v.store.alarmCount
    let seen := if n = s.alarm then v else evaluateBoth { v with alarm := n }
    if pr.plan.send then placeRequests pr.slot pr.plan.stream seen else seen

theorem tiled_done {r : Fin 2} {o : Option Production} (made : s.engine.productions[planOf p r] = o) (pic : Picture) (x : Stamp) :
    s.tiled p r pic x = s.tileDone p r pic x o := by
  unfold State.tiled
  rw [made]
  cases o with
  | none => rfl
  | some pr =>
    dsimp only
    rw [publishTile_counted]
    rfl

/-! ### The take and its causes -/

theorem addCause_own (k : CauseKind) (n : Nat) (e : Bool) (s : State) : addCause k n e s = s.news (addCause k n e s) :=
  addCause_news (.refl s) k n e

theorem frameTold_own (s : State) (p : CamPort) (st : FrameStats) : s.frameTold p st = s.news (s.frameTold p st) := by
  have shown : s.pictureTold p st = s.news (s.pictureTold p st) := by
    unfold State.pictureTold
    split
    · rfl
    · exact addCause_own ..
  unfold State.frameTold
  split
  · have told := addCause_own .learnDone p.val false (s.pictureTold p st)
    generalize addCause .learnDone p.val false (s.pictureTold p st) = w at told ⊢
    rw [told, shown]
    rfl
  · exact shown

theorem frameTables_reference (s : State) (p : CamPort) (st : FrameStats) :
    s.frameTables p st = { s.tables with reference := (s.frameTables p st).reference } := by
  unfold State.frameTables
  split <;> rfl

/-- The state that the tiles of a frame are made in, but for the ports, the records and the references. -/
def State.tileStart (s : State) (p : CamPort) (f : OpenFrame) (pic : Picture) : State :=
  { s.frameTold p (f.statsOf pic) with
    engine := { s.engine with sums := s.engine.sums.set p (gather pic.luma f.width f.height) } }

theorem framed_dress (p : CamPort) (f : OpenFrame) (pic : Picture) (s : State) :
    s.framed p f pic = (s.tileStart p f pic).dress (s.framed p f pic) := by
  have told := frameTold_own s p (f.statsOf pic)
  have tables := frameTables_reference s p (f.statsOf pic)
  unfold State.tileStart State.framed State.dress
  generalize s.frameTold p (f.statsOf pic) = w at told ⊢
  generalize s.frameTables p (f.statsOf pic) = b at tables ⊢
  rw [told]
  exact congrArg (fun x => ({ s with
    cams := s.cams.set p ((s.cams[p]).took f s.nodeTime)
    engine := { s.engine with sums := s.engine.sums.set p (gather pic.luma f.width f.height) }
    health := s.health.set p (s.frameHealth p (f.statsOf pic))
    tables := x
    agent := w.agent
    trunk := w.trunk } : State)) tables

/-- The stamp of a frame's tile (R30). -/
def State.frameStamp (s : State) (p : CamPort) (st : FrameStats) (r : Fin 2) : Stamp :=
  ⟨viewOf (s.cameraId p) r.val, .captured s.nodeTime, (s.frameHealth p st).picture, (s.frameHealth p st).lens,
    (s.frameHealth p st).coverage⟩

theorem framed_stamp (p : CamPort) (f : OpenFrame) (pic : Picture) (s : State) (r : Fin 2) :
    (s.framed p f pic).stampFor p r = s.frameStamp p (f.statsOf pic) r := by
  unfold State.stampFor
  rw [framed_health]
  rfl

/-- The tiles of a frame. -/
def State.tilesMade (s : State) (p : CamPort) (f : OpenFrame) (pic : Picture) : State :=
  ((s.tileStart p f pic).tiled p 0 pic (s.frameStamp p (f.statsOf pic) 0)).tiled p 1 pic (s.frameStamp p (f.statsOf pic) 1)

theorem completeBoth_framed (p : CamPort) (f : OpenFrame) (pic : Picture) (s : State) :
    completeBoth p pic (s.framed p f pic) = (s.tilesMade p f pic).dress (s.framed p f pic) := by
  have dressed := framed_dress p f pic s
  rw [completeBoth, completeTile_tiled p 1, stampFor_completeTile, framed_stamp, completeTile_tiled, framed_stamp]
  generalize s.framed p f pic = w at dressed ⊢
  rw [dressed, tiled_dress, tiled_dress]
  rw [← dressed]
  rfl

/-- A frame end, by the tiles it makes: their store, the request of a worsening, and the causes (R77, R78). -/
theorem lensed_made (p : CamPort) (f : OpenFrame) (pic : Picture) (s : State) :
    let g := s.frameHealth p (f.statsOf pic)
    let made := s.tilesMade p f pic
    s.lensed p f pic = { made.dress (s.framed p f pic) with
      store := (made.lensAsked p (s.health[p]).lens g.lens g.coverage).1.store
      agent := (made.lensTold p (s.health[p]).lens g.lens g.coverage).agent
      trunk := (made.lensTold p (s.health[p]).lens g.lens g.coverage).trunk } := by
  intro g made
  have event := lensEvent_eq (s := made) (u := made.dress (s.framed p f pic)) ⟨rfl, rfl, rfl, rfl, rfl⟩ rfl rfl p
    (s.health[p]).lens
  have own : (made.dress (s.framed p f pic)).health[p] = g := framed_health p f pic s
  rw [own] at event
  rw [State.lensed, completeBoth_framed]
  exact event

/-! ### The alarm count (R135) -/

theorem Moves.alarmOk (m : Moves s t) (h : s.alarmOk) : t.alarmOk := by
  induction m with
  | refl => exact h
  | tail _ m ih => exact m.alarmOk ih

/-- A tile that is completed has the alarms counted, whatever the count was. -/
theorem completeTile_counts {r : Fin 2} (map : s.store.mapOk) (made : s.engine.productions[planOf p r] ≠ none) :
    (completeTile p r pic s).alarmOk := by
  obtain ⟨pr, is⟩ := Option.ne_none_iff_exists'.mp made
  have published := publishTile_alarmOk (s := (s.withStore (s.store.complete pr.slot (s.stampFor p r)
    (makeTile pic pr.plan pr.crop))).withProduction (planOf p r) none) (mapOk_complete map _ _ _) pr.slot
    (s.stampFor p r).view
  have counted : (countEngine .tilesMade _).alarmOk := published
  rw [completeTile_some is]
  dsimp only
  split
  · exact alarmOk_placeRequests counted _ _
  · exact counted

theorem lensed_alarmOk (map : s.store.mapOk) {r : Fin 2} (made : s.engine.productions[planOf p r] ≠ none) :
    (s.lensed p f pic).alarmOk := by
  have tiles : (completeBoth p pic (s.framed p f pic)).alarmOk := by
    have first : (s.framed p f pic).engine.productions = s.engine.productions := rfl
    have same : (s.framed p f pic).store = s.store := rfl
    generalize s.framed p f pic = w at first same ⊢
    rw [← same] at map
    rw [← first] at made
    rw [completeBoth]
    by_cases begun : w.engine.productions[planOf p 0] = none
    · rw [completeTile_none begun]
      match r with
      | 0 => exact absurd begun made
      | 1 => exact completeTile_counts map made
    · exact alarmOk_completeTile (completeTile_counts map begun) p 1 pic
  exact Moves.alarmOk (moves_lensEvent p _) tiles

theorem tilesMade_straps (p : CamPort) (f : OpenFrame) (pic : Picture) (s : State) :
    (s.tilesMade p f pic).straps = s.straps := by
  have same := (sameBut_completeBoth p pic (s.framed p f pic)) .straps (by decide)
  rw [completeBoth_framed] at same
  exact same.symm

/-- What is asked and told behind a state is told of the state the asking leaves (R77, R78). -/
theorem lensTold_behind (s : State) (p : CamPort) (before lens : LensCondition) (cov : Nat) :
    let asked := s.lensAsked p before lens cov
    let last := if lens = before then s else addCause .lensChange p.val asked.2 asked.1
    last.agent = (s.lensTold p before lens cov).agent ∧ last.trunk = (s.lensTold p before lens cov).trunk := by
  intro asked last
  have behind : SameNews s asked.1 := by
    show SameNews s (State.lensAsked ..).1
    unfold State.lensAsked
    split
    · rw [pinRequest_alike rfl rfl]
      exact ⟨rfl, rfl, rfl, rfl, rfl⟩
    · exact .refl s
  unfold State.lensTold
  show (if lens = before then s else addCause .lensChange p.val asked.2 asked.1).agent = _
    ∧ (if lens = before then s else addCause .lensChange p.val asked.2 asked.1).trunk = _
  split
  · exact ⟨rfl, rfl⟩
  · rw [addCause_news behind]
    exact ⟨rfl, rfl⟩

/-- Settles O24: the tiles are made between the take, whose causes stand first, and the lens event. -/
theorem theTileOfAGoodFrameIsPublished : Obligations.TheTileOfAGoodFrameIsPublished := by
  intro p f pic s takes ok h interval
  have other := takes.2.2.2.1
  have own : (s.lensed p f pic).health[p] = s.frameHealth p (f.statsOf pic) := by
    rw [lensed_health]
    exact getElem_set_same ..
  have whole := lensed_made p f pic s
  dsimp only at whole
  refine ⟨_, exec_takesFrame takes, lensed_cams p f pic s, fun quiet => ?_, ?_, fun ⟨r, made⟩ => ?_, fun early => ?_, ?_⟩
  · obtain ⟨record, -⟩ := frameHealth_counted (s := s) (p := p) (st := f.statsOf pic) (by
      refine quiet.imp_left fun short => Bool.eq_false_of_not_eq_true fun sample => ?_
      exact Nat.not_le.mpr short ((samples_other other).mp sample))
    rw [lensed_health, record, counted_other other]
  · intro g
    have is : g = s.frameHealth p (f.statsOf pic) := own
    clear_value g
    subst is
    intro shown told start done made worse asked last
    have tells : told = s.frameTold p (f.statsOf pic) := by
      have shows : shown = s.pictureTold p (f.statsOf pic) := by
        obtain ⟨-, -, picture, -⟩ := frameHealth_keeps s p (f.statsOf pic)
        show (if (s.frameHealth p (f.statsOf pic)).picture = h.picture then s else _) = _
        rw [picture]
        rfl
      show (if h.lens = .learning ∧ (s.frameHealth p (f.statsOf pic)).lens ≠ .learning then
        addCause .learnDone p.val false shown else shown) = _
      rw [shows]
      exact if_congr (completes_iff s p (f.statsOf pic)).symm rfl rfl
    have starts : start = s.tileStart p f pic := congrArg (fun v : State => ({ v with
      engine := { s.engine with sums := s.engine.sums.set p (gather pic.luma f.width f.height) } } : State)) tells
    have tile {r : Fin 2} {u : State} (same : u.engine.productions[planOf p r] = s.engine.productions[planOf p r]) :
        done r u = u.tiled p r pic (s.frameStamp p (f.statsOf pic) r) := by
      rw [tiled_done same]
      show (match s.engine.productions[planOf p r] with | none => _ | some pr => _) = _
      cases s.engine.productions[planOf p r] <;> rfl
    have makes : made = s.tilesMade p f pic := by
      have first : done 0 start = (s.tileStart p f pic).tiled p 0 pic (s.frameStamp p (f.statsOf pic) 0) := by
        rw [starts]
        exact tile rfl
      show done 1 (done 0 start) = _
      rw [first]
      refine tile ?_
      rw [tiled_productions]
      exact getElem_set_ne _ (planOf_ne p).symm _
    have asks : asked = made.lensAsked p h.lens (s.frameHealth p (f.statsOf pic)).lens
        (s.frameHealth p (f.statsOf pic)).coverage := by
      have camera : made.cameraId p = s.cameraId p := by
        rw [State.cameraId, makes, tilesMade_straps]
        rfl
      rw [State.lensAsked, camera]
      exact if_congr (worsens_iff.trans Or.comm).symm rfl rfl
    obtain ⟨agent, trunk⟩ := lensTold_behind made p h.lens (s.frameHealth p (f.statsOf pic)).lens
      (s.frameHealth p (f.statsOf pic)).coverage
    rw [← asks] at agent trunk
    rw [whole, ← makes, ← show asked = _ from asks]
    exact ⟨rfl, rfl, agent.symm, trunk.symm, rfl, rfl, rfl⟩
  · exact (lensed_alarmOk ok.2.2.2.2.1 made).2
  · rw [lensed_tables]
    refine frameTables_of_incomplete (Bool.eq_false_of_not_eq_true fun completes => ?_)
    obtain ⟨learning, -, -, last⟩ := (completes_spec other (f.statsOf pic)).mp completes
    rcases early with not | short
    · exact not learning
    · exact absurd last (Nat.not_le.mpr short)
  · have taken : SameBut [.cams, .health, .engine, .agent, .trunk, .tables] s (s.framed p f pic) :=
      (sameBut_iff_mask _ _ _).mpr rfl
    exact (taken.mono (by decide)).trans ((lensed_keeps p f pic s).mono (by decide))

end

end Sys2Proof.Machine
end

section
/-! PROOF. A cause that has been told is not told again (R174). -/

namespace Sys2Proof.Machine

section
variable {s t : State} {k : CauseKind} {n : Nat}

/-- A cause is in the set, or was lost with the set full. -/
def State.knows (s : State) (k : CauseKind) (n : Nat) : Prop :=
  (∃ d ∈ s.agent.causes, d.kind = k ∧ d.subject = n)
    ∨ (Config.causeCapacity ≤ s.agent.causes.length ∧ s.agent.overflow = true)

theorem alike_iff_same (c d : Cause) : c.alike d = true ↔ d.kind = c.kind ∧ d.subject = c.subject := by
  rw [Cause.alike, Bool.and_eq_true, beq_iff_eq, beq_iff_eq]
  exact and_congr eq_comm eq_comm

/-- A cause that is known, and carries no evidence flag of its own, changes nothing. -/
theorem joinCause_known (knows : s.knows k n) : joinCause ⟨k, n, false⟩ s.agent.causes s.agent.overflow
    = ⟨s.agent.causes, s.agent.overflow, false⟩ := by
  unfold joinCause
  cases found : s.agent.causes.find? (Cause.alike ⟨k, n, false⟩) with
  | some old => exact if_neg fun both => Bool.false_ne_true both.2.1
  | none =>
    rcases knows with ⟨d, mem, kind, subject⟩ | ⟨full, overflow⟩
    · exact absurd ((alike_iff_same _ d).mpr ⟨kind, subject⟩) (List.find?_eq_none.mp found d mem)
    · rw [overflow]
      exact if_neg (Nat.not_lt.mpr full)

theorem addCause_known (knows : s.knows k n) : addCause k n false s = s :=
  addCause_of_unchanged (joinCause_known knows) rfl

/-- Behind its addition a cause is known. -/
theorem addCause_knows (k : CauseKind) (n : Nat) (e : Bool) (s : State) : (addCause k n e s).knows k n := by
  obtain ⟨causes, overflow⟩ := addCause_set (s := s) (kind := k) (subject := n) (evidence := e) rfl
  rw [State.knows, causes, overflow]
  unfold joinCause
  cases found : s.agent.causes.find? (Cause.alike ⟨k, n, e⟩) with
  | some old =>
    have mem := List.mem_of_find?_eq_some found
    have same := (alike_iff_same ⟨k, n, e⟩ old).mp (List.find?_some found)
    dsimp only
    split
    · exact .inl ⟨_, List.mem_map_of_mem mem, by split <;> exact same.1, by split <;> exact same.2⟩
    · exact .inl ⟨old, mem, same⟩
  | none =>
    dsimp only
    split
    next room => exact .inl ⟨_, List.mem_append_right _ (List.mem_singleton.mpr rfl), rfl, rfl⟩
    next full => exact .inr ⟨Nat.not_lt.mp full, rfl⟩

/-- What is known stays known. -/
theorem State.knows.addCause (knows : s.knows k n) (other : CauseKind) (m : Nat) (e : Bool) :
    (Machine.addCause other m e s).knows k n := by
  obtain ⟨causes, overflow⟩ := addCause_set (s := s) (kind := other) (subject := m) (evidence := e) rfl
  rw [State.knows, causes, overflow]
  unfold joinCause
  cases found : s.agent.causes.find? (Cause.alike ⟨other, m, e⟩) with
  | some old =>
    dsimp only
    split
    · refine knows.imp (fun ⟨d, mem, kind, subject⟩ => ⟨_, List.mem_map_of_mem mem, ?_, ?_⟩) fun ⟨full, lost⟩ => ⟨?_, lost⟩
      · split <;> exact kind
      · split <;> exact subject
      · rw [List.length_map]
        exact full
    · exact knows
  | none =>
    dsimp only
    split
    next room =>
      refine knows.imp (fun ⟨d, mem, same⟩ => ⟨d, List.mem_append_left _ mem, same⟩) fun ⟨full, lost⟩ => ?_
      exact absurd room (Nat.not_lt.mpr full)
    next full =>
      exact knows.imp id fun ⟨full, lost⟩ => ⟨full, rfl⟩

/-- Causes added together are known. -/
theorem addTogether_knows {cs : List (CauseKind × Nat)} (mem : (k, n) ∈ cs) (s : State) : (addTogether cs s).knows k n := by
  have each (l : List (CauseKind × Nat)) (t : State) (known : t.knows k n ∨ (k, n) ∈ l) :
      (l.foldl (fun t c => Machine.addCause c.1 c.2 false t) t).knows k n := by
    induction l generalizing t with
    | nil => exact known.resolve_right List.not_mem_nil
    | cons c l later =>
      refine later _ ?_
      rcases known with known | mem
      · exact .inl (known.addCause ..)
      · rcases List.mem_cons.mp mem with rfl | mem
        · exact .inl (addCause_knows ..)
        · exact .inr mem
  unfold addTogether
  refine each _ s (.inr ?_)
  split
  · exact List.mem_reverse.mpr mem
  · exact mem

/-- A cause of a change, told again with the next. -/
theorem addCause_again {cs : List (CauseKind × Nat)} (mem : (k, n) ∈ cs) (s : State) :
    addCause k n false (addTogether cs s) = addTogether cs s := addCause_known (addTogether_knows mem s)

end

end Sys2Proof.Machine
end

section
/-! PROOF. The lens survey: its start, the frames it counts, and its leaving of a port (R185 to R187). Settles O29. -/

namespace Sys2Proof.Machine

section
variable {s t u v m : State} {p q : CamPort} {c : CameraPort} {new : CameraLink} {extra : List (CauseKind × Nat)}
  {f : OpenFrame} {pic : Picture}

/-! ### The start (R185) -/

theorem surveyDue_eq (s : State) (t : NodeTime) : s.surveyDue t = if s.tables.nodeParams.surveyInterval = 0 then none
    else some (t + BitVec.ofNat 32 (600000 * s.tables.nodeParams.surveyInterval)) := by
  have span : 10 * (60000 * s.tables.nodeParams.surveyInterval) = 600000 * s.tables.nodeParams.surveyInterval := by omega
  rw [State.surveyDue, millis, span]

theorem finRange_split : ∀ p : CamPort,
    List.finRange 4 = (List.finRange 4).filter (fun r => decide (r < p)) ++ p :: portsAbove p := by decide

theorem aSurveyStartsAtItsDueTime : Claim.ASurveyStartsAtItsDueTime := by
  intro s mode idle late n next
  obtain ⟨w, is⟩ : ∃ w, w = s.withSurvey { s.survey with due := next } := ⟨_, rfl⟩
  have row : exec .surveyStart s = .next (surveyTake (List.finRange 4) w) := by
    have due : s.surveyDue s.nodeTime = next := surveyDue_eq s s.nodeTime
    show Host.Outcome.next _ = _
    rw [if_pos ⟨mode, idle, late⟩, startSurvey, due, is]
  have passes (q : CamPort) : w.surveyPasses q ↔ s.surveyPasses q := by rw [is]; exact Iff.rfl
  refine ⟨fun all => ?_, fun p stops lower => ?_⟩
  · rw [row, surveyTake_over fun q _ => (passes q).mpr (all q), is]
    rfl
  · have takes : surveyTake (List.finRange 4) w = w.surveyTaking p := by
      rw [finRange_split p]
      refine surveyTake_next (fun q mem => ?_) (mt (passes p).mp stops)
      exact (passes q).mpr (lower q (of_decide_eq_true (List.mem_filter.mp mem).2))
    have taking : w.surveyTaking p = if (s.cams[p]).link = .off then
        addCause .cameraLink p.val false (({ s with survey := ⟨.waitLock, next, some p, 0⟩ } : State).withCam p
          ((s.cams[p]).newly .waking s.nodeTime))
        else { s with survey := ⟨if (s.cams[p]).link = .locked then .skip else .waitLock, next, some p, 0⟩ } := by
      have cams : w.cams = s.cams := by rw [is]; rfl
      have standby : w.mode = .standby := by rw [is]; exact mode
      rw [State.surveyTaking, reevaluateDemand_taken (by exact standby) (by rfl), State.withSurvey_cams,
        State.withSurvey_nodeTime, cams, is]
      by_cases off : (s.cams[p]).link = .off
      · rw [if_pos off, if_pos off, if_neg (by rw [off]; decide)]
        rfl
      · rw [if_neg off, if_neg off]
        rfl
    rw [row, takes, taking]
    refine ⟨fun locked => ?_, fun waits => ?_, fun off => ?_⟩
    · rw [locked]
      rfl
    · rcases waits with link | link <;> rw [link] <;> rfl
    · rw [if_pos off]
      obtain ⟨y, woken⟩ : ∃ y : State, y = ({ s with survey := ⟨.waitLock, next, some p, 0⟩ } : State).withCam p
        ((s.cams[p]).newly .waking s.nodeTime) := ⟨_, rfl⟩
      have first : SameBut [.cams, .survey] s y := by
        rw [woken]
        exact (sameBut_iff_mask _ _ _).mpr rfl
      have told : SameBut [.agent, .trunk] y (addCause .cameraLink p.val false y) := sameBut_addCause _ _ _ y
      have news : SameNews s y := .of_same first (by decide) (by decide) (by decide) (by decide) (by decide)
      rw [← woken]
      refine ⟨_, rfl, ?_, ?_, ?_, (first.mono (by decide)).trans (told.mono (by decide))⟩
      · rw [← show y.survey = _ from told .survey (by decide), woken]
        rfl
      · rw [addCause_cams, woken]
        rfl
      · rw [← addTogether_single]
        exact news.adds _

/-! ### The port is lost (R186, R187) -/

theorem surveyReacts_leaves (port : s.survey.port = some p) (link : (s.cams[p]).link = .lost ∨ (s.cams[p]).link = .powerFault) :
    surveyReacts p s = surveyLeave p s := by
  unfold surveyReacts
  rw [if_pos port]
  rcases link with is | is <;> rw [is]

/-- A port that the survey had and that was lost: its own state, and the survey's move (R186, R187). -/
structure SurveyLost (p : CamPort) (x : CameraPort) (cs : List (CauseKind × Nat)) (s t : State) : Prop where
  own : t.cams[p] = x
  moves : SurveyMovesOn p s t
  tells : SurveyTells p (addTogether cs s) s t
  health : t.health = if (s.cams[p]).link = .locked then s.health.set p (s.health[p]).noSignal else s.health
  engine : t.engine = (if (s.cams[p]).link = .locked then endBadly p s else s).engine
  store : t.store = (if (s.cams[p]).link = .locked then endBadly p s else s).store
  same : SameBut [.cams, .health, .engine, .store, .survey, .agent, .trunk] s t

/-- The causes of a lost port (R9). -/
def State.leaveCauses (s : State) (p : CamPort) : List (CauseKind × Nat) :=
  if (s.cams[p]).link = .locked then s.lossCauses p else [(.cameraLink, p.val)]

theorem mem_leaveCauses (s : State) (p : CamPort) : (.cameraLink, p.val) ∈ s.leaveCauses p := by
  unfold State.leaveCauses State.lossCauses
  split
  · exact List.mem_append_left _ (List.mem_singleton.mpr rfl)
  · exact List.mem_singleton.mpr rfl

/-- The demand of a port that the survey has left: a LOST one goes OFF, or stays under a relearn hold (R184, R187). -/
theorem left_demand (mode : s.mode = .standby) (port : s.survey.port = some p) (moved : LinkMoved p c new extra s m)
    (into : new = .lost ∨ new = .powerFault) :
    let w := m.withSurvey { m.survey with port := none }
    let x := c.newly (if new = .lost ∧ (s.health[p]).relearnHold = false then .off else new) s.nodeTime
    let v := reevaluateDemand p w
    Adds (extra ++ s.leaveCauses p) s v ∧ v.cams = s.cams.set p x ∧ SameBut [.cams, .agent, .trunk] w v := by
  intro w x v
  have away : new ≠ .locked := by rcases into with is | is <;> rw [is] <;> exact CameraLink.noConfusion
  obtain ⟨health, adds⟩ := moved.away away
  have cam : w.cams[p] = c.newly new s.nodeTime := by
    show m.cams[p] = _
    rw [moved.cams, getElem_set_same]
  have link : (w.cams[p]).link = new := by rw [cam]; rfl
  have mode_ : w.mode = .standby := (moved.same .mode (by decide)).symm.trans mode
  have hold : (w.health[p]).relearnHold = (s.health[p]).relearnHold := by
    show (m.health[p]).relearnHold = _
    rw [health]
    split
    · rw [getElem_set_same]
      rfl
    · rfl
  have demand : w.demand p = (s.health[p]).relearnHold := by
    rw [State.demand, mode_, hold, show w.survey.port = none from rfl]
    rfl
  by_cases gone : new = .lost ∧ (s.health[p]).relearnHold = false
  · have goes : v = addCause .cameraLink p.val false (w.withCam p ((w.cams[p]).newly .off w.nodeTime)) := by
      have lost : (w.cams[p]).link = .lost := link.trans gone.1
      show reevaluateDemand p w = _
      rw [reevaluateDemand_eq, if_neg, if_pos]
      · exact moveLink_unlocked (by rw [lost]; decide) (by decide)
      · exact ⟨by rw [CameraPort.power, lost]; rfl, demand.trans gone.2⟩
      · rw [lost]
        exact fun both => CameraLink.noConfusion both.1
    have time : w.nodeTime = s.nodeTime := (moved.same .nodeTime (by decide)).symm
    have told : SameNews (addTogether (extra ++ s.leaveCauses p) s) (w.withCam p ((w.cams[p]).newly .off w.nodeTime)) :=
      (SameNews.of_adds adds moved.same (by decide) (by decide) (by decide)).trans ⟨rfl, rfl, rfl, rfl, rfl⟩
    have again := told.addCause .cameraLink p.val false
    rw [addCause_again (List.mem_append_right _ (mem_leaveCauses s p)), ← goes] at again
    refine ⟨⟨again.agent.symm, again.trunk.symm⟩, ?_, ?_⟩
    · rw [goes, addCause_cams, cam, time]
      show m.cams.set p _ = s.cams.set p (c.newly (if _ then .off else new) s.nodeTime)
      rw [moved.cams, if_pos gone]
      exact Vector.set_set ..
    · rw [goes]
      exact (sameBut_iff_mask _ _ _).mpr (by simp)
  · have stays : v = w := by
      obtain ⟨stands, -⟩ := demand_judged p w
      refine stands ?_
      rcases into with is | is
      · have held : (s.health[p]).relearnHold = true := Bool.eq_true_of_not_eq_false fun free => gone ⟨is, free⟩
        exact .inl ⟨by rw [CameraPort.power, link, is]; rfl, demand.trans held⟩
      · exact .inr (.inr (.inr (link.trans is)))
    rw [stays]
    refine ⟨adds, ?_, (sameBut_iff_mask _ _ _).mpr rfl⟩
    show m.cams = s.cams.set p (c.newly (if _ then .off else new) s.nodeTime)
    rw [moved.cams, if_neg gone]

/-- The survey's port changes to LOST or to POWER_FAULT, and the survey leaves it. -/
theorem changeLink_surveyed (mode : s.mode = .standby) (port : s.survey.port = some p) (link : c.link = (s.cams[p]).link)
    (into : new = .lost ∨ new = .powerFault) (extra : List (CauseKind × Nat)) :
    SurveyLost p (c.newly (if new = .lost ∧ (s.health[p]).relearnHold = false then .off else new) s.nodeTime)
      (extra ++ s.leaveCauses p) s (changeLink p new extra (s.withCam p c)) := by
  have moved := linkMoved (s := s) (p := p) link new extra
  obtain ⟨m, is⟩ : ∃ m, m = moveLink p new extra (s.withCam p c) := ⟨_, rfl⟩
  rw [← is] at moved
  have leaves : changeLink p new extra (s.withCam p c) = surveyLeave p m := by
    rw [changeLink, ← is]
    refine surveyReacts_leaves ((congrArg Survey.port (moved.same .survey (by decide))).symm.trans port) ?_
    rw [moved.cams, getElem_set_same]
    exact into
  have judged := left_demand mode port moved into
  dsimp only at judged
  obtain ⟨v, left⟩ : ∃ v, reevaluateDemand p (m.withSurvey { m.survey with port := none }) = v := ⟨_, rfl⟩
  rw [left] at judged
  obtain ⟨adds, cams, rest⟩ := judged
  have quiet : SameBut [.survey] m (m.withSurvey { m.survey with port := none }) := (sameBut_iff_mask _ _ _).mpr rfl
  have survey : v.survey = { s.survey with port := none } := by
    rw [← show _ = v.survey from rest .survey (by decide), State.withSurvey_survey,
      ← show s.survey = m.survey from moved.same .survey (by decide)]
  have whole : SameBut [.cams, .health, .engine, .store, .survey, .agent, .trunk] s v :=
    ((moved.same.mono (by decide)).trans (quiet.mono (by decide))).trans (rest.mono (by decide))
  obtain ⟨moves, tells, own, same⟩ := surveyLeave_moved (p := p) (u := m) mode adds whole (fun x mem => mem) survey
    (fun q apart => by rw [cams, getElem_set_ne _ (Ne.symm apart)]) left
  have kept {x : Part} (out : x ∉ [Part.cams, .survey, .agent, .trunk]) : x.same m (surveyLeave p m) :=
    (((quiet.mono (by decide)).trans (rest.mono (by decide)) : SameBut [.cams, .survey, .agent, .trunk] m v).trans same) x out
  have away : new ≠ .locked := by rcases into with is | is <;> rw [is] <;> exact CameraLink.noConfusion
  obtain ⟨health, -⟩ := moved.away away
  rw [leaves]
  refine ⟨own.trans (by rw [cams, getElem_set_same]), moves, tells, ?_, ?_, ?_, whole.trans (same.mono (by decide))⟩
  · exact (show m.health = _ from kept (x := .health) (by decide)).symm.trans health
  · exact (show m.engine = _ from kept (x := .engine) (by decide)).symm.trans moved.engine
  · exact (show m.store = _ from kept (x := .store) (by decide)).symm.trans moved.store

theorem SurveyLost.dark {x : CameraPort} {cs : List (CauseKind × Nat)} (lost : SurveyLost p x cs s t)
    (locked : (s.cams[p]).link = .locked) : t.health = s.health.set p (s.health[p]).noSignal
      ∧ t.engine = (endBadly p s).engine ∧ t.store = (endBadly p s).store := by
  have health := lost.health
  have engine := lost.engine
  have store := lost.store
  rw [if_pos locked] at health engine store
  exact ⟨health, engine, store⟩

theorem only_ended : ∀ x ∈ [Part.cams, .health, .engine, .store, .survey, .agent, .trunk],
    x ∉ [Part.cams, .survey, .agent, .trunk] → x = .health ∨ x = .engine ∨ x = .store := by decide

theorem SurveyLost.light {x : CameraPort} {cs : List (CauseKind × Nat)} (lost : SurveyLost p x cs s t)
    (unlocked : (s.cams[p]).link ≠ .locked) : SameBut [.cams, .survey, .agent, .trunk] s t := by
  have health := lost.health
  have engine := lost.engine
  have store := lost.store
  rw [if_neg unlocked] at health engine store
  refine lost.same.narrow fun y mem out => ?_
  rcases only_ended y mem out with rfl | rfl | rfl
  · exact health.symm
  · exact engine.symm
  · exact store.symm

/-- R3, R5, R7, R10, R186, R187: each way in which the survey's port is lost is one change of its link. -/
theorem theSurveyLeavesItsPort : Claim.TheSurveyLeavesItsPort := by
  intro p h pic s mode port c lost left dark failed loss tripped
  have falls (k : CameraPort) (link : k.link = (s.cams[p]).link) := changeLink_surveyed mode port link (.inl rfl) []
  have trips := changeLink_surveyed (c := { s.cams[p] with counters := c.counters.set 4 (increment c.counters[(4 : Fin 6)]) })
    mode port rfl (.inr rfl) [(.powerFault, p.val)]
  have gone (k : CameraPort) : k.newly (if CameraLink.lost = .lost ∧ (s.health[p]).relearnHold = false then .off else .lost)
      s.nodeTime = k.newly (if (s.health[p]).relearnHold then .lost else .off) s.nodeTime := by
    cases (s.health[p]).relearnHold <;> rfl
  have bare : s.withCam p c = s := withCam_self p s
  have causes (locked : c.link = .locked) : s.leaveCauses p = s.lossCauses p := if_pos locked
  have only (unlocked : c.link ≠ .locked) : s.leaveCauses p = [(.cameraLink, p.val)] := if_neg unlocked
  have darkens {x : CameraPort} {cs : List (CauseKind × Nat)} {t : State} (locked : c.link = .locked)
      (gone : SurveyLost p x cs s t) : dark x (addTogether cs s) t := by
    obtain ⟨health, engine, store⟩ := gone.dark locked
    exact ⟨⟨gone.own, gone.moves, gone.tells⟩, health, engine, store, gone.same⟩
  have listens (locked : c.link = .locked) : (s.cams[p]).listens = true := (listens_iff _).mpr (.inr locked)
  have stalls : SurveyLost p lost (s.leaveCauses p) s (changeLink p .lost [] s) := by
    have falling := falls c rfl
    rw [gone, bare] at falling
    exact falling
  have fails (locked : c.link = .locked) : dark failed loss (failFrame p s) := by
    have falling := falls { c with counters := c.counters.set 2 (increment c.counters[(2 : Fin 6)]) } rfl
    have fail : failFrame p s = changeLink p .lost []
        (s.withCam p { c with counters := c.counters.set 2 (increment c.counters[(2 : Fin 6)]) }) := if_pos locked
    rw [gone, ← fail, causes locked] at falling
    exact darkens locked falling
  have trip_ (power : (s.cams[p]).power = true) : exec (.overcurrentTrip p) s = .next (changeLink p .powerFault
      [(.powerFault, p.val)] (s.withCam p { c with counters := c.counters.set 4 (increment c.counters[(4 : Fin 6)]) })) :=
    congrArg Host.Outcome.next (if_pos power)
  rw [if_neg fun both => CameraLink.noConfusion both.1] at trips
  refine ⟨fun waking late => ?_, fun locked late => ?_, fun locked frame => ?_, fun locked bad => ?_,
    fun f locked frame bad => ?_, fun locked => ?_, fun away => ?_⟩
  · have unlocked : c.link ≠ .locked := by rw [waking]; decide
    refine ⟨changeLink p .lost [] s, congrArg Host.Outcome.next (if_pos ⟨waking, late⟩), ?_, stalls.light unlocked⟩
    have told := stalls.tells
    rw [only unlocked, addTogether_single] at told
    exact ⟨stalls.own, stalls.moves, told⟩
  · refine ⟨changeLink p .lost [] s, congrArg Host.Outcome.next (if_pos ⟨locked, late⟩), ?_⟩
    rw [causes locked] at stalls
    exact darkens locked stalls
  · exact ⟨failFrame p s, by rw [exec_shortLine, truncated_of_open frame (listens locked)], fails locked⟩
  · refine ⟨failFrame p s, ?_, fails locked⟩
    rw [exec_frameStart]
    by_cases closed : (s.cams[p]).openFrame = none
    · have wrong : FrameHead.passes h = false := bad.resolve_left fun frame => frame closed
      rw [truncated_of_closed closed, takeFrameStart_locked locked, if_neg (by rw [wrong]; decide)]
    · have deaf : ((failFrame p s).cams[p]).listens = false := by
        rw [(fails locked).1.1]
        show (c.newly (if (s.health[p]).relearnHold then CameraLink.lost else .off) s.nodeTime).listens = false
        cases (s.health[p]).relearnHold <;> rfl
      rw [truncated_of_open closed (listens locked), takeFrameStart_deaf deaf]
  · exact ⟨failFrame p s, by rw [exec_frameEnd, frameEnd_of_open frame (listens locked), if_neg (by rw [bad]; decide)],
      fails locked⟩
  · refine ⟨_, trip_ (by rw [CameraPort.power, show (s.cams[p]).link = .locked from locked]; rfl), ?_⟩
    rw [causes locked] at trips
    exact darkens locked trips
  · have unlocked : c.link ≠ .locked := by rcases away with is | is <;> rw [is] <;> decide
    refine ⟨_, trip_ ?_, ?_, trips.light unlocked⟩
    · rw [CameraPort.power]
      rcases away with is | is <;> rw [show (s.cams[p]).link = _ from is] <;> rfl
    · have told := trips.tells
      rw [only unlocked] at told
      exact ⟨trips.own, trips.moves, told⟩

/-! ### The frames of the survey (R186) -/

theorem lensed_survey (p : CamPort) (f : OpenFrame) (pic : Picture) (s : State) : (s.lensed p f pic).survey = s.survey :=
  ((lensed_keeps p f pic s) .survey (by decide)).symm

theorem lensed_mode (p : CamPort) (f : OpenFrame) (pic : Picture) (s : State) : (s.lensed p f pic).mode = s.mode :=
  ((lensed_keeps p f pic s) .mode (by decide)).symm

theorem lensed_time (p : CamPort) (f : OpenFrame) (pic : Picture) (s : State) : (s.lensed p f pic).nodeTime = s.nodeTime :=
  ((lensed_keeps p f pic s) .nodeTime (by decide)).symm

theorem lensed_link (p : CamPort) (f : OpenFrame) (pic : Picture) (s : State) :
    ((s.lensed p f pic).cams[p]).link = (s.cams[p]).link := by
  rw [lensed_cams, getElem_set_same]
  rfl

theorem surveyPhaseOf_own (port : s.survey.port = some p) : s.surveyPhaseOf p = s.survey.phase := if_pos port

/-- What the survey's move leaves is read from the member ports, the other ports, the survey and the time. -/
theorem SurveyMovesOn.congr (moves : SurveyMovesOn p u t) (config : u.tables.cameraConfig = s.tables.cameraConfig)
    (cams : ∀ q : CamPort, q ≠ p → u.cams[q] = s.cams[q]) (survey : u.survey = s.survey) (time : u.nodeTime = s.nodeTime) :
    SurveyMovesOn p s t := by
  have passes {q : CamPort} (above : p < q) : u.surveyPasses q ↔ s.surveyPasses q := by
    rw [State.surveyPasses, State.surveyPasses, config, cams q (ne_of_gt above)]
  have next {q : CamPort} : u.surveyTakesNext p q ↔ s.surveyTakesNext p q := by
    refine and_congr_right fun above => and_congr (not_congr (passes above)) ?_
    exact forall_congr' fun r => forall_congr' fun below => forall_congr' fun _ => passes below
  obtain ⟨ends, takes, ports⟩ := moves
  refine ⟨fun all => ?_, fun q taken => ?_, fun q other => ⟨fun taken off => ?_, fun stands => ?_⟩⟩
  · rw [ends fun q above => (passes above).mpr (all q above), survey]
  · have own := next.mpr taken
    rw [takes q own, cams q (ne_of_gt taken.1), survey]
  · rw [(ports q other).1 (next.mpr taken) (by rw [cams q other]; exact off), cams q other, time]
  · rw [(ports q other).2 (stands.imp (mt next.mp) (by rw [cams q other]; exact id)), cams q other]

/-- The demand of a LOCKED port in STANDBY that no survey has: its relearn hold alone (R184, R188). -/
theorem standby_demand (mode : s.mode = .standby) (free : s.survey.port ≠ some p) : s.demand p = (s.health[p]).relearnHold := by
  have port : (s.survey.port == some p) = false := beq_eq_false_iff_ne.mpr free
  rw [State.demand, mode, port]
  rfl

/-- A frame of the survey's port that does not end the survey there leaves its power. -/
theorem goodEnd_surveyed {y : Survey} (locked : (s.cams[p]).link = .locked) (mode : s.mode = .standby)
    (counts : surveyCount p (s.lensed p f pic) = (s.lensed p f pic).withSurvey y) (port : y.port = some p) :
    goodEnd p f pic s = (s.lensed p f pic).withSurvey y := by
  have link : ((s.lensed p f pic).cams[p]).link = .locked := (lensed_link p f pic s).trans locked
  have standby : (s.lensed p f pic).mode = .standby := (lensed_mode p f pic s).trans mode
  rw [goodEnd_lensed, counts]
  generalize s.lensed p f pic = w at link standby
  split
  · obtain ⟨stands, -⟩ := demand_judged p (w.withSurvey y)
    exact stands (.inl ⟨by rw [CameraPort.power, State.withSurvey_cams, link]; rfl, demand_survey standby port⟩)
  · rfl

/-- The survey leaves a LOCKED port at the end of its burst: the port goes OFF, or stays under a relearn hold. -/
theorem surveyLeave_locked (mode : s.mode = .standby) (locked : (s.cams[p]).link = .locked) :
    let t := surveyLeave p s
    SurveyMovesOn p s t ∧ (t.cams[p]).link = (if (s.health[p]).relearnHold then .locked else .off)
      ∧ (t.health[p]).relearnHold = (s.health[p]).relearnHold ∧ t.mode = .standby := by
  obtain ⟨w, is⟩ : ∃ w, w = s.withSurvey { s.survey with port := none } := ⟨_, rfl⟩
  have demand : w.demand p = (s.health[p]).relearnHold := by
    rw [standby_demand (by rw [is]; exact mode) (by rw [is]; exact (Option.some_ne_none p).symm), is]
    rfl
  have link : (w.cams[p]).link = .locked := by rw [is]; exact locked
  have quiet : SameBut [.survey] s w := by rw [is]; exact (sameBut_iff_mask _ _ _).mpr rfl
  have judged : SurveyFree p s (reevaluateDemand p w)
      ∧ ((reevaluateDemand p w).cams[p]).link = (if (s.health[p]).relearnHold then .locked else .off)
      ∧ ((reevaluateDemand p w).health[p]).relearnHold = (s.health[p]).relearnHold := by
    rw [reevaluateDemand_eq, link, if_neg fun both => CameraLink.noConfusion both.1, demand]
    cases hold : (s.health[p]).relearnHold with
    | true =>
      rw [if_neg fun both => Bool.noConfusion both.2, is]
      exact ⟨⟨rfl, rfl, mode, rfl, fun _ _ => rfl⟩, locked, hold⟩
    | false =>
      have moved := linkMoved_self p .off [] w
      obtain ⟨health, -⟩ := moved.away (by decide)
      rw [if_pos ⟨by rw [CameraPort.power, link]; rfl, rfl⟩]
      generalize moveLink p .off [] w = v at moved health
      refine ⟨⟨(moved.same .tables (by decide)).symm.trans (quiet .tables (by decide)).symm,
        (moved.same .nodeTime (by decide)).symm.trans (quiet .nodeTime (by decide)).symm,
        ((moved.same .mode (by decide)).symm.trans (quiet .mode (by decide)).symm).trans mode, ?_, fun q other => ?_⟩, ?_, ?_⟩
      · rw [← show w.survey = v.survey from moved.same .survey (by decide), is]
        rfl
      · rw [moved.cams, getElem_set_ne _ (Ne.symm other), is]
        rfl
      · rw [moved.cams, getElem_set_same]
        rfl
      · rw [health, if_pos link, getElem_set_same, is]
        exact hold
  intro t
  have leaves : t = surveyTake (portsAbove p) (reevaluateDemand p w) := by rw [is]; rfl
  obtain ⟨free, linked, held⟩ := judged
  generalize reevaluateDemand p w = v at leaves free linked held
  obtain ⟨moves, -, own, same⟩ := surveyTake_moved free (.refl v)
  rw [← leaves] at moves own same
  exact ⟨moves, by rw [own]; exact linked, by rw [← show v.health = t.health from same .health (by decide)]; exact held,
    (same .mode (by decide)).symm.trans free.mode⟩

theorem SurveyMovesOn.left (moves : SurveyMovesOn p s t) : t.survey.port ≠ some p := by
  obtain ⟨ends, takes, -⟩ := moves
  by_cases ended : ∀ q : CamPort, p < q → s.surveyPasses q
  · rw [ends ended]
    exact (Option.some_ne_none p).symm
  · obtain ⟨q, next⟩ := exists_surveyTakesNext ended
    rw [takes q next]
    exact fun same => absurd (Option.some.inj same) (ne_of_gt next.1)

/-- R186: the SKIP and BURST counts, and the leave behind the last burst frame. -/
theorem theSurveyCountsItsFrames : Claim.TheSurveyCountsItsFrames := by
  intro p f pic s locked frame good port mode
  have row := exec_goodEnd locked frame good
  have survey := lensed_survey p f pic s
  have standby_ := (lensed_mode p f pic s).trans mode
  have locked_ := (lensed_link p f pic s).trans locked
  have time := lensed_time p f pic s
  have config : (s.lensed p f pic).tables.cameraConfig = s.tables.cameraConfig := by
    rw [lensed_tables, frameTables_config]
  have cams (q : CamPort) (other : q ≠ p) : (s.lensed p f pic).cams[q] = s.cams[q] := by
    rw [lensed_cams, getElem_set_ne _ (Ne.symm other)]
  have own := surveyPhaseOf_own port
  have record : (s.lensed p f pic).health[p] = s.frameHealth p (f.statsOf pic) := by
    rw [lensed_health, getElem_set_same]
  obtain ⟨-, -, -, count⟩ := frameHealth_keeps s p (f.statsOf pic)
  have skips (skip : s.survey.phase = .skip) : (s.frameHealth p (f.statsOf pic)).sampleCount = (s.health[p]).sampleCount
      ∧ (s.frameHealth p (f.statsOf pic)).lens = (s.health[p]).lens := by
    have after : s.sampleCountAfter p = ((s.health[p]).sampleCount, false) := by
      rw [State.sampleCountAfter, own, skip]
    obtain ⟨stands, -⟩ := frameHealth_counted (s := s) (p := p) (st := f.statsOf pic) (.inl (by rw [State.samples, after]))
    exact ⟨by rw [count, after], by rw [stands]; rfl⟩
  have bursts (burst : s.survey.phase = .burst) : s.sampleCountAfter p = (0, true) := by
    rw [State.sampleCountAfter, own, burst]
  have ends {y : Survey} (counts : surveyCount p (s.lensed p f pic) = (s.lensed p f pic).withSurvey y)
      (at_ : y.port = some p) : exec (.frameEnd p pic) s = .next ((s.lensed p f pic).withSurvey y) := by
    rw [row, goodEnd_surveyed locked mode counts at_]
  have work := goodEnd_lensed p f pic s
  generalize s.lensed p f pic = w at survey standby_ locked_ time config cams record ends work
  have phase : w.surveyPhaseOf p = s.survey.phase := by
    rw [surveyPhaseOf_own (by rw [survey]; exact port), survey]
  refine ⟨fun skip few => ?_, fun skip full => ?_, fun burst few => ?_, fun burst full => ?_⟩
  · have counts : surveyCount p w = w.withSurvey { s.survey with count := s.survey.count + 1 } := by
      unfold surveyCount
      rw [phase, skip, survey]
      exact if_neg (Nat.not_le.mpr (Nat.succ_lt_succ few))
    obtain ⟨sampled, lens⟩ := skips skip
    rw [← record] at sampled lens
    exact ⟨_, ends counts port, rfl, sampled, lens⟩
  · have counts : surveyCount p w = w.withSurvey { s.survey with phase := .burst, count := 0 } := by
      unfold surveyCount
      rw [phase, skip, survey]
      exact if_pos (Nat.succ_le_succ full)
    obtain ⟨sampled, lens⟩ := skips skip
    rw [← record] at sampled lens
    have run := ends counts port
    refine ⟨_, (frameEndIf_runs locked frame good ?_ rfl).trans run, run, rfl, sampled, lens⟩
    rw [own, skip, decide_eq_true (Nat.succ_le_succ full)]
    rfl
  · have counts : surveyCount p w = w.withSurvey { s.survey with count := s.survey.count + 1 } := by
      unfold surveyCount
      rw [phase, burst, survey]
      exact if_neg (Nat.not_le.mpr (Nat.succ_lt_succ few))
    rw [bursts burst, ← record] at count
    have run := ends counts port
    refine ⟨_, (frameEndIf_runs locked frame good ?_ rfl).trans run, run, rfl, count⟩
    show s.samples p = true
    rw [State.samples, bursts burst]
  · have counts : surveyCount p w = surveyLeave p w := by
      unfold surveyCount
      rw [phase, burst, survey]
      exact if_pos (Nat.succ_le_succ full)
    obtain ⟨moves, link, hold, standby⟩ := surveyLeave_locked standby_ locked_
    rw [counts] at work
    have left := moves.left
    have mine : SurveyMovesOn p s (surveyLeave p w) := moves.congr config cams survey time
    rw [← hold] at link
    generalize surveyLeave p w = t at work link standby left mine
    have stays : goodEnd p f pic s = t := by
      rw [work]
      split
      next ended =>
        have free : (t.health[p]).relearnHold = false := by
          rw [Bool.and_eq_true, Bool.not_eq_true'] at ended
          exact ended.2
        obtain ⟨stands, -⟩ := demand_judged p t
        rw [free] at link
        exact stands (.inr (.inl ⟨link, (standby_demand standby left).trans free⟩))
      next => rfl
    have run : exec (.frameEnd p pic) s = .next t := by rw [row, stays]
    refine ⟨t, (frameEndIf_runs locked frame good ?_ rfl).trans run, run, mine, link⟩
    rw [own, burst, decide_eq_true (Nat.succ_le_succ full)]
    rfl

/-- Settles O29. -/
theorem theSurveyTakesThePortsInTurn : Obligations.TheSurveyTakesThePortsInTurn :=
  ⟨aSurveyStartsAtItsDueTime, theSurveyCountsItsFrames, theSurveyLeavesItsPort⟩

end

end Sys2Proof.Machine
end

section
/-! PROOF. Check failures on both trunk ports in one cell time (R54, R174, R175). Refutes O48. -/

namespace Sys2Proof.Machine

section

/-- An entry of a send list whose first data cell is next. -/
def begunEntry (i : SlotNo) (sid : StreamId) : SendEntry := ⟨.tile, i, sid, true, some 0, 9⟩

/-- Both ports send, port A from slot 1 and port B from slot 2. The controller is on port A, notices are armed, and
slot 1's MEMORY_ERROR already stands in the cause set. -/
def bothSending : State := { State.reset with
  controllerSide := some .a
  agent := { State.reset.agent with armed := true, causes := [⟨.memoryError, 1, false⟩] }
  trunk := ⟨{ Trunk.reset with sendList := [begunEntry 1 1] }, { Trunk.reset with sendList := [begunEntry 2 2] }⟩ }

/-- Both reads fail, with no byte found. -/
def bothFail : MemoryReads := ⟨some [], some []⟩

/-- The NOTICE of port B's check failure joins port A's control queue in the cell time that port A's failure is found
in: slot 1's cause changes nothing, so notices are still armed when slot 2's joins the set. -/
theorem notice_on_the_other_port : (((cellTime bothFail bothSending).trunk.get .a).control).length = 2 := by
  decide

/-- Refutes O48: its first claim says that port A's trunk port is left as its own check failure leaves it, whichever
port is served first. In `bothSending` the failure on port B puts the two cells of a NOTICE in port A's control queue,
which neither of the two orders of the claim keeps. -/
theorem not_checkFailuresMarkTheSlot : ¬ Obligations.CheckFailuresMarkTheSlot := by
  rintro ⟨marks, -⟩
  obtain ⟨t, u, run, orders⟩ := marks .a (begunEntry 1 1) [] 0 [] bothFail bothSending (by decide) rfl rfl (.inl rfl) rfl rfl
    rfl rfl fun d mem => .inl (by rw [List.mem_singleton.mp mem]; rfl)
  have whole : t = cellTime bothFail bothSending := (Host.Outcome.next.inj run).symm
  have cells : ((t.trunk.get .a).control).length = 2 := by rw [whole, notice_on_the_other_port]
  rcases orders with ⟨-, is⟩ | ⟨other, is⟩
  · have none : ((t.trunk.get .a).control).length = 0 := by rw [is]; rfl
    exact absurd (cells.symm.trans none) (by decide)
  · have first := (Host.Outcome.next.inj other).symm
    have none : ((t.trunk.get .a).control).length = 0 := by rw [is, first]; decide
    exact absurd (cells.symm.trans none) (by decide)

end

end Sys2Proof.Machine
end

section
/-! PROOF. What the camera ports make of a power demand that is judged anew on each of them, and causes told where the
send lists stand otherwise (R2, R3, R105, R174). -/

namespace Sys2Proof.Machine

section
variable {s t u : State} {p q : CamPort}

/-! ### Causes told with other send lists -/

/-- A trunk port with the send list and the share counter of another. -/
def Trunk.listed (x y : Trunk) : Trunk := { x with sendList := y.sendList, share := y.share }

/-- Two states agree in all that adding a cause or placing a beacon reads: it reads nothing of the send lists. -/
structure SameTalk (s t : State) : Prop where
  agent : s.agent = t.agent
  trunk : ∀ p : TrunkPort, t.trunk.get p = (s.trunk.get p).listed (t.trunk.get p)
  side : s.controllerSide = t.controllerSide
  straps : s.straps = t.straps
  ties : s.swapTies = t.swapTies

theorem SameTalk.of_news (h : SameNews s t) : SameTalk s t :=
  ⟨h.agent, fun p => by rw [h.trunk]; rfl, h.side, h.straps, h.ties⟩

theorem SameTalk.trans (h : SameTalk s t) (k : SameTalk t u) : SameTalk s u where
  agent := h.agent.trans k.agent
  trunk p := by
    refine (k.trunk p).trans ?_
    rw [h.trunk p]
    rfl
  side := h.side.trans k.side
  straps := h.straps.trans k.straps
  ties := h.ties.trans k.ties

theorem Trunk.queued_listed {x y : Trunk} (listed : y = x.listed y) (c : Cell) : y.queued c = (x.queued c).listed (y.queued c) := by
  rw [listed]
  unfold Trunk.queued
  by_cases room : x.control.length < 32
  · rw [if_pos room, if_pos (show (x.listed y).control.length < 32 from room)]
    rfl
  · rw [if_neg room, if_neg (show ¬ (x.listed y).control.length < 32 from room)]
    rfl

theorem SameTalk.withTrunk (h : SameTalk s t) (p : TrunkPort) {x y : Trunk} (listed : y = x.listed y) :
    SameTalk (s.withTrunk p x) (t.withTrunk p y) where
  agent := h.agent
  trunk q := by
    rw [State.withTrunk_trunk, State.withTrunk_trunk]
    by_cases here : q = p
    · rw [here, Pair.get_set_same, Pair.get_set_same]
      exact listed
    · rw [Pair.get_set_ne _ here, Pair.get_set_ne _ here]
      exact h.trunk q
  side := h.side
  straps := h.straps
  ties := h.ties

theorem SameTalk.placeControl (h : SameTalk s t) (p : TrunkPort) (c : Cell) :
    SameTalk (placeControl p c s) (placeControl p c t) := by
  rw [placeControl_eq, placeControl_eq]
  exact h.withTrunk p (Trunk.queued_listed (h.trunk p) c)

theorem SameTalk.placeAll (h : SameTalk s t) (p : TrunkPort) (cs : List Cell) :
    SameTalk (placeAll p cs s) (placeAll p cs t) := by
  induction cs generalizing s t with
  | nil => exact h
  | cons c cs later =>
    rw [placeAll_cons, placeAll_cons]
    exact later (h.placeControl p c)

theorem SameTalk.withAgent (h : SameTalk s t) (a : Agent) : SameTalk (s.withAgent a) (t.withAgent a) :=
  ⟨rfl, h.trunk, h.side, h.straps, h.ties⟩

theorem SameTalk.sendNotice (h : SameTalk s t) : SameTalk (sendNotice s) (sendNotice t) := by
  have cells : t.noticeCells = s.noticeCells := by
    simp only [State.noticeCells, State.nodeNumber, h.agent, h.straps]
  unfold Machine.sendNotice
  rw [← h.side, ← h.agent, cells]
  split
  · exact h
  · split
    · exact (h.withAgent _).placeAll _ _
    · exact h

theorem SameTalk.addCause (h : SameTalk s t) (k : CauseKind) (n : Nat) (e : Bool) :
    SameTalk (addCause k n e s) (addCause k n e t) := by
  unfold Machine.addCause
  dsimp only
  rw [← h.agent]
  split
  · exact (h.withAgent _).sendNotice
  · exact h.withAgent _

theorem SameTalk.addTogether (h : SameTalk s t) (cs : List (CauseKind × Nat)) :
    SameTalk (addTogether cs s) (addTogether cs t) := by
  have each (l : List (CauseKind × Nat)) : ∀ {x y : State}, SameTalk x y →
      SameTalk (l.foldl (fun z c => Machine.addCause c.1 c.2 false z) x)
        (l.foldl (fun z c => Machine.addCause c.1 c.2 false z) y) := by
    induction l with
    | nil => exact id
    | cons c l later => exact fun k => later (k.addCause ..)
  unfold Machine.addTogether
  rw [← h.ties]
  exact each _ h

theorem SameTalk.placeBeacon (h : SameTalk s t) (p : TrunkPort) (head hops : Nat) :
    SameTalk (placeBeacon p head hops s) (placeBeacon p head hops t) := by
  have link : (t.trunk.get p).link = (s.trunk.get p).link := by rw [h.trunk p]; rfl
  unfold Machine.placeBeacon
  rw [link]
  split
  · exact h.placeControl p _
  · exact h

theorem SameTalk.beaconBoth (h : SameTalk s t) : SameTalk (beaconBoth s) (beaconBoth t) := by
  have number : t.nodeNumber = s.nodeNumber := by rw [State.nodeNumber, State.nodeNumber, h.straps]
  unfold Machine.beaconBoth
  rw [number]
  exact (h.placeBeacon ..).placeBeacon ..

/-- What a step has told, where the state it told it from agrees with another in all that it reads. -/
theorem SameTalk.adds {v : State} (h : SameTalk s t) {cs : List (CauseKind × Nat)} (told : Adds cs t v)
    (same : SameBut [.cams, .health, .engine, .store, .orient, .comp, .agent, .trunk] t v) :
    SameTalk (Machine.addTogether cs s) v := by
  have kept := sameBut_addTogether cs t
  refine (h.addTogether cs).trans (.of_news ⟨told.1.symm, told.2.symm, ?_, ?_, ?_⟩)
  · exact (kept .controllerSide (by decide)).symm.trans (same .controllerSide (by decide))
  · exact (kept .straps (by decide)).symm.trans (same .straps (by decide))
  · exact (kept .swapTies (by decide)).symm.trans (same .swapTies (by decide))

/-! ### The lists that stand as causes are told -/

/-- The send lists and the share counters stand. -/
structure SameLists (s t : State) : Prop where
  port : ∀ p : TrunkPort, (t.trunk.get p).sendList = (s.trunk.get p).sendList ∧ (t.trunk.get p).share = (s.trunk.get p).share

theorem SameLists.refl (s : State) : SameLists s s := ⟨fun _ => ⟨rfl, rfl⟩⟩

theorem SameLists.trans (h : SameLists s t) (k : SameLists t u) : SameLists s u :=
  ⟨fun p => ⟨(k.port p).1.trans (h.port p).1, (k.port p).2.trans (h.port p).2⟩⟩

theorem sameLists_of_trunk (h : t.trunk = s.trunk) : SameLists s t :=
  ⟨fun p => by rw [h]; exact ⟨rfl, rfl⟩⟩

theorem sameLists_placeControl (p : TrunkPort) (c : Cell) (s : State) : SameLists s (placeControl p c s) := by
  refine ⟨fun q => ?_⟩
  rw [placeControl_eq, State.withTrunk_trunk]
  by_cases here : q = p
  · rw [here, Pair.get_set_same]
    unfold Trunk.queued
    split
    · exact ⟨rfl, rfl⟩
    · exact ⟨rfl, rfl⟩
  · rw [Pair.get_set_ne _ here]
    exact ⟨rfl, rfl⟩

theorem sameLists_placeAll (p : TrunkPort) (cs : List Cell) (s : State) : SameLists s (placeAll p cs s) := by
  induction cs generalizing s with
  | nil => exact .refl s
  | cons c cs later =>
    rw [placeAll_cons]
    exact (sameLists_placeControl p c s).trans (later _)

theorem sameLists_sendNotice (s : State) : SameLists s (sendNotice s) := by
  unfold Machine.sendNotice
  split
  · exact .refl s
  · split
    · exact (sameLists_of_trunk (by rfl)).trans (sameLists_placeAll _ _ _)
    · exact .refl s

theorem sameLists_addCause (k : CauseKind) (n : Nat) (e : Bool) (s : State) : SameLists s (addCause k n e s) := by
  unfold Machine.addCause
  dsimp only
  split
  · exact (sameLists_of_trunk (by rfl)).trans (sameLists_sendNotice _)
  · exact sameLists_of_trunk rfl

theorem sameLists_addTogether (cs : List (CauseKind × Nat)) (s : State) : SameLists s (addTogether cs s) := by
  unfold Machine.addTogether
  exact List.foldlRecOn (motive := SameLists s) _ _ (.refl s) fun u hu c _ => hu.trans (sameLists_addCause ..)

theorem sameLists_placeBeacon (p : TrunkPort) (head hops : Nat) (s : State) : SameLists s (placeBeacon p head hops s) := by
  unfold Machine.placeBeacon
  split
  · exact sameLists_placeControl ..
  · exact .refl s

theorem sameLists_beaconBoth (s : State) : SameLists s (beaconBoth s) :=
  (sameLists_placeBeacon ..).trans (sameLists_placeBeacon ..)

theorem sameLists_adds {cs : List (CauseKind × Nat)} (told : Adds cs s t) : SameLists s t :=
  (sameLists_addTogether cs s).trans (sameLists_of_trunk told.2)

/-! ### One port (R2, R3, R61) -/

/-- A port as its power demand leaves it (R2, R3). -/
def CameraPort.judged (c : CameraPort) (wants : Bool) (now : NodeTime) : CameraPort :=
  match c.link with
  | .off => if wants then c.newly .waking now else c
  | .waking | .locked | .lost => if wants then c else c.newly .off now
  | .testing | .powerFault => c

/-- What a port whose demand is judged anew tells (R9, R61, R174). -/
def State.judgedCauses (s : State) (p : CamPort) (wants : Bool) : List (CauseKind × Nat) :=
  match (s.cams[p]).link with
  | .off => if wants then [(.cameraLink, p.val)] else []
  | .waking | .lost => if wants then [] else [(.cameraLink, p.val)]
  | .locked => if wants then [] else s.lossCauses p
  | .testing | .powerFault => []

/-- A port loses its lock as its demand ends (R9). -/
abbrev State.unlocks (s : State) (p : CamPort) : Prop := (s.cams[p]).link = .locked ∧ s.demand p = false

theorem abandonProduction_sums (k : PlanNo) (s : State) : (abandonProduction k s).engine.sums = s.engine.sums := by
  unfold abandonProduction
  split
  · rfl
  · rfl

theorem endBadly_sums (p : CamPort) (s : State) : (endBadly p s).engine.sums = s.engine.sums.set p noSums := by
  show (abandonProduction (planOf p 1) (abandonProduction (planOf p 0) s)).engine.sums.set p noSums = _
  rw [abandonProduction_sums, abandonProduction_sums]

/-- What a port's demand, judged anew, leaves. -/
structure Judged (p : CamPort) (s t : State) : Prop where
  cams : t.cams = s.cams.set p ((s.cams[p]).judged (s.demand p) s.nodeTime)
  health : t.health = s.health.set p (if s.unlocks p then (s.health[p]).noSignal else s.health[p])
  sums : t.engine.sums = s.engine.sums.set p (if s.unlocks p then noSums else s.engine.sums[p])
  work : (∀ r : Fin 2, s.engine.productions[planOf p r] = none) →
    t.engine = { s.engine with sums := s.engine.sums.set p (if s.unlocks p then noSums else s.engine.sums[p]) }
      ∧ t.store = s.store
  adds : Adds (s.judgedCauses p (s.demand p)) s t
  same : SameBut [.cams, .health, .engine, .store, .agent, .trunk] s t

theorem judged_stands (cam : (s.cams[p]).judged (s.demand p) s.nodeTime = s.cams[p]) (keeps : ¬ s.unlocks p)
    (quiet : s.judgedCauses p (s.demand p) = []) : Judged p s s where
  cams := by rw [cam]; exact (Vector.set_getElem_self _).symm
  health := by rw [if_neg keeps]; exact (Vector.set_getElem_self _).symm
  sums := by rw [if_neg keeps]; exact (Vector.set_getElem_self _).symm
  work _ := by
    rw [if_neg keeps]
    exact ⟨congrArg (fun x => { s.engine with sums := x }) (Vector.set_getElem_self _).symm, rfl⟩
  adds := by rw [quiet]; exact ⟨by rw [addTogether_nil], by rw [addTogether_nil]⟩
  same := fun x _ => by cases x <;> rfl

/-- A port that changes its link state without a lock to lose. -/
theorem judged_moves {new : CameraLink} (cam : (s.cams[p]).judged (s.demand p) s.nodeTime = (s.cams[p]).newly new s.nodeTime)
    (keeps : ¬ s.unlocks p) (tells : s.judgedCauses p (s.demand p) = [(.cameraLink, p.val)])
    (moved : t.cams = s.cams.set p ((s.cams[p]).newly new s.nodeTime) ∧ Adds [(.cameraLink, p.val)] s t
      ∧ SameBut [.cams, .agent, .trunk] s t) : Judged p s t := by
  obtain ⟨cams, adds, same⟩ := moved
  refine ⟨by rw [cam]; exact cams, ?_, ?_, fun _ => ⟨?_, (same .store (by decide)).symm⟩, by rw [tells]; exact adds,
    same.mono (by simp)⟩
  · rw [if_neg keeps, ← same .health (by decide)]
    exact (Vector.set_getElem_self _).symm
  · rw [if_neg keeps, ← same .engine (by decide)]
    exact (Vector.set_getElem_self _).symm
  · rw [if_neg keeps, ← same .engine (by decide)]
    exact congrArg (fun x => { s.engine with sums := x }) (Vector.set_getElem_self _).symm

theorem judged_one (p : CamPort) (s : State) : Judged p s (reevaluateDemand p s) := by
  obtain ⟨stands, wakes, sleeps, loses⟩ := demand_judged p s
  have away (link : (s.cams[p]).link ≠ .locked) : ¬ s.unlocks p := fun h => link h.1
  cases link : (s.cams[p]).link with
  | testing =>
    rw [stands (.inr (.inr (.inl link)))]
    exact judged_stands (by unfold CameraPort.judged; rw [link]) (away (by rw [link]; decide)) (by unfold State.judgedCauses; rw [link])
  | powerFault =>
    rw [stands (.inr (.inr (.inr link)))]
    exact judged_stands (by unfold CameraPort.judged; rw [link]) (away (by rw [link]; decide)) (by unfold State.judgedCauses; rw [link])
  | off =>
    cases demand : s.demand p with
    | false =>
      rw [stands (.inr (.inl ⟨link, demand⟩))]
      exact judged_stands (by unfold CameraPort.judged; rw [link, demand]; rfl) (away (by rw [link]; decide))
        (by unfold State.judgedCauses; rw [link, demand]; rfl)
    | true =>
      exact judged_moves (by unfold CameraPort.judged; rw [link, demand]; rfl) (away (by rw [link]; decide))
        (by unfold State.judgedCauses; rw [link, demand]; rfl) (wakes link demand)
  | waking | lost =>
    cases demand : s.demand p with
    | true =>
      rw [stands (.inl ⟨by rw [CameraPort.power, link]; rfl, demand⟩)]
      exact judged_stands (by unfold CameraPort.judged; rw [link, demand]; rfl) (away (by rw [link]; decide))
        (by unfold State.judgedCauses; rw [link, demand]; rfl)
    | false =>
      exact judged_moves (by unfold CameraPort.judged; rw [link, demand]; rfl) (away (by rw [link]; decide))
        (by unfold State.judgedCauses; rw [link, demand]; rfl) (sleeps (by rw [link]; simp) demand)
  | locked =>
    cases demand : s.demand p with
    | true =>
      rw [stands (.inl ⟨by rw [CameraPort.power, link]; rfl, demand⟩)]
      exact judged_stands (by unfold CameraPort.judged; rw [link, demand]; rfl)
        (fun h => Bool.false_ne_true (h.2.symm.trans demand)) (by unfold State.judgedCauses; rw [link, demand]; rfl)
    | false =>
      obtain ⟨cams, health, engine, store, adds, same⟩ := loses link demand
      have unlocks : s.unlocks p := ⟨link, demand⟩
      refine ⟨?_, by rw [if_pos unlocks]; exact health, ?_, fun idle => ?_, ?_, same⟩
      · rw [cams]
        unfold CameraPort.judged
        rw [link, demand]
        rfl
      · rw [if_pos unlocks, engine]
        exact endBadly_sums p s
      · rw [if_pos unlocks, engine, store, endBadly_idle idle]
        exact ⟨rfl, rfl⟩
      · unfold State.judgedCauses
        rw [link, demand]
        exact adds

/-! ### Some ports, one after another -/

theorem demand_of_hold (mode : t.mode = s.mode) (tables : t.tables = s.tables) (survey : t.survey = s.survey)
    (hold : (t.health[q]).relearnHold = (s.health[q]).relearnHold) : t.demand q = s.demand q := by
  rw [State.demand, State.demand, mode, tables, survey, hold]

theorem Judged.demand (judged : Judged p s t) (q : CamPort) : t.demand q = s.demand q := by
  have same := judged.same
  refine demand_of_hold (same .mode (by decide)).symm (same .tables (by decide)).symm (same .survey (by decide)).symm ?_
  rw [judged.health]
  by_cases here : p = q
  · subst here
    rw [getElem_set_same]
    split
    · rfl
    · rfl
  · rw [getElem_set_ne _ here]

theorem judgedCauses_congr (cam : t.cams[p] = s.cams[p]) (record : t.health[p] = s.health[p]) (wants : Bool) :
    t.judgedCauses p wants = s.judgedCauses p wants := by
  rw [State.judgedCauses, State.judgedCauses, State.lossCauses, State.lossCauses, cam, record]

/-- What the demand of some ports, judged anew, leaves. -/
structure JudgedAll (ps : List CamPort) (s t : State) : Prop where
  cams : ∀ q : CamPort, t.cams[q] = if q ∈ ps then (s.cams[q]).judged (s.demand q) s.nodeTime else s.cams[q]
  health : ∀ q : CamPort, t.health[q] = if q ∈ ps ∧ s.unlocks q then (s.health[q]).noSignal else s.health[q]
  sums : ∀ q : CamPort, t.engine.sums[q] = if q ∈ ps ∧ s.unlocks q then noSums else s.engine.sums[q]
  work : (∀ k : PlanNo, s.engine.productions[k] = none) → t.engine = { s.engine with sums := t.engine.sums }
    ∧ t.store = s.store
  demand : ∀ q : CamPort, t.demand q = s.demand q
  talk : ∀ y : State, SameTalk y s →
    SameTalk (ps.foldl (fun z q => addTogether (s.judgedCauses q (s.demand q)) z) y) t
  lists : SameLists s t
  same : SameBut [.cams, .health, .engine, .store, .agent, .trunk] s t

/-- A vector with one more of its places filled. -/
theorem getElem_filled {α : Type} {x y : Vector α 4} {f : CamPort → α} {ps : List CamPort} {c : CamPort → Prop}
    [DecidablePred c] (fresh : p ∉ ps) (before : ∀ q : CamPort, x[q] = if q ∈ ps ∧ c q then f q else y[q]) (q : CamPort) :
    (x.set p (if c p then f p else x[p]))[q] = if q ∈ ps ++ [p] ∧ c q then f q else y[q] := by
  have inside : q ∈ ps ++ [p] ↔ q ∈ ps ∨ q = p := by rw [List.mem_append, List.mem_singleton]
  by_cases here : p = q
  · subst here
    have own : x[p] = y[p] := (before p).trans (if_neg fun h => fresh h.1)
    rw [getElem_set_same, own]
    exact if_congr ⟨fun h => ⟨inside.mpr (.inr rfl), h⟩, And.right⟩ rfl rfl
  · rw [getElem_set_ne _ here, before]
    exact if_congr (and_congr_left' ⟨fun h => inside.mpr (.inl h), fun h => (inside.mp h).resolve_right (Ne.symm here)⟩) rfl rfl

theorem judged_all (ps : List CamPort) (once : ps.Nodup) (s : State) :
    JudgedAll ps s (ps.foldl (fun t p => reevaluateDemand p t) s) := by
  induction ps using List.reverseRecOn with
  | nil =>
    have outside {c : CamPort → Prop} (q : CamPort) : ¬ (q ∈ ([] : List CamPort) ∧ c q) := fun h => List.not_mem_nil h.1
    exact ⟨fun q => (if_neg List.not_mem_nil).symm, fun q => (if_neg (outside q)).symm,
      fun q => (if_neg (outside q)).symm, fun _ => ⟨rfl, rfl⟩, fun _ => rfl, fun _ h => h, .refl s,
      fun x _ => by cases x <;> rfl⟩
  | append_singleton ps p earlier =>
    rw [List.nodup_append] at once
    obtain ⟨once, -, apart⟩ := once
    obtain ⟨cams, health, sums, work, demand, talk, lists, same⟩ := earlier once
    rw [List.foldl_append, List.foldl_cons, List.foldl_nil]
    generalize ps.foldl (fun t p => reevaluateDemand p t) s = u at cams health sums work demand talk lists same
    have fresh : p ∉ ps := fun mem => apart p mem p List.mem_cons_self rfl
    have cam : u.cams[p] = s.cams[p] := (cams p).trans (if_neg fresh)
    have record : u.health[p] = s.health[p] := (health p).trans (if_neg fun h => fresh h.1)
    have time : u.nodeTime = s.nodeTime := (same .nodeTime (by decide)).symm
    have unlocks : u.unlocks p ↔ s.unlocks p := by rw [State.unlocks, State.unlocks, cam, demand]
    have judged := judged_one p u
    have demands := judged.demand
    obtain ⟨cams', health', sums', work', adds, same'⟩ := judged
    generalize reevaluateDemand p u = v at cams' health' sums' work' adds same' demands
    refine ⟨fun q => ?_, fun q => ?_, fun q => ?_, fun idle => ?_, fun q => (demands q).trans (demand q), fun y alike => ?_,
      lists.trans (sameLists_adds adds), same.trans same'⟩
    · rw [cams', cam, demand, time]
      have filled := getElem_filled (c := fun _ => True) (f := fun q => (s.cams[q]).judged (s.demand q) s.nodeTime) fresh
        (fun q => (cams q).trans (if_congr (and_true _).symm.to_iff rfl rfl)) q
      exact (congrArg (fun z => (u.cams.set p z)[q]) (if_pos trivial).symm).trans
        (filled.trans (if_congr (and_true _).to_iff rfl rfl))
    · rw [health', if_congr unlocks (congrArg Health.noSignal record) rfl]
      exact getElem_filled fresh health q
    · rw [sums', if_congr unlocks rfl rfl]
      exact getElem_filled (f := fun _ => noSums) fresh sums q
    · obtain ⟨engine, store⟩ := work idle
      have still (k : PlanNo) : u.engine.productions[k] = none := by rw [engine]; exact idle k
      obtain ⟨engine', store'⟩ := work' fun r => still _
      refine ⟨?_, store'.trans store⟩
      rw [engine', engine]
    · rw [List.foldl_append, List.foldl_cons, List.foldl_nil, ← judgedCauses_congr cam record, ← demand p]
      exact (talk y alike).adds adds (same'.mono (by simp))

theorem judged_each (s : State) : JudgedAll (List.finRange 4) s (eachPort reevaluateDemand s) :=
  judged_all _ (List.nodup_finRange 4) s

end

end Sys2Proof.Machine
end

section
/-! PROOF. What orientation makes of a change of mode (R97, R103, R147). -/

namespace Sys2Proof.Machine

section
variable {s t u x : State} {o : Orientation} {cs : List (CauseKind × Nat)} {stops : Bool}

/-- A record put in and told, and composing stopped or not (R97, R147). -/
structure Turned (o : Orientation) (cs : List (CauseKind × Nat)) (stops : Bool) (x u t : State) : Prop where
  orient : t.orient = o
  adds : Adds cs u t
  outputs : ∀ sc : Screen, t.comp.outputs[sc] = if stops then (x.comp.outputs[sc]).stopped else x.comp.outputs[sc]
  apply : t.comp.applyImage = x.comp.applyImage
  pulse : t.comp.pulseEnd = x.comp.pulseEnd
  store : t.store = if stops then
    (x.store.endHolds (x.comp.outputs[(0 : Screen)]).held).endHolds (x.comp.outputs[(1 : Screen)]).held else x.store
  same : SameBut [.orient, .agent, .trunk, .comp, .store] x t

theorem Oriented.turned (told : Oriented o cs x u t) : Turned o cs false x u t where
  orient := told.orient
  adds := told.adds
  outputs sc := by rw [← told.same .comp (by decide)]; rfl
  apply := by rw [← told.same .comp (by decide)]
  pulse := by rw [← told.same .comp (by decide)]
  store := (told.same .store (by decide)).symm
  same := told.same.mono (by simp)

theorem StoppedFrom.turned (told : StoppedFrom o cs x u t) : Turned o cs true x u t :=
  ⟨told.orient, told.adds, told.outputs, told.apply, told.pulse, told.store, told.same⟩

theorem turned_refl (x : State) : Turned x.orient [] false x x x :=
  ⟨rfl, ⟨by rw [addTogether_nil], by rw [addTogether_nil]⟩, fun _ => rfl, rfl, rfl, rfl, fun y _ => by cases y <;> rfl⟩

/-! ### Candidacy ends (R97) -/

/-- The record of a node that is candidate no more (R97). -/
def Orientation.ended (o : Orientation) : Orientation :=
  if o.candidate = false then o
  else if o.state = .conflict then { o with state := .found, candidate := false, resume := none, nextBeacon := none }
  else Orientation.reset

theorem ended_candidate (o : Orientation) : o.ended.candidate = false := by
  unfold Orientation.ended
  split
  · assumption
  · split
    · rfl
    · rfl

theorem candidacy_ends (barred : x.mayBeHead = false) :
    Turned x.orient.ended (orientCauses x.orient x.orient.ended) x.isHead x x (reevaluateCandidacy x) := by
  cases candidate : x.orient.candidate with
  | false =>
    have stays : reevaluateCandidacy x = x := by rw [reevaluateCandidacy, barred, candidate, if_pos rfl]
    have record : x.orient.ended = x.orient := if_pos candidate
    have head : x.isHead = false := by rw [State.isHead, candidate, Bool.false_and]
    have silent : orientCauses x.orient x.orient = [] := by rw [orientCauses_eq, if_pos ⟨rfl, rfl, rfl⟩]
    rw [stays, record, head, silent]
    exact turned_refl x
  | true =>
    have ends : reevaluateCandidacy x = endCandidacy x := by rw [reevaluateCandidacy, barred, candidate]; rfl
    have some : ¬ x.orient.candidate = false := fun h => Bool.false_ne_true (h.symm.trans candidate)
    by_cases conflict : x.orient.state = .conflict
    · have record : x.orient.ended
          = { x.orient with state := .found, candidate := false, resume := none, nextBeacon := none } := by
        rw [Orientation.ended, if_neg some, if_pos conflict]
      have head : x.isHead = false := by rw [State.isHead, candidate, conflict]; rfl
      rw [ends, endCandidacy, if_pos conflict, reportOrientation_eq, State.withOrient_orient, record, head]
      exact (oriented_withOrient _ _ x).turned
    · have record : x.orient.ended = Orientation.reset := by rw [Orientation.ended, if_neg some, if_neg conflict]
      have head : x.isHead = true := by
        rw [State.isHead, candidate, Bool.true_and]
        exact bne_iff_ne.mpr conflict
      rw [ends, endCandidacy, if_neg conflict, reportOrientation_eq, State.withOrient_orient, record, head]
      exact (oriented_withOrient _ _ x).stops.turned

/-! ### The record is forgotten (R103) -/

theorem forgetHead_eq (idle : s.orient.candidate = false) : forgetHead s
    = addTogether (orientCauses s.orient Orientation.reset) (s.withOrient Orientation.reset) := by
  rw [forgetHead, idle]
  exact reportOrientation_eq ..

/-- What a record told before it is forgotten is told once. -/
theorem Turned.forgets (turned : Turned o cs stops x u t) (idle : o.candidate = false)
    (told : orientCauses o Orientation.reset = [] ∨ (CauseKind.orientationChange, 0) ∈ cs) :
    Turned Orientation.reset cs stops x u (forgetHead t) := by
  have forgotten : forgetHead t = t.withOrient Orientation.reset := by
    rw [forgetHead_eq (by rw [turned.orient]; exact idle), turned.orient]
    rcases told with quiet | told
    · rw [quiet, addTogether_nil]
    · have known : (t.withOrient Orientation.reset).knows .orientationChange 0 := by
        unfold State.knows
        rw [State.withOrient_agent, turned.adds.1]
        exact addTogether_knows told u
      rw [orientCauses]
      split
      · rw [addTogether_single, addCause_known known]
      · exact addTogether_nil _
  rw [forgotten]
  obtain ⟨-, adds, outputs, apply, pulse, store, same⟩ := turned
  exact ⟨rfl, adds, outputs, apply, pulse, store, same.trans ((sameBut_iff_mask _ _ _).mpr (by simp))⟩

theorem orientCauses_none {o : Orientation} (state : o.state ≠ .none) :
    (CauseKind.orientationChange, 0) ∈ orientCauses o Orientation.reset := by
  rw [orientCauses_of_state state]
  exact List.mem_singleton.mpr rfl

/-- Candidacy ends and the record is forgotten: together one change of the record. -/
theorem candidacy_forgets (barred : x.mayBeHead = false) :
    Turned Orientation.reset (orientCauses x.orient Orientation.reset) x.isHead x x (forgetHead (reevaluateCandidacy x)) := by
  have ended := candidacy_ends barred
  cases candidate : x.orient.candidate with
  | false =>
    have stays : reevaluateCandidacy x = x := by rw [reevaluateCandidacy, barred, candidate, if_pos rfl]
    have head : x.isHead = false := by rw [State.isHead, candidate, Bool.false_and]
    rw [stays, head, forgetHead_eq candidate]
    exact (oriented_withOrient _ _ x).turned
  | true =>
    have some : ¬ x.orient.candidate = false := fun h => Bool.false_ne_true (h.symm.trans candidate)
    by_cases conflict : x.orient.state = .conflict
    · have record : x.orient.ended
          = { x.orient with state := .found, candidate := false, resume := none, nextBeacon := none } := by
        rw [Orientation.ended, if_neg some, if_pos conflict]
      have causes : orientCauses x.orient x.orient.ended = orientCauses x.orient Orientation.reset := by
        rw [record, orientCauses_of_state (by rw [conflict]; exact OrientState.noConfusion),
          orientCauses_of_state (by rw [conflict]; exact OrientState.noConfusion)]
      rw [causes] at ended
      exact ended.forgets (ended_candidate _) (.inr (orientCauses_none (by rw [conflict]; exact OrientState.noConfusion)))
    · have record : x.orient.ended = Orientation.reset := by rw [Orientation.ended, if_neg some, if_neg conflict]
      rw [record] at ended
      exact ended.forgets rfl (.inl (by rw [orientCauses_eq, if_pos ⟨rfl, rfl, rfl⟩]))

/-! ### A change of mode (R97, R103) -/

/-- The record that a change to a state's mode leaves (R97, R103). -/
def State.orientAfter (x : State) : Orientation :=
  if x.mode = .bypass then Orientation.reset
  else if x.mayBeHead then
    if x.orient.candidate then x.orient
    else if x.lowerHead = none then x.headRecord
    else { x.orient with
      state := .conflict, candidate := true, resume := x.orient.lastBeacon.map silenceEnd, nextBeacon := none }
  else x.orient.ended

/-- What orientation tells of it (R97, R98, R174). -/
def State.orientTells (x y : State) : State :=
  if x.mayBeHead then
    if x.orient.candidate then y
    else match x.lowerHead with
      | some h => addTogether [(.headConflict, h), (.orientationChange, 0)] y
      | none => addTogether (orientCauses x.orient x.headRecord) (beaconBoth y)
  else addTogether (orientCauses x.orient x.orientAfter) y

/-- A change of mode ends the head role (R97, R147). -/
def State.roleEnds (x : State) : Bool := x.isHead && !x.mayBeHead

theorem mayBeHead_run (may : x.mayBeHead = true) : x.mode = .run := by
  by_contra other
  have barred : x.mayBeHead = false := by simp [State.mayBeHead, other]
  exact Bool.false_ne_true (barred.symm.trans may)

/-- What orientation makes of a change of mode. -/
structure Reoriented (x t : State) : Prop where
  orient : t.orient = x.orientAfter
  talk : ∀ y : State, SameTalk y x → SameTalk (x.orientTells y) t
  outputs : ∀ sc : Screen, t.comp.outputs[sc] = if x.roleEnds then (x.comp.outputs[sc]).stopped else x.comp.outputs[sc]
  apply : t.comp.applyImage = x.comp.applyImage
  pulse : t.comp.pulseEnd = x.comp.pulseEnd
  store : t.store = if x.roleEnds then
    (x.store.endHolds (x.comp.outputs[(0 : Screen)]).held).endHolds (x.comp.outputs[(1 : Screen)]).held else x.store
  lists : SameLists x t
  same : SameBut [.orient, .agent, .trunk, .comp, .store] x t

/-- What is told of a change, wherever the same is told from. -/
theorem Turned.talk {y : State} (turned : Turned o cs stops x u t) (alike : SameTalk y u)
    (same : SameBut [.orient, .agent, .trunk] x u) : SameTalk (addTogether cs y) t := by
  have back : SameBut [.cams, .health, .engine, .store, .orient, .comp, .agent, .trunk] u t := fun z away => by
    simp only [List.mem_cons, List.not_mem_nil, or_false, not_or] at away
    have first := same z (by simp [away])
    have second := turned.same z (by simp [away])
    cases z <;> exact first.symm.trans second
  exact alike.adds turned.adds back

theorem Turned.reoriented (turned : Turned x.orientAfter cs x.roleEnds x u t) (same : SameBut [.orient, .agent, .trunk] x u)
    (lists : SameLists x u) (tells : ∀ y : State, SameTalk y x → ∃ z, x.orientTells y = addTogether cs z ∧ SameTalk z u) :
    Reoriented x t where
  orient := turned.orient
  talk y alike := by
    obtain ⟨z, told, alike⟩ := tells y alike
    rw [told]
    exact turned.talk alike same
  outputs := turned.outputs
  apply := turned.apply
  pulse := turned.pulse
  store := turned.store
  lists := lists.trans (sameLists_adds turned.adds)
  same := turned.same

theorem reoriented (x : State) : Reoriented x (orientMode x) := by
  cases may : x.mayBeHead with
  | false =>
    have ends : x.roleEnds = x.isHead := by rw [State.roleEnds, may]; exact Bool.and_true _
    have tells (y : State) : x.orientTells y = addTogether (orientCauses x.orient x.orientAfter) y := by
      rw [State.orientTells, may, if_neg Bool.false_ne_true]
    by_cases bypass : x.mode = .bypass
    · have record : x.orientAfter = Orientation.reset := if_pos bypass
      have turned := candidacy_forgets may
      rw [← record, ← ends] at turned
      rw [orientMode, if_pos bypass]
      exact turned.reoriented (fun z _ => by cases z <;> rfl) (.refl x) fun y alike => ⟨y, tells y, alike⟩
    · have record : x.orientAfter = x.orient.ended := by
        rw [State.orientAfter, if_neg bypass, may, if_neg Bool.false_ne_true]
      have turned := candidacy_ends may
      rw [← record, ← ends] at turned
      rw [orientMode, if_neg bypass]
      exact turned.reoriented (fun z _ => by cases z <;> rfl) (.refl x) fun y alike => ⟨y, tells y, alike⟩
  | true =>
    have run := mayBeHead_run may
    have awake : ¬ x.mode = .bypass := by rw [run]; decide
    have head : x.roleEnds = false := by rw [State.roleEnds, may]; exact Bool.and_false _
    rw [orientMode, if_neg awake]
    show Reoriented x (reevaluateCandidacy x)
    by_cases candidate : x.orient.candidate = true
    · have record : x.orientAfter = x.orient := by
        rw [State.orientAfter, if_neg awake, may, if_pos rfl, if_pos candidate]
      have stays : reevaluateCandidacy x = x := by rw [reevaluateCandidacy, may, candidate, if_pos rfl]
      have turned := turned_refl x
      rw [← head, ← record] at turned
      rw [stays]
      refine turned.reoriented (fun z _ => by cases z <;> rfl) (.refl x) fun y alike => ⟨y, ?_, alike⟩
      rw [State.orientTells, may, if_pos rfl, if_pos candidate, addTogether_nil]
    have begins : reevaluateCandidacy x = beginCandidacy x := by
      rw [reevaluateCandidacy, may, if_neg (Ne.symm candidate), if_pos rfl]
    rw [begins, beginCandidacy]
    cases lower : x.lowerHead with
    | none =>
      have record : x.orientAfter = x.headRecord := by
        rw [State.orientAfter, if_neg awake, may, if_pos rfl, if_neg candidate, if_pos lower]
      have turned := (becomeHead_oriented x).turned
      rw [← head, ← record] at turned
      refine turned.reoriented ((sameBut_beaconBoth x).mono (by simp)) (sameLists_beaconBoth x)
        fun y alike => ⟨beaconBoth y, ?_, alike.beaconBoth⟩
      rw [State.orientTells, may, if_pos rfl, if_neg candidate, lower, record]
    | some h =>
      have record : x.orientAfter = { x.orient with
          state := .conflict, candidate := true, resume := x.orient.lastBeacon.map silenceEnd, nextBeacon := none } := by
        rw [State.orientAfter, if_neg awake, may, if_pos rfl, if_neg candidate, lower, if_neg (Option.some_ne_none h)]
      have turned := (oriented_withOrient x.orientAfter [(.headConflict, h), (.orientationChange, 0)] x).turned
      rw [← head] at turned
      dsimp only
      rw [← record]
      refine turned.reoriented (fun z _ => by cases z <;> rfl) (.refl x) fun y alike => ⟨y, ?_, alike⟩
      rw [State.orientTells, may, if_pos rfl, if_neg candidate, lower]

end

end Sys2Proof.Machine
end

section
/-! PROOF. Orientation and the camera ports take a change of mode in either order (R182). -/

namespace Sys2Proof.Machine

section
variable {s t u x y : State}

/-! ### What each of the two reads -/

theorem lowerHead_congr (straps : y.straps = x.straps) (orient : y.orient = x.orient) : y.lowerHead = x.lowerHead := by
  unfold State.lowerHead State.nodeNumber
  rw [orient, straps]

theorem orientAfter_congr (mode : y.mode = x.mode) (straps : y.straps = x.straps) (cab : y.cabActive = x.cabActive)
    (orient : y.orient = x.orient) (time : y.nodeTime = x.nodeTime) : y.orientAfter = x.orientAfter := by
  have may : y.mayBeHead = x.mayBeHead := by rw [State.mayBeHead, State.mayBeHead, mode, straps, cab]
  have record : y.headRecord = x.headRecord := by simp only [State.headRecord, State.nodeNumber, straps, time]
  rw [State.orientAfter, State.orientAfter, mode, may, lowerHead_congr straps orient, record, orient]

theorem orientTells_congr (mode : y.mode = x.mode) (straps : y.straps = x.straps) (cab : y.cabActive = x.cabActive)
    (orient : y.orient = x.orient) (time : y.nodeTime = x.nodeTime) (z : State) : y.orientTells z = x.orientTells z := by
  have may : y.mayBeHead = x.mayBeHead := by rw [State.mayBeHead, State.mayBeHead, mode, straps, cab]
  have record : y.headRecord = x.headRecord := by simp only [State.headRecord, State.nodeNumber, straps, time]
  unfold State.orientTells
  rw [may, lowerHead_congr straps orient, record, orient, orientAfter_congr mode straps cab orient time]

/-- What the ports tell, in ascending order (R9, R61). -/
def State.portsTell (s y : State) : State :=
  (List.finRange 4).foldl (fun z q => addTogether (s.judgedCauses q (s.demand q)) z) y

theorem portsTell_congr (cams : y.cams = x.cams) (health : y.health = x.health) (demand : ∀ q, y.demand q = x.demand q)
    (z : State) : y.portsTell z = x.portsTell z := by
  have causes (q : CamPort) : y.judgedCauses q (y.demand q) = x.judgedCauses q (x.demand q) := by
    rw [demand]
    exact judgedCauses_congr (by rw [cams]) (by rw [health]) _
  unfold State.portsTell
  simp only [causes]

/-- The causes of a change of mode, in the order of the tie field (R174). -/
def State.modeTells (s y : State) : State :=
  if s.swapTies then s.orientTells (s.portsTell y) else s.portsTell (s.orientTells y)

/-! ### The two together -/

/-- What orientation and the camera ports make of a change of mode, behind what is entered and left. -/
structure ModeTaken (x t : State) : Prop where
  cams : ∀ q : CamPort, t.cams[q] = (x.cams[q]).judged (x.demand q) x.nodeTime
  health : ∀ q : CamPort, t.health[q] = if x.unlocks q then (x.health[q]).noSignal else x.health[q]
  demand : ∀ q : CamPort, t.demand q = x.demand q
  sums : ∀ q : CamPort, t.engine.sums[q] = if x.unlocks q then noSums else x.engine.sums[q]
  engine : (∀ k : PlanNo, x.engine.productions[k] = none) → t.engine = { x.engine with sums := t.engine.sums }
  store : (∀ k : PlanNo, x.engine.productions[k] = none) → t.store = if x.roleEnds then
    (x.store.endHolds (x.comp.outputs[(0 : Screen)]).held).endHolds (x.comp.outputs[(1 : Screen)]).held else x.store
  orient : t.orient = x.orientAfter
  outputs : ∀ sc : Screen, t.comp.outputs[sc] = if x.roleEnds then (x.comp.outputs[sc]).stopped else x.comp.outputs[sc]
  apply : t.comp.applyImage = x.comp.applyImage
  pulse : t.comp.pulseEnd = x.comp.pulseEnd
  talk : ∀ y : State, SameTalk y x → SameTalk (x.modeTells y) t
  lists : SameLists x t
  same : SameBut [.cams, .health, .engine, .store, .orient, .comp, .agent, .trunk] x t

theorem all_ports {c : Prop} (q : CamPort) : q ∈ List.finRange 4 ∧ c ↔ c := and_iff_right (List.mem_finRange q)

theorem ports_first (ties : x.swapTies = true) :
    ModeTaken x (orientMode (eachPort reevaluateDemand x)) := by
  obtain ⟨cams, health, sums, work, demand, talk, lists, same⟩ := judged_each x
  generalize eachPort reevaluateDemand x = u at cams health sums work demand talk lists same
  have mode : u.mode = x.mode := (same .mode (by decide)).symm
  have straps : u.straps = x.straps := (same .straps (by decide)).symm
  have cab : u.cabActive = x.cabActive := (same .cabActive (by decide)).symm
  have record : u.orient = x.orient := (same .orient (by decide)).symm
  have time : u.nodeTime = x.nodeTime := (same .nodeTime (by decide)).symm
  have comp : u.comp = x.comp := (same .comp (by decide)).symm
  have head : u.roleEnds = x.roleEnds := by
    rw [State.roleEnds, State.roleEnds, State.isHead, State.isHead, State.mayBeHead, State.mayBeHead, record, mode, straps, cab]
  obtain ⟨orient, tells, outputs, apply, pulse, store, lists', same'⟩ := reoriented u
  generalize orientMode u = t at orient tells outputs apply pulse store lists' same'
  have cams' : t.cams = u.cams := (same' .cams (by decide)).symm
  have health' : t.health = u.health := (same' .health (by decide)).symm
  have engine' : t.engine = u.engine := (same' .engine (by decide)).symm
  refine ⟨fun q => ?_, fun q => ?_, fun q => ?_, fun q => ?_, fun idle => ?_, fun idle => ?_, ?_, fun sc => ?_, ?_, ?_,
    fun y alike => ?_, lists.trans lists', ?_⟩
  · rw [cams', cams, if_pos (List.mem_finRange q)]
  · rw [health', health]
    exact if_congr (all_ports q) rfl rfl
  · exact (demand_of_same same' (by decide) (by decide) (by decide) (by decide) q).trans (demand q)
  · rw [engine']
    exact (sums q).trans (if_congr (all_ports q) rfl rfl)
  · rw [engine']
    exact (work idle).1
  · obtain ⟨-, stores⟩ := work idle
    rw [store, head, comp, stores]
  · rw [orient]
    exact orientAfter_congr mode straps cab record time
  · rw [outputs, head, comp]
  · rw [apply, comp]
  · rw [pulse, comp]
  · rw [State.modeTells, if_pos ties, ← orientTells_congr mode straps cab record time]
    exact tells _ (talk y alike)
  · exact (same.mono (by simp)).trans (same'.mono (by simp))

theorem orientation_first (ties : x.swapTies = false) :
    ModeTaken x (eachPort reevaluateDemand (orientMode x)) := by
  obtain ⟨orient, tells, outputs, apply, pulse, store, lists, same⟩ := reoriented x
  generalize orientMode x = u at orient tells outputs apply pulse store lists same
  obtain ⟨cams, health, sums, work, demand, talk, lists', same'⟩ := judged_each u
  generalize eachPort reevaluateDemand u = t at cams health sums work demand talk lists' same'
  have demands (q : CamPort) : u.demand q = x.demand q :=
    demand_of_same same (by decide) (by decide) (by decide) (by decide) q
  have cams' : u.cams = x.cams := (same .cams (by decide)).symm
  have health' : u.health = x.health := (same .health (by decide)).symm
  have engine' : u.engine = x.engine := (same .engine (by decide)).symm
  have time : u.nodeTime = x.nodeTime := (same .nodeTime (by decide)).symm
  have comp : t.comp = u.comp := (same' .comp (by decide)).symm
  have unlocks (q : CamPort) : u.unlocks q ↔ x.unlocks q := by rw [State.unlocks, State.unlocks, cams', demands]
  refine ⟨fun q => ?_, fun q => ?_, fun q => (demand q).trans (demands q), fun q => ?_, fun idle => ?_,
    fun idle => ?_, ?_, fun sc => ?_, ?_, ?_, fun y alike => ?_, lists.trans lists', ?_⟩
  · rw [cams, if_pos (List.mem_finRange q), cams', demands, time]
  · rw [health, health']
    exact if_congr ((all_ports q).trans (unlocks q)) rfl rfl
  · rw [sums, engine']
    exact if_congr ((all_ports q).trans (unlocks q)) rfl rfl
  · obtain ⟨engine, -⟩ := work (by rw [engine']; exact idle)
    rw [engine'] at engine
    exact engine
  · obtain ⟨-, stores⟩ := work (by rw [engine']; exact idle)
    rw [stores, store]
  · rw [← same' .orient (by decide)]
    exact orient
  · rw [comp, outputs]
  · rw [comp, apply]
  · rw [comp, pulse]
  · rw [State.modeTells, if_neg (by rw [ties]; exact Bool.false_ne_true), ← portsTell_congr cams' health' demands]
    exact talk _ (tells y alike)
  · exact (same.mono (by simp)).trans (same'.mono (by simp))

/-- What a state's mode leaves and enters, before orientation and the ports take the change (R182). -/
def State.entered (m : Mode) (s : State) : State := enterMode m (leaveMode s.mode (s.withMode m))

/-- The parts that leaving a mode and entering another may change. -/
theorem entered_same (m : Mode) (s : State) :
    SameBut [.mode, .health, .engine, .store, .trunk, .router, .survey] s (s.entered m) :=
  (sameBut_iff_mask _ _ _).mpr (by simp [State.entered])

theorem mode_taken (m : Mode) (s : State) : ModeTaken (s.entered m) (changeMode m s) := by
  have ties : (s.entered m).swapTies = s.swapTies := (entered_same m s .swapTies (by decide)).symm
  unfold changeMode
  dsimp only
  cases order : s.swapTies with
  | true => exact ports_first (ties.trans order)
  | false => exact orientation_first (ties.trans order)

end

end Sys2Proof.Machine
end

section
/-! PROOF. The work of RUN stops: productions and contexts are abandoned, send entries removed (R32, R105, R122). -/

namespace Sys2Proof.Machine

section
variable {s t u : State} {st st' : Store} {writes : Owner → Option SlotNo} {holds holds' : SlotNo → Nat}

/-! ### A slot whose writers and holds all end -/

/-- A slot as it is left when its writer and all its holds have ended (R43, R46). -/
def Slot.ebbed (x : Slot) : Slot :=
  match x.state with
  | .free | .filling => ⟨.free, .none, none, 0, false, false, none, []⟩
  | .latest | .evidence => { x with holders := 0 }
  | .retired => if x.pinned then { x with state := .evidence, holders := 0 }
    else ⟨.free, .none, none, 0, false, false, none, []⟩

theorem ebbed_endHold (x : Slot) : x.endHold.ebbed = x.ebbed := by
  rcases endHold_cases x with ⟨-, stands⟩ | ⟨-, retired, ends⟩ | ⟨-, -, ends⟩
  · rw [stands]
  · have whole : x.ebbed = if x.pinned then { x with state := .evidence, holders := 0 } else Slot.reset := by
      unfold Slot.ebbed
      rw [retired]
      rfl
    rw [ends, whole]
    rcases rest_cases { x with holders := 0 } with ⟨pin, rests⟩ | ⟨pin, rests⟩
    · have pinned : x.pinned = true := pin
      rw [rests, pinned]
      rfl
    · have pinned : x.pinned = false := pin
      rw [rests, pinned]
      rfl
  · rw [ends]
    unfold Slot.ebbed
    cases state : x.state <;> rfl

/-- Two stores that come to the same when their slots' writers and holds have ended. -/
structure Store.ebbs (st st' : Store) : Prop where
  slots : ∀ i : SlotNo, (st'.slots[i]).ebbed = (st.slots[i]).ebbed
  viewMap : st'.viewMap = st.viewMap
  counters : st'.counters = st.counters

theorem Store.ebbs.refl (st : Store) : st.ebbs st := ⟨fun _ => rfl, rfl, rfl⟩

theorem Store.ebbs.trans {st'' : Store} (h : st.ebbs st') (k : st'.ebbs st'') : st.ebbs st'' :=
  ⟨fun i => (k.slots i).trans (h.slots i), k.viewMap.trans h.viewMap, k.counters.trans h.counters⟩

theorem ebbs_endHold (st : Store) (i : SlotNo) : st.ebbs (st.endHold i) where
  slots j := by
    rw [Store.endHold_slots]
    split
    · exact ebbed_endHold _
    · rfl
  viewMap := rfl
  counters := rfl

theorem ebbs_endHolds (st : Store) (is : List SlotNo) : st.ebbs (st.endHolds is) := by
  induction is generalizing st with
  | nil => exact .refl st
  | cons i is later => exact (ebbs_endHold st i).trans (later _)

theorem endHolds_evidence (st : Store) (is : List SlotNo) : (st.endHolds is).evidence = st.evidence := by
  induction is generalizing st with
  | nil => rfl
  | cons i is later => exact later (st.endHold i)

theorem ebbs_giveBack (st : Store) (i : SlotNo) : st.ebbs (st.giveBack i) := by
  unfold Store.giveBack
  split
  next filling =>
    refine ⟨fun j => ?_, rfl, rfl⟩
    by_cases here : j = i
    · rw [here, setSlot_same, Slot.ebbed.eq_1 st.slots[i], filling]
      rfl
    · rw [setSlot_other here]
  next => exact .refl st

/-- A slot that nobody writes or holds has nothing to lose. -/
theorem Account.ebbed (account : Account st writes holds) (free : ∀ o, writes o = none) (unheld : ∀ i, holds i = 0)
    (i : SlotNo) : (st.slots[i]).ebbed = st.slots[i] := by
  have fits := account.slot i
  have holders : (st.slots[i]).holders = 0 := (account.holders i).trans (unheld i)
  unfold Slot.fits at fits
  generalize st.slots[i] = x at fits holders
  unfold Slot.ebbed
  cases state : x.state with
  | free =>
    rw [state] at fits
    exact fits.symm
  | filling =>
    rw [state] at fits
    obtain ⟨-, -, -, -, own⟩ := fits
    rw [free] at own
    cases own
  | retired =>
    rw [state] at fits
    exact absurd (holders.symm.trans_gt fits.2) (lt_irrefl _)
  | latest | evidence =>
    obtain ⟨st, owner, view, n, pinned, damaged, record, data⟩ := x
    cases state
    cases holders
    rfl

/-! ### Productions and contexts (R32, R122) -/

theorem iterate_bump {n : Nat} (i : Fin n) (k : Nat) (v : Vector Counter n) :
    (bump i)^[k] v = v.set i (increment^[k] v[i]) := by
  induction k with
  | zero => exact (Vector.set_getElem_self _).symm
  | succ k earlier =>
    rw [Function.iterate_succ_apply', Function.iterate_succ_apply', earlier, bump, getElem_set_same]
    exact Vector.set_set ..

/-- Places emptied one after another, each that was filled counted. -/
theorem count_foldl_clear {α : Type} {n m : Nat} {get : State → Vector (Option α) n} {count : State → Vector Counter m}
    {f : State → Fin n → State} {c : Fin m} (clear : ∀ u k, get (f u k) = (get u).set k none)
    (counts : ∀ u k, count (f u k) = if ((get u)[k]).isSome then bump c (count u) else count u) (l : List (Fin n))
    (once : l.Nodup) : ∀ s : State, count (l.foldl f s)
      = (bump c)^[(l.filter fun k => ((get s)[k]).isSome).length] (count s) := by
  induction l with
  | nil => exact fun _ => rfl
  | cons k l later =>
    intro s
    obtain ⟨fresh, once⟩ := List.nodup_cons.mp once
    have others : (l.filter fun j => ((get (f s k))[j]).isSome) = l.filter fun j => ((get s)[j]).isSome := by
      refine List.filter_congr fun j mem => ?_
      rw [clear, getElem_set_ne _ fun same : k = j => fresh (same ▸ mem)]
    rw [List.foldl_cons, later once, counts, others, List.filter_cons]
    split
    · exact (Function.iterate_succ_apply ..).symm
    · rfl

theorem abandonProduction_counters (k : PlanNo) (s : State) : (abandonProduction k s).engine.counters
    = if (s.engine.productions[k]).isSome then bump 3 s.engine.counters else s.engine.counters := by
  unfold abandonProduction
  cases s.engine.productions[k] with
  | none => rfl
  | some pr => rfl

theorem abandonContext_counters (k : ContextNo) (s : State) : (abandonContext k .tileBroken s).router.counters
    = if (s.router.contexts[k]).isSome then bump 11 s.router.counters else s.router.counters := by
  unfold abandonContext
  cases s.router.contexts[k] with
  | none => rfl
  | some x => rfl

/-- What a step that gives slots back leaves of the store. -/
structure Yields (s t : State) : Prop where
  ebbs : s.store.ebbs t.store
  evidence : t.store.evidence = s.store.evidence
  account : s.accountOk → t.accountOk

theorem Yields.refl (s : State) : Yields s s := ⟨.refl _, rfl, id⟩

theorem Yields.trans (h : Yields s t) (k : Yields t u) : Yields s u :=
  ⟨h.ebbs.trans k.ebbs, k.evidence.trans h.evidence, k.account ∘ h.account⟩

theorem giveBack_evidence (st : Store) (i : SlotNo) : (st.giveBack i).evidence = st.evidence := by
  unfold Store.giveBack
  split <;> rfl

theorem yields_abandonProduction (k : PlanNo) (s : State) : Yields s (abandonProduction k s) := by
  have account (h : s.accountOk) := h.abandonProduction k
  unfold abandonProduction at account ⊢
  split
  · exact .refl s
  next pr made =>
    rw [made] at account
    exact ⟨ebbs_giveBack .., giveBack_evidence .., account⟩

theorem yields_abandonContext (k : ContextNo) (s : State) : Yields s (abandonContext k .tileBroken s) := by
  have account (h : s.accountOk) := h.abandonContext k .tileBroken
  unfold abandonContext at account ⊢
  split
  · exact .refl s
  next x made =>
    rw [made] at account
    exact ⟨ebbs_giveBack .., giveBack_evidence .., account⟩

theorem vector_none {α : Type} {n : Nat} {v : Vector (Option α) n} (none : ∀ k : Fin n, v[k] = Option.none) :
    v = Vector.replicate n Option.none :=
  Vector.ext fun i hi => (none ⟨i, hi⟩).trans (Vector.getElem_replicate hi).symm

/-- Productions that stand on the engine (R32). -/
def State.productionCount (s : State) : Nat := ((List.finRange 8).filter fun k : PlanNo => (s.engine.productions[k]).isSome).length

/-- Contexts that are open (R122). -/
def State.contextCount (s : State) : Nat :=
  ((List.finRange 16).filter fun k : ContextNo => (s.router.contexts[k]).isSome).length

/-- The engine with its productions abandoned (R32). -/
def State.unmade (s : State) : Engine :=
  { s.engine with
    productions := Vector.replicate 8 none
    counters := s.engine.counters.set 3 (increment^[s.productionCount] s.engine.counters[(3 : Fin 6)]) }

/-- The router with its contexts abandoned (R122). -/
def State.unbuilt (s : State) : Router :=
  ⟨Vector.replicate 16 none, s.router.counters.set 11 (increment^[s.contextCount] s.router.counters[(11 : Fin 13)])⟩

/-- An engine but for its productions and counters. -/
def Engine.rest (x : Engine) : Vector Half 8 × Vector (Vector ZoneSums 48) 4 := (x.sequences, x.sums)

theorem abandonProduction_rest (k : PlanNo) (s : State) : (abandonProduction k s).engine.rest = s.engine.rest := by
  unfold abandonProduction
  split
  · rfl
  · rfl

theorem Engine.ext_rest {x y : Engine} (rest : x.rest = y.rest) (productions : x.productions = y.productions)
    (counters : x.counters = y.counters) : x = y := by
  obtain ⟨a, b, c, d⟩ := x
  obtain ⟨sequences, sums⟩ := Prod.mk.inj rest
  exact congr (congr (congr (congrArg Engine.mk sequences) productions) sums) counters

theorem abandonProductions_engine (s : State) : (abandonProductions s).engine = s.unmade := by
  have rest : (abandonProductions s).engine.rest = s.engine.rest := by
    unfold abandonProductions
    exact List.foldlRecOn (motive := fun t : State => t.engine.rest = s.engine.rest) _ _ rfl
      fun u hu k _ => (abandonProduction_rest k u).trans hu
  have counters : (abandonProductions s).engine.counters = (bump 3)^[s.productionCount] s.engine.counters := by
    unfold abandonProductions State.productionCount
    have counted := count_foldl_clear (get := fun u => u.engine.productions) (count := fun u => u.engine.counters) (c := 3)
      (fun u k => abandonProduction_productions k u) (fun u k => abandonProduction_counters k u) (List.finRange 8)
      (List.nodup_finRange 8) s
    beta_reduce at counted
    rw [counted]
  rw [iterate_bump] at counters
  exact Engine.ext_rest rest (vector_none (abandonProductions_none s)) counters

theorem Router.ext_parts {x y : Router} (contexts : x.contexts = y.contexts) (counters : x.counters = y.counters) : x = y := by
  obtain ⟨a, b⟩ := x
  exact congr (congrArg Router.mk contexts) counters

theorem abandonContexts_router (s : State) : (abandonContexts s).router = s.unbuilt := by
  have counters : (abandonContexts s).router.counters = (bump 11)^[s.contextCount] s.router.counters := by
    unfold abandonContexts State.contextCount
    have counted := count_foldl_clear (get := fun u => u.router.contexts) (count := fun u => u.router.counters) (c := 11)
      (fun u k => abandonContext_contexts k .tileBroken u) (fun u k => abandonContext_counters k u) (List.finRange 16)
      (List.nodup_finRange 16) s
    beta_reduce at counted
    rw [counted]
  rw [iterate_bump] at counters
  exact Router.ext_parts (y := s.unbuilt) (vector_none (abandonContexts_none s)) counters

theorem yields_abandonments (s : State) : Yields s (abandonContexts (abandonProductions s)) :=
  .trans (List.foldlRecOn (motive := Yields s) _ _ (.refl s) fun u hu k _ => hu.trans (yields_abandonProduction k u))
    (List.foldlRecOn (motive := Yields (abandonProductions s)) _ _ (.refl _)
      fun u hu k _ => hu.trans (yields_abandonContext k u))

/-- With nothing in production the count stands. -/
theorem unmade_idle (idle : ∀ k : PlanNo, s.engine.productions[k] = none) : s.unmade = s.engine := by
  have nothing : s.productionCount = 0 := by
    rw [State.productionCount, List.filter_eq_nil_iff.mpr fun k _ => by rw [idle k]; exact Bool.false_ne_true]
    rfl
  have counters : s.engine.counters.set 3 s.engine.counters[(3 : Fin 6)] = s.engine.counters := Vector.set_getElem_self _
  rw [State.unmade, nothing, ← vector_none idle]
  exact congrArg (fun x => { s.engine with counters := x }) counters

theorem unbuilt_idle (idle : ∀ k : ContextNo, s.router.contexts[k] = none) : s.unbuilt = s.router := by
  have nothing : s.contextCount = 0 := by
    rw [State.contextCount, List.filter_eq_nil_iff.mpr fun k _ => by rw [idle k]; exact Bool.false_ne_true]
    rfl
  have counters : s.router.counters.set 11 s.router.counters[(11 : Fin 13)] = s.router.counters := Vector.set_getElem_self _
  rw [State.unbuilt, nothing, ← vector_none idle]
  exact congrArg (fun x => { s.router with counters := x }) counters

end

end Sys2Proof.Machine
end

section
/-! PROOF. The send lists are emptied, and what a mode that is left and another that is entered leave (R53, R105, R182,
R184, R188). -/

namespace Sys2Proof.Machine

section
variable {s t u : State} {st : Store} {writes : Owner → Option SlotNo} {holds holds' : SlotNo → Nat} {m : Mode}

/-! ### Entries released one after another -/

/-- A store whose entries have left their lists, one after another (R53, R96). -/
def Store.releasedAll (st : Store) (es : List SendEntry) : Store := es.foldl Store.released st

theorem ebbs_released (st : Store) (e : SendEntry) : st.ebbs (st.released e) := by
  have ended := ebbs_endHold st e.slot
  unfold Store.released
  split
  · exact ⟨ended.slots, ended.viewMap, ended.counters⟩
  · exact ended
  · exact ended

theorem ebbs_releasedAll (st : Store) (es : List SendEntry) : st.ebbs (st.releasedAll es) := by
  induction es generalizing st with
  | nil => exact .refl st
  | cons e es later => exact (ebbs_released st e).trans (later _)

theorem released_evidence (st : Store) (e : SendEntry) (k : Fin 4) : (st.released e).evidence[k]
    = if e.kind == .fetch (some k) then (st.evidence[k]).map fun v => { v with fetching := false } else st.evidence[k] := by
  have noFetch {n : Option (Fin 4)} (other : n ≠ some k) : (SendKind.fetch n == .fetch (some k)) = false :=
    beq_eq_false_iff_ne.mpr fun h => other (SendKind.fetch.inj h)
  unfold Store.released
  cases e.kind with
  | tile => rfl
  | fetch n =>
    cases n with
    | none => rw [noFetch (Option.some_ne_none k).symm]; rfl
    | some j =>
      show ((st.endHold e.slot).setFetching j false).evidence[k] = _
      by_cases here : j = k
      · subst here
        rw [beq_self_eq_true, if_pos rfl]
        exact getElem_set_same ..
      · rw [noFetch fun h => here (Option.some.inj h), if_neg Bool.false_ne_true]
        exact getElem_set_ne _ here _

theorem releasedAll_evidence (st : Store) (es : List SendEntry) (k : Fin 4) : (st.releasedAll es).evidence[k]
    = if es.any fun e => e.kind == .fetch (some k) then (st.evidence[k]).map fun v => { v with fetching := false }
      else st.evidence[k] := by
  induction es generalizing st with
  | nil => rfl
  | cons e es later =>
    refine (later (st.released e)).trans ?_
    rw [released_evidence, List.any_cons]
    cases e.kind == .fetch (some k) with
    | false => rfl
    | true =>
      rw [if_pos rfl, Bool.true_or, if_pos rfl, Option.map_map]
      split
      · rfl
      · rfl

theorem Account.released (h : Account st writes holds) {e : SendEntry}
    (count : ∀ j, holds j = holds' j + if j = e.slot then 1 else 0) : Account (st.released e) writes holds' := by
  have ended := h.endHold count
  unfold Store.released
  split
  · exact ended.setFetching _ false
  · exact ended
  · exact ended

theorem Account.releasedAll (es : List SendEntry) : ∀ {st : Store} {holds : SlotNo → Nat}, Account st writes holds →
    (∀ j, holds j = holds' j + (es.map (·.slot)).count j) → Account (st.releasedAll es) writes holds' := by
  induction es with
  | nil => exact fun h count => h.same fun j => (count j).symm
  | cons e es later =>
    intro st holds h count
    refine later (holds := fun j => holds' j + (es.map (·.slot)).count j) (h.released (e := e) fun j => ?_) fun _ => rfl
    rw [count, List.map_cons, List.count_cons]
    by_cases same : j = e.slot
    · rw [same, if_pos (beq_self_eq_true _), if_pos rfl, Nat.add_assoc]
    · rw [if_neg fun h => same (beq_iff_eq.mp h).symm, if_neg same]
      rfl

theorem removeEntries_eq (p : TrunkPort) (gone : SendEntry → Bool) (s : State) : removeEntries p gone s
    = (s.withSendList p ((s.trunk.get p).sendList.filter fun e => !gone e)).withStore
      (s.store.releasedAll ((s.trunk.get p).sendList.filter gone)) := by
  have each (es : List SendEntry) : ∀ u : State, es.foldl (fun t e => releaseEntry e t) u
      = u.withStore (u.store.releasedAll es) := by
    induction es with
    | nil => exact fun _ => rfl
    | cons e es later =>
      intro u
      rw [List.foldl_cons, releaseEntry_eq, later]
      rfl
  exact each _ _

/-! ### Both lists emptied (R105) -/

/-- Both send lists emptied, their holds and fetches ended (R53, R105). -/
def State.emptied (s : State) : State :=
  { s with
    store := s.store.releasedAll (s.trunk.a.sendList ++ s.trunk.b.sendList)
    trunk := ⟨{ s.trunk.a with sendList := [] }, { s.trunk.b with sendList := [] }⟩ }

theorem removeBoth_all {gone : SendEntry → Bool} (all : ∀ p : TrunkPort, ∀ e ∈ (s.trunk.get p).sendList, gone e = true) :
    removeEntries .b gone (removeEntries .a gone s) = s.emptied := by
  have none (p : TrunkPort) : ((s.trunk.get p).sendList.filter fun e => !gone e) = [] :=
    List.filter_eq_nil_iff.mpr fun e mem => by rw [all p e mem]; exact Bool.false_ne_true
  have every (p : TrunkPort) : (s.trunk.get p).sendList.filter gone = (s.trunk.get p).sendList :=
    List.filter_eq_self.mpr (all p)
  have first : removeEntries .a gone s
      = (s.withSendList .a []).withStore (s.store.releasedAll s.trunk.a.sendList) := by
    rw [removeEntries_eq, none, every]
    rfl
  rw [first, removeEntries_eq]
  show (((s.withSendList .a []).withStore _).withSendList .b ((s.trunk.get .b).sendList.filter fun e => !gone e)).withStore
    ((s.store.releasedAll s.trunk.a.sendList).releasedAll ((s.trunk.get .b).sendList.filter gone)) = _
  rw [none, every, State.emptied, Store.releasedAll.eq_1 s.store (s.trunk.a.sendList ++ s.trunk.b.sendList), List.foldl_append]
  rfl

theorem emptied_idle (idle : ∀ p : TrunkPort, (s.trunk.get p).sendList = []) : s.emptied = s := by
  have a : s.trunk.a.sendList = [] := idle .a
  have b : s.trunk.b.sendList = [] := idle .b
  rw [State.emptied, a, b]
  have ports : (⟨{ s.trunk.a with sendList := [] }, { s.trunk.b with sendList := [] }⟩ : Pair Trunk) = s.trunk := by
    rw [← a]
    refine congrArg (fun l => (⟨s.trunk.a, { s.trunk.b with sendList := l }⟩ : Pair Trunk)) ?_
    rw [a, b]
  rw [ports]
  rfl

theorem State.accountOk.emptied (h : s.accountOk) : s.emptied.accountOk := by
  refine (h.releasedAll (holds' := s.emptied.holdsOn) _ fun j => ?_).writesSame fun o => ?_
  · have left : s.emptied.holdsOn j
        = (s.comp.outputs[(0 : Screen)]).held.count j + (s.comp.outputs[(1 : Screen)]).held.count j := rfl
    rw [List.map_append, List.count_append, left, State.holdsOn]
    omega
  · exact slotOf_congr (s := s) rfl rfl o

end

end Sys2Proof.Machine
end

section
/-! PROOF. What leaving a mode and entering another leave (R56, R105, R122, R182, R184, R188). -/

namespace Sys2Proof.Machine

section
variable {s t u : State} {m : Mode} {p : TrunkPort} {q : CamPort}

/-! ### In every state -/

theorem entered_mode (m : Mode) (s : State) : (s.entered m).mode = m :=
  ((sameBut_iff_mask [.health, .engine, .store, .trunk, .router, .survey] (s.withMode m) _).mpr
    (by simp [State.entered]) .mode (by decide)).symm

theorem dropHolds_health (ps : List CamPort) (s : State) (q : CamPort) : (ps.foldl (fun t p => dropHold p t) s).health[q]
    = if q ∈ ps then { s.health[q] with relearnHold := false } else s.health[q] := by
  induction ps generalizing s with
  | nil => exact (if_neg List.not_mem_nil).symm
  | cons p ps later =>
    rw [List.foldl_cons, later]
    by_cases here : p = q
    · subst here
      have own : (dropHold p s).health[p] = { s.health[p] with relearnHold := false } := getElem_set_same ..
      rw [own, if_pos List.mem_cons_self]
      split <;> rfl
    · have other : (dropHold p s).health[q] = s.health[q] := getElem_set_ne _ here _
      rw [other]
      exact if_congr ⟨List.mem_cons_of_mem p, fun mem => (List.mem_cons.mp mem).resolve_left (Ne.symm here)⟩ rfl rfl

theorem sameBut_dropHolds (s : State) : SameBut [.health] s (eachPort dropHold s) := by
  refine (sameBut_iff_mask _ _ _).mpr ?_
  unfold eachPort
  exact mask_foldl _ (fun _ _ => by simp) _ _

/-- Entering BYPASS, but for the relearn holds (R53, R105). -/
def State.unfetched (s : State) : State := removeEntries .b SendEntry.isFetch (removeEntries .a SendEntry.isFetch s)

theorem enterBypass_same (s : State) : SameBut [.health] s.unfetched (enterBypass s) := sameBut_dropHolds s.unfetched

theorem leaveMode_health (k m : Mode) (s : State) : (leaveMode k (s.withMode m)).health = s.health :=
  ((sameBut_iff_mask [.mode, .engine, .store, .trunk, .router, .survey] s _).mpr (by simp) .health (by decide)).symm

theorem unfetched_health (s : State) : s.unfetched.health = s.health :=
  ((sameBut_iff_mask [.store, .trunk] s _).mpr (by simp [State.unfetched]) .health (by decide)).symm

theorem entered_health (m : Mode) (s : State) (q : CamPort) : (s.entered m).health[q]
    = if m = .bypass then { s.health[q] with relearnHold := false } else s.health[q] := by
  have left := leaveMode_health s.mode m s
  unfold State.entered
  generalize leaveMode s.mode (s.withMode m) = l at left
  cases m with
  | run | standby =>
    show l.health[q] = _
    rw [left]
    rfl
  | bypass =>
    have dropped := dropHolds_health (List.finRange 4) l.unfetched q
    rw [if_pos (List.mem_finRange q), unfetched_health, left] at dropped
    exact dropped

theorem leaveMode_survey (k m : Mode) (s : State) : (leaveMode k (s.withMode m)).survey
    = if k = .standby then ⟨.idle, none, none, 0⟩ else s.survey := by
  cases k with
  | run => exact ((sameBut_iff_mask [.mode, .engine, .store, .trunk, .router] s _).mpr (by simp [leaveMode]) .survey (by decide)).symm
  | standby => rfl
  | bypass => rfl

/-- The survey as a change to a mode leaves it: it ends with STANDBY, and its schedule starts with it (R185, R188). -/
def State.surveyIn (s : State) (m : Mode) : Survey :=
  match m with
  | .standby => { s.survey with due := s.surveyDue s.nodeTime }
  | .run | .bypass => if s.mode = .standby then ⟨.idle, none, none, 0⟩ else s.survey

theorem entered_survey (other : m ≠ s.mode) : (s.entered m).survey = s.surveyIn m := by
  have left := leaveMode_survey s.mode m s
  have parts : SameBut [.mode, .engine, .store, .trunk, .router, .survey] s (leaveMode s.mode (s.withMode m)) :=
    (sameBut_iff_mask _ _ _).mpr (by simp)
  have time := parts .nodeTime (by decide)
  have tables := parts .tables (by decide)
  unfold State.entered
  generalize leaveMode s.mode (s.withMode m) = l at left time tables
  cases m with
  | run => exact left
  | standby =>
    have due : l.surveyDue l.nodeTime = s.surveyDue s.nodeTime := by
      rw [State.surveyDue, State.surveyDue, show l.nodeTime = s.nodeTime from time.symm,
        show l.tables = s.tables from tables.symm]
    rw [if_neg (Ne.symm other)] at left
    show ({ l.survey with due := l.surveyDue l.nodeTime } : Survey) = _
    rw [due, left]
    rfl
  | bypass =>
    have listed : l.survey = l.unfetched.survey :=
      (sameBut_iff_mask [.store, .trunk] l _).mpr (by simp [State.unfetched]) .survey (by decide)
    have kept : l.unfetched.survey = (enterBypass l).survey := enterBypass_same l .survey (by decide)
    exact (listed.trans kept).symm.trans left

/-! ### The ports' queues -/

theorem sameTalk_removeEntries (p : TrunkPort) (gone : SendEntry → Bool) (s : State) : SameTalk s (removeEntries p gone s) := by
  have same : SameBut [.trunk, .store] s (removeEntries p gone s) := (sameBut_iff_mask _ _ _).mpr (by simp)
  refine ⟨same .agent (by decide), fun q => ?_, same .controllerSide (by decide), same .straps (by decide),
    same .swapTies (by decide)⟩
  rw [removeEntries_trunk, State.withSendList, State.withTrunk_trunk]
  by_cases here : q = p
  · rw [here, Pair.get_set_same]
    rfl
  · rw [Pair.get_set_ne _ here]
    rfl

theorem sameTalk_withShare (p : TrunkPort) (n : Nat) (s : State) : SameTalk s (s.withShare p n) := by
  refine ⟨rfl, fun q => ?_, rfl, rfl, rfl⟩
  rw [State.withShare, State.withTrunk_trunk]
  by_cases here : q = p
  · rw [here, Pair.get_set_same]
    rfl
  · rw [Pair.get_set_ne _ here]
    rfl

theorem sameTalk_unfetched (s : State) : SameTalk s s.unfetched :=
  (sameTalk_removeEntries ..).trans (sameTalk_removeEntries ..)

theorem sameTalk_stopRun (s : State) : SameTalk s (stopRun s) := by
  have stopped : SameNews s (abandonContexts (abandonProductions s)) := .of_mask (l := [.engine, .store, .router])
    (by simp) (by decide) (by decide) (by decide) (by decide) (by decide)
  exact (SameTalk.of_news stopped).trans ((((sameTalk_removeEntries ..).trans (sameTalk_removeEntries ..)).trans
    (sameTalk_withShare ..)).trans (sameTalk_withShare ..))

theorem entered_talk (m : Mode) (s : State) : SameTalk s (s.entered m) := by
  have renamed : SameTalk s (s.withMode m) := .of_news ⟨rfl, rfl, rfl, rfl, rfl⟩
  have left : SameTalk s (leaveMode s.mode (s.withMode m)) := by
    cases s.mode with
    | run => exact renamed.trans (sameTalk_stopRun _)
    | standby => exact renamed.trans (.of_news ⟨rfl, rfl, rfl, rfl, rfl⟩)
    | bypass => exact renamed
  unfold State.entered
  generalize leaveMode s.mode (s.withMode m) = l at left
  refine left.trans ?_
  cases m with
  | run => exact .of_news (.refl l)
  | standby => exact .of_news ⟨rfl, rfl, rfl, rfl, rfl⟩
  | bypass =>
    exact (sameTalk_unfetched l).trans (.of_news (.of_same (enterBypass_same l) (by decide) (by decide) (by decide) (by decide)
      (by decide)))

theorem removeEntries_share (p q : TrunkPort) (gone : SendEntry → Bool) (s : State) :
    ((removeEntries p gone s).trunk.get q).share = (s.trunk.get q).share := by
  rw [removeEntries_trunk, State.withSendList, State.withTrunk_trunk]
  by_cases here : q = p
  · rw [here, Pair.get_set_same]
  · rw [Pair.get_set_ne _ here]

theorem enterMode_share (m : Mode) (s : State) (p : TrunkPort) :
    ((enterMode m s).trunk.get p).share = (s.trunk.get p).share := by
  cases m with
  | run | standby => rfl
  | bypass =>
    show ((enterBypass s).trunk.get p).share = _
    rw [← enterBypass_same s .trunk (by decide), State.unfetched, removeEntries_share, removeEntries_share]

theorem clearSends_share (s : State) (p : TrunkPort) : ((clearSends s).trunk.get p).share = 0 := by
  cases p <;> rfl

theorem entered_share (m : Mode) (s : State) (p : TrunkPort) : ((s.entered m).trunk.get p).share
    = if s.mode = .run then 0 else (s.trunk.get p).share := by
  rw [State.entered, enterMode_share]
  cases s.mode with
  | run => exact clearSends_share _ p
  | standby => rfl
  | bypass => rfl

theorem unfetched_sendList (s : State) (p : TrunkPort) :
    (s.unfetched.trunk.get p).sendList = (s.trunk.get p).sendList.filter fun e => !SendEntry.isFetch e :=
  removeBoth_sendList ..

theorem enterMode_sendList (m : Mode) (s : State) (p : TrunkPort) : ((enterMode m s).trunk.get p).sendList
    = if m = .bypass then (s.trunk.get p).sendList.filter fun e => !SendEntry.isFetch e else (s.trunk.get p).sendList := by
  cases m with
  | run | standby => rfl
  | bypass =>
    show ((enterBypass s).trunk.get p).sendList = _
    rw [← enterBypass_same s .trunk (by decide), unfetched_sendList]
    rfl

/-- The work of RUN is gone once RUN is left (R56, R105, R122). -/
theorem entered_left (run : s.mode = .run) (m : Mode) : (∀ k : PlanNo, (s.entered m).engine.productions[k] = none)
    ∧ (∀ k : ContextNo, (s.entered m).router.contexts[k] = none)
    ∧ ∀ p : TrunkPort, ((s.entered m).trunk.get p).sendList = [] := by
  have stopped := stopRun_stopped (s.withMode m)
  have silent := stopRun_silent (s.withMode m)
  have left : leaveMode s.mode (s.withMode m) = stopRun (s.withMode m) := by rw [run]; rfl
  have kept : SameBut [.health, .store, .trunk, .survey] (stopRun (s.withMode m)) (s.entered m) := by
    rw [State.entered, left]
    exact (sameBut_iff_mask _ _ _).mpr (by simp)
  refine ⟨?_, ?_, fun p => ?_⟩
  · rw [← kept .engine (by decide)]
    exact stopped.productions
  · rw [← kept .router (by decide)]
    exact stopped.contexts
  · rw [State.entered, enterMode_sendList, left, silent p]
    split <;> rfl

/-- No fetch stands on a send list once BYPASS is entered (R53, R105). -/
theorem entered_bypass (s : State) (p : TrunkPort) : ∀ e ∈ ((s.entered .bypass).trunk.get p).sendList, e.kind = .tile := by
  intro e mem
  rw [State.entered, enterMode_sendList, if_pos rfl] at mem
  have stays := (List.mem_filter.mp mem).2
  simpa [SendEntry.isFetch] using stays

end

end Sys2Proof.Machine
end

section
/-! PROOF. The work of RUN in a change of mode (R56, R96, R105, R122). -/

namespace Sys2Proof.Machine

section
variable {s t u z : State} {m : Mode}

theorem clearSends_eq (s : State) : clearSends s = (s.emptied.withShare .a 0).withShare .b 0 := by
  rw [clearSends, removeBoth_all fun _ _ _ => rfl]

/-- What leaving a mode and entering another leave of the work of RUN. -/
structure Entered (m : Mode) (s e : State) : Prop where
  engine : e.engine = s.unmade
  router : e.router = s.unbuilt
  lists : ∀ p : TrunkPort, (e.trunk.get p).sendList = if m = .run then (s.trunk.get p).sendList else []
  stands : m = .run → e.store = s.store
  ebbs : s.store.ebbs e.store
  evidence : m ≠ .run → ∀ k : Fin 4, e.store.evidence[k]
    = if (s.trunk.a.sendList ++ s.trunk.b.sendList).any fun x => x.kind == .fetch (some k)
      then (s.store.evidence[k]).map fun v => { v with fetching := false } else s.store.evidence[k]
  account : m ≠ .run → s.accountOk → e.accountOk

/-- A state with productions and contexts abandoned: all that its lists hold is to be released. -/
structure Unworked (s z : State) : Prop where
  yields : Yields s z
  engine : z.engine = s.unmade
  router : z.router = s.unbuilt
  trunk : z.trunk = s.trunk

/-- A state that agrees with an emptied one in all that the store's account reads. -/
structure EmptiedAs (z e : State) : Prop where
  store : e.store = z.emptied.store
  engine : e.engine = z.engine
  router : e.router = z.router
  comp : e.comp = z.comp
  lists : ∀ p : TrunkPort, (e.trunk.get p).sendList = []

theorem Unworked.entered (unworked : Unworked s z) (emptied : EmptiedAs z u) (idle : m ≠ .run) : Entered m s u where
  engine := emptied.engine.trans unworked.engine
  router := emptied.router.trans unworked.router
  lists p := by rw [emptied.lists, if_neg idle]
  stands run := absurd run idle
  ebbs := by
    rw [emptied.store]
    exact unworked.yields.ebbs.trans (ebbs_releasedAll ..)
  evidence _ k := by
    rw [emptied.store, State.emptied, releasedAll_evidence, unworked.trunk, unworked.yields.evidence]
  account _ h := by
    refine accountOk_congr emptied.store (by rw [emptied.engine]; rfl) (by rw [emptied.router]; rfl)
      (by rw [emptied.comp]; rfl) (fun p => ?_) (unworked.yields.account h).emptied
    rw [emptied.lists]
    cases p <;> rfl

/-- Outside RUN nothing is to be abandoned. -/
theorem unworked_idle (ok : s.modeOk) (idle : s.mode ≠ .run) (engine : z.engine = s.engine) (router : z.router = s.router)
    (trunk : z.trunk = s.trunk) (store : z.store = s.store) (comp : z.comp = s.comp) : Unworked s z := by
  obtain ⟨productions, contexts, -⟩ := ok.1 idle
  refine ⟨⟨by rw [store]; exact .refl _, by rw [store], fun h => ?_⟩, by rw [engine, unmade_idle productions],
    by rw [router, unbuilt_idle contexts], trunk⟩
  exact accountOk_congr store (by rw [engine]) (by rw [router]) (by rw [comp]) (fun p => by rw [trunk]) h

theorem unworked_left (m : Mode) (s : State) : Unworked s (abandonContexts (abandonProductions (s.withMode m))) := by
  have yields := yields_abandonments (s.withMode m)
  have engine : SameBut [.router, .store] (abandonProductions (s.withMode m))
      (abandonContexts (abandonProductions (s.withMode m))) := (sameBut_iff_mask _ _ _).mpr (by simp)
  have router : SameBut [.engine, .store] (s.withMode m) (abandonProductions (s.withMode m)) :=
    (sameBut_iff_mask _ _ _).mpr (by simp)
  have routers : (abandonProductions (s.withMode m)).router = s.router := (router .router (by decide)).symm
  refine ⟨⟨yields.ebbs, yields.evidence, yields.account⟩, ?_, ?_, ?_⟩
  · rw [← engine .engine (by decide)]
    exact abandonProductions_engine (s.withMode m)
  · rw [abandonContexts_router, State.unbuilt, State.contextCount, routers]
    rfl
  · rw [← engine .trunk (by decide), ← router .trunk (by decide)]
    rfl

theorem unfetched_eq (fetches : ∀ p : TrunkPort, ∀ e ∈ (s.trunk.get p).sendList, e.kind ≠ .tile) : s.unfetched = s.emptied :=
  removeBoth_all fun p e mem => bne_iff_ne.mpr (fetches p e mem)

theorem enterBypass_emptied (fetches : ∀ p : TrunkPort, ∀ e ∈ (s.trunk.get p).sendList, e.kind ≠ .tile) :
    EmptiedAs s (enterBypass s) := by
  have same := enterBypass_same s
  rw [unfetched_eq fetches] at same
  refine ⟨(same .store (by decide)).symm, (same .engine (by decide)).symm, (same .router (by decide)).symm,
    (same .comp (by decide)).symm, fun p => ?_⟩
  rw [← same .trunk (by decide)]
  cases p <;> rfl

theorem clearSends_emptied (s : State) : EmptiedAs s (clearSends s) := by
  rw [clearSends_eq]
  exact ⟨rfl, rfl, rfl, rfl, fun p => by cases p <;> rfl⟩

/-- What is emptied stays emptied as BYPASS is entered. -/
theorem EmptiedAs.bypassed (emptied : EmptiedAs z u) : EmptiedAs z (enterBypass u) := by
  obtain ⟨store, engine, router, comp, lists⟩ := emptied
  have again := enterBypass_emptied (s := u) fun p e mem => absurd (lists p ▸ mem) List.not_mem_nil
  obtain ⟨store', engine', router', comp', lists'⟩ := again
  rw [emptied_idle lists] at store'
  exact ⟨store'.trans store, engine'.trans engine, router'.trans router, comp'.trans comp, lists'⟩

theorem entered_work (ok : s.modeOk) (other : m ≠ s.mode) : Entered m s (s.entered m) := by
  unfold State.entered
  cases mode : s.mode with
  | run =>
    have idle : m ≠ .run := by rwa [mode] at other
    have unworked := unworked_left m s
    have left : leaveMode .run (s.withMode m) = clearSends (abandonContexts (abandonProductions (s.withMode m))) := rfl
    rw [left]
    generalize abandonContexts (abandonProductions (s.withMode m)) = w at unworked
    have emptied := clearSends_emptied w
    generalize clearSends w = v at emptied
    cases m with
    | run => exact absurd rfl idle
    | standby => exact unworked.entered ⟨emptied.store, emptied.engine, emptied.router, emptied.comp, emptied.lists⟩ idle
    | bypass => exact unworked.entered emptied.bypassed idle
  | standby =>
    have away : s.mode ≠ .run := by rw [mode]; decide
    obtain ⟨productions, contexts, fetches⟩ := ok.1 away
    cases m with
    | run =>
      exact ⟨(unmade_idle productions).symm, (unbuilt_idle contexts).symm, fun _ => rfl, fun _ => rfl, .refl _,
        fun h => absurd rfl h, fun h => absurd rfl h⟩
    | standby => exact absurd mode.symm other
    | bypass =>
      have unworked : Unworked s (endSurvey (s.withMode .bypass)) := unworked_idle ok away rfl rfl rfl rfl rfl
      exact unworked.entered (enterBypass_emptied fetches) (by decide)
  | bypass =>
    have away : s.mode ≠ .run := by rw [mode]; decide
    obtain ⟨productions, contexts, -⟩ := ok.1 away
    have lists := (ok.2 mode).2
    cases m with
    | run =>
      exact ⟨(unmade_idle productions).symm, (unbuilt_idle contexts).symm, fun _ => rfl, fun _ => rfl, .refl _,
        fun h => absurd rfl h, fun h => absurd rfl h⟩
    | standby =>
      have unworked : Unworked s (s.withMode .standby) := unworked_idle ok away rfl rfl rfl rfl rfl
      have stays : (s.withMode .standby).emptied = s.withMode .standby := emptied_idle lists
      exact unworked.entered ⟨by rw [stays]; rfl, rfl, rfl, rfl, lists⟩ (by decide)
    | bypass => exact absurd mode.symm other

end

end Sys2Proof.Machine
end

section
/-! PROOF. The changes of the node mode (R166, R172, R182 to R185, R188). Settles O51. -/

namespace Sys2Proof.Machine

section
variable {s t e u : State} {m : Mode} {c : AgentCommand} {q : CamPort}

/-! ### SET_MODE, and the wake by CAB_ACTIVE (R172, R183) -/

theorem portsTell_queue (x y : State) : (x.portsTell y).agent.queue = y.agent.queue := by
  unfold State.portsTell
  exact List.foldlRecOn (motive := fun z : State => z.agent.queue = y.agent.queue) _ _ rfl
    fun z hz q _ => (addTogether_queue ..).trans hz

theorem beaconBoth_agent (s : State) : (beaconBoth s).agent = s.agent := (placeBeacon_agent ..).trans (placeBeacon_agent ..)

theorem orientTells_queue (x y : State) : (x.orientTells y).agent.queue = y.agent.queue := by
  unfold State.orientTells
  split
  · split
    · rfl
    · split
      · exact addTogether_queue ..
      · exact (addTogether_queue ..).trans (congrArg Agent.queue (beaconBoth_agent y))
  · exact addTogether_queue ..

theorem changeMode_queue (m : Mode) (s : State) : (changeMode m s).agent.queue = s.agent.queue := by
  have told := ((mode_taken m s).talk _ (.of_news (.refl _))).agent
  have kept : s.agent = (s.entered m).agent := entered_same m s .agent (by decide)
  rw [← told, kept]
  unfold State.modeTells
  split
  · rw [orientTells_queue, portsTell_queue]
  · rw [portsTell_queue, orientTells_queue]

theorem modeOf_idxOf : ∀ m : Mode, modeOf ([Mode.run, .standby, .bypass].idxOf m) = some m := by
  intro m
  cases m <;> rfl

theorem modeOf_none {n : Nat} (past : 2 < n) : modeOf n = none := by
  match n, past with
  | n + 3, _ => rfl

theorem setModeIsCarriedOut : Claim.SetModeIsCarriedOut := by
  intro c s code popped
  refine ⟨fun m runs mode other => ?_, fun runs mode => ?_, fun runs past => ?_, fun low cab standby => ?_⟩
  · have named : modeOf code = some m := by rw [mode]; exact modeOf_idxOf m
    rw [exec_setMode runs named, if_neg other]
    have queue := changeMode_queue m s
    generalize changeMode m s = u at queue
    rw [State.answered, queue]
  · have named : modeOf code = some s.mode := by rw [mode]; exact modeOf_idxOf _
    rw [exec_setMode runs named, if_pos rfl]
    rfl
  · have none : setMode c s = reply c .badValue [[]] s := by
      unfold setMode
      rw [show modeOf (byteAt c.args 0).toNat = none from modeOf_none past]
      rfl
    have row : exec .setMode s = .next (runCommand .setMode always setMode s) := rfl
    rw [row, runCommand_runs runs (by rfl) setMode, none, popCommand_reply]
    rfl
  · rw [exec_rise, if_neg (by rw [low]; exact Bool.false_ne_true), if_pos ⟨cab, standby⟩]
    rfl

/-! ### What a change leaves in every state -/

theorem judged_power {x : CameraPort} {wants : Bool} {now : NodeTime} :
    ((x.judged wants now).power = true → wants = true) ∧ ((x.judged wants now).link = .off → wants = false) := by
  unfold CameraPort.judged
  cases link : x.link <;> cases wants
  all_goals simp [CameraPort.power, CameraPort.newly, CameraLink.powered, link]

theorem judged_rests {x : CameraPort} (rests : x.link = .testing ∨ x.link = .powerFault) (wants : Bool) (now : NodeTime) :
    x.judged wants now = x := by
  unfold CameraPort.judged
  rcases rests with link | link <;> rw [link]

theorem orientAfter_candidate (x : State) : x.orientAfter.candidate = x.mayBeHead := by
  unfold State.orientAfter
  split
  next bypass =>
    have barred : x.mayBeHead = false := by simp [State.mayBeHead, bypass]
    exact barred.symm
  next =>
    cases may : x.mayBeHead with
    | false => exact ended_candidate _
    | true =>
      rw [if_pos rfl]
      split
      next candidate => exact candidate
      next =>
        split
        · rfl
        · rfl

theorem aModeChangeKeepsItsLaws : Claim.AModeChangeKeepsItsLaws := by
  intro m s other
  have taken := mode_taken m s
  have parts := entered_same m s
  have mode := entered_mode m s
  have health := entered_health m s
  have survey := entered_survey other
  have share := entered_share m s
  have left (run : s.mode = .run) := entered_left run m
  have tiles (bypass : m = .bypass) (p : TrunkPort) : ∀ e ∈ ((s.entered m).trunk.get p).sendList, e.kind = .tile := by
    subst bypass
    exact entered_bypass s p
  generalize s.entered m = e at taken parts mode health survey share left tiles
  generalize changeMode m s = t at taken
  obtain ⟨cams, records, demand, -, engine, -, orient, -, -, -, -, lists, same⟩ := taken
  have cams' : e.cams = s.cams := (parts .cams (by decide)).symm
  have router : t.router = e.router := (same .router (by decide)).symm
  have modes : t.mode = m := (same .mode (by decide)).symm.trans mode
  refine ⟨modes, fun run => ?_, fun bypass => ⟨?_, fun p => ?_, fun p x mem => ?_⟩, ?_, ?_,
    fun p => ⟨?_, ?_, fun rests => ?_⟩, ?_⟩
  · obtain ⟨productions, contexts, silent⟩ := left run
    refine ⟨fun k => ?_, fun k => by rw [router]; exact contexts k, fun p => ⟨?_, ?_⟩⟩
    · rw [engine productions]
      exact productions k
    · rw [(lists.port p).1, silent]
    · rw [(lists.port p).2, share, if_pos run]
  · rw [orient, State.orientAfter, if_pos (mode.trans bypass)]
  · rw [records, health, if_pos bypass]
    split <;> rfl
  · rw [(lists.port p).1] at mem
    exact tiles bypass p x mem
  · rw [orient, orientAfter_candidate]
    exact (mayBeHead_of_same same (by decide) (by decide) (by decide)).symm
  · rw [← same .survey (by decide)]
    exact survey
  · rw [cams, demand]
    exact judged_power.1
  · rw [cams, demand]
    exact judged_power.2
  · rw [cams, cams']
    exact judged_rests rests _ _
  · exact (parts.mono (by simp)).trans (same.mono (by simp))

/-! ### The camera ports (R2, R3, R61, R184, R185, R188) -/

theorem abandonProductions_sums (s : State) : (abandonProductions s).engine.sums = s.engine.sums := by
  unfold abandonProductions
  exact List.foldlRecOn (motive := fun t : State => t.engine.sums = s.engine.sums) _ _ rfl
    fun u hu k _ => (abandonProduction_sums k u).trans hu

theorem entered_sums (m : Mode) (s : State) : (s.entered m).engine.sums = s.engine.sums := by
  have left : (leaveMode s.mode (s.withMode m)).engine.sums = s.engine.sums := by
    cases s.mode with
    | run =>
      have kept : SameBut [.router, .store, .trunk] (abandonProductions (s.withMode m)) (stopRun (s.withMode m)) := by
        unfold stopRun
        exact (sameBut_iff_mask _ _ _).mpr (by simp)
      show (stopRun (s.withMode m)).engine.sums = _
      rw [← kept .engine (by decide)]
      exact abandonProductions_sums (s.withMode m)
    | standby => rfl
    | bypass => rfl
  have kept : SameBut [.health, .store, .trunk, .survey] (leaveMode s.mode (s.withMode m)) (s.entered m) :=
    (sameBut_iff_mask _ _ _).mpr (by simp [State.entered])
  rw [← kept .engine (by decide)]
  exact left

/-- A port wants power behind the change as `wantsPowerIn` says (R2, R184, R188). -/
theorem entered_demand (ok : s.powerOk) (other : m ≠ s.mode) (q : CamPort) :
    (s.entered m).demand q = s.wantsPowerIn m q := by
  have mode := entered_mode m s
  have health := entered_health m s q
  have survey := entered_survey (s := s) other
  have tables : (s.entered m).tables = s.tables := (entered_same m s .tables (by decide)).symm
  rw [State.demand, mode, health, survey, tables]
  cases m with
  | run =>
    have port : (s.surveyIn .run).port = none := by
      unfold State.surveyIn
      dsimp only
      split
      · rfl
      · by_contra taken
        exact absurd (ok.surveyOk.standby taken) (by assumption)
    rw [port]
    simp [State.wantsPowerIn]
  | standby => rfl
  | bypass => rfl

theorem theCameraPortsTakeAModeChange : Claim.TheCameraPortsTakeAModeChange := by
  intro m s other ok t n
  have taken := mode_taken m s
  have parts := entered_same m s
  have demand := entered_demand ok other
  have health := entered_health m s
  have survey := entered_survey other
  have sums := entered_sums m s
  rw [show changeMode m s = t from rfl] at taken
  generalize s.entered m = e at taken parts demand health survey sums
  generalize t = t at taken
  obtain ⟨cams, records, -, empties, -, -, -, -, -, -, -, -, same⟩ := taken
  have cam (p : CamPort) : e.cams[p] = s.cams[p] := by rw [← parts .cams (by decide)]
  have time : e.nodeTime = s.nodeTime := (parts .nodeTime (by decide)).symm
  have lost (p : CamPort) : e.unlocks p ↔ (s.cams[p]).link = .locked ∧ s.wantsPowerIn m p = false := by
    rw [State.unlocks, cam, demand]
  refine ⟨fun p => ⟨?_, ?_, ?_⟩, ?_⟩
  · rw [cams, cam, demand, time]
    rfl
  · rw [records, health]
    exact if_congr (lost p) rfl rfl
  · rw [empties, sums]
    exact if_congr (lost p) rfl rfl
  · rw [← same .survey (by decide), show e.survey = s.surveyIn m from survey]
    cases m with
    | run => rfl
    | standby =>
      unfold State.surveyIn
      dsimp only
      rw [surveyDue_eq]
    | bypass => rfl

/-! ### The work of RUN (R32, R46, R53, R56, R96, R105, R122, R147) -/

theorem isHead_candidate (head : s.isHead = true) : s.orient.candidate = true := by
  rw [State.isHead, Bool.and_eq_true] at head
  exact head.1

theorem entered_roleEnds (ok : s.candidacyOk) (other : m ≠ s.mode) : (s.entered m).roleEnds = s.isHead := by
  have orient : (s.entered m).orient = s.orient := (entered_same m s .orient (by decide)).symm
  have head : (s.entered m).isHead = s.isHead := by rw [State.isHead, State.isHead, orient]
  have mode := entered_mode m s
  rw [State.roleEnds, head]
  cases role : s.isHead with
  | false => rfl
  | true =>
    have run : s.mode = .run := mayBeHead_run (ok.symm.trans (isHead_candidate role))
    have barred : (s.entered m).mayBeHead = false := by
      rw [run] at other
      simp [State.mayBeHead, mode, other]
    rw [barred]
    rfl

theorem comp_ext {x y : Compositor} (outputs : ∀ sc : Screen, x.outputs[sc] = y.outputs[sc])
    (apply : x.applyImage = y.applyImage) (pulse : x.pulseEnd = y.pulseEnd) : x = y := by
  obtain ⟨a, b, c⟩ := x
  have same : a = y.outputs := Vector.ext fun i hi => outputs ⟨i, hi⟩
  exact congr (congr (congrArg Compositor.mk same) apply) pulse

/-- A frame of a node that is not head holds no slot (R147). -/
theorem held_of_follower (ok : s.outputsOk) (follower : s.isHead = false) (sc : Screen) : (s.comp.outputs[sc]).held = [] := by
  obtain ⟨-, -, frames⟩ := ok sc
  unfold Output.held
  split
  · rfl
  next f frame =>
    obtain ⟨composed, plain⟩ := frames f frame
    refine (plain ?_).2
    cases drawn : f.composed with
    | false => rfl
    | true => exact absurd (follower.symm.trans (composed drawn)) Bool.false_ne_true

/-- Behind the change nobody writes or holds a slot. -/
theorem Account.released_all {st st' : Store} (account : Account st e.slotOf e.holdsOn) (ok : s.outputsOk)
    (comp : e.comp = s.comp) (productions : ∀ k : PlanNo, e.engine.productions[k] = none)
    (contexts : ∀ k : ContextNo, e.router.contexts[k] = none) (lists : ∀ p : TrunkPort, (e.trunk.get p).sendList = [])
    (ends : st' = if s.isHead then
      (st.endHolds (s.comp.outputs[(0 : Screen)]).held).endHolds (s.comp.outputs[(1 : Screen)]).held else st) :
    Account st' (fun _ => none) (fun _ => 0) := by
  have holds (i : SlotNo) : e.holdsOn i
      = (s.comp.outputs[(0 : Screen)]).held.count i + (s.comp.outputs[(1 : Screen)]).held.count i := by
    have a : e.trunk.a.sendList = [] := lists .a
    have b : e.trunk.b.sendList = [] := lists .b
    rw [State.holdsOn, a, b, comp]
    rfl
  have unwritten (o : Owner) : (none : Option SlotNo) = e.slotOf o := by
    cases o with
    | none => rfl
    | production k => rw [State.slotOf, productions]; rfl
    | context k => rw [State.slotOf, contexts]; rfl
  have counted := (account.same (holds' := fun i => (s.comp.outputs[(0 : Screen)]).held.count i
    + (s.comp.outputs[(1 : Screen)]).held.count i) fun i => (holds i).symm).writesSame unwritten
  rw [ends]
  cases head : s.isHead with
  | true =>
    have first := counted.endHolds (holds' := fun i => (s.comp.outputs[(1 : Screen)]).held.count i) _ fun i => Nat.add_comm ..
    exact first.endHolds _ fun i => (Nat.zero_add _).symm
  | false =>
    refine counted.same fun i => ?_
    rw [held_of_follower ok head, held_of_follower ok head]
    rfl

theorem aModeChangeStopsTheWork : Claim.AModeChangeStopsTheWork := by
  intro m s other store ok modes candidacy t made rebuilt fetched
  have account := ((storeOk_iff s).mp store).1
  have taken := mode_taken m s
  have parts := entered_same m s
  have share := entered_share m s
  have role := entered_roleEnds candidacy other
  have work := entered_work modes other
  rw [show changeMode m s = t from rfl] at taken
  generalize s.entered m = e at taken parts share role work
  generalize t = t at taken
  obtain ⟨-, -, -, -, engine, stores, -, outputs, apply, pulse, -, lists, same⟩ := taken
  obtain ⟨unmade, unbuilt, sends, stands, ebbs, evidence, accounts⟩ := work
  have comp : e.comp = s.comp := (parts .comp (by decide)).symm
  have productions (k : PlanNo) : e.engine.productions[k] = none := by
    rw [unmade]
    exact Vector.getElem_replicate ..
  have contexts (k : ContextNo) : e.router.contexts[k] = none := by
    rw [unbuilt]
    exact Vector.getElem_replicate ..
  have storeIs := stores productions
  rw [role, comp] at storeIs
  rw [comp] at apply pulse
  have outputsAre (sc : Screen) : t.comp.outputs[sc]
      = if s.isHead then (s.comp.outputs[sc]).stopped else s.comp.outputs[sc] := by rw [outputs, role, comp]
  refine ⟨?_, ?_, fun p => ⟨?_, ?_⟩, fun run => ?_, fun idle => ?_⟩
  · rw [engine productions, unmade]
    rfl
  · rw [← same .router (by decide)]
    exact unbuilt
  · rw [(lists.port p).1, sends]
  · rw [(lists.port p).2, share]
  · have follower : s.isHead = false := by
      cases head : s.isHead with
      | false => rfl
      | true => exact absurd (run.trans (mayBeHead_run (candidacy.symm.trans (isHead_candidate head))).symm) other
    rw [follower] at storeIs outputsAre
    exact ⟨storeIs.trans (stands run), comp_ext outputsAre apply pulse⟩
  · have final := (accounts idle account).released_all ok comp productions contexts
      (fun p => (sends p).trans (if_neg idle)) storeIs
    have ebbed : s.store.ebbs t.store := by
      rw [storeIs]
      split
      · exact ebbs.trans ((ebbs_endHolds ..).trans (ebbs_endHolds ..))
      · exact ebbs
    refine ⟨fun i => ?_, ebbed.viewMap, ebbed.counters, fun k => ?_, fun sc => ?_, apply, pulse⟩
    · exact (final.ebbed (fun _ => rfl) (fun _ => rfl) i).symm.trans (ebbed.slots i)
    · have kept : t.store.evidence = e.store.evidence := by
        rw [storeIs]
        split
        · rw [endHolds_evidence, endHolds_evidence]
        · rfl
      rw [kept]
      exact evidence idle k
    · exact outputsAre sc

/-! ### The causes (R65, R97, R98, R174, R175) -/

theorem lowerHead_eq (s : State) : s.lowerHead = if s.orient.state = .found then
    s.orient.head.filter fun h => decide (h < s.straps.node.toNat + 1) else none := by
  unfold State.lowerHead State.nodeNumber
  cases s.orient.state with
  | none => rfl
  | conflict => rfl
  | found =>
    rw [if_pos rfl]
    cases s.orient.head with
    | none => rfl
    | some h =>
      rw [Option.filter_some]
      exact if_congr decide_eq_true_iff.symm rfl rfl

theorem addTogether_orientCauses (before after : Orientation) (y : State) : addTogether (orientCauses before after) y
    = if after.state = before.state ∧ after.head = before.head ∧ after.headSide = before.headSide then y
      else addCause .orientationChange 0 false y := by
  have turned : (before.state = after.state ∧ before.head = after.head ∧ before.headSide = after.headSide)
      ↔ (after.state = before.state ∧ after.head = before.head ∧ after.headSide = before.headSide) := by
    constructor
    · exact fun ⟨state, head, side⟩ => ⟨state.symm, head.symm, side.symm⟩
    · exact fun ⟨state, head, side⟩ => ⟨state.symm, head.symm, side.symm⟩
  rw [orientCauses_eq, if_congr turned rfl rfl]
  split
  · exact addTogether_nil y
  · exact addTogether_single ..

theorem aModeChangeTellsItsCauses : Claim.AModeChangeTellsItsCauses := by
  intro m s other ok candidacy t number none_ heads lower o turns orientTells causesOf portsTell told
  have taken := mode_taken m s
  have parts := entered_same m s
  have mode := entered_mode m s
  have health := entered_health m s
  have demand := entered_demand ok other
  have alike := entered_talk m s
  rw [show changeMode m s = t from rfl] at taken
  generalize s.entered m = e at taken parts mode health demand alike
  generalize t = t at taken
  obtain ⟨-, -, -, -, -, -, orient, -, -, -, talk, -, -⟩ := taken
  have record : e.orient = s.orient := (parts .orient (by decide)).symm
  have straps : e.straps = s.straps := (parts .straps (by decide)).symm
  have cab : e.cabActive = s.cabActive := (parts .cabActive (by decide)).symm
  have time : e.nodeTime = s.nodeTime := (parts .nodeTime (by decide)).symm
  have ties : e.swapTies = s.swapTies := (parts .swapTies (by decide)).symm
  have may : e.mayBeHead = true ↔ heads := by
    simp only [State.mayBeHead, straps, cab, mode, Bool.and_eq_true, beq_iff_eq]
    exact ⟨fun ⟨⟨cab, active⟩, run⟩ => ⟨run, cab, active⟩, fun ⟨run, cab, active⟩ => ⟨⟨cab, active⟩, run⟩⟩
  have calm (h : heads) : s.orient.candidate = false := by
    cases candidate : s.orient.candidate with
    | false => rfl
    | true => exact absurd (h.1.trans (mayBeHead_run (candidacy.symm.trans candidate)).symm) other
  have lowers : e.lowerHead = lower := (lowerHead_congr straps record).trans (lowerHead_eq s)
  have headRecord : e.headRecord
      = ⟨.found, some number, none, some 0, none, true, none, some (s.nodeTime + 100)⟩ := by
    simp only [State.headRecord, State.nodeNumber, straps, time]
    rfl
  clear_value lower
  have after : e.orientAfter = o := by
    unfold State.orientAfter
    rw [mode]
    by_cases bypass : m = .bypass
    · rw [if_pos bypass]
      exact (if_pos bypass).symm
    · rw [if_neg bypass]
      refine Eq.trans ?_ (if_neg bypass).symm
      by_cases h : heads
      · rw [if_pos (may.mpr h), record, calm h, if_neg Bool.false_ne_true, lowers, headRecord]
        exact (if_pos h).symm
      · rw [if_neg fun yes => h (may.mp yes), record]
        exact (if_neg h).symm
  have tells (y : State) : e.orientTells y = orientTells y := by
    unfold State.orientTells
    rw [after, record, lowers]
    dsimp only [orientTells]
    by_cases h : heads
    · rw [if_pos (may.mpr h), calm h, if_neg Bool.false_ne_true]
      cases lower with
      | none =>
        have becomes : e.headRecord = o := by
          rw [← after, State.orientAfter, mode, if_neg (by rw [h.1]; decide), if_pos (may.mpr h), record, calm h,
            if_neg Bool.false_ne_true, lowers, if_pos rfl]
        rw [becomes, addTogether_orientCauses, if_pos h]
      | some n => exact (if_pos h).symm
    · rw [if_neg fun yes => h (may.mp yes), addTogether_orientCauses]
      cases lower with
      | none => rw [if_neg h]
      | some n => exact (if_neg h).symm
  have losses (p : CamPort) : e.lossCauses p = s.lossCauses p := by
    have picture : (e.health[p]).picture = (s.health[p]).picture := by
      rw [health]
      split <;> rfl
    rw [State.lossCauses, State.lossCauses, picture]
  have causes (p : CamPort) : e.judgedCauses p (e.demand p) = causesOf p := by
    have cams : e.cams = s.cams := (parts .cams (by decide)).symm
    have judged : e.judgedCauses p (e.demand p) = s.judgedCauses p (s.wantsPowerIn m p) := by
      rw [State.judgedCauses, State.judgedCauses, losses, cams, demand]
    exact judged
  have ports (y : State) : e.portsTell y = portsTell y := by
    unfold State.portsTell
    simp only [causes]
    rfl
  have tolds : e.modeTells s = told := by
    unfold State.modeTells
    rw [ties, tells, ports, tells, ports]
  have final := talk s alike
  rw [tolds] at final
  exact ⟨orient.trans after, final.agent.symm, final.trunk⟩

/-- Settles O51: the change is what is left and entered, and then orientation and the camera ports, in either order. -/
theorem theModeChanges : Obligations.TheModeChanges :=
  ⟨setModeIsCarriedOut, aModeChangeKeepsItsLaws, theCameraPortsTakeAModeChange, aModeChangeStopsTheWork,
    aModeChangeTellsItsCauses⟩

end

end Sys2Proof.Machine
end
